-- ==== Sys2Proof/Word.lean ====
section
/-! DEFINITION. The word types of the block: registers are 32 bits, a scratchpad row or vector register is 512 bytes,
cache-tier units are 512 bytes, and the identifiers of the parts are bounded numbers (R3). -/
namespace Sys2Proof

abbrev Byte := BitVec 8
/-- One register of the BAR0 map (R748). -/
abbrev Word := BitVec 32
/-- A 64-bit quantity. -/
abbrev DWord := BitVec 64
/-- A scratchpad row, a vector register or a cache-tier unit: 512 bytes, byte 0 in the lowest bits (R5). -/
abbrev Row := BitVec 4096

/-- Ridge 0–15. -/
abbrev RidgeId := Fin 16
/-- Physical core site 0–33 of a ridge. -/
abbrev SiteId := Fin 34
/-- Engine 0–7 of a core site. -/
abbrev EngineId := Fin 8
/-- Physical slab 0–8 of an engine. -/
abbrev SlabId := Fin 9
/-- Fabric port: 0–7 are N0–N7, 8 and 9 are F0 and F1. -/
abbrev PortId := Fin 10
/-- HBM stack H0–H5. -/
abbrev StackId := Fin 6

end Sys2Proof
end

