-- ==== Sys2Proof/Machine/Types.lean ====
section
/-! DEFINITION. The plain data that the state's parts are made of: slabs and store operations, packets and messages,
fault signatures and cairn records. One section for each chapter of the spec. -/
namespace Sys2Proof.Machine

/-! ## Requesters and sources -/

/-- A requester of register accesses and of IDs: 0 the physical function, 1–16 virtual functions 0–15, 17 the
base-camp firmware (R780). -/
abbrev Requester := Fin 18

/-- A source of provisional data (R548): herd coordinate, half, and unit 0–15 a ridge or 16 the serving unit. -/
structure Source where
  die : Nat
  half : Nat
  unit : Nat
  deriving DecidableEq, Repr

/-- What a packet or a fabric cell carries (R358, R391). -/
inductive PktOp where
  | getReq | putReq | completion | getData | mdisp | syncOp | syncAnswer | commitMsg | retractMsg | slotLoss | emit
  | drvBeat | batchRow | epoch
  deriving DecidableEq, Repr

/-- A packet of the network or a cell of the fabric (R357, R390): where it comes from and goes to, its step, revision
and provisional header fields, its target row or unit, its tag and payload. -/
structure Packet where
  op : PktOp
  src : Source
  srcCore : Nat
  dst : Source
  dstCore : Nat
  step : Nat
  rev : Nat
  prov : Bool
  gen : Nat
  addr : Nat
  tag : Nat
  arg : Nat
  status : Nat
  data : Row
  /-- virtual channel (R358): 0 control, 1 reduction, 2 response, 3 request -/
  vc : Nat
  /-- the port by which it came from another die (R330) -/
  port : Nat
  deriving DecidableEq, Repr

/-- The empty packet, for building others. -/
def Packet.blank : Packet :=
  ⟨.completion, ⟨0, 0, 0⟩, 0, ⟨0, 0, 0⟩, 0, 0, 0, false, 0, 0, 0, 0, 0, 0, 0, 0⟩

/-! ## Chapter 2: the resistive store -/

/-- The states of a physical slab (R52). -/
inductive SlabState where
  | empty | programming | resident | mirror | outForRefresh | suspect | retired | free | standin | assigned | erasing
  deriving DecidableEq, Repr

/-- SR_SLAB_STATE.STATE (R52). -/
def SlabState.code : SlabState → Nat
  | .empty => 0 | .programming => 1 | .resident => 2 | .mirror => 3 | .outForRefresh => 4 | .suspect => 5
  | .retired => 6 | .free => 7 | .standin => 8 | .assigned => 9 | .erasing => 10

/-- One physical slab as the store record keeps it (R52, R55, R59, R60, R67, R87, R98, R815). -/
structure Slab where
  /-- SR_SLAB_STATE.STATE -/
  state : SlabState
  /-- SR_SLAB_STATE.REPLACES: the slab that a scree slab 8 stands for, mirrors or replaces -/
  replaces : Nat
  /-- the column map: scree column 528 + k serves this logical column -/
  colmap : SMap Nat
  /-- replacement columns programmed and awaiting the step boundary (R71) -/
  stagedMap : SMap Nat
  /-- defective reference columns k (R815) -/
  defective : List Nat
  driftLimit : Bool
  overdue : Bool
  /-- WEAR_WARN has been raised (R68) -/
  warned : Bool
  /-- SR_SLAB_WEAR.CYCLES -/
  cycles : Nat
  debt : Nat
  /-- the base-camp second at which it fell due (R62) -/
  dueAt : Option Nat
  /-- drift trims in force: gain in 1/32,768, offset in 1/1,024 µS -/
  gain : Nat
  offset : Int
  /-- a fit awaiting the step boundary (R56) -/
  stagedFit : Option (Nat × Int)
  /-- passes since the last programming -/
  passes : Nat
  /-- passes since read debt was last added (R60) -/
  readCount : Nat
  /-- leased out under R66 -/
  leased : Bool
  deriving DecidableEq, Repr

/-- A slab of a new part (R814): slab 8 FREE, a data slab EMPTY. -/
def Slab.new (slab : Nat) : Slab :=
  ⟨if slab = 8 then .free else .empty, 0, [], [], [], false, false, false, 0, 0, none, 32768, 0, none, 0, 0, false⟩

/-- The operations a ridge store controller queues (R50, R64, R65, R72, R80, R99). -/
inductive StoreKind where
  | scan | refresh | driftSample | replaceColumn | replaceSlab | reverify
  /-- a block of the residency pipeline (R475); a re-fetch of a SUSPECT slab as well -/
  | load
  | erase
  /-- slab 8 programmed as the stand-in of a refresh (R64) -/
  | standin
  /-- slab 8 programmed as the mirror of a classification (R566) -/
  | mirror
  /-- the slab of a refresh programmed under its stand-in, under a lease, or in place (R64, R66) -/
  | refreshSlab
  /-- a migration's target slab (R246) -/
  | migrate
  /-- slab 8 programmed as the stand-in of an in-field test (R570) -/
  | testStandin
  deriving DecidableEq, Repr

/-- One queued operation of a ridge store controller. -/
structure StoreOp where
  kind : StoreKind
  site : Nat
  engine : Nat
  slab : Nat
  /-- the column of a REPLACE_COLUMN, or the slab a slab 8 serves -/
  arg : Nat
  cls : Nat
  /-- commanded through SR_CMD: its completion raises OP_DONE -/
  commanded : Bool
  deriving DecidableEq, Repr

/-- A running operation (R46, R47): its token, the sweep and row it is at, the verify reads made of the row, the SET and
RESET counts of the row's columns, whether a pulse was applied, and the failed columns by row. -/
structure RunOp where
  op : StoreOp
  token : Nat
  /-- the second sweep of R47 -/
  second : Bool
  row : Nat
  /-- verify reads made of the row; in the second sweep one more, the sweep's own read -/
  it : Nat
  setCount : SMap Nat
  resetCount : SMap Nat
  pulsed : Bool
  failed : SMap (List Nat)
  /-- every row of both sweeps is done -/
  swept : Bool
  /-- suspended after its row by a power-down request (R75) -/
  suspended : Bool
  deriving DecidableEq, Repr

/-- A change held to the ridge's next step boundary (R51). -/
inductive BoundaryAct where
  /-- alias the slab to slab 8 and send it out for refresh (R64, R567) -/
  | standInFor (site engine slab : Nat)
  /-- alias the slab back to itself and free slab 8 (R64) -/
  | standBack (site engine slab : Nat)
  /-- slab 8 replaces the slab (R71) -/
  | assign (site engine slab : Nat)
  /-- staged replacement columns take over (R71) -/
  | columns (site engine slab : Nat)
  /-- a converter steering entry takes a column (R137) -/
  | steer (site engine column : Nat)
  /-- slab 8, a mirror, returns to FREE (R567) -/
  | freeMirror (site engine : Nat)
  deriving DecidableEq, Repr

/-- SD_ERASE_STAT.STATE (R83). -/
inductive EraseState where
  | idle | armed | running | done | denied | inUse
  deriving DecidableEq, Repr

/-- The code of an erase state (R96). -/
def EraseState.code : EraseState → Nat
  | .idle => 0 | .armed => 1 | .running => 2 | .done => 3 | .denied => 4 | .inUse => 5

/-- An open intent entry of the store record (R74). -/
structure Intent where
  kind : StoreKind
  ridge : Nat
  site : Nat
  engine : Nat
  slab : Nat
  standin : Nat
  deriving DecidableEq, Repr

/-- The resistive store: the physical slabs, the cells, the weight image, the queues and running operations of the
sixteen ridge store controllers, and the store record's intents. -/
structure StoreSt where
  /-- by slab key; an unlisted slab is a new one (R814) -/
  slabs : SMap Slab
  /-- conductances of a row's 544 cells in 1/1,000 µS, by slab key × 512 + row; an unlisted row is a new part's (R814) -/
  cells : SMap (List Nat)
  /-- weight-image rows of 512 levels by image-row key; an unlisted row holds level 8 (R814) -/
  image : SMap (BitVec 2048)
  /-- queued operations by ridge, in order of arrival -/
  queues : SMap (List StoreOp)
  /-- the running operation of each engine -/
  running : SMap RunOp
  /-- refreshes waiting at the loop of R64, by ridge -/
  waiting : SMap (List StoreOp)
  /-- changes held to the step boundary, by ridge -/
  boundary : SMap (List BoundaryAct)
  /-- open intents of the store record -/
  intents : List Intent
  erase : EraseState
  /-- slabs still to be erased, by slab key -/
  eraseLeft : List Nat
  /-- erases that the residency pipeline has queued: first slab key and number of keys (R491) -/
  eraseNext : List (Nat × Nat)
  /-- debt checkpoints of the store record, by slab key; what an unlisted slab's checkpoint reads as; and the calendar time at
  which they were written (R88, R707) -/
  checkpoint : SMap Nat
  checkpointRest : Nat
  checkpointTime : Nat
  /-- base-camp seconds counted (the time base of R59, R63) -/
  seconds : Nat
  /-- the second of the cairn store's last refresh (R89) -/
  cairnRefreshed : Nat
  deriving DecidableEq, Repr

def StoreSt.reset : StoreSt := ⟨[], [], [], [], [], [], [], [], .idle, [], [], [], 0, 0, 0, 0⟩

/-! ## Chapter 11: model residency -/

/-- An entry of the layer map (R483). -/
structure LayerEntry where
  blockId : Nat
  model : Nat
  /-- 0 EMPTY, 1 PROGRAMMING, 2 RESIDENT, 3 VALLEY, 4 SUSPECT, 5 RETIRED (R484) -/
  state : Nat
  /-- bit 0 version A, bit 1 version B -/
  ver : Nat
  src : Nat
  refetch : Bool
  pslab : Nat
  width : Nat
  shape : Nat
  vslot : Nat
  record : Nat
  hostAddr : Nat
  deriving DecidableEq, Repr

/-- The empty entry. -/
def LayerEntry.none : LayerEntry := ⟨0, 0, 0, 0, 0, false, 0, 0, 0, 0, 0, 0⟩

/-- A decrypted record's descriptor and parameters (R468, R469). -/
structure BlockRecord where
  blockId : Nat
  ridge : Nat
  core : Nat
  engine : Nat
  slab : Nat
  block : Nat
  width : Nat
  shape : Nat
  src : Nat
  zeroHi : Nat
  zeroLo : Nat
  stepE : Nat
  guardX : Nat
  guardQ : Nat
  /-- a reserved field is not zero -/
  badReserved : Bool
  tallyCentre : List Nat
  /-- 64 column parameters: SCALE (fp16 bits) and CENTRE (i16 bits) -/
  columns : List (Nat × Nat)
  /-- the weight codes, row 0 first: 64 a row for widths 1–4, 32 for widths 5–8 -/
  codes : List Nat
  deriving DecidableEq, Repr

/-- The stages of a record after the unpack stage (R474). -/
inductive RecStage where
  | unpacked | queued | probing | committing
  deriving DecidableEq, Repr

/-- A record between unpack and commit (R474–R478). -/
structure PendRec where
  slot : Nat
  index : Nat
  ver : Nat
  model : Nat
  pslab : Nat
  /-- the second try on another slab has been made (R477) -/
  retried : Bool
  stage : RecStage
  body : BlockRecord
  deriving DecidableEq, Repr

/-- A parcel slot's parcel: its header once accepted (R467, R473). -/
structure Parcel where
  accepted : Bool
  ver : Nat
  model : Nat
  records : Nat
  keySlot : Nat
  nonce : Nat
  /-- records fetched so far -/
  next : Nat
  /-- STOP has ended the fetch (R479) -/
  stopped : Bool
  /-- the physical slab (by slab key) whose records the parcel is naming (R476) -/
  naming : Option Nat
  /-- bytes of the parcel that its records so far have taken (R474) -/
  pos : Nat
  deriving DecidableEq, Repr

/-- Model residency: the layer map and its journal, records in the pipeline, parcel slots, valley slots and host-table
entries, and the sets written to the valley mailboxes. -/
structure ResSt where
  /-- by entry index 0–524,287 -/
  layer : SMap LayerEntry
  /-- entries changed since the last journal write (R485) -/
  unjournalled : List Nat
  /-- the journal in flash -/
  journal : SMap LayerEntry
  parcels : SMap Parcel
  records : List PendRec
  /-- codes of a valley slot, by slot (R493) -/
  valley : SMap (List Nat)
  /-- valley-host table: entry to parcel key slot and header nonce -/
  hostTable : SMap (Nat × Nat)
  /-- ridges with a version flip armed -/
  armed : List Nat
  /-- ridges freeing an old version, with the physical slabs (by slab key) still to be erased (R490) -/
  freeing : SMap (List Nat)
  /-- a clear of a REBUILD bit held until the ridge's records have ended (R491) -/
  heldExit : List Nat
  /-- engines (by key) whose quick macro failed its last test (R492) -/
  qmFailed : List Nat
  /-- core sites (by key) whose valley set changed and awaits the step boundary (R494) -/
  mailbox : List Nat
  /-- rows of the valley stream that await room in region 63 of their core (by site key), in order (R495) -/
  streams : List (Nat × Row)
  /-- codes of a valley block held in host memory as its record, by entry index (R493) -/
  hostCodes : SMap (List Nat)
  /-- the records exported so far of an export that runs (R498) -/
  exporting : Option Nat
  /-- the ridges' active versions as journalled (R485, R723) -/
  journalActive : SMap Nat
  deriving DecidableEq, Repr

def ResSt.reset : ResSt := ⟨[], [], [], [], [], [], [], [], [], [], [], [], [], [], none, []⟩

/-! ## Chapter 14: trust -/

/-- A grant (R613): kind 0 scratchpad, 1 cache tier, 2 sync cells. -/
structure Grant where
  kind : Nat
  rd : Bool
  wr : Bool
  targetRidge : Nat
  targetSerial : Nat
  /-- logical core 0–31, or 255 for all -/
  targetCore : Nat
  base : Nat
  limit : Nat
  /-- herd coordinate, or 0xFFFF for the target's own die -/
  granteeCoord : Nat
  granteeRidge : Nat
  /-- SHA-384 of the grantee ridge's TENANT_KEY -/
  granteeTenant : Nat
  /-- calendar milliseconds; 0 none -/
  expiry : Nat
  id : Nat
  deriving DecidableEq, Repr

/-- A parcel-key slot that holds a key (R604–R607); `signer` is the TENANT_KEY that signed its blob. -/
structure ParcelKey where
  ridges : Nat
  exportOk : Bool
  used : Bool
  signer : Nat
  deriving DecidableEq, Repr

/-- A mailbox command that runs or waits (R622): its page (16 die, r ridge), the function that wrote it, OP, RIDGE, SLOT and
LEN, whether the blob's signature verifies, whether its key unwraps, and GRANT_ID and TARGET_SERIAL of a REVOKE blob with
whether it is well formed. -/
structure MailboxOp where
  page : Nat
  func : Nat
  op : Nat
  ridge : Nat
  slot : Nat
  len : Nat
  signed : Bool
  unwraps : Bool
  revoke : Option (Nat × Nat)
  deriving DecidableEq, Repr

/-- An SPDM session (R595): its identifier, whether FINISH has completed, and its key updates. -/
structure Session where
  id : Nat
  open' : Bool
  updates : Nat
  deriving DecidableEq, Repr

/-- The trust block beside its registers: grants, allowlists and their sequence numbers, the TENANT_KEY of each bound
ridge, parcel keys, switch roots, the number of XTS key draws of each owner, SPDM sessions, and running mailbox
operations. -/
structure TrustSt where
  grants : SMap Grant
  allow : SMap (List Nat)
  allowSeq : SMap Nat
  tenant : SMap Nat
  keys : SMap ParcelKey
  roots : List Nat
  xts : SMap Nat
  sessions : List Session
  mbox : List MailboxOp
  deriving DecidableEq, Repr

def TrustSt.reset : TrustSt := ⟨[], [], [], [], [], [], [], [], []⟩

/-! ## Chapter 15: power -/

/-- The power manager (R626–R647). -/
structure PowSt where
  /-- ridges with a wake pending during entry (R634, R635) -/
  wakePending : List Nat
  /-- ridges woken for the store that return to Off afterwards (R62, R632) -/
  returnOff : List Nat
  /-- arrivals held at the interface of a ridge in Nap, oldest first (R632) -/
  held : SMap (List Packet)
  /-- held writes of CORE_START: requester, ridge, site, value (R784) -/
  heldStarts : List (Nat × Nat × Nat × Word)
  /-- rails in a low-voltage hold (R637) -/
  lvRails : List Nat
  /-- a rail-down order in progress: the rails still enabled in order, and whether it is the emergency order (R640) -/
  railDown : Option (List Nat × Bool)
  /-- what follows the rail-down order: 0 Hold, 1 cold start, 2 warm start, 3 Off -/
  after : Nat
  /-- energies of the last intervals in nJ, newest first (R645) -/
  energy : List Nat
  /-- consecutive intervals above 900 W (R645) -/
  excess : Nat
  /-- VDD_BASE is absent: the die state Off (R626) -/
  off : Bool
  /-- a power-fail flush has completed since the last start: the off is recorded as clean (R641–R643) -/
  clean : Bool
  /-- ridges in a ridge reset, which runs the steps of an entry without an abort point (R730) -/
  resetting : List Nat
  deriving DecidableEq, Repr

def PowSt.reset : PowSt := ⟨[], [], [], [], [], none, 0, [], 0, false, false, []⟩

/-! ## Chapter 13: result integrity -/

/-- A fault signature's vendor section (R573); the fixed bytes of the record around it are R572's. -/
structure Signature where
  kind : Nat
  cls : Nat
  band : Nat
  location : BitVec 64
  step : Nat
  rev : Nat
  action : Nat
  count : Nat
  wear : Nat
  time : Nat
  detail : Nat
  age : Nat
  fw : Nat
  deriving DecidableEq, Repr

/-- An entry of an input set (R548). -/
structure InputEntry where
  src : Source
  rev : Nat
  committed : Bool
  deriving DecidableEq, Repr

/-- The sets of one step of a ridge (R548). -/
structure StepSets where
  step : Nat
  inputs : List InputEntry
  outputs : List Source
  deriving DecidableEq, Repr

/-- An entry of the void table (R556). -/
structure VoidEntry where
  src : Source
  step : Nat
  last : Nat
  rev : Nat
  deriving DecidableEq, Repr

/-- A replay in progress (R557): the step, the cause of R561 and the newest step abandoned. -/
structure Replay where
  step : Nat
  cause : Nat
  last : Nat
  deriving DecidableEq, Repr

/-- The classes of R573. -/
inductive FaultClass where
  | none | transient | intermittent | permanentColumn | permanentSlab | inputPath | unresolved | permanentConverter
  deriving DecidableEq, Repr

def FaultClass.code : FaultClass → Nat
  | .none => 0 | .transient => 1 | .intermittent => 2 | .permanentColumn => 3 | .permanentSlab => 4
  | .inputPath => 5 | .unresolved => 6 | .permanentConverter => 7

/-- A classification of an engine (R565, R566); `engine` is 8 for the vector unit and `slab` 15 for none. -/
structure Classify where
  site : Nat
  engine : Nat
  slab : Nat
  /-- 1 tally, 2 probe, 3 echo, 4 residue (RI_CLS_DATA.KIND) -/
  kind : Nat
  step : Nat
  rev : Nat
  /-- the first mismatching physical column of a probe failure -/
  column : Nat
  /-- rows that the failing probe drove -/
  rows : List Nat
  /-- DETAIL of its signature (R573) -/
  detail : Nat
  /-- 0 before its first running frame, 1 waiting for slab 8, 2 slab 8 being programmed as mirror, 3 ended with its first
  action not yet in effect (R559) -/
  stage : Nat
  deriving DecidableEq, Repr

/-- A finding kept for the repeat rule (R566): class, ridge, site, engine and slab, and its time in seconds. -/
structure Finding where
  cls : FaultClass
  site : Nat
  engine : Nat
  slab : Nat
  time : Nat
  deriving DecidableEq, Repr

/-- The integrity unit of one ridge (R545–R571). -/
structure RidgeInt where
  /-- uncommitted steps, oldest first, with the replays each has used (R560) -/
  openSteps : List (Nat × Nat)
  sets : List StepSets
  voids : List VoidEntry
  replay : Option Replay
  /-- steps 1–3 of R557 have been done for the pending replay -/
  drained : Bool
  /-- classifications that have not ended, or whose first action has not taken effect (R559) -/
  classes : List Classify
  findings : List Finding
  /-- the in-field test that waits or runs: site, and engine or 8 for the core -/
  ift : Option (Nat × Nat)
  /-- the next slab of the engine test now running -/
  iftSlab : Nat
  /-- a slab of it has failed -/
  iftBad : Bool
  deriving DecidableEq, Repr

def RidgeInt.reset : RidgeInt := ⟨[], [], [], none, false, [], [], none, 0, false⟩

/-- The die's integrity state: ridges, the fault-signature queue with arrival times, and twin operation. -/
structure IntSt where
  ridges : SMap RidgeInt
  fsQueue : List (Signature × Nat)
  /-- commit, retract and other messages sent and not yet arrived -/
  sent : List Packet
  deriving DecidableEq, Repr

def IntSt.reset : IntSt := ⟨[], [], []⟩

/-! ## Chapter 12: serving -/

/-- What emits change in a sequence (R510, R511): NEXT, TAIL (at most 15 tokens, oldest first), HOLD_FULL, the END code that
ends it (0 for none), and a PARKED verdict. -/
structure SeqDyn where
  next : Nat
  tail : List Nat
  hold : Nat
  fin : Nat
  parked : Bool
  deriving DecidableEq, Repr

/-- A sequence's state before the first emit of an uncommitted step (R510, R532). -/
structure Snap where
  src : Source
  step : Nat
  rev : Nat
  old : SeqDyn
  deriving DecidableEq, Repr

/-- A token for the output ring (R534). -/
structure OutTok where
  index : Nat
  token : Nat
  logprob : Nat
  acc : Bool
  deriving DecidableEq, Repr

/-- A sequence (R506–R511). -/
structure Seq where
  /-- 0 FREE, 1 QUEUED, 2 PREFILL, 3 DECODE, 4 PARKED, 5 STOPPING, 6 DONE -/
  state : Nat
  /-- park reasons that are set (R512) -/
  reasons : List Nat
  /-- the state that a parked sequence left -/
  prior : Nat
  ridge : Nat
  share : Bool
  logprob : Bool
  hint : Nat
  account : Nat
  cls : Nat
  ring : Nat
  topk : Nat
  drafts : Nat
  key : Nat
  temp : Nat
  topp : Nat
  promptLen : Nat
  maxLen : Nat
  addr : Nat
  com : SeqDyn
  prov : SeqDyn
  /-- uncommitted steps' snapshots, oldest first -/
  snaps : List Snap
  /-- committed tokens held back (R527) -/
  back : List OutTok
  prefilled : Nat
  cached : Nat
  /-- prefill blocks cached or scheduled -/
  scheduled : Nat
  /-- handles of the block list -/
  blocks : List Nat
  /-- leading prompt blocks that the tree holds, and the node of the last (R516) -/
  inTree : Nat
  node : Option Nat
  /-- its number among the OPENs -/
  opened : Nat
  deriving DecidableEq, Repr

/-- A token in the stream gate (R531): the verdict's END, the tokens that its end withholds (R527), HOLD_FULL after it, and
the charge of its account. -/
structure Held where
  seq : Nat
  src : Source
  step : Nat
  rev : Nat
  tok : OutTok
  fin : Nat
  drop : Nat
  hold : Nat
  account : Nat
  charge : Nat
  /-- discarded by CANCEL; its charge stands -/
  dead : Bool
  deriving DecidableEq, Repr

/-- A record on its way to a ring: its 16 bytes, the epoch that must be acknowledged first (0 for none; R580), whether it
is a token, and whether it ends its sequence. -/
structure OutRec where
  seq : Nat
  ring : Nat
  data : Nat
  epoch : Nat
  token : Bool
  final : Bool
  deriving DecidableEq, Repr

/-- A decode entry of a batch (R521), with the uncommitted emitting step that its INDEX rests on. -/
structure DecEntry where
  seq : Nat
  spec : Nat
  index : Nat
  last : Nat
  temp : Nat
  topp : Nat
  key : Nat
  dep : Option (Source × Nat)
  deriving DecidableEq, Repr

/-- A prefill row of a batch (R521). -/
structure PrefillRow where
  seq : Nat
  block : Nat
  count : Nat
  handle : Nat
  final : Bool
  spec : Nat
  temp : Nat
  topp : Nat
  key : Nat
  tokens : List Nat
  deriving DecidableEq, Repr

/-- A batch that was written (R520, R562, R563): its destinations with core and region, what it rests on, and the sequences
whose verdict was discarded. -/
structure Batch where
  ridge : Nat
  step : Nat
  rev : Nat
  dsts : List (Source × Nat × Nat)
  deps : List (Source × Nat)
  decodes : List DecEntry
  prefills : List PrefillRow
  affected : List Nat
  deriving DecidableEq, Repr

/-- A node of the prefix tree (R514). -/
structure TreeNode where
  hash : Nat
  parent : Option Nat
  handle : Nat
  refs : Nat
  /-- 0xFFFF_FFFF under HINT keep -/
  lru : Nat
  ridge : Nat
  drop : Bool
  tokens : List Nat
  deriving DecidableEq, Repr

/-- The serving unit and the spoor walker beside their registers (R502–R533). -/
structure ServSt where
  seqs : SMap Seq
  /-- OPENs accepted so far -/
  opens : Nat
  /-- stop-class data, 4 KiB as one number -/
  classes : SMap Nat
  /-- remainders of the budget refill in sixteenths / 1,000, by account (R522) -/
  accRem : SMap Nat
  /-- the lowest handle never taken, the handles returned, oldest first, and those that wait for an epoch (R579) -/
  kvNext : Nat
  kvFree : List Nat
  kvLimbo : List (Nat × Nat)
  nodes : SMap TreeNode
  /-- bucket chains -/
  buckets : SMap (List Nat)
  gate : List Held
  out : List OutRec
  /-- records written since a ring's last signal (R535) -/
  ringPend : SMap Nat
  /-- emitting steps with provisional changes -/
  uncommitted : List (Source × Nat)
  /-- emits of a fifth uncommitted step (R510) -/
  emits : List Packet
  voids : List VoidEntry
  /-- the serving unit's own revision (R563) -/
  rev : Nat
  batches : List Batch
  /-- the last sequence taken, by ridge × 4 + class (R520) -/
  lastSeq : SMap Nat
  /-- the step after the last batch's, by ridge -/
  nextStep : SMap Nat
  deriving DecidableEq, Repr

def ServSt.reset : ServSt := ⟨[], 0, [], [], 0, [], [], [], [], [], [], [], [], [], [], 0, [], [], []⟩

/-! ## Twin operation (R576–R583) -/

/-- An epoch (R577): its number, the TENANT_KEY of each ridge that its header names, the committed contents at its close,
the tokens committed since the previous close, and the units copied with it. -/
structure Epoch where
  num : Nat
  tenants : SMap Nat
  seqs : SMap Seq
  kvNext : Nat
  kvFree : List Nat
  nodes : SMap TreeNode
  buckets : SMap (List Nat)
  /-- balances by account -/
  balances : SMap (BitVec 32)
  /-- ring TAIL values -/
  tails : SMap (BitVec 32)
  tokens : List OutRec
  units : SMap Row
  deriving DecidableEq, Repr

/-- Twin operation beside its registers: the epochs that a twin holds, oldest first; on an active die the epochs sent and
not yet acknowledged, the tokens committed and the units written since the last close. -/
structure TwinSt where
  held : List Epoch
  sent : List Epoch
  tokens : List OutRec
  dirty : List Nat
  deriving DecidableEq, Repr

def TwinSt.reset : TwinSt := ⟨[], [], [], []⟩

/-! ## Chapters 8 and 9: the network and the fabric -/

/-- A route change that waits for the buffers to empty (R369): the flanks held, the new rows of the hole map, the failed
seam routers, and the sites that no rule reaches. -/
structure RouteChange where
  west : Bool
  east : Bool
  holes : List (Nat × Nat × Word)
  seams : List Nat
  unreachable : List (Nat × Nat)
  deriving DecidableEq, Repr

/-- The on-die network beside its registers: the route change in progress, and the sites that no table reaches. -/
structure NetSt where
  change : Option RouteChange
  unreachable : List (Nat × Nat)
  deriving DecidableEq, Repr

def NetSt.reset : NetSt := ⟨none, []⟩

/-- A message of the link-management field (R397, R610): TYPE and two numbers of its contents. -/
structure LinkMsg where
  type : Nat
  a : Nat
  b : Nat
  deriving DecidableEq, Repr

/-- A hello (R395). -/
structure Hello where
  protoMax : Nat
  protoMin : Nat
  port : Nat
  coord : Nat
  gen : Nat
  serial : Nat
  fw : Nat
  serdesFw : Nat
  tick : Nat
  flags : Nat
  deriving DecidableEq, Repr

/-- A cell (R390): KIND, FLOW, whether its OP is none of R391, and its packets, one row packet or up to eight short
messages. -/
structure Cell where
  kind : Nat
  flow : Nat
  badOp : Bool
  pkts : List Packet
  deriving DecidableEq, Repr

/-- A frame (R389): header fields and three cells. -/
structure Frame where
  fseq : Nat
  ack : Nat
  nak : Bool
  traverse : Bool
  credits : List Nat
  cells : List Cell
  deriving DecidableEq, Repr

/-- A fabric port beside its registers (R394–R425). -/
structure PortSt where
  /-- the request sent and not yet acknowledged: TYPE 2 RETRAIN_REQ or 3 WIDTH_REQ, and the proposed lanes -/
  asked : Option (Nat × Nat)
  /-- the change that both ends enter at the next tick boundary: TYPE and lanes -/
  agreed : Option (Nat × Nat)
  /-- COORD, PORT and SERIAL of the link's first hello (R396) -/
  first : Option (Nat × Nat × Nat)
  /-- the module was read and has an accepted CMIS revision (R401) -/
  moduleOk : Bool
  /-- KEY_OFFER has been checked (R610) -/
  offered : Bool
  /-- the number of the key in force, and one that takes effect at a named tick (R408, R610) -/
  key : Nat
  nextKey : Option Nat
  /-- the peer's marker shows the die's tick number, and arrives in range (R418) -/
  tickOk : Bool
  phaseOk : Bool
  /-- the armed bank with its tick, the active bank with its first tick, and the peer's swap notice (R419, R420) -/
  armed : Option (Nat × Nat)
  active : Option (Nat × Nat)
  notice : Option (Nat × Nat)
  /-- errors counted in the current 1 ms window (R405, R409) -/
  corrWin : Nat
  uncorrWin : Nat
  authWin : Nat
  /-- frame sequence numbers: the last sent and the last received in order (R389, R410) -/
  txSeq : Nat
  rxSeq : Nat
  /-- the last 128 frames sent, oldest first -/
  log : List Frame
  /-- frames to be sent again, and whether a NAK is to be sent -/
  resend : List Frame
  nak : Bool
  /-- credits held, and credits to be returned, in the order control, reduction, response, request (R414) -/
  credits : List Nat
  returns : List Nat
  /-- the open queue and the flows' transmit queues (R422) -/
  openQ : List Cell
  flows : SMap (List Cell)
  /-- messages for the link-management field of this tick (R397) -/
  msgs : List LinkMsg
  deriving DecidableEq, Repr

/-- A port that has not trained; it holds the credits of its peer's empty buffer (R414). -/
def PortSt.reset : PortSt :=
  ⟨none, none, none, false, false, 0, none, false, false, none, none, none, 0, 0, 0, 0, 0, [], [], false, [128, 256, 320, 320],
    [0, 0, 0, 0], [], [], []⟩

/-- The fabric beside its registers (R411–R431). -/
structure FabSt where
  ports : SMap PortSt
  /-- the tick number to be loaded at the next pulse (R417) -/
  tickSet : Option Nat
  /-- consecutive HERD_SYNC pulses missed (R418) -/
  missing : Nat
  /-- the previous generation is still accepted (R428) -/
  grace : Bool
  /-- a generation and mask not yet in the store record, and the ones in it (R426) -/
  unsaved : Option (Nat × Nat)
  saved : Nat × Nat
  /-- requests sent and not yet completed: port, sender, core, tag (R414) -/
  waiting : List (Nat × Source × Nat × Nat)
  /-- packets of this die's other half that have come through the fabric (R431) -/
  crossed : List Packet
  deriving DecidableEq, Repr

def FabSt.reset : FabSt := ⟨[], none, 0, false, none, (0, 0), [], []⟩

/-! ## Chapter 18: the cairn -/

/-- An event record (R704): its header and its contents as one number, little-endian. -/
structure CairnRec where
  time : Nat
  kind : Nat
  len : Nat
  flags : Nat
  seq : Nat
  body : Nat
  deriving DecidableEq, Repr

/-- What a snapshot of the cairn holds (R701). -/
structure CairnData where
  /-- seconds of each histogram bin, by source × 32 + bin; sources 0–67 the sensors, 68–73 the stacks -/
  hist : SMap Nat
  /-- minimum and maximum by source in 1/16 °C since the cairn was cleared -/
  extremes : SMap (Int × Int)
  /-- minimum and maximum of each rail in the current hour, mV -/
  rails : SMap (Nat × Nat)
  /-- FEC corrected symbols by port -/
  fec : SMap Nat
  /-- ms in each power state: 0–2 die Hold, Standby, Active; 3 + 4r + (Run, Doze, Nap, Off) -/
  powerMs : SMap Nat
  /-- passes by engine key -/
  passes : SMap Nat
  /-- refresh operations by engine key -/
  refreshes : SMap Nat
  /-- tally events by slab key -/
  tally : SMap Nat
  deriving DecidableEq, Repr

def CairnData.empty : CairnData := ⟨[], [], [], [], [], [], [], []⟩

/-- The cairn (R699–R713). -/
structure CairnSt where
  /-- calendar clock, ms; counted from VDD_BASE while the clock is unset (R699) -/
  time : Nat
  data : CairnData
  /-- counts since the last second, which the cairn takes at the next (R702): FEC symbols by port, passes and refreshes by
  engine key, tally events by slab key -/
  newFec : SMap Nat
  newPasses : SMap Nat
  newRefreshes : SMap Nat
  newTally : SMap Nat
  /-- event staging, oldest first (R705) -/
  staging : List CairnRec
  /-- the event ring's records, oldest first, with the unit each begins at (R706) -/
  ring : List (Nat × CairnRec)
  /-- CAIRN_MISSED rose since the previous record (R704) -/
  missedSince : Bool
  /-- the flush that runs (1 power-fail, 2 periodic, 3 fault or request, 4 emergency, 5 trip) -/
  flush : Option Nat
  /-- a fault flush waits for the spacing or for the end of a freeze (R708, R711) -/
  faultWaits : Bool
  /-- within 10 s of the last fault flush -/
  spacing : Bool
  /-- the snapshot copies with their flush sequence and the calendar time of the flush, the newer first (R706, R707) -/
  snapshots : List (Nat × Nat × CairnData)
  /-- the address that is being copied into CAIRN_WIN -/
  readAddr : Option Nat
  /-- CAIRN_WIN -/
  win : List Byte
  /-- the crystal has stopped (R807) -/
  crystalStopped : Bool
  deriving DecidableEq, Repr

def CairnSt.reset : CairnSt :=
  ⟨0, CairnData.empty, [], [], [], [], [], [], false, none, false, false, [], none, [], false⟩

/-! ## Chapter 16: lookout converters and thermal control -/

/-- A conversion of a lookout converter (R655–R660): a diode of a sensor, a rail tap's or another input of the fixed scan,
the bandgap check, a scan-list entry, a reference-cell sample of the store queue, or an urgent request of input,
multiplexer position and kind, which software made or, for `rail`, the power block. -/
inductive LookKind where
  | diode (sensor : Nat)
  | tap (input : Nat)
  | check
  | scan (entry : Nat)
  | store
  | urgent (input mux : Nat) (pair : Bool) (rail : Option Nat)
  deriving DecidableEq, Repr

/-- A conversion in progress or due: whether it is the second of a diode pair, with the first code, and whether an urgent
request made it restart (R656, R660). -/
structure LookWork where
  kind : LookKind
  first : Option Nat
  restarted : Bool
  deriving DecidableEq, Repr

/-- One converter (R651–R664). -/
structure LookConv where
  running : Option LookWork
  /-- urgent requests, oldest first -/
  urgent : List LookWork
  /-- conversions of the fixed scan that are due, oldest first -/
  fixed : List LookKind
  /-- scan-list entries that are due -/
  scans : List Nat
  /-- a conversion that an urgent request aborted, to be restarted -/
  aborted : Option LookWork
  /-- conversions ended since the store queue was last given one (R658) -/
  sinceStore : Nat
  /-- fixed-scan work done since the converter started, until its first complete scan (R660) -/
  scanned : List LookKind
  /-- consecutive checks within 16 codes while in RECOVERY (R662) -/
  goodChecks : Nat
  /-- the result buffers' entries of 8 bytes, oldest first, by buffer (R663) -/
  buffers : SMap (List Nat)
  deriving DecidableEq, Repr

def LookConv.reset : LookConv := ⟨none, [], [], [], none, 0, [], 0, []⟩

/-- Thermal control beside the registers of its page (R665–R677). -/
structure LookSt where
  convs : SMap LookConv
  /-- consecutive samples at 105 °C or above, by source (R674) -/
  hot : SMap Nat
  /-- the stacks' latest reports in 1/16 °C (R665) -/
  stackTemp : SMap Int
  /-- sources that have given a valid sample in this start (R817) -/
  seen : List Nat
  /-- the band of S64–S67, and whether they are in fast sampling (R61, R666) -/
  baseBand : Nat
  baseFast : Bool
  /-- ms since a ridge's THERM last changed, 10 and more as 10 (R671) -/
  thermAge : SMap Nat
  /-- ridges that have had no valid sensor since their last signature (R15) -/
  blind : List Nat
  /-- the bands of this start have been taken (R817) -/
  bandsTaken : Bool
  deriving DecidableEq, Repr

def LookSt.reset : LookSt := ⟨[], [], [], [], 0, false, [], [], true⟩

/-! ## Chapter 17: calibration -/

/-- What a calibration measured of one unit, as the fits that R689–R694 form from it (R685): a CONV unit's gain and offset
codes and residual in 1/100 LSB for each of 544 converters, and its verify trim set with the set's residual in 1/1,000 µS; a
ROWDRV unit's trim and residual in 1/1,000 level per unit of x for each of 16 levels; the 64 samples of a slab in 1/1,000 µS; a
lane's eye in mUI and mV; a converter's sums of 256 ground and 256 reference codes with the residual in 1/100 LSB; the sum of a
sensor's 64 untrimmed samples in 1/16 °C, with the residual after trim in 1/16 °C. -/
inductive CalMeas where
  | conv (l : List (Int × Int × Nat)) (verify : Word) (residual : Nat)
  | rowdrv (l : List (Int × Nat))
  | drift (g : List Nat)
  | serdes (width height : Nat)
  | lookout (gnd ref residual : Nat)
  | sensor (sum : Int) (residual : Nat)
  deriving DecidableEq, Repr

/-- A unit's result that awaits the step boundary (R690): its figures, whether it or a converter failed, the new register
values, the new verify trim set, the converters to be steered, and whether it restores the fused values instead. -/
structure CalResult where
  figure : Nat
  figure2 : Nat
  failed : Bool
  values : SMap Word
  verify : Option Word
  cols : List Nat
  restore : Bool
  deriving DecidableEq, Repr

/-- A unit of a calibration (R685): its number (engine key, slab key, port × 8 + lane, converter or sensor), the band fixed at
its first calibration frame, the frames it has used, its result once measured, and whether it has ended. -/
structure CalUnit where
  id : Nat
  band : Option Nat
  frames : Nat
  staged : Option CalResult
  ended : Bool
  deriving DecidableEq, Repr

/-- Calibration (R683–R697). Trims without a register are kept by number: verify trim sets at engine key × 8 + band, lookout
gain and offset at 40,000 + 2n and 40,001 + 2n, sensor offsets at 41,000 + sensor. -/
structure CalSt where
  units : List CalUnit
  /-- the port whose UP a SERDES command awaits (R691) -/
  port : Option Nat
  trims : SMap Word
  /-- the calibration record in flash, by register key or trim number (R695) -/
  record : SMap Word
  /-- changes of the record that await their write to flash; an absent value removes the entry -/
  unsaved : SMap (Option Word)
  /-- seconds for which the die has been in Standby with every ridge Off (R694) -/
  settled : Nat
  deriving DecidableEq, Repr

def CalSt.reset : CalSt := ⟨[], none, [], [], [], 0⟩

/-! ## Chapter 19: start-up, reset and update -/

/-- The parameter cells of a slab (R722): block-table words by block, column parameters by column, and the BLOCK_ID of each
layer-map entry they describe. -/
structure ParamSet where
  blocks : SMap Word
  columns : SMap Word
  tags : SMap Nat
  deriving DecidableEq, Repr

def ParamSet.blank : ParamSet := ⟨[], [], []⟩

/-- An image slot of the flash (R717, R734): whether every section's signature verifies, its SVN, the versions of the base-camp
firmware, the ridge microcode and the SerDes firmware, and the ridges whose microcode does not verify when it is loaded
(R719). -/
structure FwImage where
  ok : Bool
  svn : Nat
  fw : Nat
  uc : Nat
  serdes : Nat
  ucBad : List Nat
  deriving DecidableEq, Repr

/-- The image that both slots of a new part hold (log entry 8). -/
def FwImage.first : FwImage := ⟨true, 0, 0, 0, 0, []⟩

/-- A failing probe of the sweep: its slab by key, SUM or ROW with its group or row, the first mismatching column and the
number of them. -/
structure SweepFail where
  slab : Nat
  sum : Bool
  index : Nat
  column : Nat
  count : Nat
  deriving DecidableEq, Repr

/-- Start-up and update state beside the die start page. -/
structure BootSt where
  /-- ridge microcode version by ridge (R737) -/
  ucVersion : SMap Nat
  /-- SerDes firmware version by port (R738) -/
  serdesVersion : SMap Nat
  /-- the rails still to be enabled in step 4, in order (R719, R799) -/
  rails : List Nat
  /-- site-map fuses of permanent migrations, by ridge × 32 + logical core: the sites moved to, oldest first (R729) -/
  fused : SMap (List Nat)
  /-- parameter cells by slab key -/
  params : SMap ParamSet
  /-- TRIES of the boot record (R718) -/
  tries : Nat
  /-- ROM recovery (R720) -/
  recovery : Bool
  /-- the part's fused VDD_CORE setpoint in mV (R797; log entry 5) -/
  setpoint : Nat
  /-- ridges whose microcode did not verify in this start (R719) -/
  ucBad : List Nat
  /-- ACTIVE and TRIAL of the boot record (R718), and the two image slots -/
  active : Nat
  trial : Bool
  slotA : FwImage
  slotB : FwImage
  /-- slabs (by slab key) whose blocks this start asks to be re-fetched (R41, R75, R485) -/
  refetch : List Nat
  deriving DecidableEq, Repr

def BootSt.reset : BootSt := ⟨[], [], [], [], [], 0, false, 750, [], 0, false, FwImage.first, FwImage.first, []⟩

/-! ## Chapter 20: host and management interfaces -/

/-- An aperture access (R749–R752): function, window, offset of its first byte, length, and for a write its data and
byte enables. -/
structure ApReq where
  fn : Nat
  window : Nat
  offset : Nat
  len : Nat
  write : Bool
  data : Row
  enables : BitVec 512
  deriving DecidableEq, Repr

/-- A configuration access of R743, R744 and R755: the vendor and device IDs, the class code, the subsystem IDs, NumVFs with
VF Enable, MSI-X Message Control, or a register that PCIe defines and this spec does not. -/
inductive CfgAccess where
  | readIds
  | readClass
  | readSubsystem
  | readSriov
  | writeSriov (numvfs : Nat) (enable : Bool)
  | readMsix
  | writeMsix (enable : Bool)
  | other
  deriving DecidableEq, Repr

/-- What an IDE_KM message asks (R611): program a stream's keys, start their use, or stop it. -/
inductive IdeOp where
  | keyProg
  | setGo
  | setStop
  deriving DecidableEq, Repr

/-- The host port beside its page (R743–R755). -/
structure HostSt where
  /-- functions in D3hot: 0 the physical function, r + 1 virtual function r (R745) -/
  d3 : List Nat
  /-- accesses held for a ridge in Nap, by ridge (R751) -/
  held : SMap (List ApReq)
  /-- NumVFs and the MSI-X Enable of the physical function (R744, R755) -/
  pfMsix : Bool
  /-- IDE streams (R611): stream number to whether its keys are set and its state is secure -/
  ide : SMap Nat
  deriving DecidableEq, Repr

def HostSt.reset : HostSt := ⟨[], [], false, []⟩

/-- An MCTP message in reassembly (R759): source endpoint, tag, and the bytes so far. -/
structure MctpPart where
  src : Nat
  tag : Nat
  body : List Byte
  deriving DecidableEq, Repr

/-- The management port beside its page (R756–R764). -/
structure MgmtSt where
  parts : List MctpPart
  /-- platform events: sensor and threshold state, oldest first (R761) -/
  events : List (Nat × Nat)
  /-- the threshold state last seen of each sensor: 0 normal, 1 warning, 2 critical, 3 fatal -/
  levels : SMap Nat
  /-- in-band interrupts sent: source bits, oldest first (R764) -/
  ibis : List Nat
  /-- the private write stored while the base camp was not running (R628) -/
  wake : List Byte
  /-- the target reset action (RSTACT) -/
  rstact : Nat
  /-- the alert sources at the last look -/
  sources : Nat
  deriving DecidableEq, Repr

def MgmtSt.reset : MgmtSt := ⟨[], [], [], [], [], 0, 0⟩

end Sys2Proof.Machine
end

