-- ==== Sys2Proof/Machine/CoreTypes.lean ====
section
/-! DEFINITION. The plain data of engines, cores, sync cells and scratchpads (chapters 3, 5, 6 and 7 of the spec). -/
namespace Sys2Proof.Machine

/-! ## Slots of a bundle (R261–R304) -/

/-- Fields of a scalar slot (R267): `slotB` for slot B, `last` when the bundle's later slots are NOPs and it closes with
this one, `imm` the long immediate when IMM_USE names the slot, `rsv` the reserved bits. -/
structure SOp where
  slotB : Bool
  last : Bool
  gneg : Bool
  gp : BitVec 3
  rd : BitVec 5
  rs1 : BitVec 5
  rs2 : BitVec 5
  src2i : Bool
  imm24 : BitVec 24
  rsv : BitVec 10
  imm : Option DWord
  deriving DecidableEq, Repr

/-- Fields of the vector slot (R271); `residue` says that the vector unit's residue check of the operation failed
(R542). -/
structure VOp where
  last : Bool
  type : BitVec 5
  men : Bool
  mp : BitVec 3
  vd : BitVec 5
  vs1 : BitVec 5
  vs2 : BitVec 5
  vs3 : BitVec 5
  ss1 : BitVec 5
  ss2 : BitVec 5
  pd : BitVec 3
  type2 : BitVec 5
  u : Bool
  imm16 : BitVec 16
  rsv : BitVec 22
  imm : Option DWord
  residue : Bool
  deriving DecidableEq, Repr

/-- Fields of the memory slot (R295). -/
structure MOp where
  last : Bool
  gneg : Bool
  gp : BitVec 3
  vr : BitVec 5
  sa : BitVec 5
  sb : BitVec 5
  row : BitVec 12
  win : BitVec 4
  cell : BitVec 10
  cr : BitVec 6
  ch : BitVec 5
  imm16 : BitVec 16
  rsv : BitVec 14
  imm : Option DWord
  deriving DecidableEq, Repr

/-- What the SECDED code of a bundle's eight words finds at its fetch (R237). -/
inductive Fetch where
  | clean
  | corrected
  | uncorrectable
  deriving DecidableEq, Repr

/-- Fields of the control slot (R302); `badHeader` says that IMM_USE is 6 or 7 or a header bit reserved by R261 is 1, and
`fetch` what the fetch of the bundle found. -/
structure COp where
  gneg : Bool
  gp : BitVec 3
  cell : BitVec 10
  xw : Bool
  win : BitVec 4
  rs : BitVec 5
  rd : BitVec 5
  cond : BitVec 2
  target : BitVec 12
  lc : BitVec 2
  im : Bool
  rsv : BitVec 10
  imm : Option DWord
  badHeader : Bool
  fetch : Fetch
  deriving DecidableEq, Repr

/-! ## Engines (R101–R155) -/

/-- The commands of the E slot (R151). -/
inductive EngKind where
  | fire | qmFire | probe | echo | drain | clear | qload
  deriving DecidableEq, Repr

/-- A command in an engine's queue: its fields of R152, its issue order, the step and revision it was issued under, and
what it captured at issue, the vector register (R104) and DSCALE (R166). -/
structure EngCmd where
  kind : EngKind
  order : Nat
  step : Nat
  rev : Nat
  data : Row
  dscale : BitVec 32
  slab : Nat
  shape : Nat
  group : Nat
  slice : Nat
  signed : Bool
  acc : Bool
  half : Nat
  target : Nat
  hist : Nat
  first : Nat
  last : Nat
  vreg : Nat
  fmt : Nat
  clr : Bool
  tally : Bool
  qrow : Nat
  deriving DecidableEq, Repr

/-- The command with every field 0. -/
def EngCmd.blank (k : EngKind) : EngCmd :=
  ⟨k, 0, 0, 0, 0, 0, 0, 0, 0, 0, false, false, 0, 0, 0, 0, 0, 0, 0, false, false, 0⟩

/-- An entry of the pass history (R138): the pass's command, the physical slab it fired, the blocks it latched and the
code of each logical column. -/
structure HistEntry where
  cmd : EngCmd
  pslab : Nat
  blocks : List Nat
  codes : List Nat
  deriving DecidableEq, Repr

/-- What runs on an engine's converter bank between a pass's start and its latch. -/
inductive Pass where
  /-- a slab pass on a physical slab -/
  | fire (cmd : EngCmd) (pslab : Nat)
  /-- a probe pass: slab, step and revision at the probe -/
  | probe (slab step rev : Nat)
  /-- an echo of a history entry on a physical slab -/
  | echo (entry : HistEntry) (pslab : Nat)
  deriving DecidableEq, Repr

/-- A probe entry (R133): KIND 0 invalid, 1 ROW, 2 SUM. -/
structure ProbeEntry where
  pattern : BitVec 32
  group : Nat
  kind : Nat
  seq : Nat
  codes : List Nat
  deriving DecidableEq, Repr

def ProbeEntry.none : ProbeEntry := ⟨0, 0, 0, 0, []⟩

/-- One engine. -/
structure EngSt where
  queue : List EngCmd
  qmQueue : List EngCmd
  /-- commands issued so far, for the order of the two queues (R106, R147) -/
  issued : Nat
  pass : Option Pass
  /-- the quick-macro FIRE that runs -/
  qmPass : Option EngCmd
  /-- passes discarded by a low-voltage hold, to be rerun in order (R144) -/
  discarded : List Pass
  /-- the 528 accumulators -/
  ledger : SMap Int
  /-- their residues mod 7 (R121) -/
  residue : SMap Nat
  /-- steps and revisions whose passes latched into an accumulator since its last CLEAR or overwrite (R121) -/
  latched : SMap (List (Nat × Nat))
  /-- quick-macro rows of 256 bytes -/
  qm : SMap (BitVec 2048)
  /-- newest first, at most 2 (R138, R141) -/
  history : List HistEntry
  /-- the 18 probe entries (R132) -/
  probes : SMap ProbeEntry
  /-- the kind of a slab's next probe: 0 ROW, 1 SUM (R134) -/
  turns : SMap Nat
  /-- the fills made of each probe entry: the row or group it is at (R135) -/
  fills : SMap Nat
  /-- the slab last probed (R130) -/
  lastProbe : Nat
  /-- consecutive saturating passes by slab × 544 + column (R126) -/
  satRun : SMap Nat
  /-- written block-table entries and column parameters that await the step boundary, by register key (R159) -/
  shadow : SMap Word
  /-- DRAIN results on their way to a vector register, oldest first: register, row, status bits (R122) -/
  drains : List (Nat × Row × Nat)
  /-- the bank biased up at the start of the check frame that runs: edges 0 and 1 are unused (R129) -/
  lateBias : Bool
  /-- the band of the trim set in force (R117) -/
  trimBand : Nat
  /-- X-degraded blocks (slab, block) (R189) -/
  degraded : List (Nat × Nat)
  deriving DecidableEq, Repr

def EngSt.reset : EngSt :=
  ⟨[], [], 0, none, none, [], [], [], [], [], [], [], [], [], 8, [], [], [], false, 0, []⟩

/-! ## Cores (R202–R242) -/

/-- A register that a result goes to; `f` is NSTAT, which the result's status bits are set in (R183). -/
inductive Dest where
  | s (n : Nat) | v (n : Nat) | p (n : Nat) | f
  deriving DecidableEq, Repr

/-- A result on its way (R207): it reaches its register when the core's clock reaches `due`; the mask has the bits it
writes. -/
structure Result where
  due : Nat
  dest : Dest
  val : Row
  mask : Row
  deriving DecidableEq, Repr

/-- A local access on its way to its bank (R211, R323). -/
inductive LocalAccess where
  | load (row vr : Nat)
  | store (row : Nat) (data : Row)
  | push (region row : Nat) (data : Row)
  | pop (region row vr : Nat)
  | peek (row vr : Nat)
  | free (region k : Nat)
  deriving DecidableEq, Repr

/-- An outstanding remote request (R219): the local row, the completion cell, the entries of an emit, the revision it was
issued under (R558), and its number among the core's requests, which a late response no longer finds (R223). -/
structure Tag where
  op : PktOp
  row : Nat
  cell : Nat
  count : Nat
  rev : Nat
  serial : Nat
  /-- the step it was issued under (R551) -/
  step : Nat
  deriving DecidableEq, Repr

/-- Operations on a sync cell (R225): the code is the packet's `arg`. -/
inductive CellOpKind where
  | add | notify | claim | waitGe | waitEq | waitNe
  deriving DecidableEq, Repr

def CellOpKind.code : CellOpKind → Nat
  | .add => 0 | .notify => 1 | .claim => 2 | .waitGe => 3 | .waitEq => 4 | .waitNe => 5

/-- A SYNC.WAIT without an answer (R212, R228): WAKE, or a cell with its threshold. -/
structure Wait where
  wake : Bool
  kind : CellOpKind
  cell : Nat
  xw : Bool
  win : Nat
  value : BitVec 32
  bundle : Nat
  /-- the table was full: sent again at the end of each hold span -/
  resend : Bool
  answered : Bool
  deriving DecidableEq, Repr

/-- An active zero-overhead loop (R305, R306). -/
structure Loop where
  lc : Nat
  first : Nat
  last : Nat
  deriving DecidableEq, Repr

/-- An entry of a top-k list (R282): index, value and probability as fp32 bits. -/
structure TkEntry where
  index : Nat
  value : Nat
  p : Nat
  deriving DecidableEq, Repr

/-- A top-k unit. -/
structure TopK where
  k : Nat
  list : List TkEntry
  pValid : Bool
  deriving DecidableEq, Repr

/-- A unit before its first tk.init: an empty list with room for 256 entries (R282; log entry 8). -/
def TopK.reset : TopK := ⟨256, [], false⟩

/-- A norm-watch observation in the making (R192, R281): Σ v² and max |v| as fp32 bits. -/
structure NwOpen where
  norm : Nat
  mx : Nat
  deriving DecidableEq, Repr

/-- An exception found in a slot of a bundle (R231, R232). -/
structure SlotExc where
  code : Nat
  sub : Nat
  slot : Nat
  info : Nat
  deriving DecidableEq, Repr

/-- What a slot of a bundle does when the bundle issues. -/
inductive Fx where
  | result (lat : Nat) (d : Dest) (val mask : Row)
  | flags (lat f : Nat)
  | engine (e : Nat) (cmd : EngCmd)
  | access (a : LocalAccess)
  | crPush (region : Nat) (v : Row) (sb : Nat)
  | crPop (region vr sb : Nat)
  | crPeek (region k vr sb : Nat)
  | crFree (region k sb : Nat)
  | special (code : Nat) (v : BitVec 64)
  | remote (op : PktOp) (row win off cell : Nat)
  | emit (row count cell : Nat)
  | mdisp (row slot expert cell : Nat)
  | push (ch : Nat) (desc : BitVec 64) (cell : Nat)
  | sync (kind : CellOpKind) (cell : Nat) (xw : Bool) (win : Nat) (value : BitVec 32)
  | claim (cell : Nat) (xw : Bool) (win : Nat) (value : BitVec 32) (rd : Nat)
  | wait (w : Wait)
  | branch (target : Nat)
  | loop (lc : Nat) (n : BitVec 32) (last : Nat)
  | halt
  | eret
  | topk (u : Nat) (t : TopK)
  | nwOpen (entry : Nat) (o : NwOpen)
  | nwEnd (entry : Nat)
  | residue
  deriving DecidableEq, Repr

/-- The slots of the bundle now being issued: named destinations by slot, exceptions and effects. -/
structure Bundle where
  dests : List (Nat × Dest)
  excs : List SlotExc
  /-- s registers of pending CLAIMs that the bundle reads (R212) -/
  reads : List Nat
  fx : List Fx
  deriving DecidableEq, Repr

def Bundle.none : Bundle := ⟨[], [], [], []⟩

/-- One core site. -/
structure Core where
  sreg : SMap (BitVec 64)
  vreg : SMap Row
  preg : SMap (BitVec 512)
  lreg : SMap (BitVec 32)
  /-- index of the next bundle, 4,096 past the last one -/
  pc : Nat
  epc : Nat
  dscale : BitVec 32
  nstat : Word
  /-- cycles of running frames, holds left out, the handler's included (the clock of R207) -/
  clock : Nat
  results : List Result
  bundle : Bundle
  loops : List Loop
  /-- between-bundle exceptions that wait: code and CORE_EXC_INFO -/
  excWait : List (Nat × Nat)
  /-- a halt at the next bundle boundary (R241) -/
  haltReq : Bool
  accesses : List LocalAccess
  tags : SMap Tag
  /-- remote requests issued so far -/
  requests : Nat
  /-- destinations of CLAIMs without a reply, with the cell and window -/
  claims : List (Nat × Nat)
  wait : Option Wait
  /-- what the hold waits for: the drover channel of a held push, or the registers of the CLAIMs that it reads -/
  heldOn : List Nat
  /-- the exception handler runs, a hold of it included (R234) -/
  handler : Bool
  /-- the WAIT whose hold an exception ended early: it holds again after ERET (R212, R236) -/
  heldWait : Option Wait
  topk : SMap TopK
  nwOpen : SMap NwOpen
  /-- software writes to NW_EST (0), NW_SCALE (1) and NW_STAT (2) that await the step boundary, by entry × 4 + register -/
  nwShadow : SMap Word
  /-- the step in which an entry's R was last updated, plus 1 (R193) -/
  nwDone : SMap Nat
  /-- revisions at which a step had a norm-watch replay, by step (R196, R197) -/
  nwReplays : SMap (List Nat)
  /-- the frame now running: 0 a running frame, 1 a stall frame, 2 a probe frame, 3 an echo frame (R128, R142) -/
  frame : Nat
  /-- frames counted from the pass epoch, and those of them that ran (R103, R142, R543) -/
  frameNo : Nat
  ranNo : Nat
  /-- a probe frame that an echo frame displaced (R543) -/
  probeOwed : Bool
  /-- stopped for a low-voltage hold (R144) -/
  lvHold : Bool
  /-- instruction memory, 64-bit words by bundle × 8 + word; an unlisted word is 0 (a NOP's) -/
  imem : SMap (BitVec 64)
  /-- arrivals held while the core is PAUSED for a migration (R246) -/
  held : List Packet
  /-- the logical core whose temporary migration freed this site for a test (R246, R251) -/
  testOf : Option Nat
  deriving DecidableEq, Repr

def Core.reset : Core :=
  ⟨[], [], [], [], 0, 0, 0, 0, 0, [], Bundle.none, [], [], false, [], [], 0, [], none, [], false, none, [], [], [], [], [], 0, 0, 0,
    false, false, [], [], none⟩

/-! ## Scratchpads and sync cells (R224–R230, R308–R331) -/

/-- A request that waits for a scratchpad's shared phase (R310): a row read, or a row write with its word mask (R315); the
source ID of R330 and the packet that it answers. -/
structure SharedReq where
  write : Bool
  row : Nat
  data : Row
  mask : BitVec 64
  source : Nat
  pkt : Packet
  deriving DecidableEq, Repr

/-- One scratchpad. -/
structure Spad where
  rows : SMap Row
  /-- words with an uncorrectable error, by row × 64 + word (R314) -/
  bad : List Nat
  queue : List SharedReq
  /-- rows reserved and not yet written, by region, in TAIL order: row and whether written (R324) -/
  reserved : SMap (List (Nat × Bool))
  /-- HEAD as core pops and frees have advanced it at issue, by region (R323) -/
  headAhead : SMap Nat
  /-- rows freed since enabling, by pool (R329) -/
  freed : SMap Nat
  deriving DecidableEq, Repr

def Spad.reset : Spad := ⟨[], [], [], [], [], []⟩

/-- A waiter of a ridge's waiter table (R228): the cell, the condition and who waits. -/
structure Waiter where
  cell : Nat
  kind : CellOpKind
  value : BitVec 32
  who : Packet
  deriving DecidableEq, Repr

/-- The sync cells of one ridge beside SYNC_VAL and SYNC_ATTR. -/
structure SyncSt where
  /-- armed wakes by cell (R227): logical core, or a packet's source for a remote core -/
  armed : SMap (List Packet)
  waiters : List Waiter
  /-- the source that won the cell's last contention (R226) -/
  last : SMap Nat
  deriving DecidableEq, Repr

def SyncSt.reset : SyncSt := ⟨[], [], []⟩

/-! ## The cache tier (R333–R342) -/

/-- A cache-tier access that waits at a stack's controller (R335): the unit, the requester (die, and ridge 0–15, 16 for the
die), a write with its byte mask or a read, and the packet that it answers. -/
structure CacheReq where
  unit : Nat
  die : Nat
  requester : Nat
  write : Bool
  data : Row
  mask : BitVec 512
  pkt : Packet
  deriving DecidableEq, Repr

/-- The cache tier: units in clear, the key each was written under (owner × 2³² + draw; R340, R609), uncorrectable
codewords by unit × 8 + codeword (R337), and each stack's waiting accesses. -/
structure CacheSt where
  units : SMap Row
  keys : SMap Nat
  bad : List Nat
  queues : SMap (List CacheReq)
  deriving DecidableEq, Repr

def CacheSt.reset : CacheSt := ⟨[], [], [], []⟩

/-! ## Drovers (R439–R460) -/

/-- A descriptor (R447); `addr` is its own address, 0 for a register transfer. -/
structure Desc where
  src : Nat
  dst : Nat
  count : Nat
  last : Bool
  irq : Bool
  add : Bool
  fence : Bool
  next : Nat
  addr : Nat
  deriving DecidableEq, Repr

/-- An entry of a channel's submission queue (R446): a register transfer or a chain's first address, its completion cell
(die-wide), whether a core pushed it, and the step and revision it was pushed under. -/
structure Submission where
  transfer : Option Desc
  chain : Nat
  cell : Nat
  pushed : Bool
  step : Nat
  rev : Nat
  deriving DecidableEq, Repr

/-- A descriptor in execution: the offset of its next beat, beats outstanding (offset, and the data once read), beats
completed (offset, length), its first code other than OK, and whether a write lost words (R449–R452). -/
structure DescRun where
  desc : Desc
  /-- its number among the channel's descriptors -/
  serial : Nat
  next : Nat
  out : List (Nat × Option Row)
  done : List (Nat × Nat)
  code : Nat
  collision : Bool
  deriving DecidableEq, Repr

/-- One channel. -/
structure Chan where
  queue : List Submission
  current : Option Submission
  /-- address of the descriptor to fetch next, within the current chain -/
  fetch : Option Nat
  descs : List DescRun
  /-- IRQ descriptors completed since the DONE bit was last set (R458) -/
  coalesced : Nat
  /-- descriptors started so far -/
  count : Nat
  /-- a higher priority took its next beat (R454) -/
  preempted : Bool
  deriving DecidableEq, Repr

def Chan.reset : Chan := ⟨[], none, none, [], 0, 0, false⟩

/-- One drover: its channels, the channel last granted, and the channels in DRAIN with the ridge going down. -/
structure Drover where
  chans : SMap Chan
  lastGrant : Nat
  draining : List (Nat × Nat)
  deriving DecidableEq, Repr

def Drover.reset : Drover := ⟨[], 0, []⟩

/-- A write into host memory (R445, R450): the function that makes it, 0 the physical function, the address, the length in
bytes, and the bytes as one number. -/
structure HostWrite where
  fn : Nat
  addr : Nat
  len : Nat
  data : Nat
  deriving DecidableEq, Repr

/-! ## Migration (R243–R251) -/

/-- A migration in progress: logical core, source and target site, the operation of RC_MIG_CMD, the slabs of the target
still to be programmed (engine, slab), the phase (1 PREPARING, 2 WAIT_BOUNDARY, 3 PAUSED), and the source's state and
hold cause before it stopped. -/
structure Migration where
  logical : Nat
  source : Nat
  target : Nat
  op : Nat
  slabsLeft : List (Nat × Nat)
  phase : Nat
  prior : Nat
  priorHold : Nat
  deriving DecidableEq, Repr

end Sys2Proof.Machine
end

