-- ==== Sys2Proof/Syntax.lean ====
section
/-! DEFINITION. The commands of the block: one constructor for each row of spec/opcode_table.json, with the row's
operands. What a command measures or receives from outside the block (a verify read, a sensor code, a packet, a verdict
of a signature check) is an operand. -/
namespace Sys2Proof

open Machine

/-- A command: one row of the table of operations and events. -/
inductive Instr where
  /-- REGISTER_WRITE (R8): A software write to a register field that has no behaviour of its own stores or ignores the value according to its access code. -/
  | registerWrite (req : Fin 18) (dw : BitVec 26) (full : Bool) (v : Word)
  /-- RO_PAIR_LO_READ (R781): A read of the LO register of an RO 64-bit pair returns the low half and latches the HI half for the reading requester. -/
  | roPairLoRead (req : Fin 18) (dw : BitVec 26)
  /-- LOCK_SET (R775): A write of BLK_CTL.LOCK = 1 makes every RWL field of the page ignore writes until the page's unlocking reset. -/
  | lockSet (req : Fin 18) (dw : BitVec 26)
  /-- BLK_FREEZE (R772): A write of BLK_CTL.FREEZE snapshots or releases the page's RO registers at 0x01C and above. -/
  | blkFreeze (req : Fin 18) (dw : BitVec 26) (freeze : Bool)
  /-- IRQ_FORCE (R773): A write of BLK_IRQ_FORCE sets the named BLK_IRQ_STAT bits, with signalling and no other effect of the events. -/
  | irqForce (req : Fin 18) (dw : BitVec 26) (v : Word)
  /-- IRQ_STATUS_CLEAR (R754): A W1C write of BLK_IRQ_STAT clears bits and signals the vector again if the enabled OR stays at 1. -/
  | irqStatusClear (req : Fin 18) (dw : BitVec 26) (v : Word)
  /-- TOKEN_GRANT (R50): The ridge store controller grants a free programming token to the next queued operation in class order and starts it. -/
  | tokenGrant (r : RidgeId)
  /-- PGM_ITERATION (R45): On each 2 µs programming clock a programming engine verify-reads its row and pulses cells outside their program windows. -/
  | pgmIteration (r : RidgeId) (c : SiteId) (e : EngineId) (g : List Nat) (ue : List (Fin 4)) (repair : List Nat)
  /-- SLAB_PROGRAM_DONE (R47): A slab programming operation finishes its second sweep, counts wear and handles failures. -/
  | slabProgramDone (r : RidgeId) (c : SiteId) (e : EngineId)
  /-- DRIFT_SAMPLE_DUE (R53): At the end of a slab's drift period the store controller queues a set of 64 reference-cell samples. -/
  | driftSampleDue (r : RidgeId) (c : SiteId) (e : EngineId) (p : SlabId)
  /-- DRIFT_FIT (R55): When a sample set completes, the controller fits drift gain and offset and stages them for the next step boundary. -/
  | driftFit (r : RidgeId) (c : SiteId) (e : EngineId) (g : List Nat)
  /-- DEBT_ACCRUAL (R59): Once per second of base-camp time each slab's refresh debt rises by its band increment. -/
  | debtAccrual
  /-- READ_DEBT_COUNT (R60): Each 2^24 passes on a slab add SD_RD_INC to its debt. -/
  | readDebtCount (r : RidgeId) (c : SiteId) (e : EngineId) (p : SlabId)
  /-- OVERDUE_CHECK (R63): At least once per second and at each band change the controller tests due slabs against the overdue limit. -/
  | overdueCheck (r : RidgeId)
  /-- REFRESH_SCAN_DONE (R64): A refresh's scan ends and the refresh proceeds by stand-in, lease, in-place programming or waiting. -/
  | refreshScanDone (r : RidgeId) (c : SiteId) (e : EngineId) (moved : List (Fin 512 × Fin 544 × Nat))
  /-- REFRESH_RESUME (R64): A waiting refresh resumes when slab 8's state, LEASE_MODE or the slab's overdue status changes. -/
  | refreshResume (r : RidgeId)
  /-- LEASE_ACK (R66): A write of SR_LEASE_ACK.ACK lets the controller reprogram the leased slab in place. -/
  | leaseAck (req : Fin 18) (dw : BitVec 26) (v : Word)
  /-- IDLE_STEP_BOUNDARY (R51): A ridge that has issued no pass for 1 ms reaches its step boundary at once. -/
  | idleStepBoundary (r : RidgeId)
  /-- ERASE_SCOPE_WRITE (R83): A write of SD_ERASE_SCOPE sets the scope and returns DONE, DENIED or IN_USE to IDLE. -/
  | eraseScopeWrite (req : Fin 18) (dw : BitVec 26) (v : Word)
  /-- ERASE_ARM (R78): A write of 0xA5A5 to SD_ERASE_CMD arms the erase or gives DENIED. -/
  | eraseArm (req : Fin 18) (dw : BitVec 26) (v : Word)
  /-- ERASE_ARM_EXPIRY (R78): An armed erase not confirmed within 1 ms returns to IDLE. -/
  | eraseArmExpiry
  /-- ERASE_START (R83): A write of 0x5A5A while ARMED starts the erase, or gives IN_USE. -/
  | eraseStart (req : Fin 18) (dw : BitVec 26) (v : Word)
  /-- ERASE_DONE (R83): The last slab in scope is erased and SD_ERASE_STAT.STATE becomes DONE. -/
  | eraseDone
  /-- DEBT_CHECKPOINT (R88): Every 4 h the base camp checkpoints every slab's debt to the store record. -/
  | debtCheckpoint
  /-- CAIRN_STORE_REFRESH (R89): Every 30 days the base camp refreshes the cairn store. -/
  | cairnStoreRefresh
  /-- SCAN (R99): SR_CMD OP 0x1 queues a scan counting cells outside their program windows. -/
  | scan (req : Fin 18) (dw : BitVec 26) (v : Word)
  /-- REFRESH (R99): SR_CMD OP 0x2 queues a refresh of the slab. -/
  | refresh (req : Fin 18) (dw : BitVec 26) (v : Word)
  /-- DRIFT_SAMPLE (R99): SR_CMD OP 0x3 takes an immediate drift sample of the slab. -/
  | driftSample (req : Fin 18) (dw : BitVec 26) (v : Word)
  /-- REPLACE_COLUMN (R99): SR_CMD OP 0x4 queues replacement of a logical column with a scree column. -/
  | replaceColumn (req : Fin 18) (dw : BitVec 26) (v : Word)
  /-- REPLACE_SLAB (R99): SR_CMD OP 0x5 queues replacement of the slab with scree slab 8. -/
  | replaceSlab (req : Fin 18) (dw : BitVec 26) (v : Word)
  /-- REVERIFY (R99): SR_CMD OP 0x6 queues the second sweep of R47 on the slab. -/
  | reverify (req : Fin 18) (dw : BitVec 26) (v : Word)
  /-- FIRE (R102): An E-slot FIRE to a slab enters the pass queue with its captured vector register. -/
  | fire (r : RidgeId) (c : SiteId) (e : EngineId) (last : Bool) (slab : BitVec 4) (vreg : BitVec 5) (shape : BitVec 2) (group : BitVec 4) (slice : BitVec 3) (signed : Bool) (acc : Bool) (half : Bool) (rsv : BitVec 12)
  /-- QM_FIRE (R146): A FIRE with SLAB = 15 enters the quick-macro queue. -/
  | qmFire (r : RidgeId) (c : SiteId) (e : EngineId) (last : Bool) (vreg : BitVec 5) (shape : BitVec 2) (group : BitVec 4) (slice : BitVec 3) (signed : Bool) (acc : Bool) (half : Bool) (rsv : BitVec 12)
  /-- PROBE (R136): An explicit PROBE command queues one probe pass on a named physical slab. -/
  | probe (r : RidgeId) (c : SiteId) (e : EngineId) (last : Bool) (slab : BitVec 4) (rsv : BitVec 29)
  /-- ECHO (R138): An ECHO command queues a re-drive of a pass-history entry on the same slab or slab 8. -/
  | echo (r : RidgeId) (c : SiteId) (e : EngineId) (last : Bool) (target : Bool) (hist : Bool) (rsv : BitVec 31)
  /-- DRAIN (R122): A DRAIN command queues the read, scaling and conversion of block accumulators, capturing DSCALE. -/
  | drain (r : RidgeId) (c : SiteId) (e : EngineId) (last : Bool) (first : BitVec 3) (lastBlk : BitVec 3) (vreg : BitVec 5) (fmt : BitVec 5) (slab : BitVec 4) (clr : Bool) (tally : Bool) (rsv : BitVec 11)
  /-- CLEAR (R106): A CLEAR command queues the zeroing of block accumulators. -/
  | clear (r : RidgeId) (c : SiteId) (e : EngineId) (last : Bool) (first : BitVec 3) (lastBlk : BitVec 3) (tally : Bool) (rsv : BitVec 26)
  /-- QLOAD (R145): A QLOAD command queues a write of two quick-macro rows. -/
  | qload (r : RidgeId) (c : SiteId) (e : EngineId) (last : Bool) (vreg : BitVec 5) (qrow : BitVec 5) (rsv : BitVec 23)
  /-- ENGINE_NOP (R151): An E-slot NOP queues nothing. -/
  | engineNop (r : RidgeId) (c : SiteId) (last : Bool) (rest : BitVec 36)
  /-- PASS_START (R105): A pass command at the head of the pass queue starts on its engine's next pass edge. -/
  | passStart (r : RidgeId) (c : SiteId) (e : EngineId)
  /-- BIAS_HOLD_EXPIRY (R107): After BIAS_HOLD running cycles without a pass the converter bank unbiases. -/
  | biasHoldExpiry (r : RidgeId) (c : SiteId) (e : EngineId)
  /-- PASS_LATCH (R119): A slab pass latches converted values into the ledger and writes pass history. -/
  | passLatch (r : RidgeId) (c : SiteId) (e : EngineId) (err : List Int)
  /-- DRAIN_EXECUTE (R106): A DRAIN at the head executes once earlier commands have latched, occupying the ledger for 2 cycles. -/
  | drainExecute (r : RidgeId) (c : SiteId) (e : EngineId) (mismatches : List (Fin 528))
  /-- DRAIN_RESULT_WRITE (R122): Four cycles after a DRAIN starts, its converted outputs are written to the destination register. -/
  | drainResultWrite (r : RidgeId) (c : SiteId) (e : EngineId)
  /-- CLEAR_EXECUTE (R106): A CLEAR at the head zeroes the named accumulators in one ledger cycle. -/
  | clearExecute (r : RidgeId) (c : SiteId) (e : EngineId)
  /-- QM_PASS_START (R146): A quick-macro FIRE at the head of its queue starts its 16-cycle pass. -/
  | qmPassStart (r : RidgeId) (c : SiteId) (e : EngineId)
  /-- QM_PASS_LATCH (R146): After 16 cycles the quick-macro pass adds its 256 exact sums to the accumulators. -/
  | qmPassLatch (r : RidgeId) (c : SiteId) (e : EngineId)
  /-- QLOAD_EXECUTE (R145): A QLOAD at the head of the quick-macro queue writes its two rows in one cycle. -/
  | qloadExecute (r : RidgeId) (c : SiteId) (e : EngineId)
  /-- FRAME_START (R142): At each 64-cycle frame boundary the core's frame runs or stalls by its allowance and check schedule. -/
  | frameStart (r : RidgeId) (c : SiteId)
  /-- PROBE_FRAME (R130): In a probe frame each engine probes slabs round-robin on its pass edges. -/
  | probeFrame (r : RidgeId) (c : SiteId) (e : EngineId) (edge : Fin 5)
  /-- ECHO_FRAME (R131): In an echo frame each engine echoes its pass-history entries on the same slab and slab 8. -/
  | echoFrame (r : RidgeId) (c : SiteId) (e : EngineId) (edge : Fin 5)
  /-- PROBE_COMPARE (R134): A probe pass's physical codes are compared with the stored expectations. -/
  | probeCompare (r : RidgeId) (c : SiteId) (e : EngineId) (err : List Int)
  /-- ECHO_COMPARE (R139): An echo pass's codes are compared with the recorded codes within tolerance. -/
  | echoCompare (r : RidgeId) (c : SiteId) (e : EngineId) (err : List Int)
  /-- PROBE_ENTRY_REFILL (R135): The store controller refills a used probe entry from the image within 10 µs. -/
  | probeEntryRefill (r : RidgeId) (c : SiteId) (e : EngineId) (p : SlabId) (sum : Bool)
  /-- BLOCK_TABLE_WRITE (R159): A write of ENG_BT_DATA or ENG_COL_DATA goes to the shadow copy and sets PENDING. -/
  | blockTableWrite (req : Fin 18) (dw : BitVec 26) (v : Word)
  /-- NORM_WATCH_WRITE (R198): A software write to NW_EST, NW_SCALE or NW_STAT goes to a shadow copy applied at the step boundary. -/
  | normWatchWrite (req : Fin 18) (dw : BitVec 26) (v : Word)
  /-- SCALAR_NOP (R269): A scalar-slot nop does nothing. -/
  | scalarNop (r : RidgeId) (c : SiteId) (slotB : Bool) (last : Bool) (rest : BitVec 54)
  /-- ADD (R269): rd := rs1 + op2. -/
  | add (r : RidgeId) (c : SiteId) (o : SOp)
  /-- SUB (R269): rd := rs1 − op2. -/
  | sub (r : RidgeId) (c : SiteId) (o : SOp)
  /-- AND (R269): rd := rs1 AND op2. -/
  | and (r : RidgeId) (c : SiteId) (o : SOp)
  /-- OR (R269): rd := rs1 OR op2. -/
  | or (r : RidgeId) (c : SiteId) (o : SOp)
  /-- XOR (R269): rd := rs1 XOR op2. -/
  | xor (r : RidgeId) (c : SiteId) (o : SOp)
  /-- SHL (R269): Shift left by op2 mod 64. -/
  | shl (r : RidgeId) (c : SiteId) (o : SOp)
  /-- SHR (R269): Logical shift right by op2 mod 64. -/
  | shr (r : RidgeId) (c : SiteId) (o : SOp)
  /-- SRA (R269): Arithmetic shift right by op2 mod 64. -/
  | sra (r : RidgeId) (c : SiteId) (o : SOp)
  /-- MUL (R269): Low 64 bits of rs1 × op2. -/
  | mul (r : RidgeId) (c : SiteId) (o : SOp)
  /-- MULH (R269): High 64 bits of the signed product. -/
  | mulh (r : RidgeId) (c : SiteId) (o : SOp)
  /-- MULHU (R269): High 64 bits of the unsigned product. -/
  | mulhu (r : RidgeId) (c : SiteId) (o : SOp)
  /-- MIN (R269): Signed minimum. -/
  | min (r : RidgeId) (c : SiteId) (o : SOp)
  /-- MAX (R269): Signed maximum. -/
  | max (r : RidgeId) (c : SiteId) (o : SOp)
  /-- MINU (R269): Unsigned minimum. -/
  | minu (r : RidgeId) (c : SiteId) (o : SOp)
  /-- MAXU (R269): Unsigned maximum. -/
  | maxu (r : RidgeId) (c : SiteId) (o : SOp)
  /-- LI (R269): rd := op2. -/
  | li (r : RidgeId) (c : SiteId) (o : SOp)
  /-- CEQ (R269): pd := all ones if rs1 equals op2. -/
  | ceq (r : RidgeId) (c : SiteId) (o : SOp)
  /-- CNE (R269): pd := all ones if rs1 differs from op2. -/
  | cne (r : RidgeId) (c : SiteId) (o : SOp)
  /-- CLT (R269): pd := all ones if rs1 is less than op2, signed. -/
  | clt (r : RidgeId) (c : SiteId) (o : SOp)
  /-- CLTU (R269): pd := all ones if rs1 is less than op2, unsigned. -/
  | cltu (r : RidgeId) (c : SiteId) (o : SOp)
  /-- CGE (R269): pd := all ones if rs1 is at least op2, signed. -/
  | cge (r : RidgeId) (c : SiteId) (o : SOp)
  /-- CGEU (R269): pd := all ones if rs1 is at least op2, unsigned. -/
  | cgeu (r : RidgeId) (c : SiteId) (o : SOp)
  /-- PAND (R269): pd := ps1 AND ps2. -/
  | pand (r : RidgeId) (c : SiteId) (o : SOp)
  /-- POR (R269): pd := ps1 OR ps2. -/
  | por (r : RidgeId) (c : SiteId) (o : SOp)
  /-- PXOR (R269): pd := ps1 XOR ps2. -/
  | pxor (r : RidgeId) (c : SiteId) (o : SOp)
  /-- PANDN (R269): pd := ps1 AND NOT ps2. -/
  | pandn (r : RidgeId) (c : SiteId) (o : SOp)
  /-- VNOP (R276): A vector-slot nop does nothing. -/
  | vnop (r : RidgeId) (c : SiteId) (last : Bool) (rest : BitVec 86)
  /-- VADD (R276): Elementwise vector add. -/
  | vadd (r : RidgeId) (c : SiteId) (o : VOp)
  /-- VSUB (R276): Elementwise vector subtract. -/
  | vsub (r : RidgeId) (c : SiteId) (o : VOp)
  /-- VMUL (R276): Elementwise vector multiply. -/
  | vmul (r : RidgeId) (c : SiteId) (o : VOp)
  /-- VFMA (R276): Fused multiply-add rounded once. -/
  | vfma (r : RidgeId) (c : SiteId) (o : VOp)
  /-- VMIN (R276): Elementwise minimum. -/
  | vmin (r : RidgeId) (c : SiteId) (o : VOp)
  /-- VMAX (R276): Elementwise maximum. -/
  | vmax (r : RidgeId) (c : SiteId) (o : VOp)
  /-- VAND (R276): Bitwise vector AND. -/
  | vand (r : RidgeId) (c : SiteId) (o : VOp)
  /-- VOR (R276): Bitwise vector OR. -/
  | vor (r : RidgeId) (c : SiteId) (o : VOp)
  /-- VXOR (R276): Bitwise vector XOR. -/
  | vxor (r : RidgeId) (c : SiteId) (o : VOp)
  /-- VSHL (R276): Elementwise shift left. -/
  | vshl (r : RidgeId) (c : SiteId) (o : VOp)
  /-- VSHR (R276): Elementwise shift right. -/
  | vshr (r : RidgeId) (c : SiteId) (o : VOp)
  /-- VSEL (R276): Select elements of vs1 or vs2 by predicate. -/
  | vsel (r : RidgeId) (c : SiteId) (o : VOp)
  /-- VCMP (R276): Elementwise compare into a predicate. -/
  | vcmp (r : RidgeId) (c : SiteId) (o : VOp)
  /-- VBCAST (R276): Broadcast a scalar into every element. -/
  | vbcast (r : RidgeId) (c : SiteId) (o : VOp)
  /-- VPERM (R276): Permute elements by an index vector. -/
  | vperm (r : RidgeId) (c : SiteId) (o : VOp)
  /-- VCVT (R277): Convert a window of elements between types. -/
  | vcvt (r : RidgeId) (c : SiteId) (o : VOp)
  /-- VQNT (R281): Quantise 128 fp32 elements with a norm-watch entry's scale. -/
  | vqnt (r : RidgeId) (c : SiteId) (o : VOp)
  /-- VEXP (R275): Elementwise exponential. -/
  | vexp (r : RidgeId) (c : SiteId) (o : VOp)
  /-- VRSQRT (R275): Elementwise reciprocal square root. -/
  | vrsqrt (r : RidgeId) (c : SiteId) (o : VOp)
  /-- VRCP (R275): Elementwise reciprocal. -/
  | vrcp (r : RidgeId) (c : SiteId) (o : VOp)
  /-- VRSUM (R279): Sum reduction across elements. -/
  | vrsum (r : RidgeId) (c : SiteId) (o : VOp)
  /-- VRMAX (R279): Maximum reduction with index. -/
  | vrmax (r : RidgeId) (c : SiteId) (o : VOp)
  /-- VRSQ (R279): Sum of squares reduction. -/
  | vrsq (r : RidgeId) (c : SiteId) (o : VOp)
  /-- VLCOMB (R280): Combine ledger-24 groups of two registers. -/
  | vlcomb (r : RidgeId) (c : SiteId) (o : VOp)
  /-- NWACC (R281): Append 128 elements to a norm-watch entry's open observation. -/
  | nwacc (r : RidgeId) (c : SiteId) (o : VOp)
  /-- NWEND (R193): Close a norm-watch observation and check or update the entry. -/
  | nwend (r : RidgeId) (c : SiteId) (o : VOp)
  /-- TK_INIT (R283): Empty a top-k list and set K. -/
  | tkInit (r : RidgeId) (c : SiteId) (o : VOp)
  /-- TK_SCAN (R285): Merge register elements into the top-k list. -/
  | tkScan (r : RidgeId) (c : SiteId) (o : VOp)
  /-- TK_MERGE (R283): Merge tk.out records into the top-k list. -/
  | tkMerge (r : RidgeId) (c : SiteId) (o : VOp)
  /-- TK_OUT (R283): Write 64 list positions to a register. -/
  | tkOut (r : RidgeId) (c : SiteId) (o : VOp)
  /-- SMP_NORM (R286): Set list probabilities by temperature. -/
  | smpNorm (r : RidgeId) (c : SiteId) (o : VOp)
  /-- SMP_TOPP (R287): Cut the list to the nucleus and renormalise. -/
  | smpTopp (r : RidgeId) (c : SiteId) (o : VOp)
  /-- SMP_DRAW (R291): Draw one token into an emit entry. -/
  | smpDraw (r : RidgeId) (c : SiteId) (o : VOp)
  /-- SMP_ACCEPT (R292): Verify a draft token and write the result into an emit entry. -/
  | smpAccept (r : RidgeId) (c : SiteId) (o : VOp)
  /-- MEM_NOP (R297): A memory-slot nop does nothing. -/
  | memNop (r : RidgeId) (c : SiteId) (last : Bool) (rest : BitVec 86)
  /-- LD (R297): Load a local scratchpad row into a vector register. -/
  | ld (r : RidgeId) (c : SiteId) (o : MOp)
  /-- ST (R297): Store a vector register to a local row. -/
  | st (r : RidgeId) (c : SiteId) (o : MOp)
  /-- MOVV2S (R297): Move 8 bytes of a vector register to a scalar. -/
  | movv2s (r : RidgeId) (c : SiteId) (o : MOp)
  /-- MOVS2V (R297): Move a scalar into 8 bytes of a vector register. -/
  | movs2v (r : RidgeId) (c : SiteId) (o : MOp)
  /-- MOVX2S (R298): Read a special register into a scalar. -/
  | movx2s (r : RidgeId) (c : SiteId) (o : MOp)
  /-- MOVS2X (R298): Write a scalar into a special register. -/
  | movs2x (r : RidgeId) (c : SiteId) (o : MOp)
  /-- GET (R219): Issue a remote GET through an access window with a tag and completion cell. -/
  | get (r : RidgeId) (c : SiteId) (o : MOp)
  /-- PUT (R219): Issue a remote PUT of a local row. -/
  | put (r : RidgeId) (c : SiteId) (o : MOp)
  /-- MDISP (R300): Send a local row to an expert's receive region through the expert map. -/
  | mdisp (r : RidgeId) (c : SiteId) (o : MOp)
  /-- EMIT (R301): Send emit entries to the serving unit with step, revision and provisional flag. -/
  | emit (r : RidgeId) (c : SiteId) (o : MOp)
  /-- DRV_PUSH (R216): Push a descriptor address to a ridge drover channel. -/
  | drvPush (r : RidgeId) (c : SiteId) (o : MOp)
  /-- CR_PUSH (R323): Write a register at a region's tail and advance it. -/
  | crPush (r : RidgeId) (c : SiteId) (o : MOp)
  /-- CR_POP (R323): Read a region's head row and advance the head. -/
  | crPop (r : RidgeId) (c : SiteId) (o : MOp)
  /-- CR_PEEK (R323): Read a region row relative to the head without advancing. -/
  | crPeek (r : RidgeId) (c : SiteId) (o : MOp)
  /-- CR_FREE (R323): Advance a region's head without reading. -/
  | crFree (r : RidgeId) (c : SiteId) (o : MOp)
  /-- CR_STAT (R297): Read a region's pointers into a scalar. -/
  | crStat (r : RidgeId) (c : SiteId) (o : MOp)
  /-- NW_RDS (R297): Read a norm-watch entry's scale into a scalar. -/
  | nwRds (r : RidgeId) (c : SiteId) (o : MOp)
  /-- CTRL_NOP (R304): A control-slot nop does nothing. -/
  | ctrlNop (r : RidgeId) (c : SiteId) (rest : BitVec 56) (badHeader : Bool) (fetch : Fetch)
  /-- BR (R304): Branch to TARGET. -/
  | br (r : RidgeId) (c : SiteId) (o : COp)
  /-- JR (R304): Branch to a bundle index in a scalar. -/
  | jr (r : RidgeId) (c : SiteId) (o : COp)
  /-- LOOP (R305): Start a zero-overhead loop on a loop counter. -/
  | loop (r : RidgeId) (c : SiteId) (o : COp)
  /-- HALT (R241): Halt the core at the next bundle boundary. -/
  | halt (r : RidgeId) (c : SiteId) (o : COp)
  /-- ERET (R236): Return from the handler to EPC at a frame-aligned cycle. -/
  | eret (r : RidgeId) (c : SiteId) (o : COp)
  /-- SYNC_ADD (R225): Post an add to a sync cell. -/
  | syncAdd (r : RidgeId) (c : SiteId) (o : COp)
  /-- SYNC_NOTIFY (R225): Post a set of a sync cell's value. -/
  | syncNotify (r : RidgeId) (c : SiteId) (o : COp)
  /-- SYNC_CLAIM (R225): Claim n from a sync cell, returning the old value or NONE. -/
  | syncClaim (r : RidgeId) (c : SiteId) (o : COp)
  /-- SYNC_WAIT (R225): Register a wait on a sync cell condition and hold the next bundle. -/
  | syncWait (r : RidgeId) (c : SiteId) (o : COp)
  /-- SYNC_WAITWAKE (R225): Hold until WAKE_PEND is 1, then clear it. -/
  | syncWaitwake (r : RidgeId) (c : SiteId) (o : COp)
  /-- SYNC_CELL_OP (R226): An operation reaches a sync cell and is applied in rotating-priority order. -/
  | syncCellOp (r : RidgeId) (cell : Fin 1024) (ops : List Machine.Packet)
  /-- WAKE_DELIVERY (R227): A wake reaches its core and sets WAKE_PEND. -/
  | wakeDelivery (p : Machine.Packet)
  /-- SYNC_ANSWER (R228): A cell's answer or CLAIM reply reaches the waiting core. -/
  | syncAnswer (p : Machine.Packet)
  /-- HOLD_SPAN_END (R213): At the end of a 64-cycle hold span the core tests the ending condition and resumes or holds again. -/
  | holdSpanEnd (r : RidgeId) (c : SiteId) (stallFrames : Nat)
  /-- SYNC_TIMEOUT (R229): A WAIT unanswered for CORE_SYNC_TMO raises the sync-timeout exception. -/
  | syncTimeout (r : RidgeId) (c : SiteId)
  /-- GET_REQUEST (R219): A GET request arrives at its target and reads the row or unit. -/
  | getRequest (p : Machine.Packet) (busy : Bool) (corrected : Nat) (badWords : List (Fin 64)) (badCodewords : List (Fin 8))
  /-- PUT_REQUEST (R219): A PUT request arrives at its target and writes the row or unit. -/
  | putRequest (p : Machine.Packet) (busy : Bool) (corrected : Nat) (badWords : List (Fin 64)) (badCodewords : List (Fin 8))
  /-- GET_DATA (R221): GET data arrive and write the local row and add 1 to the completion cell. -/
  | getData (p : Machine.Packet) (withCore : Bool) (corrected : Nat) (bad : List (Fin 64))
  /-- REMOTE_COMPLETION (R222): A completion arrives, frees its tag and adds to its completion cell. -/
  | remoteCompletion (p : Machine.Packet)
  /-- REMOTE_TIMEOUT (R223): A request without completion after 100 µs completes with TIMEOUT. -/
  | remoteTimeout (r : RidgeId) (c : SiteId) (tag : Fin 64)
  /-- CORE_START (R240): A write of CORE_START with GO = 1 sets PC and enters RUN, or is rejected. -/
  | coreStart (req : Fin 18) (dw : BitVec 26) (v : Word)
  /-- HALT_REQ (R241): A write of CORE_CTL.HALT_REQ halts the core at the next boundary. -/
  | haltReq (req : Fin 18) (dw : BitVec 26) (v : Word)
  /-- IMEM_WORD_WRITE (R791): A HI write in IM_WIN commits an instruction word, accepted only while R238 allows. -/
  | imemWordWrite (req : Fin 18) (dw : BitVec 26) (v : Word)
  /-- AW_CTL_WRITE (R256): A write of AW_CTL checks the grant, captures the generation or sets DENIED. -/
  | awCtlWrite (req : Fin 18) (dw : BitVec 26) (v : Word)
  /-- SYNC_VAL_WRITE (R259): A host write of SYNC_VAL performs SYNC.NOTIFY on the selected cell. -/
  | syncValWrite (req : Fin 18) (dw : BitVec 26) (v : Word) (ops : List Machine.Packet)
  /-- SYNC_ADD_REG (R259): A host write of SYNC_ADD performs SYNC.ADD on the selected cell. -/
  | syncAddReg (req : Fin 18) (dw : BitVec 26) (v : Word) (ops : List Machine.Packet)
  /-- MIG_TEMPORARY (R245): RC_MIG_CMD OP 1 starts a temporary migration of a logical core. -/
  | migTemporary (req : Fin 18) (dw : BitVec 26) (v : Word)
  /-- MIG_PERMANENT (R245): RC_MIG_CMD OP 2 starts a permanent migration of a logical core. -/
  | migPermanent (req : Fin 18) (dw : BitVec 26) (v : Word)
  /-- MIG_RETURN (R251): RC_MIG_CMD OP 3 returns a logical core from a scree site to its tested site. -/
  | migReturn (req : Fin 18) (dw : BitVec 26) (v : Word)
  /-- MIG_DRAIN_DONE (R246): The source's queues and requests have drained and the state copy starts. -/
  | migDrainDone (r : RidgeId)
  /-- MIG_DRAIN_TIMEOUT (R247): A drain not finished within RC_MIG_DRAIN_TMO aborts the migration. -/
  | migDrainTimeout (r : RidgeId)
  /-- MIG_FLIP (R246): When the copy completes the site map flips, held arrivals are released and the target resumes. -/
  | migFlip (r : RidgeId) (spans : Nat)
  /-- LOCAL_ROW_ACCESS (R311): A local access acts on its bank in cycle c + 7. -/
  | localRowAccess (r : RidgeId) (c : SiteId) (corrected : Nat) (bad : List (Fin 64))
  /-- SHARED_PHASE_ACCESS (R310): A request waiting for a scratchpad's shared phase is served. -/
  | sharedPhaseAccess (r : RidgeId) (c : SiteId) (withCore : Bool) (corrected : Nat) (bad : List (Fin 64))
  /-- REGION_ARRIVAL (R324): A network or drover producer writes at a region's tail or is refused. -/
  | regionArrival (p : Machine.Packet) (withCore : Bool)
  /-- CR_CTL_WRITE (R321): A write of CR_CTL enables a region, resetting its pointers, or disables it. -/
  | crCtlWrite (req : Fin 18) (dw : BitVec 26) (v : Word)
  /-- POOL_ENABLE (R328): A write of POOL_CTL.EN = 1 notifies the pool cell with the buffer count, or is refused. -/
  | poolEnable (req : Fin 18) (dw : BitVec 26) (v : Word)
  /-- CACHE_ACCESS (R335): A stack controller performs a cache-tier access in arrival order. -/
  | cacheAccess (h : StackId) (k : Nat) (corrected : Nat) (bad : List (Fin 8))
  /-- CACHE_SCRUB (R338): A scrub read in a request gap rewrites units with corrected errors. -/
  | cacheScrub (h : StackId) (unit : Nat) (corrected : Nat) (bad : List (Fin 8)) (last : Bool)
  /-- HBM_REFRESH (R339): A stack refreshes at its band's tREFI. -/
  | hbmRefresh (h : StackId)
  /-- CACHE_REGION_WRITE (R342): A write of CT_REG_CTL.VALID = 1 validates a region or sets OVERLAP. -/
  | cacheRegionWrite (req : Fin 18) (dw : BitVec 26) (v : Word)
  /-- PACKET_DELIVERY (R360): A network packet reaches its destination interface. -/
  | packetDelivery (p : Machine.Packet) (busy : Bool) (withCore : Bool) (corrected : Nat) (badWords : List (Fin 64)) (badCodewords : List (Fin 8))
  /-- ROUTE_CHANGE (R369): The base camp holds injection to install new route tables. -/
  | routeChange (west : Bool) (east : Bool) (holes : List (Fin 2 × Fin 19 × Word)) (seams : List (Fin 16)) (unreachable : List (RidgeId × SiteId))
  /-- ROUTE_DRAINED (R369): When the VC buffers are empty the tables are written and injection released. -/
  | routeDrained (us : Nat)
  /-- SADDLE_FLIT_RECEIVE (R374): A saddle flit is captured and checked at the far flank. -/
  | saddleFlitReceive (link : Fin 16) (dir : Fin 2) (lanes : List (Fin 2408 × Nat)) (bad : Bool) (again : Bool)
  /-- SADDLE_RESEND (R375): A resend request makes the sender resend from its 32-flit buffer. -/
  | saddleResend (link : Fin 16) (dir : Fin 2)
  /-- SIGNAL_DETECT (R394): Signal on a usable lane pair takes a port from DETECT to EQ. -/
  | signalDetect (p : PortId) (lanes : BitVec 8)
  /-- PORT_DETECT_RETRY (R394): A port without signal retries detection every 100 ms. -/
  | portDetectRetry (p : PortId) (noPeer : Bool)
  /-- EQ_DONE (R394): Equalisation completes and the port enters ALIGN. -/
  | eqDone (p : PortId)
  /-- ALIGN_DONE (R394): Marker and FEC lock complete with a chosen width. -/
  | alignDone (p : PortId) (lanes : BitVec 8) (crossed : Bool)
  /-- TRAIN_TIMEOUT (R394): A training bound exceeded returns the port to DETECT and raises TRAIN_FAIL. -/
  | trainTimeout (p : PortId)
  /-- PLAN_LOADED (R394): A write of FAB_CTL.PLAN_LOADED = 1 releases ports from PLAN_WAIT. -/
  | planLoaded (req : Fin 18) (dw : BitVec 26) (v : Word)
  /-- HELLO (R395): A hello arrives and drives version choice, plan check or a return to PLAN_CHECK. -/
  | hello (p : PortId) (h : Machine.Hello) (serial : BitVec 128) (moduleOk : Bool)
  /-- KEY_OFFER (R610): A peer's certificate chain and ephemeral key arrive and are checked. -/
  | keyOffer (p : PortId) (verified : Bool) (root : Option (BitVec 384)) (serial : BitVec 64) (svn : BitVec 8)
  /-- KEY_CONFIRM (R610): Key confirmation completes and the link key takes effect at the named tick. -/
  | keyConfirm (p : PortId) (tick : BitVec 64) (ok : Bool)
  /-- RETRAIN_REQ (R406): A peer's retrain request is acknowledged or contested. -/
  | retrainReq (p : PortId) (coord : BitVec 9)
  /-- WIDTH_REQ (R406): A peer's width-change request is acknowledged or contested. -/
  | widthReq (p : PortId) (coord : BitVec 9) (lanes : BitVec 8)
  /-- REQ_ACK (R406): An acknowledgement makes both ends enter RETRAIN or WIDTH_CHANGE at the next tick. -/
  | reqAck (p : PortId) (type : BitVec 8)
  /-- REQ_WITHDRAW (R407): A losing end withdraws its request. -/
  | reqWithdraw (p : PortId) (type : BitVec 8)
  /-- ERROR_WINDOW (R405): At the end of each 1 ms window the port compares its error counts with the retrain thresholds. -/
  | errorWindow (p : PortId)
  /-- LANE_SIGNAL_LOSS (R405): A lane losing signal for 1 µs makes the port request a width change. -/
  | laneSignalLoss (p : PortId) (lane : Fin 8)
  /-- RETRAIN_DONE (R405): A retrain completes and the port returns through HELLO to UP. -/
  | retrainDone (p : PortId) (lanes : BitVec 8)
  /-- WIDTH_CHANGE_DONE (R405): A width change completes ALIGN and returns to UP. -/
  | widthChangeDone (p : PortId) (lanes : BitVec 8)
  /-- PORT_RETRAIN (R405): FP_CMD OP 1 requests a retrain. -/
  | portRetrain (req : Fin 18) (dw : BitVec 26) (v : Word)
  /-- PORT_RESTORE (R405): FP_CMD OP 2 requests a retrain attempt at ×8. -/
  | portRestore (req : Fin 18) (dw : BitVec 26) (v : Word)
  /-- PORT_DOWN (R432): FP_CMD OP 3 takes the port DOWN. -/
  | portDown (req : Fin 18) (dw : BitVec 26) (v : Word)
  /-- PORT_UP (R432): FP_CMD OP 4 brings the port up from DOWN, HELD_AUTH or VERSION_HOLD. -/
  | portUp (req : Fin 18) (dw : BitVec 26) (v : Word)
  /-- FRAME_RECEIVE (R410): A received frame is authenticated, acknowledged and its cells delivered. -/
  | frameReceive (p : PortId) (f : Machine.Frame) (corrected : Nat) (uncorrectable : Nat) (tagOk : Bool) (slot : Nat)
  /-- FRAME_TRANSMIT (R422): In each 8 ns slot the port sends a frame of flow and open cells. -/
  | frameTransmit (p : PortId) (slot : Fin 125)
  /-- MDISP_ARRIVAL (R529): An mdisp row arrives at its expert's receive region. -/
  | mdispArrival (p : Machine.Packet) (withCore : Bool)
  /-- DROVER_BEAT_ARRIVAL (R445): A remote drover beat arrives at the target die. -/
  | droverBeatArrival (p : Machine.Packet) (corrected : Nat) (badWords : List (Fin 64)) (badCodewords : List (Fin 8)) (withCore : Bool)
  /-- SLOT_LOSS_NOTICE (R425): A ridge receiving a slot-loss notice reports a failed check of its lowest uncommitted step. -/
  | slotLossNotice (p : Machine.Packet)
  /-- HERD_SYNC_PULSE (R417): A HERD_SYNC pulse starts a new tick and advances the tick number. -/
  | herdSyncPulse (markers : List (PortId × BitVec 64 × BitVec 8 × Int))
  /-- HERD_SYNC_MISSING (R418): Three missing pulses make the die run its tick from FABREF and raise SYNC_LOST. -/
  | herdSyncMissing (markers : List (PortId × BitVec 64 × BitVec 8 × Int))
  /-- TICK_SET_WRITE (R417): A write of FAB_TICK_SET_HI loads the tick number at the next pulse. -/
  | tickSetWrite (req : Fin 18) (dw : BitVec 26) (v : Word)
  /-- SWAP_ARM (R420): A write of FP_SWAP_TICK_HI arms a schedule bank or is refused. -/
  | swapArm (req : Fin 18) (dw : BitVec 26) (v : Word)
  /-- SWAP_NOTICE (R420): A peer's swap notice is compared with the local arm. -/
  | swapNotice (p : PortId) (bank : Bool) (tick : BitVec 64)
  /-- SCHED_ENTRY_WRITE (R432): A write of FP_SCHED_DATA_HI commits a schedule entry and advances the index. -/
  | schedEntryWrite (req : Fin 18) (dw : BitVec 26) (v : Word)
  /-- GEN_CMD (R427): A host write of FAB_GEN_CMD with a newer generation makes the die adopt it and send GEN_NOTICE. -/
  | genCmd (req : Fin 18) (dw : BitVec 26) (v : Word)
  /-- GEN_NOTICE (R427): A received generation notice is adopted and forwarded, ignored or flagged as a conflict. -/
  | genNotice (p : PortId) (g : BitVec 16) (mask : BitVec 256)
  /-- STRAY_NOTICE (R429): A received stray notice makes the die adopt its generation and enter STRAY. -/
  | strayNotice (p : PortId) (g : BitVec 16) (mask : BitVec 256)
  /-- GEN_PERSIST (R426): Within 100 µs of adoption the generation and mask are written to the store record. -/
  | genPersist
  /-- GEN_GRACE_END (R428): After FAB_GEN_GRACE the previous generation's cells are no longer accepted. -/
  | genGraceEnd
  /-- LINK_REKEY (R610): Every 2^24 ticks a link runs the key exchange again. -/
  | linkRekey (p : PortId)
  /-- DROVER_GO (R446): A write of CH_CTL.GO adds a submission entry or is rejected. -/
  | droverGo (req : Fin 18) (dw : BitVec 26) (v : Word)
  /-- DROVER_STOP (R457): A write of CH_CTL.STOP stops issue, aborts the current descriptor and discards the queue. -/
  | droverStop (req : Fin 18) (dw : BitVec 26) (v : Word)
  /-- DESCRIPTOR_FETCH (R447): A channel fetches the next descriptor of its chain. -/
  | descriptorFetch (k : Fin 17) (ch : Fin 64) (outside : Option (BitVec 512)) (corrected : Nat) (badWords : List (Fin 64)) (badCodewords : List (Fin 8))
  /-- BEAT_GRANT (R454): The drover grants the next beat by priority and round-robin. -/
  | beatGrant (k : Fin 17) (corrected : Nat) (badWords : List (Fin 64)) (badCodewords : List (Fin 8))
  /-- STARVE_GRANT (R455): A channel waiting STARVE_US is granted one beat ahead of every priority. -/
  | starveGrant (k : Fin 17) (ch : Fin 64) (corrected : Nat) (badWords : List (Fin 64)) (badCodewords : List (Fin 8))
  /-- BEAT_COMPLETE (R449): A beat's write completes. -/
  | beatComplete (k : Fin 17) (ch : Fin 64) (n : Nat) (off : Nat) (hostStatus : Nat) (hostData : Row) (reply : Option Machine.Packet) (withCore : Bool)
  /-- BEAT_TIMEOUT (R448): A beat without completion after 100 µs ends with TIMEOUT. -/
  | beatTimeout (k : Fin 17) (ch : Fin 64) (n : Nat) (off : Nat)
  /-- DESCRIPTOR_COMPLETE (R450): A descriptor whose beats have all completed writes its status and adds to its cell in chain order. -/
  | descriptorComplete (k : Fin 17) (ch : Fin 64)
  /-- COALESCE_TIMER (R458): CH_COAL.TIME after the first uncounted IRQ descriptor the channel sets its DONE bit. -/
  | coalesceTimer (k : Fin 17) (ch : Fin 64)
  /-- DRAIN_WINDOW_END (R459): At the end of the 50 µs drain window channels still draining end with DOMAIN_OFF. -/
  | drainWindowEnd (r : RidgeId)
  /-- PARCEL_GO (R472): A write of RZ_P_CMD.GO starts fetching a parcel on the selected slot. -/
  | parcelGo (req : Fin 18) (dw : BitVec 26) (v : Word)
  /-- PARCEL_STOP (R479): A write of RZ_P_CMD.STOP ends the fetch and truncates undecrypted records. -/
  | parcelStop (req : Fin 18) (dw : BitVec 26) (v : Word)
  /-- PARCEL_HEADER (R473): A fetched parcel header is checked and the parcel accepted or refused. -/
  | parcelHeader (n : Fin 4) (code : Nat) (h : BitVec 1024)
  /-- RECORD_DECRYPT (R474): A fetched record is decrypted, authenticated, unpacked and queued. -/
  | recordDecrypt (n : Fin 4) (tagOk : Bool) (d : BitVec 512) (params : BitVec 2048) (data : Nat)
  /-- RECORD_PROBE_DONE (R477): The probe passes of a programmed slab complete and its records commit or retry. -/
  | recordProbeDone (r : RidgeId) (c : SiteId) (e : EngineId) (p : SlabId) (rowErr : List Int) (sumErr : List Int)
  /-- FLIP_ARM (R488): A write of RZ_FLIP_CTL.ARM arms a version flip for a ridge. -/
  | flipArm (req : Fin 18) (dw : BitVec 26) (v : Word)
  /-- OLD_VERSION_FREE (R490): When all older steps have committed the old copy's entries are emptied and its slabs queued for erase. -/
  | oldVersionFree (r : RidgeId)
  /-- REBUILD_ENTER (R491): Setting a REBUILD bit empties the ridge's map and queues a ridge-scope erase. -/
  | rebuildEnter (req : Fin 18) (dw : BitVec 26) (v : Word)
  /-- REBUILD_EXIT (R491): A held clear of a REBUILD bit takes effect when the ridge's queued records have ended. -/
  | rebuildExit (r : RidgeId)
  /-- EXPORT_GO (R498): RZ_X_CMD GO starts exporting the active version as four parcels. -/
  | exportGo (req : Fin 18) (dw : BitVec 26) (v : Word)
  /-- EXPORT_STOP (R498): RZ_X_CMD STOP ends an export. -/
  | exportStop (req : Fin 18) (dw : BitVec 26) (v : Word)
  /-- EXPORT_DONE (R498): An export ends and raises EXPORT_DONE. -/
  | exportDone
  /-- LAYER_MAP_JOURNAL (R485): Changed layer-map entries are journalled to flash within 100 ms. -/
  | layerMapJournal
  /-- SQ_TAIL_WRITE (R536): A write of SV_SQ_TAIL advances the submission tail or is ignored. -/
  | sqTailWrite (req : Fin 18) (dw : BitVec 26) (v : Word)
  /-- SUBMISSION_FETCH (R506): The serving unit fetches the next submission entry and acts on it. -/
  | submissionFetch (r : RidgeId) (entry : Option (BitVec 512)) (data : Option (BitVec 32768))
  /-- OPEN (R507): Open a sequence from the request and start its prefix walk. -/
  | openSeq (r : RidgeId) (entry : BitVec 512)
  /-- CANCEL (R507): Stop a sequence and discard its unreleased tokens. -/
  | cancel (r : RidgeId) (entry : BitVec 512)
  /-- RELEASE (R507): Return a DONE sequence to FREE. -/
  | release (r : RidgeId) (entry : BitVec 512)
  /-- PARK (R507): Park a sequence with reason HOST. -/
  | park (r : RidgeId) (entry : BitVec 512)
  /-- RESUME (R507): Clear reason HOST and re-evaluate the sequence's parking. -/
  | resume (r : RidgeId) (entry : BitVec 512)
  /-- SET_STOP (R507): Fetch stop-class data into a class. -/
  | setStop (r : RidgeId) (entry : BitVec 512) (data : Option (BitVec 32768))
  /-- WALK_DONE (R515): The prefix walk ends, setting CACHED and PREFILL. -/
  | walkDone (q : BitVec 15) (prompt : Option (List Word))
  /-- BATCH_COMPOSE (R520): When the ready cell allows, the serving unit composes and writes a batch for a ridge. -/
  | batchCompose (r : RidgeId) (given : List (BitVec 15 × List Word))
  /-- BUDGET_REFILL (R522): Each millisecond the budget unit adds each account's rate to its balance. -/
  | budgetRefill
  /-- EMIT_ARRIVAL (R525): An emit arrives at the serving unit and each entry receives a verdict. -/
  | emitArrival (p : Machine.Packet)
  /-- FINAL_COMMIT (R564): An emitting ridge's COMMIT reaches the serving unit and the step's changes become committed. -/
  | finalCommit (p : Machine.Packet)
  /-- SERVING_RETRACT (R563): A retract at the serving unit undoes provisional changes and retracts affected batches. -/
  | servingRetract (p : Machine.Packet)
  /-- AMENDED_BATCH (R563): After the replay's emits are answered, an amended batch is written to the destinations. -/
  | amendedBatch (r : RidgeId) (step : Word)
  /-- RING_COAL_TIMER (R535): COAL_TIME after the first unsignalled record the ring is signalled. -/
  | ringCoalTimer (g : Fin 256)
  /-- RING_HEAD_WRITE (R536): A write of SV_RING_HEAD frees records or is ignored. -/
  | ringHeadWrite (req : Fin 18) (dw : BitVec 26) (v : Word)
  /-- EXPERT_MAP_WRITE (R530): A write of an expert-map or slot-table entry is stored or rejected. -/
  | expertMapWrite (req : Fin 18) (dw : BitVec 26) (v : Word)
  /-- SPOOR_FLUSH (R518): SP_CMD FLUSH removes a ridge's unreferenced nodes and marks the rest DROP. -/
  | spoorFlush (req : Fin 18) (dw : BitVec 26) (v : Word)
  /-- STEP_ADVANCE (R545): When the step cell holds QUORUM and the window allows, the ridge advances its step counter. -/
  | stepAdvance (r : RidgeId) (bad : List Nat)
  /-- STEP_COMMIT (R551): When all commit conditions hold, the ridge commits its oldest step and sends COMMIT. -/
  | stepCommit (r : RidgeId)
  /-- COMMIT (R552): A received COMMIT marks the source's entry in the step committed. -/
  | commit (p : Machine.Packet)
  /-- RETRACT (R556): A received RETRACT enters the void table and may retract dependent steps. -/
  | retract (p : Machine.Packet)
  /-- REPLAY_ENTER (R557): After the stop and drain, each core enters the replay vector with the replay record written. -/
  | replayEnter (r : RidgeId) (bad : List Nat)
  /-- CLASSIFY_START (R565): A classification starts in the running frame after its event. -/
  | classifyStart (r : RidgeId) (c : SiteId) (e : Fin 9) (moved : List (Fin 512 × Fin 544 × Nat)) (err : List Int) (err2 : List Int)
  /-- CLASSIFY_MIRROR_READY (R566): Slab 8 finishes programming as mirror and the classification's echoes complete. -/
  | classifyMirrorReady (r : RidgeId) (c : SiteId) (e : EngineId) (err : List Int) (err2 : List Int)
  /-- CLASSIFY_TIMEOUT (R566): A mirror not ready within TMO_MS ends the classification UNRESOLVED. -/
  | classifyTimeout (r : RidgeId) (c : SiteId) (e : EngineId)
  /-- IFT_DUE (R568): A core site or engine falls due for its in-field test. -/
  | iftDue (r : RidgeId) (c : SiteId) (e : Fin 9)
  /-- IFT_CMD (R568): A write of RI_IFT_CMD starts an in-field test at once. -/
  | iftCmd (req : Fin 18) (dw : BitVec 26) (v : Word)
  /-- IFT_WAIT_TIMEOUT (R569): A core test finding no halted boundary within WAIT_S requests a temporary migration. -/
  | iftWaitTimeout (r : RidgeId)
  /-- IFT_RETRY (R569): A test waiting for a scree site is retried hourly. -/
  | iftRetry (r : RidgeId) (overdue : Bool)
  /-- CORE_TEST_DONE (R571): A 40 ms core test ends with RETURN or site retirement. -/
  | coreTestDone (r : RidgeId) (c : SiteId) (pass : Bool)
  /-- ENGINE_TEST_SLAB_DONE (R570): An engine test finishes one slab's probes and scan and aliases it back. -/
  | engineTestSlabDone (r : RidgeId) (c : SiteId) (e : EngineId) (moved : List (Fin 512 × Fin 544 × Nat)) (faults : List (Fin 528 × Fin 544 × Int))
  /-- FS_POP (R575): A BAR0 write of FS_POP removes the oldest fault signature. -/
  | fsPop (req : Fin 18) (dw : BitVec 26) (v : Word)
  /-- EPOCH_ARRIVAL (R578): A twin receives epoch traffic and acknowledges a complete epoch. -/
  | epochArrival (src : Machine.Source) (e : Machine.Epoch) (whole : Bool)
  /-- EPOCH_ACK (R579): An active die receives an epoch acknowledgement, releasing handles and gated tokens. -/
  | epochAck (n : Word)
  /-- TW_ACK_LATE (R580): An acknowledgement missing for 4 periods raises TW_ACK_LATE. -/
  | twAckLate
  /-- TWIN_RESUME (R582): TW_CMD RESUME applies the named epoch, makes the die active and writes records. -/
  | twinResume (req : Fin 18) (dw : BitVec 26) (v : Word)
  /-- TWIN_RESYNC (R583): TW_CMD RESYNC copies the whole serving area and KV region to a new twin. -/
  | twinResync (req : Fin 18) (dw : BitVec 26) (v : Word)
  /-- RESYNC_DONE (R583): A resync completes and epochs continue. -/
  | resyncDone
  /-- BIND (R600): Bind a ridge to a tenant key from a signed bind blob. -/
  | bind (req : Fin 18) (dw : BitVec 26) (v : Word) (signed : Bool)
  /-- UNBIND (R601): Unbind a ridge, destroying its keys and starting its scrub. -/
  | unbind (req : Fin 18) (dw : BitVec 26) (v : Word)
  /-- UNBIND_SCRUB_DONE (R601): The ridge scrub completes and the ridge becomes UNBOUND_DIRTY. -/
  | unbindScrubDone
  /-- KEY_LOAD (R606): Unwrap a parcel key into a key slot. -/
  | keyLoad (req : Fin 18) (dw : BitVec 26) (v : Word) (signed : Bool) (unwraps : Bool)
  /-- KEY_CLEAR (R607): Clear a parcel-key slot. -/
  | keyClear (req : Fin 18) (dw : BitVec 26) (v : Word)
  /-- GRANT (R614): Load a signed grant. -/
  | grant (req : Fin 18) (dw : BitVec 26) (v : Word) (signed : Bool)
  /-- REVOKE (R616): Load a revocation of a grant. -/
  | revoke (req : Fin 18) (dw : BitVec 26) (v : Word) (signed : Bool) (blob : Option (DWord × DWord))
  /-- ALLOW (R602): Set a ridge's program allowlist. -/
  | allow (req : Fin 18) (dw : BitVec 26) (v : Word) (signed : Bool)
  /-- ROOT_ADD (R616): Install a switch root certificate. -/
  | rootAdd (req : Fin 18) (dw : BitVec 26) (v : Word)
  /-- SVN_RAISE (R592): Raise the fused minimum SVN. -/
  | svnRaise (req : Fin 18) (dw : BitVec 26) (v : Word)
  /-- GET_VERSION (R595): SPDM GET_VERSION request. -/
  | getVersion
  /-- GET_CAPABILITIES (R595): SPDM GET_CAPABILITIES request. -/
  | getCapabilities
  /-- NEGOTIATE_ALGORITHMS (R595): SPDM NEGOTIATE_ALGORITHMS request. -/
  | negotiateAlgorithms (offered : Bool)
  /-- GET_DIGESTS (R596): SPDM GET_DIGESTS request. -/
  | getDigests
  /-- GET_CERTIFICATE (R596): SPDM GET_CERTIFICATE request. -/
  | getCertificate (slot : Fin 8)
  /-- CHALLENGE (R595): SPDM CHALLENGE request. -/
  | challenge (slot : Fin 8)
  /-- GET_MEASUREMENTS (R597): SPDM GET_MEASUREMENTS request. -/
  | getMeasurements (index : BitVec 8)
  /-- KEY_EXCHANGE (R595): SPDM KEY_EXCHANGE request, refused with Busy beyond 8 sessions. -/
  | keyExchange (id : Word)
  /-- FINISH (R595): SPDM FINISH request. -/
  | finish (id : Word) (ok : Bool)
  /-- HEARTBEAT (R595): SPDM HEARTBEAT request. -/
  | heartbeat (id : Word)
  /-- KEY_UPDATE (R595): SPDM KEY_UPDATE request. -/
  | keyUpdate (id : Word)
  /-- END_SESSION (R595): SPDM END_SESSION request. -/
  | endSession (id : Word)
  /-- SPDM_UNSUPPORTED (R595): Any other SPDM request is answered with ERROR UnsupportedRequest. -/
  | spdmUnsupported
  /-- DIE_ACTIVE (R627): PM_DIE_CMD ACTIVE takes the die from Standby to Active. -/
  | dieActive (req : Fin 18) (dw : BitVec 26) (v : Word)
  /-- DIE_STANDBY (R627): PM_DIE_CMD STANDBY takes the die from Active to Standby when every ridge is Off. -/
  | dieStandby (req : Fin 18) (dw : BitVec 26) (v : Word)
  /-- DIE_HOLD (R627): PM_DIE_CMD HOLD runs the normal rail-down order from Standby. -/
  | dieHold (req : Fin 18) (dw : BitVec 26) (v : Word)
  /-- RIDGE_RUN (R632): PM_RIDGE_CMD RUN wakes a ridge. -/
  | ridgeRun (req : Fin 18) (dw : BitVec 26) (v : Word)
  /-- RIDGE_NAP (R633): PM_RIDGE_CMD NAP starts entry to Nap. -/
  | ridgeNap (req : Fin 18) (dw : BitVec 26) (v : Word)
  /-- RIDGE_OFF (R633): PM_RIDGE_CMD OFF starts entry to Off. -/
  | ridgeOff (req : Fin 18) (dw : BitVec 26) (v : Word)
  /-- DOORBELL (R632): A write of PM_DOORBELL wakes the selected ridge. -/
  | doorbell (req : Fin 18) (dw : BitVec 26) (v : Word)
  /-- RIDGE_TIMER_EXPIRY (R632): PM_RIDGE_TIMER reaching 0 wakes the ridge. -/
  | ridgeTimerExpiry (r : RidgeId)
  /-- DOZE_ENTRY (R631): After DOZE_CYC idle cycles a ridge enters Doze. -/
  | dozeEntry (r : RidgeId)
  /-- AUTO_NAP (R631): After NAP_US in Doze with AUTO_NAP a ridge enters Nap. -/
  | autoNap (r : RidgeId)
  /-- ENTRY_SUSPEND_DONE (R633): Programming suspends after its row and entry reaches abort point A2. -/
  | entrySuspendDone (r : RidgeId)
  /-- ENTRY_FRAME_GATE (R633): At the next frame boundary clocks gate and the ridge completes entry to Nap or Off. -/
  | entryFrameGate (r : RidgeId)
  /-- RIDGE_WAKE_DONE (R630): A ridge completes its wake to Run, zeroing unretained rows and setting a new epoch. -/
  | ridgeWakeDone (r : RidgeId)
  /-- I3C_ADDRESS_MATCH (R628): An I3C address match in Hold wakes the base camp toward Standby. -/
  | i3cAddressMatch (data : List Byte)
  /-- HOLD_WAKE_TIMER (R627): The base-camp wake timer expiring wakes the die from Hold. -/
  | holdWakeTimer
  /-- RAIL_WARNING (R637): A core, SRAM or array rail below its warning level starts a low-voltage hold. -/
  | railWarning (rail : Fin 3)
  /-- LV_HOLD_END (R638): 20 µs after the rails recover the hold ends and discarded passes rerun. -/
  | lvHoldEnd (us : Nat)
  /-- OTHER_RAIL_DIP (R639): VPGM, VDD_BASE or SerDes dips abort programming or raise RAIL_FAULT. -/
  | otherRailDip (rail : Fin 8) (level : Fin 3)
  /-- RAIL_RESET_LEVEL (R640): A rail below its reset level starts the emergency rail-down order. -/
  | railResetLevel (rail : Fin 4)
  /-- POWER_GOOD_FALL (R801): A power-good falling while enabled starts the emergency order. -/
  | powerGoodFall (rail : Fin 11)
  /-- RAIL_DOWN_STEP (R640): In the rail-down order the next enable is cleared after power-good falls or the wait expires. -/
  | railDownStep (stuck : Bool)
  /-- PWR_FAIL (R643): PWR_FAIL_N low for 1 µs latches a power-fail and starts the flush. -/
  | pwrFail
  /-- PF_RAIL_DOWN (R643): 5 µs after the flush completes the normal rail-down order starts. -/
  | pfRailDown
  /-- VDD_BASE_LOSS (R642): VDD_BASE below its reset level resets the whole die. -/
  | vddBaseLoss
  /-- GOVERNOR_INTERVAL (R645): Each 1 µs interval the governor sets the die limit and every core's frame allowance. -/
  | governorInterval (uncontrolled : Nat) (energy : Nat)
  /-- CONVERSION_DONE (R658): A lookout conversion ends and the converter starts the next by priority. -/
  | conversionDone (n : Fin 3) (code : BitVec 12) (value : Int) (us : BitVec 16)
  /-- FIXED_SCAN_DUE (R655): A fixed-scan conversion falls due. -/
  | fixedScanDue (n : Fin 3) (k : Machine.LookKind)
  /-- SCAN_ENTRY_DUE (R657): An enabled scan-list entry falls due. -/
  | scanEntryDue (n : Fin 3) (e : Fin 64)
  /-- URGENT_REQUEST (R659): A write of LK_URG_CMD or a comparator trip queues an urgent conversion. -/
  | urgentRequest (req : Fin 18) (dw : BitVec 26) (v : Word)
  /-- LK_BUF_HEAD_WRITE (R678): A write of LK_BUF_HEAD frees buffer entries. -/
  | lkBufHeadWrite (req : Fin 18) (dw : BitVec 26) (v : Word)
  /-- LK_BUF_ENABLE (R678): A write of LK_BUF_CFG.EN = 1 empties the buffer. -/
  | lkBufEnable (req : Fin 18) (dw : BitVec 26) (v : Word)
  /-- THERMAL_TICK (R671): At each 1 ms tick a ridge's THERM falls, rises or holds. -/
  | thermalTick
  /-- TRIP_CLEAR (R677): A write of LT_TRIP_CLR releases the trip if the base-camp sensors are cool. -/
  | tripClear (req : Fin 18) (dw : BitVec 26) (v : Word)
  /-- SENSOR_CLEAR (R668): A write of LT_SENS_CLR makes a broken sensor valid again. -/
  | sensorClear (req : Fin 18) (dw : BitVec 26) (v : Word)
  /-- STACK_TEMP_REPORT (R665): A stack's temperature report is read once per ms and sets its band and trip test. -/
  | stackTempReport (h : StackId) (x : Int)
  /-- BAND_INIT (R817): When first readings and stack reports are in, or after 5 ms, bands are set and store settlement proceeds. -/
  | bandInit (moved : List (Fin 39168 × Fin 512 × Fin 544 × Nat))
  /-- CAL_CONV (R689): Calibrate the column converters and verify trims of engines in scope. -/
  | calConv (req : Fin 18) (dw : BitVec 26) (v : Word)
  /-- CAL_ROWDRV (R689): Calibrate the row-drive trims of engines in scope. -/
  | calRowdrv (req : Fin 18) (dw : BitVec 26) (v : Word)
  /-- CAL_DRIFT (R685): Run an immediate drift fit of slabs in scope. -/
  | calDrift (req : Fin 18) (dw : BitVec 26) (v : Word)
  /-- CAL_SERDES (R692): Retrain a fabric port with full equalisation and measure its eyes. -/
  | calSerdes (req : Fin 18) (dw : BitVec 26) (v : Word)
  /-- CAL_LOOKOUT (R693): Calibrate a lookout converter's gain and offset. -/
  | calLookout (req : Fin 18) (dw : BitVec 26) (v : Word)
  /-- CAL_SENSOR (R694): Calibrate the offset trim of thermal sensors. -/
  | calSensor (req : Fin 18) (dw : BitVec 26) (v : Word)
  /-- CAL_RESTORE (R695): Reload factory trims from fuses for the scope. -/
  | calRestore (req : Fin 18) (dw : BitVec 26) (v : Word)
  /-- CALIBRATION_FRAME (R688): A calibration frame uses each engine's pass edges for calibration conversions. -/
  | calibrationFrame (r : RidgeId) (c : SiteId)
  /-- LOOKOUT_TEST_WINDOW (R693): A lookout calibration window puts the converter in TEST for up to 100 µs. -/
  | lookoutTestWindow (n : Fin 3) (begin' : Bool)
  /-- CAL_UNIT_DONE (R687): A unit's measurements end and it takes new values or keeps old ones. -/
  | calUnitDone (n : Fin 4096) (m : Machine.CalMeas)
  /-- CAL_RECORD_WRITE (R695): A committed calibration value is written to flash within 100 ms. -/
  | calRecordWrite
  /-- CAIRN_SECOND (R702): Once per second the cairn updates histograms, extremes and counters. -/
  | cairnSecond
  /-- RAIL_HOUR (R703): At each hour boundary a RAIL_HOUR record is appended and rail extremes reset. -/
  | railHour
  /-- CAIRN_TIME_SET (R699): A write of CAIRN_TIME_HI sets the calendar clock and records TIME_SET. -/
  | cairnTimeSet (req : Fin 18) (dw : BitVec 26) (v : Word)
  /-- CAIRN_PERIODIC_FLUSH (R708): Every PERIOD_H hours a cairn flush starts. -/
  | cairnPeriodicFlush
  /-- FAULT_FLUSH_SPACING (R708): At the end of the 10 s spacing merged fault-flush requests start one flush. -/
  | faultFlushSpacing
  /-- CAIRN_FLUSH_DONE (R707): A flush completes with its snapshot header written. -/
  | cairnFlushDone (fail : Bool)
  /-- CAIRN_FREEZE (R710): A write of CAIRN_CTL.FREEZE freezes or releases the cairn's working state. -/
  | cairnFreeze (req : Fin 18) (dw : BitVec 26) (v : Word)
  /-- FREEZE_TIMEOUT (R711): A freeze lasting FREEZE_MS ends and raises FREEZE_TMO. -/
  | freezeTimeout
  /-- CAIRN_READ_ADDR (R712): A write of CAIRN_RD_ADDR starts a 2 KiB copy into CAIRN_WIN. -/
  | cairnReadAddr (req : Fin 18) (dw : BitVec 26) (v : Word)
  /-- CAIRN_READ_READY (R712): The copy into CAIRN_WIN completes and RD_READY is set. -/
  | cairnReadReady
  /-- CAIRN_CLEAR (R713): A write of CAIRN_CTL.CLEAR zeroes the snapshot part. -/
  | cairnClear (req : Fin 18) (dw : BitVec 26) (v : Word)
  /-- CAIRN_FLUSH_REQUEST (R715): A write of CAIRN_CTL.FLUSH requests a flush under fault-flush spacing. -/
  | cairnFlushRequest (req : Fin 18) (dw : BitVec 26) (v : Word)
  /-- VDD_BASE_RISE (R719): VDD_BASE rising starts the boot ROM and base-camp firmware in Hold. -/
  | vddBaseRise
  /-- RAIL_POWER_GOOD (R799): A rail's power-good rises and the next enable follows 100 µs later. -/
  | railPowerGood (rail : Fin 11) (vin : Nat)
  /-- HBM_TRAINING_DONE (R719): HBM training completes, keys are drawn and store settlement begins. -/
  | hbmTrainingDone (fru : Bool) (pmod : Bool) (hbm : BitVec 6) (trained : BitVec 6)
  /-- PROBE_SWEEP_DONE (R724): The start-up probe sweep completes and layer-map recovery runs. -/
  | probeSweepDone (failures : List Machine.SweepFail)
  /-- PARAM_CELL_PROGRAM (R722): Changed block tables and parameters are programmed into parameter cells within 100 ms. -/
  | paramCellProgram (r : RidgeId) (c : SiteId) (e : EngineId) (cut : Bool)
  /-- RESET_COLD (R727): BC_RESET OP COLD flushes, runs the rail-down order and restarts from step 1. -/
  | resetCold (req : Fin 18) (dw : BitVec 26) (v : Word)
  /-- RESET_WARM (R727): BC_RESET OP WARM takes the main rails down and restarts from step 4. -/
  | resetWarm (req : Fin 18) (dw : BitVec 26) (v : Word)
  /-- RESET_RIDGE (R730): BC_RESET OP RIDGE retracts, drains and resets the named ridges. -/
  | resetRidge (req : Fin 18) (dw : BitVec 26) (v : Word)
  /-- PERST (R727): PERST_N asserted performs a die warm reset or resets the host port alone. -/
  | perst
  /-- WATCHDOG_EXPIRY (R727): The base-camp watchdog expiring runs the emergency order and a cold start. -/
  | watchdogExpiry
  /-- CORE_SOFT_RESET (R731): BLK_CTL.SOFT_RESET of a core page halts and resets the core. -/
  | coreSoftReset (req : Fin 18) (dw : BitVec 26) (v : Word)
  /-- BLOCK_SOFT_RESET (R732): BLK_CTL.SOFT_RESET of another page resets the block's status and ends its work. -/
  | blockSoftReset (req : Fin 18) (dw : BitVec 26) (v : Word)
  /-- FW_STAGE (R734): BC_UPDATE_CMD STAGE writes and verifies an image in the other slot. -/
  | fwStage (req : Fin 18) (dw : BitVec 26) (v : Word) (img : Machine.FwImage) (flashOk : Bool)
  /-- FW_SWITCH (R734): BC_UPDATE_CMD SWITCH re-enters the boot ROM on the staged slot in trial. -/
  | fwSwitch (req : Fin 18) (dw : BitVec 26) (v : Word)
  /-- FW_CONFIRM (R736): BC_UPDATE_CMD CONFIRM makes the trial image permanent. -/
  | fwConfirm (req : Fin 18) (dw : BitVec 26) (v : Word)
  /-- FW_REVERT (R736): BC_UPDATE_CMD REVERT switches back to the other slot. -/
  | fwRevert (req : Fin 18) (dw : BitVec 26) (v : Word)
  /-- TRIAL_TIMEOUT (R736): 600 s without CONFIRM reverts the trial image. -/
  | trialTimeout
  /-- UC_LOAD (R737): BC_UPDATE_CMD UC_LOAD loads ridge microcode on a drained ridge. -/
  | ucLoad (req : Fin 18) (dw : BitVec 26) (v : Word)
  /-- SERDES_LOAD (R738): BC_UPDATE_CMD SERDES_LOAD reloads a port's SerDes firmware. -/
  | serdesLoad (req : Fin 18) (dw : BitVec 26) (v : Word)
  /-- PLDM_FW_UPDATE (R760): A PLDM Type 5 firmware update writes the slot not running. -/
  | pldmFwUpdate (img : Machine.FwImage) (flashOk : Bool)
  /-- ACTIVATE_FIRMWARE (R760): PLDM ActivateFirmware acts as SWITCH. -/
  | activateFirmware
  /-- FLR_VF (R746): A Function Level Reset of VF r resets ridge r and the VF's state. -/
  | flrVf (r : RidgeId)
  /-- FLR_PF (R746): A Function Level Reset of the PF resets its configuration, windows and VF Enable. -/
  | flrPf
  /-- D3HOT_ENTRY (R745): A function entering D3hot stops decoding and holds its drover HOST beats. -/
  | d3hotEntry (fn : Fin 17)
  /-- D0_RETURN (R745): A function returning to D0 releases its held HOST beats. -/
  | d0Return (fn : Fin 17)
  /-- CONFIG_REQUEST (R804): A configuration request is answered, with CRS until the die reaches Standby. -/
  | configRequest (fn : Fin 17) (access : Machine.CfgAccess)
  /-- APERTURE_READ (R752): A BAR2 read through an aperture window reads a scratchpad row or cache-tier unit. -/
  | apertureRead (fn : Fin 17) (offset : BitVec 36) (len : Fin 513) (busy : Bool) (corrected : Nat) (badWords : List (Fin 64)) (badCodewords : List (Fin 8))
  /-- APERTURE_WRITE (R750): A BAR2 write through an aperture window writes a row, words or DWs. -/
  | apertureWrite (fn : Fin 17) (offset : BitVec 36) (data : Row) (enables : BitVec 512) (busy : Bool) (corrected : Nat) (badWords : List (Fin 64)) (badCodewords : List (Fin 8))
  /-- APERTURE_CFG_WRITE (R749): A write of HP_AP_CFG configures a window, limited for a VF to its own windows. -/
  | apertureCfgWrite (req : Fin 18) (dw : BitVec 26) (v : Word)
  /-- ENTDAA (R756): I3C ENTDAA assigns a dynamic address. -/
  | entdaa (addr : BitVec 7)
  /-- SETDASA (R756): I3C SETDASA sets a dynamic address from the static one. -/
  | setdasa (addr : BitVec 7)
  /-- SETNEWDA (R756): I3C SETNEWDA changes the dynamic address. -/
  | setnewda (addr : BitVec 7)
  /-- RSTDAA (R757): I3C RSTDAA returns the port to I²C mode. -/
  | rstdaa
  /-- ENEC (R756): I3C ENEC enables events such as IBIs. -/
  | enec (direct : Bool) (events : Byte)
  /-- DISEC (R756): I3C DISEC disables events. -/
  | disec (direct : Bool) (events : Byte)
  /-- GETPID (R756): I3C GETPID returns the Provisioned ID. -/
  | getpid
  /-- GETBCR (R756): I3C GETBCR returns the bus characteristics register. -/
  | getbcr
  /-- GETDCR (R756): I3C GETDCR returns the device characteristics register. -/
  | getdcr
  /-- GETSTATUS (R756): I3C GETSTATUS returns device status. -/
  | getstatus
  /-- GETMWL (R756): I3C GETMWL returns the maximum write length. -/
  | getmwl
  /-- GETMRL (R756): I3C GETMRL returns the maximum read length. -/
  | getmrl
  /-- RSTACT (R756): I3C RSTACT sets the target reset action. -/
  | rstact (direct : Bool) (action : Byte)
  /-- CCC_UNSUPPORTED (R756): Any other direct CCC is answered with NACK. -/
  | cccUnsupported
  /-- MCTP_MESSAGE (R759): An MCTP message is reassembled and dispatched by type, or discarded. -/
  | mctpMessage (src : Byte) (tag : BitVec 4) (som : Bool) (eom : Bool) (body : List Byte) (session : Word) (verdict : Bool)
  /-- SET_ENDPOINT_ID (R759): MCTP Set Endpoint ID assigns the endpoint ID. -/
  | setEndpointId (eid : Byte)
  /-- POLL_FOR_PLATFORM_EVENT_MESSAGE (R761): PLDM PollForPlatformEventMessage returns the next queued event. -/
  | pollForPlatformEventMessage
  /-- FS_FETCH (R762): Vendor FS_FETCH returns the oldest fault signature. -/
  | fsFetch
  /-- MG_FS_POP (R763): Vendor FS_POP removes the oldest signature when FS_OWNER is 1. -/
  | mgFsPop
  /-- CAIRN_READ (R762): Vendor CAIRN_READ returns 2 KiB of cairn data. -/
  | cairnRead (addr : BitVec 24)
  /-- IDENTITY (R762): Vendor IDENTITY returns serial, stepping, coordinate and firmware versions. -/
  | identity
  /-- MG_STATE (R762): Vendor STATE returns PM_DIE_STAT, BC_STAT and LT_TRIP_INFO. -/
  | mgState
  /-- FABREF_LOSS (R805): FABREF absent or off-frequency for 10 µs runs the emergency order. -/
  | fabrefLoss
  /-- CRYSTAL_STOP (R807): A crystal stopped for 1 ms switches the 32.768 kHz base to the RC oscillator. -/
  | crystalStop
  /-- SETPOINT_STEP (R797): The base camp moves the VDD_CORE setpoint by one 5 mV step. -/
  | setpointStep
  /-- SCAN_DONE (R99): A queued SCAN operation finishes reading the slab, counts cells outside their program windows and raises OP_DONE, and for an UNRESOLVED classification leads to column replacement or valley mode. -/
  | scanDone (r : RidgeId) (c : SiteId) (e : EngineId) (moved : List (Fin 512 × Fin 544 × Nat))
  /-- REFRESH_EN (R92): A write that returns SD_CTL.REFRESH_EN to 1 queues due slabs in class 5 and overdue slabs in class 3. -/
  | refreshEn (req : Fin 18) (dw : BitVec 26) (v : Word)
  /-- PLAN_ENTRY_WRITE (R404): A write of a port's plan entry makes a port in PLAN_MISMATCH re-check its observed peer and module against the plan. -/
  | planEntryWrite (req : Fin 18) (dw : BitVec 26) (v : Word)
  /-- LINK_CHANGE (R767): The host port link comes up, goes down or changes speed or width, updating HP_LINK and raising LINK_CHANGE. -/
  | linkChange (up : Bool) (flit : Bool) (speed : Nat) (width : Nat)
  /-- IDE_KM (R611): An IDE_KM message over DOE inside an SPDM session programs or controls the keys of a link or selective IDE stream. -/
  | ideKm (session : Word) (stream : Fin 18) (op : Machine.IdeOp)
  /-- CAL_SERDES_TIMEOUT (R691): A SERDES calibration whose port has not reached UP within 1 s ends with RESULT = STATE. -/
  | calSerdesTimeout
  /-- POWER_GOOD_TIMEOUT (R719): A rail enabled in start-up step 4 that shows no power-good within 2 ms ends the start with the normal rail-down order, Hold and RAIL_FAULT. -/
  | powerGoodTimeout
  /-- STORE_SETTLEMENT_DONE (R719): Unclean-off recovery and the weight-image rebuild of step 7 complete, the ridges return to Off, the network PLL stops and the die enters Standby. -/
  | storeSettlementDone
  /-- START_DONE (R723): Layer-map recovery finishes reading and checking the journal, BC_STAT.SERVING becomes 1 and START_DONE is raised. -/
  | startDone
  /-- CRYSTAL_RESTART (R807): The 32.768 kHz crystal oscillates again and the base camp returns its time base from the RC-derived clock to the crystal. -/
  | crystalRestart
  /-- SV_ACC_BAL_WRITE (R512): A write of SV_ACC_BAL sets an account's balance and resumes sequences parked for BUDGET when the balance reaches RESUME. -/
  | svAccBalWrite (req : Fin 18) (dw : BitVec 26) (v : Word)
  deriving DecidableEq, Repr

end Sys2Proof
end

