-- ==== Sys2Proof/Machine/Numeric.lean ====
section
/-! DEFINITION. Numeric formats and their conversions (R162–R184, R819): exact values, one rounding to nearest even,
saturation, NaN inputs, OCP Microscaling blocks and ledger-24 groups. -/
namespace Sys2Proof.Machine

/-! ## Rows as bit strings (R5) -/

/-- `w` bits of a number from bit `lo`. -/
def bitsOf (v lo w : Nat) : Nat := (v >>> lo) % 2 ^ w

/-- A number with `w` bits from bit `lo` replaced. -/
def setBits (v lo w n : Nat) : Nat := (v >>> (lo + w)) <<< (lo + w) + (n % 2 ^ w) <<< lo + v % 2 ^ lo

/-- `w` bits of a row from bit `lo`. -/
def rowBits (v : Row) (lo w : Nat) : Nat := bitsOf v.toNat lo w

/-- A run of `n` ones from bit `lo`. -/
def onesAt (lo n : Nat) : Row := BitVec.ofNat 4096 ((2 ^ n - 1) <<< lo)

/-- A row with `w` bits from bit `lo` replaced. -/
def setRowBits (v : Row) (lo w n : Nat) : Row := BitVec.ofNat 4096 (setBits v.toNat lo w n)

/-- Elements of `w` bits as one number, the first lowest. -/
def packBits (w : Nat) : List Nat → Nat
  | [] => 0
  | x :: rest => x % 2 ^ w + packBits w rest <<< w

/-- Two's complement of `w` bits read as an integer. -/
def signedOf (w n : Nat) : Int := if n % 2 ^ w ≥ 2 ^ (w - 1) then (n % 2 ^ w : Nat) - (2 ^ w : Nat) else (n % 2 ^ w : Nat)

/-- An integer as `w` bits of two's complement. -/
def wrapInt (w : Nat) (x : Int) : Nat := (x % (2 ^ w : Nat)).toNat

/-! ## Exact values -/

/-- A value on its way into a conversion: a NaN input, an infinity, or ±num/den. -/
inductive FVal where
  | nan
  | inf (neg : Bool)
  | fin (neg : Bool) (num den : Nat)
  deriving DecidableEq, Repr

/-- Status bits of NSTAT as a conversion sets them (R183). -/
def flagSat : Nat := 1
def flagInvalid : Nat := 2
def flagLgOvf : Nat := 4
def flagLedger : Nat := 8

/-- An integer as a value. -/
def FVal.ofInt (x : Int) : FVal := .fin (decide (x < 0)) x.natAbs 1

/-- n/d rounded to the nearest integer, ties to even. -/
def roundEven (n d : Nat) : Nat :=
  let q := n / d
  let r := n % d
  if 2 * r > d ∨ (2 * r = d ∧ q % 2 = 1) then q + 1 else q

/-- An integer over a positive denominator rounded to the nearest integer, ties to even. -/
def roundEvenInt (n : Int) (d : Nat) : Int := if n < 0 then -(roundEven n.natAbs d : Int) else roundEven n.natAbs d

/-- ⌊log₂ (n/d)⌋ of a positive rational. -/
def floorLog2 (n d : Nat) : Int :=
  let e : Int := (Nat.log2 n : Int) - (Nat.log2 d : Int)
  let below : Bool := if e ≥ 0 then decide (n < d * 2 ^ e.toNat) else decide (n * 2 ^ (-e).toNat < d)
  if below then e - 1 else e

/-- n/d divided by 2^e, rounded to nearest even. -/
def roundScaled (n d : Nat) (e : Int) : Nat :=
  if e ≥ 0 then roundEven n (d * 2 ^ e.toNat) else roundEven (n * 2 ^ (-e).toNat) d

def FVal.neg : FVal → FVal
  | .nan => .nan
  | .inf b => .inf (!b)
  | .fin b n d => .fin (!b) n d

/-- The exact sum: an exact 0 is +0 unless every addend is −0 (R819). -/
def FVal.add : FVal → FVal → FVal
  | .nan, _ => .nan
  | _, .nan => .nan
  | .inf a, .inf b => if a = b then .inf a else .nan
  | .inf a, _ => .inf a
  | _, .inf b => .inf b
  | .fin a n d, .fin b m e =>
    let x : Int := (if a then -((n * e : Nat) : Int) else ((n * e : Nat) : Int))
      + (if b then -((m * d : Nat) : Int) else ((m * d : Nat) : Int))
    if x = 0 then .fin (a && b && n = 0 && m = 0) 0 1 else .fin (decide (x < 0)) x.natAbs (d * e)

/-- The exact product; the sign is the exclusive or of the operands' (R819). -/
def FVal.mul : FVal → FVal → FVal
  | .nan, _ => .nan
  | _, .nan => .nan
  | .inf a, .inf b => .inf (a != b)
  | .inf a, .fin b n _ => if n = 0 then .nan else .inf (a != b)
  | .fin a n _, .inf b => if n = 0 then .nan else .inf (a != b)
  | .fin a n d, .fin b m e => .fin (a != b) (n * m) (d * e)

/-- v / s by the table of R819. -/
def FVal.div : FVal → FVal → FVal
  | .nan, _ => .nan
  | _, .nan => .nan
  | .inf _, .inf _ => .nan
  | .inf a, .fin b _ _ => .inf (a != b)
  | .fin a _ _, .inf b => .fin (a != b) 0 1
  | .fin a n d, .fin b m e =>
    if m = 0 then (if n = 0 then .nan else .inf (a != b)) else .fin (a != b) (n * e) (d * m)

/-- a < b of two numbers, neither a NaN. -/
def FVal.lt : FVal → FVal → Bool
  | .nan, _ => false
  | _, .nan => false
  | .inf a, .inf b => a && !b
  | .inf a, .fin _ _ _ => a
  | .fin _ _ _, .inf b => !b
  | .fin a n d, .fin b m e =>
    decide ((if a then -((n * e : Nat) : Int) else ((n * e : Nat) : Int))
      < (if b then -((m * d : Nat) : Int) else ((m * d : Nat) : Int)))

/-- a = b of two numbers, neither a NaN (−0 equals +0). -/
def FVal.eq (a b : FVal) : Bool :=
  match a, b with
  | .nan, _ => false
  | _, .nan => false
  | _, _ => !a.lt b && !b.lt a

def FVal.isNan : FVal → Bool
  | .nan => true
  | _ => false

def FVal.isZero : FVal → Bool
  | .fin _ n _ => decide (n = 0)
  | _ => false

def FVal.abs : FVal → FVal
  | .nan => .nan
  | .inf _ => .inf false
  | .fin _ n d => .fin false n d

/-! ## Floating-point formats (R170, R182) -/

/-- A floating-point format: exponent and fraction bits, bias, the code of the largest finite magnitude, the code of its
NaN, and whether the top exponent holds infinities and NaNs. -/
structure FFmt where
  ebits : Nat
  mbits : Nat
  bias : Nat
  maxCode : Nat
  nanCode : Nat
  ieee : Bool
  deriving DecidableEq, Repr

def fp32 : FFmt := ⟨8, 23, 127, 0x7F7FFFFF, 0x7FC00000, true⟩
def fp16 : FFmt := ⟨5, 10, 15, 0x7BFF, 0x7E00, true⟩
def bf16 : FFmt := ⟨8, 7, 127, 0x7F7F, 0x7FC0, true⟩
def e4m3 : FFmt := ⟨4, 3, 7, 0x7E, 0x7F, false⟩
def e5m2 : FFmt := ⟨5, 2, 15, 0x7B, 0x7E, true⟩
def e2m3 : FFmt := ⟨2, 3, 1, 0x1F, 0, false⟩
def e3m2 : FFmt := ⟨3, 2, 3, 0x1F, 0, false⟩
def e2m1 : FFmt := ⟨2, 1, 1, 0x7, 0, false⟩

/-- Bits of a code. -/
def FFmt.width (f : FFmt) : Nat := 1 + f.ebits + f.mbits

/-- The code of a value: one rounding to nearest even; beyond range the largest finite of its sign with SAT; a NaN input
the format's NaN with INVALID (R182). -/
def FFmt.encode (f : FFmt) : FVal → Nat × Nat
  | .nan => (f.nanCode, flagInvalid)
  | .inf b => ((if b then 2 ^ (f.ebits + f.mbits) else 0) + f.maxCode, flagSat)
  | .fin b n d =>
    let sign := if b then 2 ^ (f.ebits + f.mbits) else 0
    if n = 0 then (sign, 0)
    else
      let emin : Int := 1 - (f.bias : Int)
      let e := max (floorLog2 n d) emin
      let code := (e - emin).toNat * 2 ^ f.mbits + roundScaled n d (e - f.mbits)
      if code > f.maxCode then (sign + f.maxCode, flagSat) else (sign + code, 0)

/-- n × 2^e as a value. -/
def dyadic (neg : Bool) (n : Nat) (e : Int) : FVal :=
  if e ≥ 0 then .fin neg (n * 2 ^ e.toNat) 1 else .fin neg n (2 ^ (-e).toNat)

/-- The value of a code. -/
def FFmt.decode (f : FFmt) (code : Nat) : FVal :=
  let neg := decide (code / 2 ^ (f.ebits + f.mbits) % 2 = 1)
  let ex := code / 2 ^ f.mbits % 2 ^ f.ebits
  let m := code % 2 ^ f.mbits
  let mag := code % 2 ^ (f.ebits + f.mbits)
  if f.ieee && decide (ex = 2 ^ f.ebits - 1) then (if m = 0 then .inf neg else .nan)
  else if f = e4m3 ∧ mag = 0x7F then .nan
  else if ex = 0 then dyadic neg m (1 - (f.bias : Int) - f.mbits)
  else dyadic neg (2 ^ f.mbits + m) ((ex : Int) - f.bias - f.mbits)

/-- The value of fp32 bits. -/
def f32 (bits : Nat) : FVal := fp32.decode (bits % 2 ^ 32)

/-- Rounds a value into an integer range: nearest even, saturating with SAT; a NaN input gives 0 with INVALID (R182). -/
def toIntRange (lo hi : Int) : FVal → Int × Nat
  | .nan => (0, flagInvalid)
  | .inf b => (if b then lo else hi, flagSat)
  | .fin b n d =>
    let q : Int := roundEven n d
    let x := if b then -q else q
    if x < lo then (lo, flagSat) else if x > hi then (hi, flagSat) else (x, 0)

/-! ## OCP Microscaling blocks (R170–R174) -/

/-- The element formats of the MX codes 9–13; MXINT8 is code 14. -/
def mxFmt : Nat → FFmt
  | 9 => e4m3 | 10 => e5m2 | 11 => e2m3 | 12 => e3m2 | _ => e2m1

/-- e_max of R172 and R173. -/
def mxEmax : Nat → Int
  | 9 => 8 | 10 => 15 | 11 => 2 | 12 => 4 | 13 => 2 | _ => 0

/-- Bits of an MX element. -/
def mxWidth : Nat → Nat
  | 11 => 6 | 12 => 6 | 13 => 4 | _ => 8

/-- The larger of two magnitudes, NaN inputs left out. -/
def maxMag (a b : FVal) : FVal := if b.isNan then a else if a.lt b.abs then b.abs else a

/-- An element of an MX block of shared exponent X (R172–R174). -/
def mxElem (ty : Nat) (X : Int) (v : FVal) : Nat × Nat :=
  if v.isNan then (if ty ≤ 10 then ((mxFmt ty).nanCode, flagInvalid) else (0, flagInvalid))
  else
    let scaled := v.mul (dyadic false 1 (-X))
    if ty = 14 then
      let (k, f) := toIntRange (-127) 127 (scaled.mul (.fin false 64 1))
      (wrapInt 8 k, f)
    else (mxFmt ty).encode scaled

/-- Encodes 32 values: the scale byte, the element codes and the flags (R172). -/
def mxEncode (ty : Nat) (vs : List FVal) : Nat × List Nat × Nat :=
  let M := vs.foldl maxMag (.fin false 0 1)
  if M.isZero then
    let l := vs.map (fun v => if v.isNan then mxElem ty 0 v else (0, 0))
    (0x7F, l.map (·.1), l.foldl (fun f x => f ||| x.2) 0)
  else
    let lg : Int := match M with | .fin _ n d => floorLog2 n d | _ => 1000
    let X := max (-127) (min 127 (lg - mxEmax ty))
    let l := vs.map (mxElem ty X)
    ((X + 127).toNat, l.map (·.1), l.foldl (fun f x => f ||| x.2) 0)

/-- Decodes an MX element under its scale byte (R173, R174). -/
def mxDecode (ty scale code : Nat) : FVal :=
  if scale = 0xFF then .nan
  else
    let v := if ty = 14 then (FVal.ofInt (signedOf 8 code)).mul (.fin false 1 64) else (mxFmt ty).decode code
    v.mul (dyadic false 1 ((scale : Int) - 127))

/-! ## Ledger-24 (R176–R181) -/

/-- A ledger-24 group: its exponent and 32 mantissas. -/
structure Lg24 where
  exp : Nat
  mant : List Int
  deriving DecidableEq, Repr

/-- The invalid group. -/
def Lg24.invalid : Lg24 := ⟨255, List.replicate 32 0⟩

/-- need(v) of R178. -/
def lgNeed : FVal → Int
  | .fin _ n d => if n = 0 then 0 else floorLog2 n d + 128
  | _ => 1000

/-- v / 2^(E − 150) to nearest even. -/
def lgRound (E : Int) : FVal → Int
  | .fin b n d => let m : Int := roundScaled n d (E - 150); if b then -m else m
  | .inf b => if b then -(2 ^ 24) else 2 ^ 24
  | .nan => 0

/-- Encodes exact values with an exponent of at least `floor` (R178, R179). -/
def lgEncodeFrom (floor : Int) (vs : List FVal) : Lg24 × Nat :=
  if vs.any FVal.isNan then (Lg24.invalid, flagInvalid)
  else
    let E0 := vs.foldl (fun e v => max e (lgNeed v)) (max 0 floor)
    let E := if E0 ≤ 254 ∧ vs.any (fun v => decide ((lgRound E0 v).natAbs ≥ 2 ^ 23)) then E0 + 1 else E0
    if E ≤ 254 then (⟨E.toNat, vs.map (lgRound E)⟩, 0)
    else
      (⟨254, vs.map (fun v =>
        let m := lgRound 254 v
        if m ≥ 2 ^ 23 then 2 ^ 23 - 1 else if m ≤ -(2 ^ 23) then -(2 ^ 23 - 1) else m)⟩, flagLgOvf)

/-- Element i of a group as a value; a NaN input in an invalid group (R176, R181). -/
def Lg24.value (g : Lg24) (i : Nat) : FVal :=
  if g.exp = 255 then .nan
  else let m := g.mant.getD i 0; dyadic (decide (m < 0)) m.natAbs ((g.exp : Int) - 150)

/-- Combines two groups (R179, R181). -/
def Lg24.combine (a b : Lg24) : Lg24 × Nat :=
  if a.exp = 255 ∨ b.exp = 255 then (Lg24.invalid, flagInvalid)
  else lgEncodeFrom (max a.exp b.exp : Nat) ((List.range 32).map (fun i => (a.value i).add (b.value i)))

/-- Group g of a ledger-24 row (R177). -/
def rowGroup (v : Row) (g : Nat) : Lg24 :=
  ⟨rowBits v (8 * (480 + g)) 8, (List.range 32).map (fun i => signedOf 24 (rowBits v (24 * (32 * g + i)) 24))⟩

/-- A row with group g replaced. -/
def setGroup (v : Row) (g : Nat) (x : Lg24) : Row :=
  let t := setRowBits v (768 * g) 768 (packBits 24 (x.mant.map (wrapInt 24)))
  setRowBits t (8 * (480 + g)) 8 x.exp

/-! ## Vector types (R272) -/

/-- Elements of a vector register by type code. -/
def typeCount : Nat → Nat
  | 0 => 512 | 1 => 512 | 2 => 256 | 3 => 128 | 4 => 256 | 5 => 256 | 6 => 128 | 7 => 512 | 8 => 512
  | 9 => 480 | 10 => 480 | 11 => 640 | 12 => 640 | 13 => 960 | 14 => 480 | 15 => 160
  | 16 => 4096 | 17 => 2048 | 18 => 1365 | 19 => 1024 | 20 => 819 | 21 => 682 | 22 => 585 | 23 => 512
  | _ => 0

/-- Bits of an element of types 0–8 and 16–23. -/
def typeWidth : Nat → Nat
  | 0 => 8 | 1 => 8 | 2 => 16 | 3 => 32 | 4 => 16 | 5 => 16 | 6 => 32 | 7 => 8 | 8 => 8
  | 16 => 1 | 17 => 2 | 18 => 3 | 19 => 4 | 20 => 5 | 21 => 6 | 22 => 7 | _ => 8

/-- Whether a type is an integer one of codes 0–3. -/
def typeInt (ty : Nat) : Bool := decide (ty ≤ 3)

/-- The floating-point format of codes 4–8. -/
def typeFmt : Nat → FFmt
  | 4 => bf16 | 5 => fp16 | 6 => fp32 | 7 => e4m3 | _ => e5m2

/-- The range of an integer type. -/
def intLo : Nat → Int
  | 0 => -128 | 1 => 0 | 2 => -32768 | _ => -2147483648
def intHi : Nat → Int
  | 0 => 127 | 1 => 255 | 2 => 32767 | _ => 2147483647

/-- Element i of a register as raw bits, types 0–8 and 16–23. -/
def rawElem (ty : Nat) (v : Row) (i : Nat) : Nat := rowBits v (typeWidth ty * i) (typeWidth ty)

/-- An integer element of types 0–3. -/
def intElem (ty : Nat) (raw : Nat) : Int := if ty = 1 then (raw : Int) else signedOf (typeWidth ty) raw

/-- Element i of a register of types 0–15 as an exact value. -/
def elemValue (ty : Nat) (v : Row) (i : Nat) : FVal :=
  if ty ≤ 3 then FVal.ofInt (intElem ty (rawElem ty v i))
  else if ty ≤ 8 then (typeFmt ty).decode (rawElem ty v i)
  else if ty ≤ 14 then mxDecode ty (rowBits v (8 * (480 + i / 32)) 8) (rowBits v (mxWidth ty * i) (mxWidth ty))
  else (rowGroup v (i / 32)).value (i % 32)

/-- The bits and flags of a value in types 0–8 (R182). -/
def encodeElem (ty : Nat) (x : FVal) : Nat × Nat :=
  if ty ≤ 3 then let (k, f) := toIntRange (intLo ty) (intHi ty) x; (wrapInt (typeWidth ty) k, f)
  else (typeFmt ty).encode x

/-- A row of elements of types 0–8 from element 0; every other byte is 0. -/
def packElems (ty : Nat) (l : List Nat) : Row := BitVec.ofNat 4096 (packBits (typeWidth ty) l)

/-- Splits a list into pieces of 32. -/
def chunks32 : Nat → List FVal → List (List FVal)
  | 0, _ => []
  | n + 1, l => l.take 32 :: chunks32 n (l.drop 32)

/-- A DRAIN's or a conversion's outputs from element 0 in the layout of FMT; every other byte is 0 (R168, R171, R177). -/
def encodeRow (ty : Nat) (vs : List FVal) : Row × Nat :=
  if ty ≤ 8 then
    let l := vs.map (encodeElem ty)
    (packElems ty (l.map (·.1)), l.foldl (fun f x => f ||| x.2) 0)
  else
    let blocks := chunks32 (vs.length / 32) vs
    if ty = 15 then
      let l := blocks.map (lgEncodeFrom 0)
      ((List.range l.length).foldl (fun v g => setGroup v g (l.getD g (Lg24.invalid, 0)).1) 0, l.foldl (fun f x => f ||| x.2) 0)
    else
      let l := blocks.map (mxEncode ty)
      let elems := packBits (mxWidth ty) (l.map (fun x => x.2.1)).flatten
      let scales := packBits 8 (l.map (·.1))
      (BitVec.ofNat 4096 (elems % 2 ^ 3840 + scales <<< 3840), l.foldl (fun f x => f ||| x.2.2) 0)

end Sys2Proof.Machine
end

