-- ==== Sys2Proof/Config.lean ====
section
/-! DEFINITION. What the spec leaves open: constants without a body, so that no proof can rest on a value of theirs. -/
namespace Sys2Proof.Config

/-- The n-th free value: a value that an effect writes and the spec does not state. -/
opaque freeValue : Nat → Nat

/-- Byte k of the 200 bytes of a fault signature that the UEFI specification, and not this one, lays out (R572): a
function of the severity and the calendar time. -/
opaque cperByte : Nat → Nat → Nat → Byte

/-- The conductance of a cell, in 1/1,000 µS, after one pulse on it: a function of the conductance read before, of the
polarity (true SET), the pulse's number of its kind, and the free-value counter (R42 gives the direction only). -/
opaque pulsed : Nat → Bool → Nat → Nat → Nat

/-- Which of the codes within 1 ulp of the exact value an elementary function takes (R275, R291): by function (0 vexp,
1 vrsqrt, 2 vrcp, 3 ln), type code and operand. -/
opaque ulpChoice : Nat → Nat → Nat → Nat

/-- The probability, as fp32 bits, that tk.out shows of a list position whose p is not valid (R282, R283): by the core's
clock and the position. -/
opaque staleP : Nat → Nat → Nat

/-- The digest of a measurement block, by its index and the values that it measures (R597). -/
opaque measurement : Nat → List Nat → Nat

/-- Ovesk's PCI-SIG identifier (R743). -/
opaque vendorId : Nat

/-- The subsystem IDs that the board FRU EEPROM holds (R743). -/
opaque subsystemIds : Nat

/-- Ovesk's MIPI manufacturer ID (R756). -/
opaque mipiId : Nat

/-- The bus and device characteristics registers of the management port, by register (0 GETBCR, 1 GETDCR): the spec gives no
value (R756). -/
opaque i3cRegister : Nat → Nat

/-- The maximum write and read lengths of the management port, by command (0 GETMWL, 1 GETMRL), which the spec does not
give (R756). -/
opaque i3cLength : Nat → Nat

/-- The layout version in the header of the cairn's hut region (R701). -/
opaque cairnLayout : Nat

end Sys2Proof.Config
end

