-- ==== Sys2Proof/Machine/Regs.lean ====
section
/-! DEFINITION. The registers of every page, from the register tables of the spec: the key of each register in
the register file (its BAR0 address, and for a register behind a selection the index it selects), its fields under the
spec's own names REGISTER.FIELD, its reset value, the access code of each field, and the interrupt bits of each page. -/
namespace Sys2Proof.Machine

/-- The largest number of cells behind one selected register (CAL_RD_SEL has 20 bits). -/
def regSpan : Nat := 1048576
/-- The register file's key of offset `off` of page `page`, cell `idx` of its selection (R782, R783, R787). -/
def regKey (page off idx : Nat) : Nat := (page * 4096 + off) * regSpan + idx
/-- Die page p lies at p × 0x1000 (R782). -/
def diePage (p : Nat) : Nat := p
/-- Ridge page p of ridge r (R782, R783). -/
def ridgePage (r p : Nat) : Nat := 4096 + r * 1024 + p
/-- Page p of the core-site window of site s of ridge r (R783, R787). -/
def sitePage (r s p : Nat) : Nat := 4096 + r * 1024 + 256 + s * 16 + p
/-- The trust page of ridge k, or the die trust page for k = 16 (R784, R785). -/
def trustPage (k : Nat) : Nat := if k = 16 then diePage 8 else ridgePage k 4
/-- The drover control page of ridge k, or of the die drover for k = 16. -/
def drvCtlPage (k : Nat) : Nat := if k = 16 then diePage 36 else ridgePage k 5
/-- The page that holds channel c of drover k (16 the die drover). -/
def drvChPage (k c : Nat) : Nat := if k = 16 then diePage (37 + c / 16) else ridgePage k (6 + c / 16)
/-- The base of channel c in its channel page (R462). -/
def drvChBase (c : Nat) : Nat := 0x100 + 0x40 * (c % 16)

/-- A field of a register: the register's key, the lowest bit and the width. -/
structure Field where
  key : Nat
  lo : Nat
  w : Nat
  deriving DecidableEq, Repr

/-- The access codes of R8. -/
inductive Access where
  | ro | rw | w1c | w1s | wo | rwl | rsv
  deriving DecidableEq, Repr

/-- One field of a register table: lowest bit, width, access code. -/
structure FieldRow where
  lo : Nat
  w : Nat
  acc : Access
  deriving DecidableEq, Repr

/-- The selection a register stands behind: the selector's offset on the page, its bits, and the largest index. -/
structure Sel where
  off : Nat
  lo : Nat
  w : Nat
  cap : Nat
  deriving DecidableEq, Repr

/-- One row of a register table: offset, how many registers in a row, reset value, 1 for the LO and 2 for the HI half
of a 64-bit pair (0 else), the selection, and the fields (a bit in no field is reserved). -/
structure RegRow where
  off : Nat
  count : Nat
  reset : Nat
  pair : Nat
  sel : Option Sel
  fields : List FieldRow
  deriving DecidableEq, Repr

/-- What a page of the BAR0 map holds (R784, R785, R787). -/
inductive PageKind where
  | identity | start | power | lookout | thermal | cairn | mgmt | calib | trust | hostPort | dieInt | dieStore | residency | serving | walker | cacheTier | stack | flank | saddle | fabric | port | drvCtl | drvCh | ridgeStore | ridgeCore | ridgeSync | ridgeInt | core | engine | spad | imem | reserved
  deriving DecidableEq, Repr

/-- R90 -/
def SD_CTL : Nat := regKey (diePage 11) (0x40) 0
def SD_CTL.RD_DEBT_EN : Field := ⟨SD_CTL, 2, 1⟩
def SD_CTL.DRIFT_EN : Field := ⟨SD_CTL, 1, 1⟩
def SD_CTL.REFRESH_EN : Field := ⟨SD_CTL, 0, 1⟩
/-- R90 -/
def SD_BAND_INC (n : Nat) : Nat := regKey (diePage 11) (0x44 + 4 * n) 0
def SD_BAND_INC.INC (n : Nat) : Field := ⟨(SD_BAND_INC n), 0, 32⟩
/-- R90 -/
def SD_RD_INC : Nat := regKey (diePage 11) (0x58) 0
def SD_RD_INC.RD_INC : Field := ⟨SD_RD_INC, 0, 16⟩
/-- R90 -/
def SD_DRIFT_PERIOD : Nat := regKey (diePage 11) (0x5C) 0
def SD_DRIFT_PERIOD.P4 : Field := ⟨SD_DRIFT_PERIOD, 24, 8⟩
def SD_DRIFT_PERIOD.P3 : Field := ⟨SD_DRIFT_PERIOD, 16, 8⟩
def SD_DRIFT_PERIOD.P2 : Field := ⟨SD_DRIFT_PERIOD, 8, 8⟩
def SD_DRIFT_PERIOD.P01 : Field := ⟨SD_DRIFT_PERIOD, 0, 8⟩
/-- R90 -/
def SD_VALLEY : Nat := regKey (diePage 11) (0x60) 0
def SD_VALLEY.VALLEY_USED : Field := ⟨SD_VALLEY, 16, 16⟩
def SD_VALLEY.VALLEY_MAX : Field := ⟨SD_VALLEY, 0, 16⟩
/-- R90 -/
def SD_IMAGE_BASE : Nat := regKey (diePage 11) (0x64) 0
def SD_IMAGE_BASE.BASE_4G : Field := ⟨SD_IMAGE_BASE, 0, 6⟩
/-- R90 -/
def SD_ERASE_SCOPE : Nat := regKey (diePage 11) (0x6C) 0
def SD_ERASE_SCOPE.SLAB : Field := ⟨SD_ERASE_SCOPE, 17, 4⟩
def SD_ERASE_SCOPE.ENGINE : Field := ⟨SD_ERASE_SCOPE, 14, 3⟩
def SD_ERASE_SCOPE.SITE : Field := ⟨SD_ERASE_SCOPE, 8, 6⟩
def SD_ERASE_SCOPE.RIDGE : Field := ⟨SD_ERASE_SCOPE, 4, 4⟩
def SD_ERASE_SCOPE.KIND : Field := ⟨SD_ERASE_SCOPE, 0, 4⟩
/-- R90 -/
def SD_ERASE_CMD : Nat := regKey (diePage 11) (0x70) 0
def SD_ERASE_CMD.KEY : Field := ⟨SD_ERASE_CMD, 0, 16⟩
/-- R90 -/
def SD_ERASE_STAT : Nat := regKey (diePage 11) (0x74) 0
def SD_ERASE_STAT.PROGRESS : Field := ⟨SD_ERASE_STAT, 8, 24⟩
def SD_ERASE_STAT.BUSY_REJECT : Field := ⟨SD_ERASE_STAT, 3, 1⟩
def SD_ERASE_STAT.STATE : Field := ⟨SD_ERASE_STAT, 0, 3⟩
/-- R90 -/
def SD_STAT : Nat := regKey (diePage 11) (0x78) 0
def SD_STAT.OPEN_INTENTS : Field := ⟨SD_STAT, 16, 16⟩
def SD_STAT.UNCLEAN_START : Field := ⟨SD_STAT, 1, 1⟩
def SD_STAT.UNSERVABLE : Field := ⟨SD_STAT, 0, 1⟩
/-- R98 -/
def SR_CTL (r : Nat) : Nat := regKey (ridgePage r 0) (0x40) 0
def SR_CTL.PGM_TOKENS (r : Nat) : Field := ⟨(SR_CTL r), 0, 6⟩
def SR_CTL.LEASE_MODE (r : Nat) : Field := ⟨(SR_CTL r), 8, 1⟩
/-- R98 -/
def SR_STAT (r : Nat) : Nat := regKey (ridgePage r 0) (0x44) 0
def SR_STAT.PGM_ACTIVE (r : Nat) : Field := ⟨(SR_STAT r), 0, 6⟩
def SR_STAT.STANDIN_ANY (r : Nat) : Field := ⟨(SR_STAT r), 6, 1⟩
def SR_STAT.LEASE_PENDING (r : Nat) : Field := ⟨(SR_STAT r), 7, 1⟩
def SR_STAT.QUEUE_DEPTH (r : Nat) : Field := ⟨(SR_STAT r), 8, 16⟩
/-- R98 -/
def SR_CMD (r : Nat) : Nat := regKey (ridgePage r 0) (0x48) 0
/-- R98 -/
def SR_CMD_STAT (r : Nat) : Nat := regKey (ridgePage r 0) (0x4C) 0
def SR_CMD_STAT.RESULT (r : Nat) : Field := ⟨(SR_CMD_STAT r), 0, 4⟩
/-- R98 -/
def SR_LEASE_REQ (r : Nat) : Nat := regKey (ridgePage r 0) (0x50) 0
def SR_LEASE_REQ.VALID (r : Nat) : Field := ⟨(SR_LEASE_REQ r), 0, 1⟩
def SR_LEASE_REQ.SITE (r : Nat) : Field := ⟨(SR_LEASE_REQ r), 1, 6⟩
def SR_LEASE_REQ.ENGINE (r : Nat) : Field := ⟨(SR_LEASE_REQ r), 7, 3⟩
def SR_LEASE_REQ.SLAB (r : Nat) : Field := ⟨(SR_LEASE_REQ r), 10, 4⟩
/-- R98 -/
def SR_LEASE_ACK (r : Nat) : Nat := regKey (ridgePage r 0) (0x54) 0
def SR_LEASE_ACK.ACK (r : Nat) : Field := ⟨(SR_LEASE_ACK r), 0, 1⟩
/-- R98 -/
def SR_SEL (r : Nat) : Nat := regKey (ridgePage r 0) (0x58) 0
def SR_SEL.SITE (r : Nat) : Field := ⟨(SR_SEL r), 0, 6⟩
def SR_SEL.ENGINE (r : Nat) : Field := ⟨(SR_SEL r), 6, 3⟩
def SR_SEL.SLAB (r : Nat) : Field := ⟨(SR_SEL r), 9, 4⟩
def SR_SEL.COLMAP_IDX (r : Nat) : Field := ⟨(SR_SEL r), 13, 4⟩
/-- R98 -/
def SR_SLAB_STATE (r : Nat) : Nat := regKey (ridgePage r 0) (0x5C) 0
def SR_SLAB_STATE.STATE (r : Nat) : Field := ⟨(SR_SLAB_STATE r), 0, 4⟩
def SR_SLAB_STATE.REPLACES (r : Nat) : Field := ⟨(SR_SLAB_STATE r), 4, 4⟩
def SR_SLAB_STATE.COLS_ASSIGNED (r : Nat) : Field := ⟨(SR_SLAB_STATE r), 8, 5⟩
def SR_SLAB_STATE.DRIFT_LIMIT (r : Nat) : Field := ⟨(SR_SLAB_STATE r), 13, 1⟩
def SR_SLAB_STATE.OVERDUE (r : Nat) : Field := ⟨(SR_SLAB_STATE r), 14, 1⟩
/-- R98 -/
def SR_SLAB_WEAR (r : Nat) : Nat := regKey (ridgePage r 0) (0x60) 0
def SR_SLAB_WEAR.CYCLES (r : Nat) : Field := ⟨(SR_SLAB_WEAR r), 0, 17⟩
/-- R98 -/
def SR_SLAB_DEBT (r : Nat) : Nat := regKey (ridgePage r 0) (0x64) 0
def SR_SLAB_DEBT.DEBT (r : Nat) : Field := ⟨(SR_SLAB_DEBT r), 0, 32⟩
/-- R98 -/
def SR_SLAB_DRIFT (r : Nat) : Nat := regKey (ridgePage r 0) (0x68) 0
def SR_SLAB_DRIFT.GAIN (r : Nat) : Field := ⟨(SR_SLAB_DRIFT r), 16, 16⟩
def SR_SLAB_DRIFT.OFFSET (r : Nat) : Field := ⟨(SR_SLAB_DRIFT r), 0, 16⟩
/-- R98 -/
def SR_COLMAP (r : Nat) : Nat := regKey (ridgePage r 0) (0x6C) 0
def SR_COLMAP.LOGICAL (r : Nat) : Field := ⟨(SR_COLMAP r), 0, 10⟩
def SR_COLMAP.VALID (r : Nat) : Field := ⟨(SR_COLMAP r), 15, 1⟩
/-- R98 -/
def SR_SLAB_PASSES_LO (r : Nat) : Nat := regKey (ridgePage r 0) (0x70) 0
/-- R98 -/
def SR_SLAB_PASSES_HI (r : Nat) : Nat := regKey (ridgePage r 0) (0x74) 0
/-- R156 -/
def ENG_CTL (r s e : Nat) : Nat := regKey (sitePage r s (1 + e)) (0x40) 0
def ENG_CTL.BIAS_HOLD (r s e : Nat) : Field := ⟨(ENG_CTL r s e), 16, 8⟩
def ENG_CTL.SAT_PERSIST (r s e : Nat) : Field := ⟨(ENG_CTL r s e), 8, 8⟩
def ENG_CTL.PH_FREEZE (r s e : Nat) : Field := ⟨(ENG_CTL r s e), 1, 1⟩
def ENG_CTL.QM_EN (r s e : Nat) : Field := ⟨(ENG_CTL r s e), 0, 1⟩
/-- R156 -/
def ENG_STAT (r s e : Nat) : Nat := regKey (sitePage r s (1 + e)) (0x44) 0
def ENG_STAT.GOV_ALLOW (r s e : Nat) : Field := ⟨(ENG_STAT r s e), 8, 5⟩
def ENG_STAT.BIASED (r s e : Nat) : Field := ⟨(ENG_STAT r s e), 6, 1⟩
def ENG_STAT.QMDEPTH (r s e : Nat) : Field := ⟨(ENG_STAT r s e), 3, 3⟩
def ENG_STAT.QDEPTH (r s e : Nat) : Field := ⟨(ENG_STAT r s e), 0, 3⟩
/-- R156 -/
def ENG_PASSES_LO (r s e : Nat) : Nat := regKey (sitePage r s (1 + e)) (0x48) 0
/-- R156 -/
def ENG_PASSES_HI (r s e : Nat) : Nat := regKey (sitePage r s (1 + e)) (0x4C) 0
/-- R156 -/
def ENG_CHK_PASSES (r s e : Nat) : Nat := regKey (sitePage r s (1 + e)) (0x50) 0
/-- R156 -/
def ENG_TALLY_EVT (r s e : Nat) : Nat := regKey (sitePage r s (1 + e)) (0x54) 0
/-- R156 -/
def ENG_TALLY_SKIP (r s e : Nat) : Nat := regKey (sitePage r s (1 + e)) (0x58) 0
/-- R156 -/
def ENG_TALLY_LAST (r s e : Nat) : Nat := regKey (sitePage r s (1 + e)) (0x5C) 0
def ENG_TALLY_LAST.SLAB (r s e : Nat) : Field := ⟨(ENG_TALLY_LAST r s e), 0, 4⟩
def ENG_TALLY_LAST.GROUP (r s e : Nat) : Field := ⟨(ENG_TALLY_LAST r s e), 4, 4⟩
def ENG_TALLY_LAST.SHAPE (r s e : Nat) : Field := ⟨(ENG_TALLY_LAST r s e), 8, 2⟩
def ENG_TALLY_LAST.DMAG (r s e : Nat) : Field := ⟨(ENG_TALLY_LAST r s e), 10, 22⟩
/-- R156 -/
def ENG_PROBE_CNT (r s e : Nat) : Nat := regKey (sitePage r s (1 + e)) (0x60) 0
def ENG_PROBE_CNT.PASSES (r s e : Nat) : Field := ⟨(ENG_PROBE_CNT r s e), 0, 16⟩
def ENG_PROBE_CNT.FAILS (r s e : Nat) : Field := ⟨(ENG_PROBE_CNT r s e), 16, 16⟩
/-- R156 -/
def ENG_PROBE_LAST (r s e : Nat) : Nat := regKey (sitePage r s (1 + e)) (0x64) 0
def ENG_PROBE_LAST.SLAB (r s e : Nat) : Field := ⟨(ENG_PROBE_LAST r s e), 0, 4⟩
def ENG_PROBE_LAST.KIND (r s e : Nat) : Field := ⟨(ENG_PROBE_LAST r s e), 4, 2⟩
def ENG_PROBE_LAST.COLUMN (r s e : Nat) : Field := ⟨(ENG_PROBE_LAST r s e), 6, 10⟩
def ENG_PROBE_LAST.MISMATCHES (r s e : Nat) : Field := ⟨(ENG_PROBE_LAST r s e), 16, 10⟩
/-- R156 -/
def ENG_ECHO_CNT (r s e : Nat) : Nat := regKey (sitePage r s (1 + e)) (0x68) 0
def ENG_ECHO_CNT.PASSES (r s e : Nat) : Field := ⟨(ENG_ECHO_CNT r s e), 0, 16⟩
def ENG_ECHO_CNT.MISMATCHES (r s e : Nat) : Field := ⟨(ENG_ECHO_CNT r s e), 16, 16⟩
/-- R156 -/
def ENG_ECHO_TOL (r s e : Nat) : Nat := regKey (sitePage r s (1 + e)) (0x6C) 0
def ENG_ECHO_TOL.TOL_W (r s e : Nat) : Field := ⟨(ENG_ECHO_TOL r s e), 0, 8⟩
def ENG_ECHO_TOL.TOL_N (r s e : Nat) : Field := ⟨(ENG_ECHO_TOL r s e), 8, 8⟩
def ENG_ECHO_TOL.TOL_X (r s e : Nat) : Field := ⟨(ENG_ECHO_TOL r s e), 16, 8⟩
/-- R156 -/
def ENG_SAT_SEL (r s e : Nat) : Nat := regKey (sitePage r s (1 + e)) (0x70) 0
def ENG_SAT_SEL.SLAB (r s e : Nat) : Field := ⟨(ENG_SAT_SEL r s e), 0, 4⟩
def ENG_SAT_SEL.COLUMN (r s e : Nat) : Field := ⟨(ENG_SAT_SEL r s e), 4, 10⟩
/-- R156 -/
def ENG_SAT_CNT (r s e i : Nat) : Nat := regKey (sitePage r s (1 + e)) (0x74) i
def ENG_SAT_CNT.COUNT (r s e i : Nat) : Field := ⟨(ENG_SAT_CNT r s e i), 0, 16⟩
/-- R156 -/
def ENG_SLABMAP (r s e : Nat) : Nat := regKey (sitePage r s (1 + e)) (0x78) 0
def ENG_SLABMAP.ROLE (r s e : Nat) : Field := ⟨(ENG_SLABMAP r s e), 0, 2⟩
def ENG_SLABMAP.TARGET (r s e : Nat) : Field := ⟨(ENG_SLABMAP r s e), 2, 3⟩
/-- R156 -/
def ENG_BT_SEL (r s e : Nat) : Nat := regKey (sitePage r s (1 + e)) (0x7C) 0
def ENG_BT_SEL.SLAB (r s e : Nat) : Field := ⟨(ENG_BT_SEL r s e), 0, 4⟩
def ENG_BT_SEL.BLOCK (r s e : Nat) : Field := ⟨(ENG_BT_SEL r s e), 4, 3⟩
/-- R156 -/
def ENG_BT_DATA (r s e i : Nat) : Nat := regKey (sitePage r s (1 + e)) (0x80) i
/-- R156 -/
def ENG_COL_SEL (r s e : Nat) : Nat := regKey (sitePage r s (1 + e)) (0x84) 0
def ENG_COL_SEL.SLAB (r s e : Nat) : Field := ⟨(ENG_COL_SEL r s e), 0, 4⟩
def ENG_COL_SEL.COLUMN (r s e : Nat) : Field := ⟨(ENG_COL_SEL r s e), 4, 10⟩
/-- R156 -/
def ENG_COL_DATA (r s e i : Nat) : Nat := regKey (sitePage r s (1 + e)) (0x88) i
def ENG_COL_DATA.SCALE (r s e i : Nat) : Field := ⟨(ENG_COL_DATA r s e i), 16, 16⟩
def ENG_COL_DATA.CENTRE (r s e i : Nat) : Field := ⟨(ENG_COL_DATA r s e i), 0, 16⟩
/-- R156 -/
def ENG_TRIM_SEL (r s e : Nat) : Nat := regKey (sitePage r s (1 + e)) (0x8C) 0
def ENG_TRIM_SEL.BAND (r s e : Nat) : Field := ⟨(ENG_TRIM_SEL r s e), 0, 3⟩
def ENG_TRIM_SEL.CONVERTER (r s e : Nat) : Field := ⟨(ENG_TRIM_SEL r s e), 3, 10⟩
/-- R156 -/
def ENG_TRIM_DATA (r s e i : Nat) : Nat := regKey (sitePage r s (1 + e)) (0x90) i
def ENG_TRIM_DATA.GAIN (r s e i : Nat) : Field := ⟨(ENG_TRIM_DATA r s e i), 8, 8⟩
def ENG_TRIM_DATA.OFFSET (r s e i : Nat) : Field := ⟨(ENG_TRIM_DATA r s e i), 0, 8⟩
/-- R156 -/
def ENG_SHADOW (r s e : Nat) : Nat := regKey (sitePage r s (1 + e)) (0x94) 0
def ENG_SHADOW.PENDING (r s e : Nat) : Field := ⟨(ENG_SHADOW r s e), 0, 1⟩
/-- R156 -/
def ENG_CVSTEER (r s e : Nat) : Nat := regKey (sitePage r s (1 + e)) (0x98) 0
def ENG_CVSTEER.VALID0 (r s e : Nat) : Field := ⟨(ENG_CVSTEER r s e), 0, 1⟩
def ENG_CVSTEER.COL0 (r s e : Nat) : Field := ⟨(ENG_CVSTEER r s e), 1, 10⟩
def ENG_CVSTEER.VALID1 (r s e : Nat) : Field := ⟨(ENG_CVSTEER r s e), 11, 1⟩
def ENG_CVSTEER.COL1 (r s e : Nat) : Field := ⟨(ENG_CVSTEER r s e), 12, 10⟩
/-- R156 -/
def ENG_PROBE_MISS (r s e : Nat) : Nat := regKey (sitePage r s (1 + e)) (0x9C) 0
/-- R199 -/
def NW_CTL (r s : Nat) : Nat := regKey (sitePage r s 0) (0x300) 0
def NW_CTL.WARMUP (r s : Nat) : Field := ⟨(NW_CTL r s), 16, 4⟩
def NW_CTL.FACTOR (r s : Nat) : Field := ⟨(NW_CTL r s), 8, 8⟩
def NW_CTL.EN (r s : Nat) : Field := ⟨(NW_CTL r s), 0, 1⟩
/-- R199 -/
def NW_SEL (r s : Nat) : Nat := regKey (sitePage r s 0) (0x304) 0
def NW_SEL.ENTRY (r s : Nat) : Field := ⟨(NW_SEL r s), 0, 8⟩
/-- R199 -/
def NW_EST (r s i : Nat) : Nat := regKey (sitePage r s 0) (0x308) i
/-- R199 -/
def NW_SCALE (r s i : Nat) : Nat := regKey (sitePage r s 0) (0x30C) i
/-- R199 -/
def NW_STAT (r s i : Nat) : Nat := regKey (sitePage r s 0) (0x310) i
def NW_STAT.FLAGS (r s i : Nat) : Field := ⟨(NW_STAT r s i), 16, 16⟩
def NW_STAT.U8 (r s i : Nat) : Field := ⟨(NW_STAT r s i), 9, 1⟩
def NW_STAT.ESCALATED (r s i : Nat) : Field := ⟨(NW_STAT r s i), 8, 1⟩
def NW_STAT.REPLAYS (r s i : Nat) : Field := ⟨(NW_STAT r s i), 4, 2⟩
def NW_STAT.OBS (r s i : Nat) : Field := ⟨(NW_STAT r s i), 0, 4⟩
/-- R199 -/
def NW_LAST_NORM (r s i : Nat) : Nat := regKey (sitePage r s 0) (0x314) i
/-- R199 -/
def NW_LAST_MAX (r s i : Nat) : Nat := regKey (sitePage r s 0) (0x318) i
/-- R252 -/
def CORE_CTL (r s : Nat) : Nat := regKey (sitePage r s 0) (0x40) 0
def CORE_CTL.EXC_MODE (r s : Nat) : Field := ⟨(CORE_CTL r s), 1, 1⟩
def CORE_CTL.HALT_REQ (r s : Nat) : Field := ⟨(CORE_CTL r s), 0, 1⟩
/-- R252 -/
def CORE_STAT (r s : Nat) : Nat := regKey (sitePage r s 0) (0x44) 0
def CORE_STAT.HOLD_CAUSE (r s : Nat) : Field := ⟨(CORE_STAT r s), 24, 3⟩
def CORE_STAT.WAKE_PEND (r s : Nat) : Field := ⟨(CORE_STAT r s), 16, 1⟩
def CORE_STAT.OUTSTANDING (r s : Nat) : Field := ⟨(CORE_STAT r s), 8, 7⟩
def CORE_STAT.STATE (r s : Nat) : Field := ⟨(CORE_STAT r s), 0, 4⟩
/-- R252 -/
def CORE_START (r s : Nat) : Nat := regKey (sitePage r s 0) (0x48) 0
def CORE_START.PC (r s : Nat) : Field := ⟨(CORE_START r s), 0, 12⟩
def CORE_START.GO (r s : Nat) : Field := ⟨(CORE_START r s), 31, 1⟩
/-- R252 -/
def CORE_PC (r s : Nat) : Nat := regKey (sitePage r s 0) (0x4C) 0
def CORE_PC.PC (r s : Nat) : Field := ⟨(CORE_PC r s), 0, 12⟩
/-- R252 -/
def CORE_EXC_VEC (r s : Nat) : Nat := regKey (sitePage r s 0) (0x50) 0
def CORE_EXC_VEC.VEC (r s : Nat) : Field := ⟨(CORE_EXC_VEC r s), 0, 12⟩
/-- R252 -/
def CORE_EXC_CAUSE (r s : Nat) : Nat := regKey (sitePage r s 0) (0x54) 0
def CORE_EXC_CAUSE.CAUSE (r s : Nat) : Field := ⟨(CORE_EXC_CAUSE r s), 0, 4⟩
def CORE_EXC_CAUSE.SUB (r s : Nat) : Field := ⟨(CORE_EXC_CAUSE r s), 4, 8⟩
def CORE_EXC_CAUSE.SLOT (r s : Nat) : Field := ⟨(CORE_EXC_CAUSE r s), 12, 3⟩
/-- R252 -/
def CORE_EXC_PC (r s : Nat) : Nat := regKey (sitePage r s 0) (0x58) 0
def CORE_EXC_PC.EPC (r s : Nat) : Field := ⟨(CORE_EXC_PC r s), 0, 12⟩
/-- R252 -/
def CORE_EXC_INFO (r s : Nat) : Nat := regKey (sitePage r s 0) (0x5C) 0
/-- R252 -/
def CORE_SYNC_TMO (r s : Nat) : Nat := regKey (sitePage r s 0) (0x60) 0
def CORE_SYNC_TMO.TMO (r s : Nat) : Field := ⟨(CORE_SYNC_TMO r s), 0, 24⟩
/-- R252 -/
def CORE_CYCLES_LO (r s : Nat) : Nat := regKey (sitePage r s 0) (0x64) 0
def CORE_CYCLES_LO.CYCLE (r s : Nat) : Field := ⟨(CORE_CYCLES_LO r s), 0, 32⟩
/-- R252 -/
def CORE_CYCLES_HI (r s : Nat) : Nat := regKey (sitePage r s 0) (0x68) 0
/-- R252 -/
def CORE_HOLD_CYCLES_LO (r s : Nat) : Nat := regKey (sitePage r s 0) (0x6C) 0
/-- R252 -/
def CORE_HOLD_CYCLES_HI (r s : Nat) : Nat := regKey (sitePage r s 0) (0x70) 0
/-- R252 -/
def CORE_IMEM_ECC (r s : Nat) : Nat := regKey (sitePage r s 0) (0x74) 0
def CORE_IMEM_ECC.CORRECTED (r s : Nat) : Field := ⟨(CORE_IMEM_ECC r s), 0, 16⟩
def CORE_IMEM_ECC.UNCORRECTABLE (r s : Nat) : Field := ⟨(CORE_IMEM_ECC r s), 16, 16⟩
/-- R252 -/
def CORE_SITE (r s : Nat) : Nat := regKey (sitePage r s 0) (0x78) 0
def CORE_SITE.SITE (r s : Nat) : Field := ⟨(CORE_SITE r s), 0, 6⟩
def CORE_SITE.LOGICAL (r s : Nat) : Field := ⟨(CORE_SITE r s), 8, 5⟩
def CORE_SITE.MAPPED (r s : Nat) : Field := ⟨(CORE_SITE r s), 13, 1⟩
def CORE_SITE.RIDGE (r s : Nat) : Field := ⟨(CORE_SITE r s), 16, 4⟩
/-- R252 -/
def CORE_DRV (r s : Nat) : Nat := regKey (sitePage r s 0) (0x7C) 0
def CORE_DRV.CH_MASK (r s : Nat) : Field := ⟨(CORE_DRV r s), 0, 32⟩
/-- R252 -/
def AW_SEL (r s : Nat) : Nat := regKey (sitePage r s 0) (0x80) 0
def AW_SEL.WINDOW (r s : Nat) : Field := ⟨(AW_SEL r s), 0, 4⟩
/-- R252 -/
def AW_TGT_LO (r s i : Nat) : Nat := regKey (sitePage r s 0) (0x84) i
/-- R252 -/
def AW_TGT_HI (r s i : Nat) : Nat := regKey (sitePage r s 0) (0x88) i
def AW_TGT_HI.DIE (r s i : Nat) : Field := ⟨(AW_TGT_HI r s i), 0, 8⟩
/-- R252 -/
def AW_SIZE (r s i : Nat) : Nat := regKey (sitePage r s 0) (0x8C) i
def AW_SIZE.SIZE (r s i : Nat) : Field := ⟨(AW_SIZE r s i), 0, 29⟩
/-- R252 -/
def AW_CTL (r s i : Nat) : Nat := regKey (sitePage r s 0) (0x90) i
def AW_CTL.GEN (r s i : Nat) : Field := ⟨(AW_CTL r s i), 16, 16⟩
def AW_CTL.DENIED (r s i : Nat) : Field := ⟨(AW_CTL r s i), 8, 1⟩
def AW_CTL.REMOTE (r s i : Nat) : Field := ⟨(AW_CTL r s i), 5, 1⟩
def AW_CTL.KIND (r s i : Nat) : Field := ⟨(AW_CTL r s i), 3, 2⟩
def AW_CTL.WR (r s i : Nat) : Field := ⟨(AW_CTL r s i), 2, 1⟩
def AW_CTL.RD (r s i : Nat) : Field := ⟨(AW_CTL r s i), 1, 1⟩
def AW_CTL.VALID (r s i : Nat) : Field := ⟨(AW_CTL r s i), 0, 1⟩
/-- R258 -/
def RC_SITEMAP (r n : Nat) : Nat := regKey (ridgePage r 1) (0x40 + 4 * n) 0
def RC_SITEMAP.SITE (r n : Nat) : Field := ⟨(RC_SITEMAP r n), 0, 6⟩
/-- R258 -/
def RC_SCREE (r : Nat) : Nat := regKey (ridgePage r 1) (0x60) 0
def RC_SCREE.SCREE0 (r : Nat) : Field := ⟨(RC_SCREE r), 0, 6⟩
def RC_SCREE.FREE0 (r : Nat) : Field := ⟨(RC_SCREE r), 6, 1⟩
def RC_SCREE.SCREE1 (r : Nat) : Field := ⟨(RC_SCREE r), 8, 6⟩
def RC_SCREE.FREE1 (r : Nat) : Field := ⟨(RC_SCREE r), 14, 1⟩
/-- R258 -/
def RC_RETIRED_LO (r : Nat) : Nat := regKey (ridgePage r 1) (0x64) 0
/-- R258 -/
def RC_RETIRED_HI (r : Nat) : Nat := regKey (ridgePage r 1) (0x68) 0
/-- R258 -/
def RC_MIG_CMD (r : Nat) : Nat := regKey (ridgePage r 1) (0x6C) 0
def RC_MIG_CMD.OP (r : Nat) : Field := ⟨(RC_MIG_CMD r), 0, 4⟩
def RC_MIG_CMD.LOGICAL (r : Nat) : Field := ⟨(RC_MIG_CMD r), 4, 5⟩
/-- R258 -/
def RC_MIG_STAT (r : Nat) : Nat := regKey (ridgePage r 1) (0x70) 0
def RC_MIG_STAT.STATE (r : Nat) : Field := ⟨(RC_MIG_STAT r), 0, 4⟩
def RC_MIG_STAT.LOGICAL (r : Nat) : Field := ⟨(RC_MIG_STAT r), 4, 5⟩
def RC_MIG_STAT.PAUSE_SPANS (r : Nat) : Field := ⟨(RC_MIG_STAT r), 16, 16⟩
/-- R258 -/
def RC_MIG_DRAIN_TMO (r : Nat) : Nat := regKey (ridgePage r 1) (0x74) 0
def RC_MIG_DRAIN_TMO.TMO (r : Nat) : Field := ⟨(RC_MIG_DRAIN_TMO r), 0, 16⟩
/-- R259 -/
def SYNC_SEL (r : Nat) : Nat := regKey (ridgePage r 2) (0x40) 0
def SYNC_SEL.CELL (r : Nat) : Field := ⟨(SYNC_SEL r), 0, 10⟩
/-- R259 -/
def SYNC_VAL (r i : Nat) : Nat := regKey (ridgePage r 2) (0x44) i
/-- R259 -/
def SYNC_ADD (r : Nat) : Nat := regKey (ridgePage r 2) (0x48) 0
/-- R259 -/
def SYNC_ATTR (r i : Nat) : Nat := regKey (ridgePage r 2) (0x4C) i
def SYNC_ATTR.IRQ (r i : Nat) : Field := ⟨(SYNC_ATTR r i), 0, 1⟩
def SYNC_ATTR.ARMED (r i : Nat) : Field := ⟨(SYNC_ATTR r i), 8, 4⟩
/-- R259 -/
def SYNC_WAITERS (r : Nat) : Nat := regKey (ridgePage r 2) (0x50) 0
/-- R259 -/
def SYNC_IRQ_LAST (r : Nat) : Nat := regKey (ridgePage r 2) (0x54) 0
def SYNC_IRQ_LAST.CELL (r : Nat) : Field := ⟨(SYNC_IRQ_LAST r), 0, 10⟩
/-- R344 -/
def SP_CTL (r s : Nat) : Nat := regKey (sitePage r s 9) (0x40) 0
def SP_CTL.RETAIN_OFF (r s : Nat) : Field := ⟨(SP_CTL r s), 0, 1⟩
/-- R344 -/
def SP_STAT (r s : Nat) : Nat := regKey (sitePage r s 9) (0x44) 0
def SP_STAT.HUT_DISCARDED (r s : Nat) : Field := ⟨(SP_STAT r s), 0, 1⟩
def SP_STAT.WAKING (r s : Nat) : Field := ⟨(SP_STAT r s), 1, 1⟩
def SP_STAT.SHARED_DEPTH (r s : Nat) : Field := ⟨(SP_STAT r s), 8, 8⟩
/-- R344 -/
def SP_ECC (r s : Nat) : Nat := regKey (sitePage r s 9) (0x48) 0
def SP_ECC.CORRECTED (r s : Nat) : Field := ⟨(SP_ECC r s), 0, 16⟩
def SP_ECC.UNCORRECTABLE (r s : Nat) : Field := ⟨(SP_ECC r s), 16, 16⟩
/-- R344 -/
def SP_ECC_ROW (r s : Nat) : Nat := regKey (sitePage r s 9) (0x4C) 0
def SP_ECC_ROW.ROW (r s : Nat) : Field := ⟨(SP_ECC_ROW r s), 0, 12⟩
def SP_ECC_ROW.WORD (r s : Nat) : Field := ⟨(SP_ECC_ROW r s), 12, 6⟩
/-- R344 -/
def SP_TARN_STAT (r s : Nat) : Nat := regKey (sitePage r s 9) (0x50) 0
def SP_TARN_STAT.SOURCE (r s : Nat) : Field := ⟨(SP_TARN_STAT r s), 18, 6⟩
def SP_TARN_STAT.WORD (r s : Nat) : Field := ⟨(SP_TARN_STAT r s), 12, 6⟩
def SP_TARN_STAT.ROW (r s : Nat) : Field := ⟨(SP_TARN_STAT r s), 4, 8⟩
def SP_TARN_STAT.COLLISION (r s : Nat) : Field := ⟨(SP_TARN_STAT r s), 0, 1⟩
/-- R344 -/
def SP_TARN_COLL (r s : Nat) : Nat := regKey (sitePage r s 9) (0x54) 0
/-- R344 -/
def CR_SEL (r s : Nat) : Nat := regKey (sitePage r s 9) (0x58) 0
def CR_SEL.REGION (r s : Nat) : Field := ⟨(CR_SEL r s), 0, 6⟩
/-- R344 -/
def CR_CFG (r s i : Nat) : Nat := regKey (sitePage r s 9) (0x5C) i
def CR_CFG.BASE (r s i : Nat) : Field := ⟨(CR_CFG r s i), 0, 12⟩
def CR_CFG.SIZE (r s i : Nat) : Field := ⟨(CR_CFG r s i), 16, 13⟩
/-- R344 -/
def CR_CTL (r s i : Nat) : Nat := regKey (sitePage r s 9) (0x60) i
def CR_CTL.FAULT (r s i : Nat) : Field := ⟨(CR_CTL r s i), 8, 1⟩
def CR_CTL.SPACE_EN (r s i : Nat) : Field := ⟨(CR_CTL r s i), 4, 1⟩
def CR_CTL.DATA_EN (r s i : Nat) : Field := ⟨(CR_CTL r s i), 3, 1⟩
def CR_CTL.UNF_MODE (r s i : Nat) : Field := ⟨(CR_CTL r s i), 2, 1⟩
def CR_CTL.OVF_MODE (r s i : Nat) : Field := ⟨(CR_CTL r s i), 1, 1⟩
def CR_CTL.EN (r s i : Nat) : Field := ⟨(CR_CTL r s i), 0, 1⟩
/-- R344 -/
def CR_CELLS (r s i : Nat) : Nat := regKey (sitePage r s 9) (0x64) i
def CR_CELLS.DATA_CELL (r s i : Nat) : Field := ⟨(CR_CELLS r s i), 0, 10⟩
def CR_CELLS.SPACE_CELL (r s i : Nat) : Field := ⟨(CR_CELLS r s i), 16, 10⟩
/-- R344 -/
def CR_STAT (r s i : Nat) : Nat := regKey (sitePage r s 9) (0x68) i
def CR_STAT.HEAD (r s i : Nat) : Field := ⟨(CR_STAT r s i), 0, 12⟩
def CR_STAT.TAIL (r s i : Nat) : Field := ⟨(CR_STAT r s i), 16, 12⟩
/-- R344 -/
def CR_COUNT (r s i : Nat) : Nat := regKey (sitePage r s 9) (0x6C) i
def CR_COUNT.COUNT (r s i : Nat) : Field := ⟨(CR_COUNT r s i), 0, 13⟩
def CR_COUNT.FULL (r s i : Nat) : Field := ⟨(CR_COUNT r s i), 16, 1⟩
def CR_COUNT.EMPTY (r s i : Nat) : Field := ⟨(CR_COUNT r s i), 17, 1⟩
def CR_COUNT.REFUSED (r s i : Nat) : Field := ⟨(CR_COUNT r s i), 20, 12⟩
/-- R344 -/
def POOL_SEL (r s : Nat) : Nat := regKey (sitePage r s 9) (0x70) 0
def POOL_SEL.POOL (r s : Nat) : Field := ⟨(POOL_SEL r s), 0, 4⟩
/-- R344 -/
def POOL_CFG (r s i : Nat) : Nat := regKey (sitePage r s 9) (0x74) i
def POOL_CFG.CELL (r s i : Nat) : Field := ⟨(POOL_CFG r s i), 0, 10⟩
def POOL_CFG.REGION (r s i : Nat) : Field := ⟨(POOL_CFG r s i), 16, 6⟩
def POOL_CFG.BUF_ROWS (r s i : Nat) : Field := ⟨(POOL_CFG r s i), 24, 8⟩
/-- R344 -/
def POOL_CTL (r s i : Nat) : Nat := regKey (sitePage r s 9) (0x78) i
def POOL_CTL.EN (r s i : Nat) : Field := ⟨(POOL_CTL r s i), 0, 1⟩
/-- R344 -/
def POOL_RPRI (r s i : Nat) : Nat := regKey (sitePage r s 9) (0x7C) i
def POOL_RPRI.LAST (r s i : Nat) : Field := ⟨(POOL_RPRI r s i), 0, 6⟩
/-- R348 -/
def CT_REG_SEL : Nat := regKey (diePage 15) (0x40) 0
def CT_REG_SEL.REGION : Field := ⟨CT_REG_SEL, 0, 6⟩
/-- R348 -/
def CT_REG_BASE (i : Nat) : Nat := regKey (diePage 15) (0x44) i
def CT_REG_BASE.BASE_G (i : Nat) : Field := ⟨(CT_REG_BASE i), 0, 26⟩
/-- R348 -/
def CT_REG_LIMIT (i : Nat) : Nat := regKey (diePage 15) (0x48) i
def CT_REG_LIMIT.LIMIT_G (i : Nat) : Field := ⟨(CT_REG_LIMIT i), 0, 26⟩
/-- R348 -/
def CT_REG_CTL (i : Nat) : Nat := regKey (diePage 15) (0x4C) i
def CT_REG_CTL.VALID (i : Nat) : Field := ⟨(CT_REG_CTL i), 0, 1⟩
def CT_REG_CTL.OVERLAP (i : Nat) : Field := ⟨(CT_REG_CTL i), 1, 1⟩
def CT_REG_CTL.OWNER (i : Nat) : Field := ⟨(CT_REG_CTL i), 8, 5⟩
/-- R348 -/
def CT_REFUSED_CNT : Nat := regKey (diePage 15) (0x50) 0
/-- R348 -/
def CT_REFUSED_INFO : Nat := regKey (diePage 15) (0x54) 0
def CT_REFUSED_INFO.UNIT : Field := ⟨CT_REFUSED_INFO, 0, 29⟩
def CT_REFUSED_INFO.REASON : Field := ⟨CT_REFUSED_INFO, 29, 3⟩
/-- R349 -/
def CT_CTL (h : Nat) : Nat := regKey (diePage (16 + h)) (0x40) 0
def CT_CTL.EN (h : Nat) : Field := ⟨(CT_CTL h), 0, 1⟩
def CT_CTL.SCRUB_EN (h : Nat) : Field := ⟨(CT_CTL h), 1, 1⟩
/-- R349 -/
def CT_STAT (h : Nat) : Nat := regKey (diePage (16 + h)) (0x44) 0
def CT_STAT.TRAINED (h : Nat) : Field := ⟨(CT_STAT h), 0, 1⟩
def CT_STAT.BAND (h : Nat) : Field := ⟨(CT_STAT h), 1, 3⟩
def CT_STAT.OUTSTANDING (h : Nat) : Field := ⟨(CT_STAT h), 16, 13⟩
/-- R349 -/
def CT_ECC_CORR (h : Nat) : Nat := regKey (diePage (16 + h)) (0x48) 0
/-- R349 -/
def CT_ECC_UE (h : Nat) : Nat := regKey (diePage (16 + h)) (0x4C) 0
/-- R349 -/
def CT_ERR_ADDR_LO (h : Nat) : Nat := regKey (diePage (16 + h)) (0x50) 0
/-- R349 -/
def CT_ERR_ADDR_HI (h : Nat) : Nat := regKey (diePage (16 + h)) (0x54) 0
/-- R349 -/
def CT_SCRUB (h : Nat) : Nat := regKey (diePage (16 + h)) (0x58) 0
def CT_SCRUB.HOURS (h : Nat) : Field := ⟨(CT_SCRUB h), 0, 8⟩
def CT_SCRUB.PASSES (h : Nat) : Field := ⟨(CT_SCRUB h), 16, 16⟩
/-- R349 -/
def CT_TREFI (h : Nat) : Nat := regKey (diePage (16 + h)) (0x5C) 0
/-- R381 -/
def NET_CTL (f : Nat) : Nat := regKey (diePage (22 + f)) (0x40) 0
def NET_CTL.SPLIT_FABRIC_EN (f : Nat) : Field := ⟨(NET_CTL f), 0, 1⟩
/-- R381 -/
def NET_STAT (f : Nat) : Nat := regKey (diePage (22 + f)) (0x44) 0
def NET_STAT.SEAM_LINKS (f : Nat) : Field := ⟨(NET_STAT f), 16, 5⟩
def NET_STAT.SAD_LINKS (f : Nat) : Field := ⟨(NET_STAT f), 8, 5⟩
def NET_STAT.ROUTE_MODE (f : Nat) : Field := ⟨(NET_STAT f), 1, 2⟩
def NET_STAT.SPLIT (f : Nat) : Field := ⟨(NET_STAT f), 0, 1⟩
/-- R381 -/
def NET_ROUTE_GEN (f : Nat) : Nat := regKey (diePage (22 + f)) (0x48) 0
def NET_ROUTE_GEN.GEN (f : Nat) : Field := ⟨(NET_ROUTE_GEN f), 0, 16⟩
def NET_ROUTE_GEN.HOLD_US_MAX (f : Nat) : Field := ⟨(NET_ROUTE_GEN f), 16, 16⟩
/-- R381 -/
def NET_HOLE (f n : Nat) : Nat := regKey (diePage (22 + f)) (0x4C + 4 * n) 0
def NET_HOLE.HOLE (f n : Nat) : Field := ⟨(NET_HOLE f n), 0, 16⟩
def NET_HOLE.PASS (f n : Nat) : Field := ⟨(NET_HOLE f n), 16, 16⟩
/-- R381 -/
def NET_RED_SEL (f : Nat) : Nat := regKey (diePage (22 + f)) (0x98) 0
def NET_RED_SEL.ENTRY (f : Nat) : Field := ⟨(NET_RED_SEL f), 0, 5⟩
/-- R381 -/
def NET_RED_TGT (f i : Nat) : Nat := regKey (diePage (22 + f)) (0x9C) i
def NET_RED_TGT.VALID (f i : Nat) : Field := ⟨(NET_RED_TGT f i), 0, 1⟩
def NET_RED_TGT.RIDGE (f i : Nat) : Field := ⟨(NET_RED_TGT f i), 1, 4⟩
def NET_RED_TGT.CORE (f i : Nat) : Field := ⟨(NET_RED_TGT f i), 5, 5⟩
def NET_RED_TGT.REMOTE (f i : Nat) : Field := ⟨(NET_RED_TGT f i), 10, 1⟩
def NET_RED_TGT.DIE (f i : Nat) : Field := ⟨(NET_RED_TGT f i), 11, 8⟩
/-- R381 -/
def NET_RED_ROWS (f i : Nat) : Nat := regKey (diePage (22 + f)) (0xA0) i
def NET_RED_ROWS.BASE (f i : Nat) : Field := ⟨(NET_RED_ROWS f i), 0, 12⟩
def NET_RED_ROWS.LIMIT (f i : Nat) : Field := ⟨(NET_RED_ROWS f i), 16, 12⟩
/-- R381 -/
def NET_WAIT_MAX (f : Nat) : Nat := regKey (diePage (22 + f)) (0xA4) 0
def NET_WAIT_MAX.CTL (f : Nat) : Field := ⟨(NET_WAIT_MAX f), 0, 8⟩
def NET_WAIT_MAX.RSP (f : Nat) : Field := ⟨(NET_WAIT_MAX f), 8, 8⟩
def NET_WAIT_MAX.RED (f : Nat) : Field := ⟨(NET_WAIT_MAX f), 16, 8⟩
def NET_WAIT_MAX.REQ (f : Nat) : Field := ⟨(NET_WAIT_MAX f), 24, 8⟩
/-- R381 -/
def NET_SPLIT_DROP (f : Nat) : Nat := regKey (diePage (22 + f)) (0xA8) 0
/-- R384 -/
def SAD_CTL : Nat := regKey (diePage 24) (0x40) 0
def SAD_CTL.LANE_THRESH : Field := ⟨SAD_CTL, 0, 8⟩
/-- R384 -/
def SAD_SEL : Nat := regKey (diePage 24) (0x44) 0
def SAD_SEL.LINK : Field := ⟨SAD_SEL, 0, 4⟩
def SAD_SEL.DIR : Field := ⟨SAD_SEL, 4, 1⟩
/-- R384 -/
def SAD_LINK_STAT (i : Nat) : Nat := regKey (diePage 24) (0x48) i
def SAD_LINK_STAT.STATE (i : Nat) : Field := ⟨(SAD_LINK_STAT i), 0, 2⟩
def SAD_LINK_STAT.SPARES_USED (i : Nat) : Field := ⟨(SAD_LINK_STAT i), 4, 6⟩
def SAD_LINK_STAT.REPLAYS (i : Nat) : Field := ⟨(SAD_LINK_STAT i), 16, 16⟩
/-- R384 -/
def SAD_CORR (i : Nat) : Nat := regKey (diePage 24) (0x4C) i
/-- R384 -/
def SAD_LANE_LAST (i : Nat) : Nat := regKey (diePage 24) (0x50) i
def SAD_LANE_LAST.LANE (i : Nat) : Field := ⟨(SAD_LANE_LAST i), 0, 12⟩
def SAD_LANE_LAST.SPARE (i : Nat) : Field := ⟨(SAD_LANE_LAST i), 12, 5⟩
/-- R384 -/
def SAD_STAT : Nat := regKey (diePage 24) (0x54) 0
def SAD_STAT.WORKING : Field := ⟨SAD_STAT, 0, 5⟩
def SAD_STAT.LOST : Field := ⟨SAD_STAT, 8, 1⟩
/-- R432 -/
def FP_CTL (p : Nat) : Nat := regKey (diePage (26 + p)) (0x40) 0
def FP_CTL.TRAVERSE_READY (p : Nat) : Field := ⟨(FP_CTL p), 2, 1⟩
def FP_CTL.CLASS (p : Nat) : Field := ⟨(FP_CTL p), 0, 2⟩
/-- R432 -/
def FP_STAT (p : Nat) : Nat := regKey (diePage (26 + p)) (0x44) 0
def FP_STAT.REMAPPED (p : Nat) : Field := ⟨(FP_STAT p), 28, 1⟩
def FP_STAT.ROLE (p : Nat) : Field := ⟨(FP_STAT p), 24, 4⟩
def FP_STAT.ACTIVE_BANK (p : Nat) : Field := ⟨(FP_STAT p), 18, 1⟩
def FP_STAT.MODE (p : Nat) : Field := ⟨(FP_STAT p), 16, 2⟩
def FP_STAT.LANES_GOOD (p : Nat) : Field := ⟨(FP_STAT p), 8, 8⟩
def FP_STAT.WIDTH (p : Nat) : Field := ⟨(FP_STAT p), 6, 2⟩
def FP_STAT.STATE (p : Nat) : Field := ⟨(FP_STAT p), 0, 5⟩
/-- R432 -/
def FP_CMD (p : Nat) : Nat := regKey (diePage (26 + p)) (0x48) 0
def FP_CMD.OP (p : Nat) : Field := ⟨(FP_CMD p), 0, 4⟩
/-- R432 -/
def FP_PEER (p : Nat) : Nat := regKey (diePage (26 + p)) (0x4C) 0
def FP_PEER.COORD (p : Nat) : Field := ⟨(FP_PEER p), 0, 9⟩
def FP_PEER.PORT (p : Nat) : Field := ⟨(FP_PEER p), 16, 8⟩
def FP_PEER.PROTO (p : Nat) : Field := ⟨(FP_PEER p), 24, 8⟩
/-- R432 -/
def FP_PEER_SN_LO (p : Nat) : Nat := regKey (diePage (26 + p)) (0x50) 0
def FP_PEER_SN_LO.SERIAL (p : Nat) : Field := ⟨(FP_PEER_SN_LO p), 0, 32⟩
/-- R432 -/
def FP_PEER_SN_HI (p : Nat) : Nat := regKey (diePage (26 + p)) (0x54) 0
/-- R432 -/
def FP_PEER_FW (p : Nat) : Nat := regKey (diePage (26 + p)) (0x58) 0
def FP_PEER_FW.FW (p : Nat) : Field := ⟨(FP_PEER_FW p), 0, 32⟩
/-- R432 -/
def FP_FEC_CORR (p : Nat) : Nat := regKey (diePage (26 + p)) (0x5C) 0
/-- R432 -/
def FP_FEC_UNCORR (p : Nat) : Nat := regKey (diePage (26 + p)) (0x60) 0
/-- R432 -/
def FP_RETRAIN_THRESH (p : Nat) : Nat := regKey (diePage (26 + p)) (0x64) 0
def FP_RETRAIN_THRESH.THRESH (p : Nat) : Field := ⟨(FP_RETRAIN_THRESH p), 0, 20⟩
/-- R432 -/
def FP_AUTH_FAIL (p : Nat) : Nat := regKey (diePage (26 + p)) (0x68) 0
/-- R432 -/
def FP_RETRY (p : Nat) : Nat := regKey (diePage (26 + p)) (0x6C) 0
/-- R432 -/
def FP_GEN_DROP (p : Nat) : Nat := regKey (diePage (26 + p)) (0x70) 0
/-- R432 -/
def FP_SLOT_LOSS (p : Nat) : Nat := regKey (diePage (26 + p)) (0x74) 0
/-- R432 -/
def FP_PHASE (p : Nat) : Nat := regKey (diePage (26 + p)) (0x78) 0
def FP_PHASE.DELAY (p : Nat) : Field := ⟨(FP_PHASE p), 0, 8⟩
def FP_PHASE.RESIDUAL (p : Nat) : Field := ⟨(FP_PHASE p), 8, 16⟩
/-- R432 -/
def FP_SCHED_SEL (p : Nat) : Nat := regKey (diePage (26 + p)) (0x7C) 0
def FP_SCHED_SEL.INDEX (p : Nat) : Field := ⟨(FP_SCHED_SEL p), 0, 12⟩
def FP_SCHED_SEL.DIR (p : Nat) : Field := ⟨(FP_SCHED_SEL p), 12, 1⟩
def FP_SCHED_SEL.BANK (p : Nat) : Field := ⟨(FP_SCHED_SEL p), 13, 1⟩
/-- R432 -/
def FP_SCHED_DATA_LO (p i : Nat) : Nat := regKey (diePage (26 + p)) (0x80) i
/-- R432 -/
def FP_SCHED_DATA_HI (p i : Nat) : Nat := regKey (diePage (26 + p)) (0x84) i
/-- R432 -/
def FP_SCHED_LEN (p i : Nat) : Nat := regKey (diePage (26 + p)) (0x88) i
def FP_SCHED_LEN.TLEN (p i : Nat) : Field := ⟨(FP_SCHED_LEN p i), 0, 13⟩
/-- R432 -/
def FP_SWAP_TICK_LO (p : Nat) : Nat := regKey (diePage (26 + p)) (0x8C) 0
/-- R432 -/
def FP_SWAP_TICK_HI (p : Nat) : Nat := regKey (diePage (26 + p)) (0x90) 0
/-- R432 -/
def FP_FLOW_SEL (p : Nat) : Nat := regKey (diePage (26 + p)) (0x94) 0
def FP_FLOW_SEL.FLOW (p : Nat) : Field := ⟨(FP_FLOW_SEL p), 0, 12⟩
/-- R432 -/
def FP_FLOW_TX (p i : Nat) : Nat := regKey (diePage (26 + p)) (0x98) i
def FP_FLOW_TX.EN (p i : Nat) : Field := ⟨(FP_FLOW_TX p i), 0, 1⟩
def FP_FLOW_TX.DEPTH (p i : Nat) : Field := ⟨(FP_FLOW_TX p i), 4, 12⟩
/-- R432 -/
def FP_FLOW_RX (p i : Nat) : Nat := regKey (diePage (26 + p)) (0x9C) i
def FP_FLOW_RX.VALID (p i : Nat) : Field := ⟨(FP_FLOW_RX p i), 0, 1⟩
def FP_FLOW_RX.DIE (p i : Nat) : Field := ⟨(FP_FLOW_RX p i), 1, 8⟩
def FP_FLOW_RX.HALF (p i : Nat) : Field := ⟨(FP_FLOW_RX p i), 9, 1⟩
def FP_FLOW_RX.RIDGE (p i : Nat) : Field := ⟨(FP_FLOW_RX p i), 10, 4⟩
/-- R432 -/
def FP_FLOW_MISMATCH (p : Nat) : Nat := regKey (diePage (26 + p)) (0xA0) 0
/-- R432 -/
def FP_DOWN_DROP (p : Nat) : Nat := regKey (diePage (26 + p)) (0xA4) 0
/-- R432 -/
def FP_BAD_CELL (p : Nat) : Nat := regKey (diePage (26 + p)) (0xA8) 0
/-- R432 -/
def FP_MOD_SN (p n : Nat) : Nat := regKey (diePage (26 + p)) (0xAC + 4 * n) 0
/-- R437 -/
def FAB_CTL : Nat := regKey (diePage 25) (0x40) 0
def FAB_CTL.PLAN_LOADED : Field := ⟨FAB_CTL, 0, 1⟩
/-- R437 -/
def FAB_STAT : Nat := regKey (diePage 25) (0x44) 0
def FAB_STAT.MEMBER : Field := ⟨FAB_STAT, 0, 1⟩
def FAB_STAT.SYNC_LOST : Field := ⟨FAB_STAT, 1, 1⟩
def FAB_STAT.SPLIT : Field := ⟨FAB_STAT, 2, 1⟩
/-- R437 -/
def FAB_GEN : Nat := regKey (diePage 25) (0x48) 0
def FAB_GEN.GEN : Field := ⟨FAB_GEN, 0, 16⟩
def FAB_GEN.PREV : Field := ⟨FAB_GEN, 16, 16⟩
/-- R437 -/
def FAB_GEN_GRACE : Nat := regKey (diePage 25) (0x4C) 0
def FAB_GEN_GRACE.GRACE : Field := ⟨FAB_GEN_GRACE, 0, 16⟩
/-- R437 -/
def FAB_MEMBER (n : Nat) : Nat := regKey (diePage 25) (0x50 + 4 * n) 0
/-- R437 -/
def FAB_NOTICE_MASK (n : Nat) : Nat := regKey (diePage 25) (0x70 + 4 * n) 0
/-- R437 -/
def FAB_GEN_CMD : Nat := regKey (diePage 25) (0x90) 0
def FAB_GEN_CMD.GEN : Field := ⟨FAB_GEN_CMD, 0, 16⟩
/-- R437 -/
def FAB_TICK_LO : Nat := regKey (diePage 25) (0x94) 0
/-- R437 -/
def FAB_TICK_HI : Nat := regKey (diePage 25) (0x98) 0
/-- R437 -/
def FAB_TICK_SET_LO : Nat := regKey (diePage 25) (0x9C) 0
/-- R437 -/
def FAB_TICK_SET_HI : Nat := regKey (diePage 25) (0xA0) 0
/-- R437 -/
def FAB_SELF : Nat := regKey (diePage 25) (0xA4) 0
def FAB_SELF.COORD : Field := ⟨FAB_SELF, 0, 8⟩
/-- R437 -/
def FAB_PLAN_SEL : Nat := regKey (diePage 25) (0xA8) 0
def FAB_PLAN_SEL.PORT : Field := ⟨FAB_PLAN_SEL, 0, 4⟩
/-- R437 -/
def FAB_PLAN_PEER (i : Nat) : Nat := regKey (diePage 25) (0xAC) i
def FAB_PLAN_PEER.USE (i : Nat) : Field := ⟨(FAB_PLAN_PEER i), 0, 1⟩
def FAB_PLAN_PEER.COORD (i : Nat) : Field := ⟨(FAB_PLAN_PEER i), 1, 9⟩
def FAB_PLAN_PEER.PORT (i : Nat) : Field := ⟨(FAB_PLAN_PEER i), 10, 8⟩
def FAB_PLAN_PEER.GROUP (i : Nat) : Field := ⟨(FAB_PLAN_PEER i), 18, 4⟩
def FAB_PLAN_PEER.MODULE (i : Nat) : Field := ⟨(FAB_PLAN_PEER i), 22, 2⟩
/-- R437 -/
def FAB_PLAN_SN (n i : Nat) : Nat := regKey (diePage 25) (0xB0 + 4 * n) i
/-- R437 -/
def FAB_RT_SEL : Nat := regKey (diePage 25) (0xC0) 0
def FAB_RT_SEL.COORD : Field := ⟨FAB_RT_SEL, 0, 8⟩
def FAB_RT_SEL.HALF : Field := ⟨FAB_RT_SEL, 8, 1⟩
/-- R437 -/
def FAB_RT_DATA (i : Nat) : Nat := regKey (diePage 25) (0xC4) i
def FAB_RT_DATA.VALID (i : Nat) : Field := ⟨(FAB_RT_DATA i), 0, 1⟩
def FAB_RT_DATA.PORT (i : Nat) : Field := ⟨(FAB_RT_DATA i), 1, 4⟩
def FAB_RT_DATA.ALT (i : Nat) : Field := ⟨(FAB_RT_DATA i), 5, 4⟩
def FAB_RT_DATA.FB (i : Nat) : Field := ⟨(FAB_RT_DATA i), 9, 12⟩
/-- R437 -/
def FAB_VERSION : Nat := regKey (diePage 25) (0xC8) 0
def FAB_VERSION.PROTO_MAX : Field := ⟨FAB_VERSION, 0, 8⟩
def FAB_VERSION.PROTO_MIN : Field := ⟨FAB_VERSION, 8, 8⟩
/-- R461 -/
def DRV_CTL (k : Nat) : Nat := regKey (drvCtlPage k) (0x40) 0
def DRV_CTL.STARVE_US (k : Nat) : Field := ⟨(DRV_CTL k), 0, 16⟩
/-- R461 -/
def DRV_STAT (k : Nat) : Nat := regKey (drvCtlPage k) (0x44) 0
def DRV_STAT.OUTSTANDING (k : Nat) : Field := ⟨(DRV_STAT k), 0, 11⟩
def DRV_STAT.CHANNELS (k : Nat) : Field := ⟨(DRV_STAT k), 16, 7⟩
/-- R461 -/
def DRV_BEATS_LO (k : Nat) : Nat := regKey (drvCtlPage k) (0x48) 0
/-- R461 -/
def DRV_BEATS_HI (k : Nat) : Nat := regKey (drvCtlPage k) (0x4C) 0
/-- R461 -/
def DRV_PREEMPT (k : Nat) : Nat := regKey (drvCtlPage k) (0x50) 0
/-- R461 -/
def DRV_STARVE (k : Nat) : Nat := regKey (drvCtlPage k) (0x54) 0
def DRV_STARVE.R455 (k : Nat) : Field := ⟨(DRV_STARVE k), 0, 32⟩
/-- R462 -/
def CH_SRC_LO (k c : Nat) : Nat := regKey (drvChPage k c) (drvChBase c + 0x0) 0
def CH_SRC_LO.SRC (k c : Nat) : Field := ⟨(CH_SRC_LO k c), 0, 32⟩
/-- R462 -/
def CH_SRC_HI (k c : Nat) : Nat := regKey (drvChPage k c) (drvChBase c + 0x4) 0
/-- R462 -/
def CH_DST_LO (k c : Nat) : Nat := regKey (drvChPage k c) (drvChBase c + 0x8) 0
def CH_DST_LO.DST (k c : Nat) : Field := ⟨(CH_DST_LO k c), 0, 32⟩
/-- R462 -/
def CH_DST_HI (k c : Nat) : Nat := regKey (drvChPage k c) (drvChBase c + 0xC) 0
/-- R462 -/
def CH_COUNT (k c : Nat) : Nat := regKey (drvChPage k c) (drvChBase c + 0x10) 0
def CH_COUNT.COUNT (k c : Nat) : Field := ⟨(CH_COUNT k c), 0, 32⟩
/-- R462 -/
def CH_DESC_LO (k c : Nat) : Nat := regKey (drvChPage k c) (drvChBase c + 0x14) 0
/-- R462 -/
def CH_DESC_HI (k c : Nat) : Nat := regKey (drvChPage k c) (drvChBase c + 0x18) 0
/-- R462 -/
def CH_CTL (k c : Nat) : Nat := regKey (drvChPage k c) (drvChBase c + 0x1C) 0
def CH_CTL.STOP (k c : Nat) : Field := ⟨(CH_CTL k c), 5, 1⟩
def CH_CTL.ADD (k c : Nat) : Field := ⟨(CH_CTL k c), 4, 1⟩
def CH_CTL.IRQ (k c : Nat) : Field := ⟨(CH_CTL k c), 3, 1⟩
def CH_CTL.MODE (k c : Nat) : Field := ⟨(CH_CTL k c), 1, 1⟩
def CH_CTL.GO (k c : Nat) : Field := ⟨(CH_CTL k c), 0, 1⟩
/-- R462 -/
def CH_CFG (k c : Nat) : Nat := regKey (drvChPage k c) (drvChBase c + 0x20) 0
def CH_CFG.OWNER (k c : Nat) : Field := ⟨(CH_CFG k c), 16, 5⟩
def CH_CFG.MAX_OUT (k c : Nat) : Field := ⟨(CH_CFG k c), 4, 9⟩
def CH_CFG.PRIO (k c : Nat) : Field := ⟨(CH_CFG k c), 0, 2⟩
/-- R462 -/
def CH_CELL (k c : Nat) : Nat := regKey (drvChPage k c) (drvChBase c + 0x24) 0
def CH_CELL.CELL (k c : Nat) : Field := ⟨(CH_CELL k c), 0, 14⟩
/-- R462 -/
def CH_STAT (k c : Nat) : Nat := regKey (drvChPage k c) (drvChBase c + 0x28) 0
def CH_STAT.LAST_CODE (k c : Nat) : Field := ⟨(CH_STAT k c), 24, 8⟩
def CH_STAT.OUT (k c : Nat) : Field := ⟨(CH_STAT k c), 12, 9⟩
def CH_STAT.QDEPTH (k c : Nat) : Field := ⟨(CH_STAT k c), 4, 5⟩
def CH_STAT.STATE (k c : Nat) : Field := ⟨(CH_STAT k c), 0, 4⟩
/-- R462 -/
def CH_ERR (k c : Nat) : Nat := regKey (drvChPage k c) (drvChBase c + 0x2C) 0
def CH_ERR.CODE (k c : Nat) : Field := ⟨(CH_ERR k c), 0, 8⟩
def CH_ERR.COUNT (k c : Nat) : Field := ⟨(CH_ERR k c), 16, 16⟩
/-- R462 -/
def CH_ERR_ADDR_LO (k c : Nat) : Nat := regKey (drvChPage k c) (drvChBase c + 0x30) 0
/-- R462 -/
def CH_ERR_ADDR_HI (k c : Nat) : Nat := regKey (drvChPage k c) (drvChBase c + 0x34) 0
/-- R462 -/
def CH_COAL (k c : Nat) : Nat := regKey (drvChPage k c) (drvChBase c + 0x38) 0
def CH_COAL.COUNT (k c : Nat) : Field := ⟨(CH_COAL k c), 0, 8⟩
def CH_COAL.TIME (k c : Nat) : Field := ⟨(CH_COAL k c), 8, 16⟩
/-- R462 -/
def CH_DONE_CNT (k c : Nat) : Nat := regKey (drvChPage k c) (drvChBase c + 0x3C) 0
/-- R500 -/
def RZ_CTL : Nat := regKey (diePage 12) (0x40) 0
def RZ_CTL.EN : Field := ⟨RZ_CTL, 0, 1⟩
/-- R500 -/
def RZ_STAT : Nat := regKey (diePage 12) (0x44) 0
def RZ_STAT.SLOTS_BUSY : Field := ⟨RZ_STAT, 0, 4⟩
def RZ_STAT.STREAMING : Field := ⟨RZ_STAT, 4, 1⟩
def RZ_STAT.FREEING : Field := ⟨RZ_STAT, 5, 1⟩
def RZ_STAT.QUEUED_SLABS : Field := ⟨RZ_STAT, 16, 16⟩
/-- R500 -/
def RZ_PSEL : Nat := regKey (diePage 12) (0x48) 0
def RZ_PSEL.SLOT : Field := ⟨RZ_PSEL, 0, 2⟩
/-- R500 -/
def RZ_P_ADDR_LO (i : Nat) : Nat := regKey (diePage 12) (0x4C) i
/-- R500 -/
def RZ_P_ADDR_HI (i : Nat) : Nat := regKey (diePage 12) (0x50) i
/-- R500 -/
def RZ_P_LEN (i : Nat) : Nat := regKey (diePage 12) (0x54) i
/-- R500 -/
def RZ_P_CMD (i : Nat) : Nat := regKey (diePage 12) (0x58) i
def RZ_P_CMD.GO (i : Nat) : Field := ⟨(RZ_P_CMD i), 0, 1⟩
def RZ_P_CMD.STOP (i : Nat) : Field := ⟨(RZ_P_CMD i), 1, 1⟩
/-- R500 -/
def RZ_P_STAT (i : Nat) : Nat := regKey (diePage 12) (0x5C) i
def RZ_P_STAT.STATE (i : Nat) : Field := ⟨(RZ_P_STAT i), 0, 2⟩
def RZ_P_STAT.PCODE (i : Nat) : Field := ⟨(RZ_P_STAT i), 4, 4⟩
/-- R500 -/
def RZ_P_OK (i : Nat) : Nat := regKey (diePage 12) (0x60) i
def RZ_P_OK.OK (i : Nat) : Field := ⟨(RZ_P_OK i), 0, 19⟩
/-- R500 -/
def RZ_P_FAIL (i : Nat) : Nat := regKey (diePage 12) (0x64) i
/-- R500 -/
def RZ_P_FIRST_ERR (i : Nat) : Nat := regKey (diePage 12) (0x68) i
def RZ_P_FIRST_ERR.RECORD (i : Nat) : Field := ⟨(RZ_P_FIRST_ERR i), 0, 18⟩
def RZ_P_FIRST_ERR.CODE (i : Nat) : Field := ⟨(RZ_P_FIRST_ERR i), 24, 4⟩
/-- R500 -/
def RZ_LM_SEL : Nat := regKey (diePage 12) (0x6C) 0
def RZ_LM_SEL.INDEX : Field := ⟨RZ_LM_SEL, 0, 19⟩
/-- R500 -/
def RZ_LM_DATA (n : Nat) : Nat := regKey (diePage 12) (0x70 + 4 * n) 0
/-- R500 -/
def RZ_VM_SEL : Nat := regKey (diePage 12) (0x90) 0
def RZ_VM_SEL.RIDGE : Field := ⟨RZ_VM_SEL, 0, 4⟩
def RZ_VM_SEL.CORE : Field := ⟨RZ_VM_SEL, 4, 5⟩
def RZ_VM_SEL.ENGINE : Field := ⟨RZ_VM_SEL, 9, 3⟩
def RZ_VM_SEL.SLAB : Field := ⟨RZ_VM_SEL, 12, 3⟩
/-- R500 -/
def RZ_VM_DATA (i : Nat) : Nat := regKey (diePage 12) (0x94) i
def RZ_VM_DATA.A_PSLAB (i : Nat) : Field := ⟨(RZ_VM_DATA i), 0, 4⟩
def RZ_VM_DATA.B_PSLAB (i : Nat) : Field := ⟨(RZ_VM_DATA i), 4, 4⟩
/-- R500 -/
def RZ_FLIP_SEL : Nat := regKey (diePage 12) (0x98) 0
def RZ_FLIP_SEL.RIDGE : Field := ⟨RZ_FLIP_SEL, 0, 4⟩
/-- R500 -/
def RZ_FLIP_STEP (i : Nat) : Nat := regKey (diePage 12) (0x9C) i
def RZ_FLIP_STEP.STEP (i : Nat) : Field := ⟨(RZ_FLIP_STEP i), 0, 32⟩
/-- R500 -/
def RZ_FLIP_CTL (i : Nat) : Nat := regKey (diePage 12) (0xA0) i
def RZ_FLIP_CTL.ARM (i : Nat) : Field := ⟨(RZ_FLIP_CTL i), 0, 1⟩
def RZ_FLIP_CTL.CELL (i : Nat) : Field := ⟨(RZ_FLIP_CTL i), 2, 10⟩
def RZ_FLIP_CTL.TO (i : Nat) : Field := ⟨(RZ_FLIP_CTL i), 12, 1⟩
/-- R500 -/
def RZ_FLIP_STAT (i : Nat) : Nat := regKey (diePage 12) (0xA4) i
def RZ_FLIP_STAT.ACTIVE (i : Nat) : Field := ⟨(RZ_FLIP_STAT i), 0, 1⟩
def RZ_FLIP_STAT.STATE (i : Nat) : Field := ⟨(RZ_FLIP_STAT i), 1, 3⟩
/-- R500 -/
def RZ_MODE : Nat := regKey (diePage 12) (0xA8) 0
def RZ_MODE.REBUILD : Field := ⟨RZ_MODE, 0, 16⟩
/-- R500 -/
def RZ_QMV_SEL : Nat := regKey (diePage 12) (0xAC) 0
def RZ_QMV_SEL.RIDGE : Field := ⟨RZ_QMV_SEL, 0, 4⟩
def RZ_QMV_SEL.CORE : Field := ⟨RZ_QMV_SEL, 4, 5⟩
/-- R500 -/
def RZ_QMV (i : Nat) : Nat := regKey (diePage 12) (0xB0) i
def RZ_QMV.EN (i : Nat) : Field := ⟨(RZ_QMV i), 0, 8⟩
/-- R500 -/
def RZ_VALLEY_USE : Nat := regKey (diePage 12) (0xB4) 0
def RZ_VALLEY_USE.SLOTS : Field := ⟨RZ_VALLEY_USE, 0, 15⟩
def RZ_VALLEY_USE.HOST_ENTRIES : Field := ⟨RZ_VALLEY_USE, 16, 7⟩
/-- R500 -/
def RZ_X_DST_LO : Nat := regKey (diePage 12) (0xB8) 0
/-- R500 -/
def RZ_X_DST_HI : Nat := regKey (diePage 12) (0xBC) 0
/-- R500 -/
def RZ_X_CMD : Nat := regKey (diePage 12) (0xC0) 0
def RZ_X_CMD.GO : Field := ⟨RZ_X_CMD, 0, 1⟩
def RZ_X_CMD.STOP : Field := ⟨RZ_X_CMD, 1, 1⟩
def RZ_X_CMD.KEY_SLOT : Field := ⟨RZ_X_CMD, 8, 8⟩
/-- R500 -/
def RZ_X_STAT : Nat := regKey (diePage 12) (0xC4) 0
def RZ_X_STAT.STATE : Field := ⟨RZ_X_STAT, 0, 2⟩
def RZ_X_STAT.RECORDS : Field := ⟨RZ_X_STAT, 8, 19⟩
/-- R537 -/
def SV_CTL : Nat := regKey (diePage 13) (0x40) 0
def SV_CTL.EN : Field := ⟨SV_CTL, 0, 1⟩
/-- R537 -/
def SV_STAT : Nat := regKey (diePage 13) (0x44) 0
def SV_STAT.LIVE : Field := ⟨SV_STAT, 0, 16⟩
def SV_STAT.GATE_FULL : Field := ⟨SV_STAT, 16, 1⟩
/-- R537 -/
def SV_AREA : Nat := regKey (diePage 13) (0x48) 0
def SV_AREA.BASE_G : Field := ⟨SV_AREA, 0, 26⟩
/-- R537 -/
def SV_KV_BASE : Nat := regKey (diePage 13) (0x4C) 0
def SV_KV_BASE.BASE_G : Field := ⟨SV_KV_BASE, 0, 26⟩
/-- R537 -/
def SV_KV_STRIDE : Nat := regKey (diePage 13) (0x50) 0
def SV_KV_STRIDE.STRIDE : Field := ⟨SV_KV_STRIDE, 0, 20⟩
/-- R537 -/
def SV_KV_HANDLES : Nat := regKey (diePage 13) (0x54) 0
def SV_KV_HANDLES.HANDLES : Field := ⟨SV_KV_HANDLES, 0, 25⟩
/-- R537 -/
def SV_KV_FREE : Nat := regKey (diePage 13) (0x58) 0
/-- R537 -/
def SV_KV_LOW : Nat := regKey (diePage 13) (0x5C) 0
def SV_KV_LOW.LOW : Field := ⟨SV_KV_LOW, 0, 25⟩
/-- R537 -/
def SV_RSEL : Nat := regKey (diePage 13) (0x60) 0
def SV_RSEL.RIDGE : Field := ⟨SV_RSEL, 0, 4⟩
/-- R537 -/
def SV_SQ_BASE_LO (i : Nat) : Nat := regKey (diePage 13) (0x64) i
/-- R537 -/
def SV_SQ_BASE_HI (i : Nat) : Nat := regKey (diePage 13) (0x68) i
/-- R537 -/
def SV_SQ_CFG (i : Nat) : Nat := regKey (diePage 13) (0x6C) i
def SV_SQ_CFG.EN (i : Nat) : Field := ⟨(SV_SQ_CFG i), 0, 1⟩
def SV_SQ_CFG.LOG2 (i : Nat) : Field := ⟨(SV_SQ_CFG i), 1, 5⟩
/-- R537 -/
def SV_SQ_TAIL (i : Nat) : Nat := regKey (diePage 13) (0x70) i
/-- R537 -/
def SV_SQ_HEAD (i : Nat) : Nat := regKey (diePage 13) (0x74) i
/-- R537 -/
def SV_QUOTA (i : Nat) : Nat := regKey (diePage 13) (0x78) i
def SV_QUOTA.SEQS (i : Nat) : Field := ⟨(SV_QUOTA i), 0, 16⟩
/-- R537 -/
def SV_HOME (i : Nat) : Nat := regKey (diePage 13) (0x7C) i
def SV_HOME.COORD (i : Nat) : Field := ⟨(SV_HOME i), 0, 8⟩
def SV_HOME.HALF (i : Nat) : Field := ⟨(SV_HOME i), 8, 1⟩
/-- R537 -/
def SV_SCHED (i : Nat) : Nat := regKey (diePage 13) (0x80) i
def SV_SCHED.MODE (i : Nat) : Field := ⟨(SV_SCHED i), 0, 2⟩
def SV_SCHED.BATCH_MAX (i : Nat) : Field := ⟨(SV_SCHED i), 4, 10⟩
def SV_SCHED.PREFILL_BLOCKS (i : Nat) : Field := ⟨(SV_SCHED i), 16, 7⟩
/-- R537 -/
def SV_SCHED_CELL (i : Nat) : Nat := regKey (diePage 13) (0x84) i
def SV_SCHED_CELL.CELL (i : Nat) : Field := ⟨(SV_SCHED_CELL i), 0, 10⟩
/-- R537 -/
def SV_DST (n i : Nat) : Nat := regKey (diePage 13) (0x88 + 4 * n) i
def SV_DST.VALID (n i : Nat) : Field := ⟨(SV_DST n i), 0, 1⟩
def SV_DST.REMOTE (n i : Nat) : Field := ⟨(SV_DST n i), 1, 1⟩
def SV_DST.DIE (n i : Nat) : Field := ⟨(SV_DST n i), 2, 8⟩
def SV_DST.HALF (n i : Nat) : Field := ⟨(SV_DST n i), 10, 1⟩
def SV_DST.RIDGE (n i : Nat) : Field := ⟨(SV_DST n i), 11, 4⟩
def SV_DST.CORE (n i : Nat) : Field := ⟨(SV_DST n i), 15, 5⟩
def SV_DST.REGION (n i : Nat) : Field := ⟨(SV_DST n i), 20, 6⟩
/-- R537 -/
def SV_UNCOMMITTED (i : Nat) : Nat := regKey (diePage 13) (0x98) i
/-- R537 -/
def SV_SEQ_SEL : Nat := regKey (diePage 13) (0x9C) 0
def SV_SEQ_SEL.SEQ : Field := ⟨SV_SEQ_SEL, 0, 15⟩
/-- R537 -/
def SV_SEQ_DATA (n : Nat) : Nat := regKey (diePage 13) (0xA0 + 4 * n) 0
/-- R537 -/
def SV_ACC_SEL : Nat := regKey (diePage 13) (0xE0) 0
def SV_ACC_SEL.ACCOUNT : Field := ⟨SV_ACC_SEL, 0, 12⟩
/-- R537 -/
def SV_ACC_CFG (i : Nat) : Nat := regKey (diePage 13) (0xE4) i
def SV_ACC_CFG.EN (i : Nat) : Field := ⟨(SV_ACC_CFG i), 0, 1⟩
def SV_ACC_CFG.CLASS (i : Nat) : Field := ⟨(SV_ACC_CFG i), 1, 2⟩
def SV_ACC_CFG.PREFILL_W (i : Nat) : Field := ⟨(SV_ACC_CFG i), 4, 8⟩
def SV_ACC_CFG.CACHED_W (i : Nat) : Field := ⟨(SV_ACC_CFG i), 12, 8⟩
def SV_ACC_CFG.RESUME (i : Nat) : Field := ⟨(SV_ACC_CFG i), 20, 12⟩
/-- R537 -/
def SV_ACC_RATE (i : Nat) : Nat := regKey (diePage 13) (0xE8) i
def SV_ACC_RATE.RATE (i : Nat) : Field := ⟨(SV_ACC_RATE i), 0, 20⟩
/-- R537 -/
def SV_ACC_BURST (i : Nat) : Nat := regKey (diePage 13) (0xEC) i
def SV_ACC_BURST.BURST (i : Nat) : Field := ⟨(SV_ACC_BURST i), 0, 24⟩
/-- R537 -/
def SV_ACC_BAL (i : Nat) : Nat := regKey (diePage 13) (0xF0) i
/-- R537 -/
def SV_RING_SEL : Nat := regKey (diePage 13) (0xF4) 0
def SV_RING_SEL.RING : Field := ⟨SV_RING_SEL, 0, 8⟩
/-- R537 -/
def SV_RING_BASE_LO (i : Nat) : Nat := regKey (diePage 13) (0xF8) i
/-- R537 -/
def SV_RING_BASE_HI (i : Nat) : Nat := regKey (diePage 13) (0xFC) i
/-- R537 -/
def SV_RING_WB_LO (i : Nat) : Nat := regKey (diePage 13) (0x100) i
/-- R537 -/
def SV_RING_WB_HI (i : Nat) : Nat := regKey (diePage 13) (0x104) i
/-- R537 -/
def SV_RING_CFG (i : Nat) : Nat := regKey (diePage 13) (0x108) i
def SV_RING_CFG.EN (i : Nat) : Field := ⟨(SV_RING_CFG i), 0, 1⟩
def SV_RING_CFG.LOG2 (i : Nat) : Field := ⟨(SV_RING_CFG i), 1, 5⟩
def SV_RING_CFG.COAL_COUNT (i : Nat) : Field := ⟨(SV_RING_CFG i), 8, 8⟩
def SV_RING_CFG.COAL_TIME (i : Nat) : Field := ⟨(SV_RING_CFG i), 16, 16⟩
/-- R537 -/
def SV_RING_HEAD (i : Nat) : Nat := regKey (diePage 13) (0x10C) i
/-- R537 -/
def SV_RING_TAIL (i : Nat) : Nat := regKey (diePage 13) (0x110) i
/-- R537 -/
def SV_EXP_SEL : Nat := regKey (diePage 13) (0x114) 0
def SV_EXP_SEL.INDEX : Field := ⟨SV_EXP_SEL, 0, 15⟩
def SV_EXP_SEL.VER : Field := ⟨SV_EXP_SEL, 15, 1⟩
/-- R537 -/
def SV_EXP_LO (i : Nat) : Nat := regKey (diePage 13) (0x118) i
/-- R537 -/
def SV_EXP_HI (i : Nat) : Nat := regKey (diePage 13) (0x11C) i
/-- R537 -/
def SV_SLOT_SEL : Nat := regKey (diePage 13) (0x120) 0
def SV_SLOT_SEL.SLOT : Field := ⟨SV_SLOT_SEL, 0, 8⟩
def SV_SLOT_SEL.VER : Field := ⟨SV_SLOT_SEL, 8, 1⟩
/-- R537 -/
def SV_SLOT_DATA (i : Nat) : Nat := regKey (diePage 13) (0x124) i
def SV_SLOT_DATA.BASE (i : Nat) : Field := ⟨(SV_SLOT_DATA i), 0, 15⟩
def SV_SLOT_DATA.COUNT (i : Nat) : Field := ⟨(SV_SLOT_DATA i), 16, 10⟩
/-- R537 -/
def SV_GATE : Nat := regKey (diePage 13) (0x128) 0
def SV_GATE.HELD : Field := ⟨SV_GATE, 0, 17⟩
/-- R537 -/
def SV_REQ_ERR : Nat := regKey (diePage 13) (0x12C) 0
/-- R537 -/
def SV_BAD_ENTRY : Nat := regKey (diePage 13) (0x130) 0
/-- R539 -/
def SP_CTL_WALKER : Nat := regKey (diePage 14) (0x40) 0
def SP_CTL_WALKER.EN : Field := ⟨SP_CTL_WALKER, 0, 1⟩
/-- R539 -/
def SP_NODES : Nat := regKey (diePage 14) (0x44) 0
/-- R539 -/
def SP_USED : Nat := regKey (diePage 14) (0x48) 0
/-- R539 -/
def SP_VISITS_LO : Nat := regKey (diePage 14) (0x4C) 0
/-- R539 -/
def SP_VISITS_HI : Nat := regKey (diePage 14) (0x50) 0
/-- R539 -/
def SP_HITS : Nat := regKey (diePage 14) (0x54) 0
/-- R539 -/
def SP_COLL : Nat := regKey (diePage 14) (0x58) 0
/-- R539 -/
def SP_DUP : Nat := regKey (diePage 14) (0x5C) 0
/-- R539 -/
def SP_EVICT : Nat := regKey (diePage 14) (0x60) 0
/-- R539 -/
def SP_SALT_SEL : Nat := regKey (diePage 14) (0x64) 0
def SP_SALT_SEL.RIDGE : Field := ⟨SP_SALT_SEL, 0, 4⟩
/-- R539 -/
def SP_SALT_LO (i : Nat) : Nat := regKey (diePage 14) (0x68) i
/-- R539 -/
def SP_SALT_HI (i : Nat) : Nat := regKey (diePage 14) (0x6C) i
/-- R539 -/
def SP_CMD : Nat := regKey (diePage 14) (0x70) 0
def SP_CMD.OP : Field := ⟨SP_CMD, 0, 4⟩
def SP_CMD.RIDGE : Field := ⟨SP_CMD, 4, 4⟩
/-- R539 -/
def SP_CMD_STAT : Nat := regKey (diePage 14) (0x74) 0
def SP_CMD_STAT.STATE : Field := ⟨SP_CMD_STAT, 0, 2⟩
def SP_CMD_STAT.REMOVED : Field := ⟨SP_CMD_STAT, 8, 24⟩
/-- R585 -/
def RI_CTL (r : Nat) : Nat := regKey (ridgePage r 3) (0x40) 0
def RI_CTL.WINDOW (r : Nat) : Field := ⟨(RI_CTL r), 0, 4⟩
def RI_CTL.MAX_REPLAY (r : Nat) : Field := ⟨(RI_CTL r), 8, 4⟩
def RI_CTL.CLS_EN (r : Nat) : Field := ⟨(RI_CTL r), 12, 1⟩
def RI_CTL.IFT_EN (r : Nat) : Field := ⟨(RI_CTL r), 13, 1⟩
/-- R585 -/
def RI_CHK (r : Nat) : Nat := regKey (ridgePage r 3) (0x44) 0
def RI_CHK.CHK_MODE (r : Nat) : Field := ⟨(RI_CHK r), 0, 2⟩
def RI_CHK.PROBE_FRAC (r : Nat) : Field := ⟨(RI_CHK r), 4, 3⟩
def RI_CHK.ECHO_FRAC (r : Nat) : Field := ⟨(RI_CHK r), 8, 3⟩
/-- R585 -/
def RI_STEP_CFG (r : Nat) : Nat := regKey (ridgePage r 3) (0x48) 0
def RI_STEP_CFG.CELL (r : Nat) : Field := ⟨(RI_STEP_CFG r), 0, 10⟩
def RI_STEP_CFG.QUORUM (r : Nat) : Field := ⟨(RI_STEP_CFG r), 10, 6⟩
def RI_STEP_CFG.GO_CELL (r : Nat) : Field := ⟨(RI_STEP_CFG r), 16, 10⟩
/-- R585 -/
def RI_STEP (r : Nat) : Nat := regKey (ridgePage r 3) (0x4C) 0
def RI_STEP.STEP (r : Nat) : Field := ⟨(RI_STEP r), 0, 32⟩
/-- R585 -/
def RI_STAT (r : Nat) : Nat := regKey (ridgePage r 3) (0x50) 0
def RI_STAT.UNCOMMITTED (r : Nat) : Field := ⟨(RI_STAT r), 0, 4⟩
def RI_STAT.REPLAYING (r : Nat) : Field := ⟨(RI_STAT r), 4, 1⟩
def RI_STAT.STUCK (r : Nat) : Field := ⟨(RI_STAT r), 5, 1⟩
def RI_STAT.REV (r : Nat) : Field := ⟨(RI_STAT r), 8, 8⟩
def RI_STAT.CLS_ACTIVE (r : Nat) : Field := ⟨(RI_STAT r), 16, 4⟩
/-- R585 -/
def RI_OLDEST (r : Nat) : Nat := regKey (ridgePage r 3) (0x54) 0
/-- R585 -/
def RI_REPLAY_VEC (r : Nat) : Nat := regKey (ridgePage r 3) (0x58) 0
def RI_REPLAY_VEC.VEC (r : Nat) : Field := ⟨(RI_REPLAY_VEC r), 0, 12⟩
/-- R585 -/
def RI_REPLAYS (r : Nat) : Nat := regKey (ridgePage r 3) (0x5C) 0
/-- R585 -/
def RI_RETRACTS (r : Nat) : Nat := regKey (ridgePage r 3) (0x60) 0
def RI_RETRACTS.SENT (r : Nat) : Field := ⟨(RI_RETRACTS r), 0, 16⟩
def RI_RETRACTS.RECEIVED (r : Nat) : Field := ⟨(RI_RETRACTS r), 16, 16⟩
/-- R585 -/
def RI_STALE_DROP (r : Nat) : Nat := regKey (ridgePage r 3) (0x64) 0
/-- R585 -/
def RI_LATE (r : Nat) : Nat := regKey (ridgePage r 3) (0x68) 0
def RI_LATE.LATE_FAIL (r : Nat) : Field := ⟨(RI_LATE r), 0, 10⟩
def RI_LATE.LATE_INPUT (r : Nat) : Field := ⟨(RI_LATE r), 10, 11⟩
def RI_LATE.COMMIT_IGN (r : Nat) : Field := ⟨(RI_LATE r), 21, 11⟩
/-- R585 -/
def RI_RESIDUE (r : Nat) : Nat := regKey (ridgePage r 3) (0x6C) 0
def RI_RESIDUE.LEDGER (r : Nat) : Field := ⟨(RI_RESIDUE r), 0, 16⟩
def RI_RESIDUE.VECTOR (r : Nat) : Field := ⟨(RI_RESIDUE r), 16, 16⟩
/-- R585 -/
def RI_CLS_CFG (r : Nat) : Nat := regKey (ridgePage r 3) (0x70) 0
def RI_CLS_CFG.WINDOW_S (r : Nat) : Field := ⟨(RI_CLS_CFG r), 0, 16⟩
def RI_CLS_CFG.REPEAT (r : Nat) : Field := ⟨(RI_CLS_CFG r), 16, 4⟩
def RI_CLS_CFG.TMO_MS (r : Nat) : Field := ⟨(RI_CLS_CFG r), 20, 12⟩
/-- R585 -/
def RI_CLS_BUSY (r : Nat) : Nat := regKey (ridgePage r 3) (0x74) 0
/-- R585 -/
def RI_CLS_SEL (r : Nat) : Nat := regKey (ridgePage r 3) (0x78) 0
def RI_CLS_SEL.ENTRY (r : Nat) : Field := ⟨(RI_CLS_SEL r), 0, 4⟩
/-- R585 -/
def RI_CLS_DATA (r i : Nat) : Nat := regKey (ridgePage r 3) (0x7C) i
def RI_CLS_DATA.SITE (r i : Nat) : Field := ⟨(RI_CLS_DATA r i), 0, 6⟩
def RI_CLS_DATA.ENGINE (r i : Nat) : Field := ⟨(RI_CLS_DATA r i), 6, 3⟩
def RI_CLS_DATA.SLAB (r i : Nat) : Field := ⟨(RI_CLS_DATA r i), 9, 4⟩
def RI_CLS_DATA.KIND (r i : Nat) : Field := ⟨(RI_CLS_DATA r i), 13, 3⟩
def RI_CLS_DATA.CLASS (r i : Nat) : Field := ⟨(RI_CLS_DATA r i), 16, 3⟩
def RI_CLS_DATA.NCOLS (r i : Nat) : Field := ⟨(RI_CLS_DATA r i), 19, 5⟩
def RI_CLS_DATA.COLUMN (r i : Nat) : Field := ⟨(RI_CLS_DATA r i), 24, 8⟩
/-- R585 -/
def RI_IFT_CTL (r : Nat) : Nat := regKey (ridgePage r 3) (0x80) 0
def RI_IFT_CTL.PERIOD_H (r : Nat) : Field := ⟨(RI_IFT_CTL r), 0, 16⟩
def RI_IFT_CTL.WAIT_S (r : Nat) : Field := ⟨(RI_IFT_CTL r), 16, 8⟩
/-- R585 -/
def RI_IFT_CMD (r : Nat) : Nat := regKey (ridgePage r 3) (0x84) 0
def RI_IFT_CMD.SITE (r : Nat) : Field := ⟨(RI_IFT_CMD r), 0, 6⟩
def RI_IFT_CMD.ENGINE (r : Nat) : Field := ⟨(RI_IFT_CMD r), 6, 3⟩
def RI_IFT_CMD.KIND (r : Nat) : Field := ⟨(RI_IFT_CMD r), 9, 1⟩
def RI_IFT_CMD.GO (r : Nat) : Field := ⟨(RI_IFT_CMD r), 31, 1⟩
/-- R585 -/
def RI_IFT_STAT (r : Nat) : Nat := regKey (ridgePage r 3) (0x88) 0
def RI_IFT_STAT.SITE (r : Nat) : Field := ⟨(RI_IFT_STAT r), 0, 6⟩
def RI_IFT_STAT.STATE (r : Nat) : Field := ⟨(RI_IFT_STAT r), 8, 3⟩
def RI_IFT_STAT.FAILS (r : Nat) : Field := ⟨(RI_IFT_STAT r), 16, 16⟩
/-- R587 -/
def FS_STAT : Nat := regKey (diePage 10) (0x40) 0
def FS_STAT.COUNT : Field := ⟨FS_STAT, 0, 7⟩
def FS_STAT.LOST : Field := ⟨FS_STAT, 16, 16⟩
/-- R587 -/
def FS_POP : Nat := regKey (diePage 10) (0x44) 0
/-- R587 -/
def FS_MERGE : Nat := regKey (diePage 10) (0x48) 0
def FS_MERGE.MS : Field := ⟨FS_MERGE, 0, 16⟩
/-- R587 -/
def TW_CTL : Nat := regKey (diePage 10) (0x50) 0
def TW_CTL.ROLE : Field := ⟨TW_CTL, 0, 2⟩
def TW_CTL.MODE : Field := ⟨TW_CTL, 2, 1⟩
/-- R587 -/
def TW_PERIOD : Nat := regKey (diePage 10) (0x54) 0
/-- R587 -/
def TW_EPOCH : Nat := regKey (diePage 10) (0x58) 0
/-- R587 -/
def TW_ACKED : Nat := regKey (diePage 10) (0x5C) 0
/-- R587 -/
def TW_RESUME_EPOCH : Nat := regKey (diePage 10) (0x60) 0
/-- R587 -/
def TW_CMD : Nat := regKey (diePage 10) (0x64) 0
def TW_CMD.OP : Field := ⟨TW_CMD, 0, 4⟩
/-- R587 -/
def TW_STAT : Nat := regKey (diePage 10) (0x68) 0
def TW_STAT.STATE : Field := ⟨TW_STAT, 0, 3⟩
def TW_STAT.HELD : Field := ⟨TW_STAT, 8, 2⟩
/-- R587 -/
def TW_BYTES : Nat := regKey (diePage 10) (0x6C) 0
/-- R587 -/
def FS_DATA (n : Nat) : Nat := regKey (diePage 10) (0x400 + 4 * n) 0
/-- R621 -/
def TR_STAT (k : Nat) : Nat := regKey (trustPage k) (0x40) 0
def TR_STAT.LIFECYCLE (k : Nat) : Field := ⟨(TR_STAT k), 0, 2⟩
def TR_STAT.STORE_DEBUG (k : Nat) : Field := ⟨(TR_STAT k), 2, 1⟩
def TR_STAT.BASE_SVN (k : Nat) : Field := ⟨(TR_STAT k), 8, 8⟩
def TR_STAT.MIN_SVN (k : Nat) : Field := ⟨(TR_STAT k), 16, 8⟩
/-- R621 -/
def TR_MBOX_CMD (k : Nat) : Nat := regKey (trustPage k) (0x44) 0
def TR_MBOX_CMD.OP (k : Nat) : Field := ⟨(TR_MBOX_CMD k), 0, 4⟩
def TR_MBOX_CMD.RIDGE (k : Nat) : Field := ⟨(TR_MBOX_CMD k), 4, 4⟩
def TR_MBOX_CMD.SLOT (k : Nat) : Field := ⟨(TR_MBOX_CMD k), 8, 6⟩
def TR_MBOX_CMD.LEN (k : Nat) : Field := ⟨(TR_MBOX_CMD k), 16, 11⟩
/-- R621 -/
def TR_MBOX_STAT (k : Nat) : Nat := regKey (trustPage k) (0x48) 0
def TR_MBOX_STAT.STATE (k : Nat) : Field := ⟨(TR_MBOX_STAT k), 0, 2⟩
def TR_MBOX_STAT.RESULT (k : Nat) : Field := ⟨(TR_MBOX_STAT k), 4, 4⟩
def TR_MBOX_STAT.OP (k : Nat) : Field := ⟨(TR_MBOX_STAT k), 8, 4⟩
/-- R621 -/
def TR_RIDGE_SEL (k : Nat) : Nat := regKey (trustPage k) (0x4C) 0
def TR_RIDGE_SEL.RIDGE (k : Nat) : Field := ⟨(TR_RIDGE_SEL k), 0, 4⟩
/-- R621 -/
def TR_RIDGE_STAT (k i : Nat) : Nat := regKey (trustPage k) (0x50) i
def TR_RIDGE_STAT.STATE (k i : Nat) : Field := ⟨(TR_RIDGE_STAT k i), 0, 2⟩
def TR_RIDGE_STAT.VF_TRUST (k i : Nat) : Field := ⟨(TR_RIDGE_STAT k i), 2, 1⟩
def TR_RIDGE_STAT.SEAL_CODE (k i : Nat) : Field := ⟨(TR_RIDGE_STAT k i), 3, 1⟩
def TR_RIDGE_STAT.ALLOW_COUNT (k i : Nat) : Field := ⟨(TR_RIDGE_STAT k i), 4, 4⟩
/-- R621 -/
def TR_NONCE_LO (k i : Nat) : Nat := regKey (trustPage k) (0x54) i
def TR_NONCE_LO.NONCE (k i : Nat) : Field := ⟨(TR_NONCE_LO k i), 0, 32⟩
/-- R621 -/
def TR_NONCE_HI (k i : Nat) : Nat := regKey (trustPage k) (0x58) i
/-- R621 -/
def TR_TENANT (k n i : Nat) : Nat := regKey (trustPage k) (0x5C + 4 * n) i
/-- R621 -/
def TR_KEY_SEL (k : Nat) : Nat := regKey (trustPage k) (0x8C) 0
def TR_KEY_SEL.SLOT (k : Nat) : Field := ⟨(TR_KEY_SEL k), 0, 6⟩
/-- R621 -/
def TR_KEY_STAT (k i : Nat) : Nat := regKey (trustPage k) (0x90) i
def TR_KEY_STAT.VALID (k i : Nat) : Field := ⟨(TR_KEY_STAT k i), 0, 1⟩
def TR_KEY_STAT.USED (k i : Nat) : Field := ⟨(TR_KEY_STAT k i), 1, 1⟩
def TR_KEY_STAT.EXPORT (k i : Nat) : Field := ⟨(TR_KEY_STAT k i), 2, 1⟩
def TR_KEY_STAT.RIDGES (k i : Nat) : Field := ⟨(TR_KEY_STAT k i), 16, 16⟩
/-- R621 -/
def TR_GRANT_SEL (k : Nat) : Nat := regKey (trustPage k) (0x94) 0
def TR_GRANT_SEL.ENTRY (k : Nat) : Field := ⟨(TR_GRANT_SEL k), 0, 8⟩
/-- R621 -/
def TR_GRANT_STAT (k i : Nat) : Nat := regKey (trustPage k) (0x98) i
def TR_GRANT_STAT.VALID (k i : Nat) : Field := ⟨(TR_GRANT_STAT k i), 0, 1⟩
def TR_GRANT_STAT.KIND (k i : Nat) : Field := ⟨(TR_GRANT_STAT k i), 1, 2⟩
def TR_GRANT_STAT.RD (k i : Nat) : Field := ⟨(TR_GRANT_STAT k i), 3, 1⟩
def TR_GRANT_STAT.WR (k i : Nat) : Field := ⟨(TR_GRANT_STAT k i), 4, 1⟩
def TR_GRANT_STAT.TARGET_RIDGE (k i : Nat) : Field := ⟨(TR_GRANT_STAT k i), 8, 4⟩
def TR_GRANT_STAT.GRANTEE_RIDGE (k i : Nat) : Field := ⟨(TR_GRANT_STAT k i), 12, 4⟩
def TR_GRANT_STAT.GRANTEE_COORD (k i : Nat) : Field := ⟨(TR_GRANT_STAT k i), 16, 9⟩
/-- R621 -/
def TR_GRANT_ID_LO (k i : Nat) : Nat := regKey (trustPage k) (0x9C) i
def TR_GRANT_ID_LO.GRANT_ID (k i : Nat) : Field := ⟨(TR_GRANT_ID_LO k i), 0, 32⟩
/-- R621 -/
def TR_GRANT_ID_HI (k i : Nat) : Nat := regKey (trustPage k) (0xA0) i
/-- R621 -/
def TR_DENIED (k : Nat) : Nat := regKey (trustPage k) (0xA4) 0
/-- R621 -/
def TR_DENIED_INFO (k : Nat) : Nat := regKey (trustPage k) (0xA8) 0
def TR_DENIED_INFO.FUNC (k : Nat) : Field := ⟨(TR_DENIED_INFO k), 0, 5⟩
def TR_DENIED_INFO.RIDGE (k : Nat) : Field := ⟨(TR_DENIED_INFO k), 8, 4⟩
def TR_DENIED_INFO.REASON (k : Nat) : Field := ⟨(TR_DENIED_INFO k), 12, 4⟩
/-- R621 -/
def TR_LINK_SVN (k : Nat) : Nat := regKey (trustPage k) (0xAC) 0
def TR_LINK_SVN.MIN (k : Nat) : Field := ⟨(TR_LINK_SVN k), 0, 8⟩
/-- R621 -/
def TR_MBOX_DATA (k n : Nat) : Nat := regKey (trustPage k) (0x400 + 4 * n) 0
/-- R648 -/
def PM_DIE_CMD : Nat := regKey (diePage 2) (0x40) 0
def PM_DIE_CMD.OP : Field := ⟨PM_DIE_CMD, 0, 3⟩
/-- R648 -/
def PM_DIE_STAT : Nat := regKey (diePage 2) (0x44) 0
def PM_DIE_STAT.RIDGES_RUN : Field := ⟨PM_DIE_STAT, 16, 16⟩
def PM_DIE_STAT.LAST_OFF : Field := ⟨PM_DIE_STAT, 6, 2⟩
def PM_DIE_STAT.PF_LATCHED : Field := ⟨PM_DIE_STAT, 5, 1⟩
def PM_DIE_STAT.LV_HOLD : Field := ⟨PM_DIE_STAT, 4, 1⟩
def PM_DIE_STAT.STATE : Field := ⟨PM_DIE_STAT, 0, 2⟩
/-- R648 -/
def PM_WAKE_CAUSE : Nat := regKey (diePage 2) (0x48) 0
def PM_WAKE_CAUSE.I3C : Field := ⟨PM_WAKE_CAUSE, 0, 1⟩
def PM_WAKE_CAUSE.TIMER : Field := ⟨PM_WAKE_CAUSE, 1, 1⟩
def PM_WAKE_CAUSE.REFRESH : Field := ⟨PM_WAKE_CAUSE, 2, 1⟩
def PM_WAKE_CAUSE.DOORBELL : Field := ⟨PM_WAKE_CAUSE, 3, 1⟩
def PM_WAKE_CAUSE.CORE_START : Field := ⟨PM_WAKE_CAUSE, 4, 1⟩
def PM_WAKE_CAUSE.ARRIVAL : Field := ⟨PM_WAKE_CAUSE, 5, 1⟩
/-- R648 -/
def PM_RSEL : Nat := regKey (diePage 2) (0x4C) 0
def PM_RSEL.RIDGE : Field := ⟨PM_RSEL, 0, 4⟩
/-- R648 -/
def PM_RIDGE_CMD (i : Nat) : Nat := regKey (diePage 2) (0x50) i
def PM_RIDGE_CMD.OP (i : Nat) : Field := ⟨(PM_RIDGE_CMD i), 0, 2⟩
/-- R648 -/
def PM_RIDGE_CFG (i : Nat) : Nat := regKey (diePage 2) (0x54) i
def PM_RIDGE_CFG.DOZE_CYC (i : Nat) : Field := ⟨(PM_RIDGE_CFG i), 0, 16⟩
def PM_RIDGE_CFG.NAP_US (i : Nat) : Field := ⟨(PM_RIDGE_CFG i), 16, 15⟩
def PM_RIDGE_CFG.AUTO_NAP (i : Nat) : Field := ⟨(PM_RIDGE_CFG i), 31, 1⟩
/-- R648 -/
def PM_RIDGE_STAT (i : Nat) : Nat := regKey (diePage 2) (0x58) i
def PM_RIDGE_STAT.STATE (i : Nat) : Field := ⟨(PM_RIDGE_STAT i), 0, 3⟩
def PM_RIDGE_STAT.ENTRY_STEP (i : Nat) : Field := ⟨(PM_RIDGE_STAT i), 4, 3⟩
def PM_RIDGE_STAT.TARGET (i : Nat) : Field := ⟨(PM_RIDGE_STAT i), 8, 2⟩
def PM_RIDGE_STAT.ABORTS (i : Nat) : Field := ⟨(PM_RIDGE_STAT i), 16, 16⟩
/-- R648 -/
def PM_RIDGE_TIMER (i : Nat) : Nat := regKey (diePage 2) (0x5C) i
/-- R648 -/
def PM_DOORBELL (i : Nat) : Nat := regKey (diePage 2) (0x60) i
/-- R648 -/
def PM_RAIL_SEL : Nat := regKey (diePage 2) (0x64) 0
def PM_RAIL_SEL.RAIL : Field := ⟨PM_RAIL_SEL, 0, 4⟩
/-- R648 -/
def PM_RAIL_STAT (i : Nat) : Nat := regKey (diePage 2) (0x68) i
def PM_RAIL_STAT.PG (i : Nat) : Field := ⟨(PM_RAIL_STAT i), 0, 1⟩
def PM_RAIL_STAT.WARN (i : Nat) : Field := ⟨(PM_RAIL_STAT i), 1, 1⟩
def PM_RAIL_STAT.BELOW_RESET (i : Nat) : Field := ⟨(PM_RAIL_STAT i), 2, 1⟩
def PM_RAIL_STAT.EN (i : Nat) : Field := ⟨(PM_RAIL_STAT i), 3, 1⟩
def PM_RAIL_STAT.SETPOINT (i : Nat) : Field := ⟨(PM_RAIL_STAT i), 4, 12⟩
def PM_RAIL_STAT.MV (i : Nat) : Field := ⟨(PM_RAIL_STAT i), 16, 12⟩
/-- R648 -/
def PM_LV_CNT : Nat := regKey (diePage 2) (0x6C) 0
def PM_LV_CNT.HOLDS : Field := ⟨PM_LV_CNT, 0, 16⟩
def PM_LV_CNT.LONGEST_US : Field := ⟨PM_LV_CNT, 16, 16⟩
/-- R648 -/
def PM_GOV_CFG : Nat := regKey (diePage 2) (0x70) 0
def PM_GOV_CFG.GUARD : Field := ⟨PM_GOV_CFG, 0, 8⟩
def PM_GOV_CFG.FRAME : Field := ⟨PM_GOV_CFG, 8, 16⟩
/-- R648 -/
def PM_GOV_STAT : Nat := regKey (diePage 2) (0x74) 0
def PM_GOV_STAT.LIMIT : Field := ⟨PM_GOV_STAT, 0, 10⟩
def PM_GOV_STAT.STRETCH : Field := ⟨PM_GOV_STAT, 16, 8⟩
/-- R648 -/
def PM_GOV_E1S : Nat := regKey (diePage 2) (0x78) 0
def PM_GOV_E1S.S : Field := ⟨PM_GOV_E1S, 0, 20⟩
/-- R648 -/
def PM_GOV_RCFG (i : Nat) : Nat := regKey (diePage 2) (0x7C) i
def PM_GOV_RCFG.CAP (i : Nat) : Field := ⟨(PM_GOV_RCFG i), 0, 10⟩
def PM_GOV_RCFG.WEIGHT (i : Nat) : Field := ⟨(PM_GOV_RCFG i), 12, 4⟩
def PM_GOV_RCFG.THERM (i : Nat) : Field := ⟨(PM_GOV_RCFG i), 16, 5⟩
/-- R648 -/
def PM_GOV_RSTAT (i : Nat) : Nat := regKey (diePage 2) (0x80) i
def PM_GOV_RSTAT.A (i : Nat) : Field := ⟨(PM_GOV_RSTAT i), 0, 5⟩
def PM_GOV_RSTAT.BUDGET (i : Nat) : Field := ⟨(PM_GOV_RSTAT i), 8, 10⟩
/-- R648 -/
def PM_PF_STAT : Nat := regKey (diePage 2) (0x84) 0
def PM_PF_STAT.LATCHED : Field := ⟨PM_PF_STAT, 0, 1⟩
def PM_PF_STAT.FLUSH_DONE : Field := ⟨PM_PF_STAT, 1, 1⟩
def PM_PF_STAT.COUNT : Field := ⟨PM_PF_STAT, 16, 16⟩
/-- R648 -/
def PM_OFF_ACCESS : Nat := regKey (diePage 2) (0x88) 0
def PM_OFF_ACCESS.R629 : Field := ⟨PM_OFF_ACCESS, 0, 32⟩
/-- R678 -/
def LK_SEL : Nat := regKey (diePage 3) (0x40) 0
def LK_SEL.CONV : Field := ⟨LK_SEL, 0, 2⟩
/-- R678 -/
def LK_CTL (i : Nat) : Nat := regKey (diePage 3) (0x44) i
def LK_CTL.EN (i : Nat) : Field := ⟨(LK_CTL i), 0, 1⟩
def LK_CTL.LP (i : Nat) : Field := ⟨(LK_CTL i), 1, 1⟩
def LK_CTL.TLOG (i : Nat) : Field := ⟨(LK_CTL i), 2, 1⟩
/-- R678 -/
def LK_STAT (i : Nat) : Nat := regKey (diePage 3) (0x48) i
def LK_STAT.MODE (i : Nat) : Field := ⟨(LK_STAT i), 0, 2⟩
def LK_STAT.BUSY (i : Nat) : Field := ⟨(LK_STAT i), 2, 1⟩
def LK_STAT.LP_ACTIVE (i : Nat) : Field := ⟨(LK_STAT i), 3, 1⟩
def LK_STAT.CHECK_DEV (i : Nat) : Field := ⟨(LK_STAT i), 8, 8⟩
def LK_STAT.URG_QUEUED (i : Nat) : Field := ⟨(LK_STAT i), 16, 3⟩
/-- R678 -/
def LK_SCAN_SEL : Nat := regKey (diePage 3) (0x4C) 0
def LK_SCAN_SEL.ENTRY : Field := ⟨LK_SCAN_SEL, 0, 6⟩
/-- R678 -/
def LK_SCAN_DATA (i : Nat) : Nat := regKey (diePage 3) (0x50) i
/-- R678 -/
def LK_URG_CMD (i : Nat) : Nat := regKey (diePage 3) (0x54) i
def LK_URG_CMD.INPUT (i : Nat) : Field := ⟨(LK_URG_CMD i), 0, 5⟩
def LK_URG_CMD.MUX (i : Nat) : Field := ⟨(LK_URG_CMD i), 5, 4⟩
def LK_URG_CMD.KIND (i : Nat) : Field := ⟨(LK_URG_CMD i), 9, 2⟩
def LK_URG_CMD.GO (i : Nat) : Field := ⟨(LK_URG_CMD i), 31, 1⟩
/-- R678 -/
def LK_URG_RESULT (i : Nat) : Nat := regKey (diePage 3) (0x58) i
def LK_URG_RESULT.CODE (i : Nat) : Field := ⟨(LK_URG_RESULT i), 0, 12⟩
def LK_URG_RESULT.STATUS (i : Nat) : Field := ⟨(LK_URG_RESULT i), 12, 2⟩
def LK_URG_RESULT.VALUE (i : Nat) : Field := ⟨(LK_URG_RESULT i), 16, 16⟩
/-- R678 -/
def LK_COUNT (i : Nat) : Nat := regKey (diePage 3) (0x5C) i
def LK_COUNT.URG_DROP (i : Nat) : Field := ⟨(LK_COUNT i), 0, 16⟩
def LK_COUNT.OVERRUN (i : Nat) : Field := ⟨(LK_COUNT i), 16, 16⟩
/-- R678 -/
def LK_RESTART (i : Nat) : Nat := regKey (diePage 3) (0x60) i
/-- R678 -/
def LK_BUF_SEL : Nat := regKey (diePage 3) (0x64) 0
def LK_BUF_SEL.BUF : Field := ⟨LK_BUF_SEL, 0, 2⟩
/-- R678 -/
def LK_BUF_CFG (i : Nat) : Nat := regKey (diePage 3) (0x68) i
def LK_BUF_CFG.EN (i : Nat) : Field := ⟨(LK_BUF_CFG i), 0, 1⟩
def LK_BUF_CFG.FULL_MODE (i : Nat) : Field := ⟨(LK_BUF_CFG i), 1, 1⟩
/-- R678 -/
def LK_BUF_HEAD (i : Nat) : Nat := regKey (diePage 3) (0x6C) i
def LK_BUF_HEAD.HEAD (i : Nat) : Field := ⟨(LK_BUF_HEAD i), 0, 12⟩
/-- R678 -/
def LK_BUF_TAIL (i : Nat) : Nat := regKey (diePage 3) (0x70) i
def LK_BUF_TAIL.TAIL (i : Nat) : Field := ⟨(LK_BUF_TAIL i), 0, 12⟩
def LK_BUF_TAIL.COUNT (i : Nat) : Field := ⟨(LK_BUF_TAIL i), 16, 13⟩
/-- R678 -/
def LK_BUF_LOST (i : Nat) : Nat := regKey (diePage 3) (0x74) i
/-- R678 -/
def LK_BUF_WIN (n : Nat) : Nat := regKey (diePage 3) (0x800 + 4 * n) 0
/-- R681 -/
def LT_SENS_SEL : Nat := regKey (diePage 4) (0x40) 0
def LT_SENS_SEL.SENSOR : Field := ⟨LT_SENS_SEL, 0, 7⟩
/-- R681 -/
def LT_SENS_DATA (i : Nat) : Nat := regKey (diePage 4) (0x44) i
def LT_SENS_DATA.TEMP (i : Nat) : Field := ⟨(LT_SENS_DATA i), 0, 16⟩
def LT_SENS_DATA.VALID (i : Nat) : Field := ⟨(LT_SENS_DATA i), 16, 1⟩
def LT_SENS_DATA.BROKEN (i : Nat) : Field := ⟨(LT_SENS_DATA i), 17, 1⟩
def LT_SENS_DATA.FAST (i : Nat) : Field := ⟨(LT_SENS_DATA i), 18, 1⟩
def LT_SENS_DATA.DEVIANT (i : Nat) : Field := ⟨(LT_SENS_DATA i), 19, 2⟩
/-- R681 -/
def LT_SENS_EXT (i : Nat) : Nat := regKey (diePage 4) (0x48) i
def LT_SENS_EXT.MIN (i : Nat) : Field := ⟨(LT_SENS_EXT i), 0, 16⟩
def LT_SENS_EXT.MAX (i : Nat) : Field := ⟨(LT_SENS_EXT i), 16, 16⟩
/-- R681 -/
def LT_SENS_CLR : Nat := regKey (diePage 4) (0x4C) 0
def LT_SENS_CLR.SENSOR : Field := ⟨LT_SENS_CLR, 0, 7⟩
/-- R681 -/
def LT_BROKEN_CNT : Nat := regKey (diePage 4) (0x50) 0
/-- R681 -/
def LT_RIDGE_SEL : Nat := regKey (diePage 4) (0x54) 0
def LT_RIDGE_SEL.RIDGE : Field := ⟨LT_RIDGE_SEL, 0, 4⟩
/-- R681 -/
def LT_RIDGE_STAT (i : Nat) : Nat := regKey (diePage 4) (0x58) i
def LT_RIDGE_STAT.BAND (i : Nat) : Field := ⟨(LT_RIDGE_STAT i), 0, 3⟩
def LT_RIDGE_STAT.VALID_SENS (i : Nat) : Field := ⟨(LT_RIDGE_STAT i), 3, 3⟩
def LT_RIDGE_STAT.FAST (i : Nat) : Field := ⟨(LT_RIDGE_STAT i), 6, 1⟩
def LT_RIDGE_STAT.HOTTEST (i : Nat) : Field := ⟨(LT_RIDGE_STAT i), 8, 8⟩
def LT_RIDGE_STAT.THERM (i : Nat) : Field := ⟨(LT_RIDGE_STAT i), 16, 5⟩
/-- R681 -/
def LT_THROT_CFG : Nat := regKey (diePage 4) (0x5C) 0
def LT_THROT_CFG.FLOOR : Field := ⟨LT_THROT_CFG, 0, 5⟩
/-- R681 -/
def LT_STACK_SEL : Nat := regKey (diePage 4) (0x60) 0
def LT_STACK_SEL.STACK : Field := ⟨LT_STACK_SEL, 0, 3⟩
/-- R681 -/
def LT_STACK_DATA (i : Nat) : Nat := regKey (diePage 4) (0x64) i
def LT_STACK_DATA.TEMP (i : Nat) : Field := ⟨(LT_STACK_DATA i), 0, 8⟩
def LT_STACK_DATA.VALID (i : Nat) : Field := ⟨(LT_STACK_DATA i), 8, 1⟩
def LT_STACK_DATA.BAND (i : Nat) : Field := ⟨(LT_STACK_DATA i), 9, 3⟩
/-- R681 -/
def LT_TRIP_INFO : Nat := regKey (diePage 4) (0x68) 0
def LT_TRIP_INFO.SOURCE : Field := ⟨LT_TRIP_INFO, 0, 7⟩
def LT_TRIP_INFO.TRIPPED : Field := ⟨LT_TRIP_INFO, 7, 1⟩
def LT_TRIP_INFO.TEMP : Field := ⟨LT_TRIP_INFO, 8, 16⟩
def LT_TRIP_INFO.CLR_REJECT : Field := ⟨LT_TRIP_INFO, 24, 1⟩
def LT_TRIP_INFO.TIME_UNSET : Field := ⟨LT_TRIP_INFO, 25, 1⟩
/-- R681 -/
def LT_TRIP_TIME_LO : Nat := regKey (diePage 4) (0x6C) 0
/-- R681 -/
def LT_TRIP_TIME_HI : Nat := regKey (diePage 4) (0x70) 0
/-- R681 -/
def LT_TRIP_CLR : Nat := regKey (diePage 4) (0x74) 0
def LT_TRIP_CLR.CLR : Field := ⟨LT_TRIP_CLR, 0, 1⟩
/-- R696 -/
def CAL_CMD : Nat := regKey (diePage 7) (0x40) 0
def CAL_CMD.TARGET : Field := ⟨CAL_CMD, 0, 4⟩
def CAL_CMD.RIDGE : Field := ⟨CAL_CMD, 4, 4⟩
def CAL_CMD.SITE : Field := ⟨CAL_CMD, 8, 6⟩
def CAL_CMD.ENGINE : Field := ⟨CAL_CMD, 14, 4⟩
def CAL_CMD.SLAB : Field := ⟨CAL_CMD, 18, 4⟩
def CAL_CMD.UNIT : Field := ⟨CAL_CMD, 22, 7⟩
def CAL_CMD.GO : Field := ⟨CAL_CMD, 31, 1⟩
/-- R696 -/
def CAL_STAT : Nat := regKey (diePage 7) (0x44) 0
def CAL_STAT.STATE : Field := ⟨CAL_STAT, 0, 2⟩
def CAL_STAT.RESULT : Field := ⟨CAL_STAT, 4, 4⟩
def CAL_STAT.TARGET : Field := ⟨CAL_STAT, 8, 4⟩
def CAL_STAT.UNITS : Field := ⟨CAL_STAT, 12, 12⟩
/-- R696 -/
def CAL_FRAMES : Nat := regKey (diePage 7) (0x48) 0
def CAL_FRAMES.FRAMES : Field := ⟨CAL_FRAMES, 0, 7⟩
/-- R696 -/
def CAL_REF_TEMP : Nat := regKey (diePage 7) (0x4C) 0
def CAL_REF_TEMP.TEMP : Field := ⟨CAL_REF_TEMP, 0, 16⟩
def CAL_REF_TEMP.SOURCE : Field := ⟨CAL_REF_TEMP, 16, 1⟩
/-- R696 -/
def CAL_SETTLE : Nat := regKey (diePage 7) (0x50) 0
def CAL_SETTLE.S : Field := ⟨CAL_SETTLE, 0, 8⟩
/-- R696 -/
def CAL_Q_SEL : Nat := regKey (diePage 7) (0x54) 0
def CAL_Q_SEL.UNIT : Field := ⟨CAL_Q_SEL, 0, 12⟩
/-- R696 -/
def CAL_Q_DATA (i : Nat) : Nat := regKey (diePage 7) (0x58) i
def CAL_Q_DATA.FIGURE (i : Nat) : Field := ⟨(CAL_Q_DATA i), 0, 16⟩
def CAL_Q_DATA.FIGURE2 (i : Nat) : Field := ⟨(CAL_Q_DATA i), 16, 12⟩
def CAL_Q_DATA.PASS (i : Nat) : Field := ⟨(CAL_Q_DATA i), 28, 1⟩
def CAL_Q_DATA.OUTCOME (i : Nat) : Field := ⟨(CAL_Q_DATA i), 29, 3⟩
/-- R696 -/
def CAL_WORST : Nat := regKey (diePage 7) (0x5C) 0
def CAL_WORST.FIGURE : Field := ⟨CAL_WORST, 0, 16⟩
def CAL_WORST.FIGURE2 : Field := ⟨CAL_WORST, 16, 16⟩
/-- R696 -/
def CAL_RD_SEL : Nat := regKey (diePage 7) (0x60) 0
def CAL_RD_SEL.RIDGE : Field := ⟨CAL_RD_SEL, 0, 4⟩
def CAL_RD_SEL.SITE : Field := ⟨CAL_RD_SEL, 4, 6⟩
def CAL_RD_SEL.ENGINE : Field := ⟨CAL_RD_SEL, 10, 3⟩
def CAL_RD_SEL.BAND : Field := ⟨CAL_RD_SEL, 13, 3⟩
def CAL_RD_SEL.LEVEL : Field := ⟨CAL_RD_SEL, 16, 4⟩
/-- R696 -/
def CAL_RD_DATA (i : Nat) : Nat := regKey (diePage 7) (0x64) i
def CAL_RD_DATA.TRIM (i : Nat) : Field := ⟨(CAL_RD_DATA i), 0, 8⟩
/-- R714 -/
def CAIRN_CTL : Nat := regKey (diePage 5) (0x40) 0
def CAIRN_CTL.FLUSH : Field := ⟨CAIRN_CTL, 3, 1⟩
def CAIRN_CTL.CLEAR : Field := ⟨CAIRN_CTL, 2, 1⟩
def CAIRN_CTL.FREEZE : Field := ⟨CAIRN_CTL, 1, 1⟩
def CAIRN_CTL.EN : Field := ⟨CAIRN_CTL, 0, 1⟩
/-- R714 -/
def CAIRN_STAT : Nat := regKey (diePage 5) (0x44) 0
def CAIRN_STAT.TIME_SET : Field := ⟨CAIRN_STAT, 0, 1⟩
def CAIRN_STAT.FLUSHING : Field := ⟨CAIRN_STAT, 1, 1⟩
def CAIRN_STAT.RD_READY : Field := ⟨CAIRN_STAT, 2, 1⟩
def CAIRN_STAT.RD_DENIED : Field := ⟨CAIRN_STAT, 3, 1⟩
def CAIRN_STAT.STAGE_LOST : Field := ⟨CAIRN_STAT, 16, 16⟩
/-- R714 -/
def CAIRN_CFG : Nat := regKey (diePage 5) (0x48) 0
def CAIRN_CFG.PERIOD_H : Field := ⟨CAIRN_CFG, 0, 8⟩
def CAIRN_CFG.FREEZE_MS : Field := ⟨CAIRN_CFG, 16, 16⟩
/-- R714 -/
def CAIRN_TIME_LO : Nat := regKey (diePage 5) (0x4C) 0
/-- R714 -/
def CAIRN_TIME_HI : Nat := regKey (diePage 5) (0x50) 0
/-- R714 -/
def CAIRN_MISSED : Nat := regKey (diePage 5) (0x54) 0
/-- R714 -/
def CAIRN_FLUSH_CNT : Nat := regKey (diePage 5) (0x58) 0
/-- R714 -/
def CAIRN_RING : Nat := regKey (diePage 5) (0x5C) 0
def CAIRN_RING.TAIL : Field := ⟨CAIRN_RING, 0, 15⟩
def CAIRN_RING.WRAPS : Field := ⟨CAIRN_RING, 16, 16⟩
/-- R714 -/
def CAIRN_SEQ : Nat := regKey (diePage 5) (0x60) 0
def CAIRN_SEQ.SEQ : Field := ⟨CAIRN_SEQ, 0, 32⟩
/-- R714 -/
def CAIRN_RD_ADDR : Nat := regKey (diePage 5) (0x64) 0
def CAIRN_RD_ADDR.ADDR : Field := ⟨CAIRN_RD_ADDR, 0, 24⟩
/-- R714 -/
def CAIRN_WIN (n : Nat) : Nat := regKey (diePage 5) (0x800 + 4 * n) 0
/-- R740 -/
def BC_STAT : Nat := regKey (diePage 1) (0x40) 0
def BC_STAT.LAST_RESET : Field := ⟨BC_STAT, 17, 3⟩
def BC_STAT.SERVING : Field := ⟨BC_STAT, 16, 1⟩
def BC_STAT.FAIL_STEP : Field := ⟨BC_STAT, 12, 4⟩
def BC_STAT.TRIAL : Field := ⟨BC_STAT, 10, 1⟩
def BC_STAT.SLOT : Field := ⟨BC_STAT, 8, 2⟩
def BC_STAT.STEP : Field := ⟨BC_STAT, 0, 4⟩
/-- R740 -/
def BC_CFG : Nat := regKey (diePage 1) (0x44) 0
def BC_CFG.AUTO_START : Field := ⟨BC_CFG, 0, 1⟩
def BC_CFG.PERST_SCOPE : Field := ⟨BC_CFG, 1, 1⟩
def BC_CFG.WDT_MS : Field := ⟨BC_CFG, 16, 16⟩
/-- R740 -/
def BC_RESET : Nat := regKey (diePage 1) (0x48) 0
def BC_RESET.OP : Field := ⟨BC_RESET, 0, 3⟩
def BC_RESET.KEY : Field := ⟨BC_RESET, 8, 8⟩
def BC_RESET.RIDGES : Field := ⟨BC_RESET, 16, 16⟩
/-- R740 -/
def BC_ID_STAT : Nat := regKey (diePage 1) (0x4C) 0
def BC_ID_STAT.FRU_OK : Field := ⟨BC_ID_STAT, 0, 1⟩
def BC_ID_STAT.PMOD_OK : Field := ⟨BC_ID_STAT, 1, 1⟩
def BC_ID_STAT.HBM_OK : Field := ⟨BC_ID_STAT, 8, 6⟩
/-- R740 -/
def BC_UPDATE_ADDR_LO : Nat := regKey (diePage 1) (0x50) 0
/-- R740 -/
def BC_UPDATE_ADDR_HI : Nat := regKey (diePage 1) (0x54) 0
/-- R740 -/
def BC_UPDATE_CMD : Nat := regKey (diePage 1) (0x58) 0
def BC_UPDATE_CMD.OP : Field := ⟨BC_UPDATE_CMD, 0, 3⟩
def BC_UPDATE_CMD.PORT : Field := ⟨BC_UPDATE_CMD, 3, 4⟩
def BC_UPDATE_CMD.RIDGES : Field := ⟨BC_UPDATE_CMD, 16, 16⟩
/-- R740 -/
def BC_UPDATE_STAT : Nat := regKey (diePage 1) (0x5C) 0
def BC_UPDATE_STAT.STATE : Field := ⟨BC_UPDATE_STAT, 0, 2⟩
def BC_UPDATE_STAT.RESULT : Field := ⟨BC_UPDATE_STAT, 4, 4⟩
def BC_UPDATE_STAT.STAGED : Field := ⟨BC_UPDATE_STAT, 8, 1⟩
/-- R740 -/
def BC_FW_ACTIVE : Nat := regKey (diePage 1) (0x60) 0
/-- R740 -/
def BC_FW_OTHER : Nat := regKey (diePage 1) (0x64) 0
/-- R766 -/
def HP_LINK : Nat := regKey (diePage 9) (0x40) 0
def HP_LINK.UP : Field := ⟨HP_LINK, 0, 1⟩
def HP_LINK.FLIT : Field := ⟨HP_LINK, 1, 1⟩
def HP_LINK.SPEED : Field := ⟨HP_LINK, 2, 3⟩
def HP_LINK.WIDTH : Field := ⟨HP_LINK, 5, 5⟩
def HP_LINK.IDE_LINK : Field := ⟨HP_LINK, 10, 1⟩
/-- R766 -/
def HP_VF : Nat := regKey (diePage 9) (0x44) 0
def HP_VF.NUMVF : Field := ⟨HP_VF, 0, 5⟩
def HP_VF.VF_EN : Field := ⟨HP_VF, 5, 1⟩
def HP_VF.MSIX_EN : Field := ⟨HP_VF, 16, 16⟩
/-- R766 -/
def HP_AP_SEL : Nat := regKey (diePage 9) (0x48) 0
def HP_AP_SEL.WINDOW : Field := ⟨HP_AP_SEL, 0, 6⟩
/-- R766 -/
def HP_AP_CFG (i : Nat) : Nat := regKey (diePage 9) (0x4C) i
def HP_AP_CFG.VALID (i : Nat) : Field := ⟨(HP_AP_CFG i), 0, 1⟩
def HP_AP_CFG.WR (i : Nat) : Field := ⟨(HP_AP_CFG i), 1, 1⟩
def HP_AP_CFG.KIND (i : Nat) : Field := ⟨(HP_AP_CFG i), 2, 1⟩
def HP_AP_CFG.OWNER (i : Nat) : Field := ⟨(HP_AP_CFG i), 3, 5⟩
def HP_AP_CFG.BASE_G (i : Nat) : Field := ⟨(HP_AP_CFG i), 8, 8⟩
/-- R766 -/
def HP_AP_DROP : Nat := regKey (diePage 9) (0x50) 0
def HP_AP_DROP.R751 : Field := ⟨HP_AP_DROP, 0, 32⟩
/-- R766 -/
def HP_AP_LAST : Nat := regKey (diePage 9) (0x54) 0
def HP_AP_LAST.WINDOW : Field := ⟨HP_AP_LAST, 0, 6⟩
def HP_AP_LAST.FUNC : Field := ⟨HP_AP_LAST, 6, 5⟩
def HP_AP_LAST.REASON : Field := ⟨HP_AP_LAST, 12, 3⟩
/-- R766 -/
def HP_VF_DENIED : Nat := regKey (diePage 9) (0x58) 0
def HP_VF_DENIED.R749 : Field := ⟨HP_VF_DENIED, 0, 32⟩
/-- R768 -/
def MG_STAT : Nat := regKey (diePage 6) (0x40) 0
def MG_STAT.MODE : Field := ⟨MG_STAT, 0, 2⟩
def MG_STAT.DYN_VALID : Field := ⟨MG_STAT, 2, 1⟩
def MG_STAT.DYN_ADDR : Field := ⟨MG_STAT, 3, 7⟩
def MG_STAT.IBI_EN : Field := ⟨MG_STAT, 10, 1⟩
def MG_STAT.ALERT : Field := ⟨MG_STAT, 11, 1⟩
def MG_STAT.EID : Field := ⟨MG_STAT, 12, 8⟩
/-- R768 -/
def MG_CFG : Nat := regKey (diePage 6) (0x44) 0
def MG_CFG.FS_OWNER : Field := ⟨MG_CFG, 0, 1⟩
/-- R768 -/
def MG_ALERT_SRC : Nat := regKey (diePage 6) (0x48) 0
def MG_ALERT_SRC.FS : Field := ⟨MG_ALERT_SRC, 0, 1⟩
def MG_ALERT_SRC.TRIP : Field := ⟨MG_ALERT_SRC, 1, 1⟩
def MG_ALERT_SRC.RAIL : Field := ⟨MG_ALERT_SRC, 2, 1⟩
def MG_ALERT_SRC.PLDM_EVENT : Field := ⟨MG_ALERT_SRC, 3, 1⟩
def MG_ALERT_SRC.START_FAIL : Field := ⟨MG_ALERT_SRC, 4, 1⟩
/-- R768 -/
def MG_ALERT_EN : Nat := regKey (diePage 6) (0x4C) 0
/-- R768 -/
def MG_DROP : Nat := regKey (diePage 6) (0x50) 0
/-- R768 -/
def MG_EVT : Nat := regKey (diePage 6) (0x54) 0
def MG_EVT.QUEUED : Field := ⟨MG_EVT, 0, 6⟩
def MG_EVT.LOST : Field := ⟨MG_EVT, 16, 16⟩
/-- R789 -/
def ID_PART : Nat := regKey (diePage 0) (0x40) 0
def ID_PART.PART : Field := ⟨ID_PART, 0, 16⟩
/-- R789 -/
def ID_REV : Nat := regKey (diePage 0) (0x44) 0
def ID_REV.STEPPING : Field := ⟨ID_REV, 0, 8⟩
def ID_REV.ORDER : Field := ⟨ID_REV, 8, 4⟩
/-- R789 -/
def ID_SERIAL_LO : Nat := regKey (diePage 0) (0x48) 0
/-- R789 -/
def ID_SERIAL_HI : Nat := regKey (diePage 0) (0x4C) 0
/-- R789 -/
def ID_UNMAPPED : Nat := regKey (diePage 0) (0x50) 0
def ID_UNMAPPED.R778 : Field := ⟨ID_UNMAPPED, 0, 32⟩
/-- R789 -/
def ID_UNMAPPED_LAST : Nat := regKey (diePage 0) (0x54) 0
def ID_UNMAPPED_LAST.DW : Field := ⟨ID_UNMAPPED_LAST, 0, 26⟩
def ID_UNMAPPED_LAST.FUNC : Field := ⟨ID_UNMAPPED_LAST, 26, 5⟩
def ID_UNMAPPED_LAST.WRITE : Field := ⟨ID_UNMAPPED_LAST, 31, 1⟩
/-- R790 -/
def IM_BASE (r s : Nat) : Nat := regKey (sitePage r s 10) (0x40) 0
def IM_BASE.BASE (r s : Nat) : Field := ⟨(IM_BASE r s), 0, 7⟩
/-- R790 -/
def IM_WIN (r s n : Nat) : Nat := regKey (sitePage r s 10) (0x800 + 4 * n) 0

/-- R769 -/
def BLK_ID (page : Nat) : Nat := regKey page 0x0 0
/-- R769 -/
def BLK_CAP (page : Nat) : Nat := regKey page 0x4 0
/-- R769 -/
def BLK_CTL (page : Nat) : Nat := regKey page 0x8 0
/-- R769 -/
def BLK_STAT (page : Nat) : Nat := regKey page 0xC 0
/-- R769 -/
def BLK_IRQ_STAT (page : Nat) : Nat := regKey page 0x10 0
/-- R769 -/
def BLK_IRQ_EN (page : Nat) : Nat := regKey page 0x14 0
/-- R769 -/
def BLK_IRQ_FORCE (page : Nat) : Nat := regKey page 0x18 0
/-- R769 -/
def BLK_ERR_CNT (page : Nat) : Nat := regKey page 0x1C 0
/-- R769 -/
def BLK_ERR_INFO (page : Nat) : Nat := regKey page 0x20 0
def BLK_CTL.LOCK (page : Nat) : Field := ⟨BLK_CTL page, 31, 1⟩
def BLK_CTL.FREEZE (page : Nat) : Field := ⟨BLK_CTL page, 2, 1⟩
def BLK_CTL.ENABLE (page : Nat) : Field := ⟨BLK_CTL page, 0, 1⟩

/-- R100 -/
def Irq.ridgeStore_IMAGE_ERR : Nat := 10
/-- R100 -/
def Irq.ridgeStore_REF_OVERDUE : Nat := 9
/-- R100 -/
def Irq.ridgeStore_WEAR_WARN : Nat := 8
/-- R100 -/
def Irq.ridgeStore_DRIFT_LIMIT : Nat := 7
/-- R100 -/
def Irq.ridgeStore_LEASE_REQ : Nat := 6
/-- R100 -/
def Irq.ridgeStore_UNSERVABLE : Nat := 5
/-- R100 -/
def Irq.ridgeStore_VALLEY : Nat := 4
/-- R100 -/
def Irq.ridgeStore_SLAB_RETIRED : Nat := 3
/-- R100 -/
def Irq.ridgeStore_COL_REPLACED : Nat := 2
/-- R100 -/
def Irq.ridgeStore_VERIFY_FAIL : Nat := 1
/-- R100 -/
def Irq.ridgeStore_OP_DONE : Nat := 0
/-- R161 -/
def Irq.engine_ENG_FAULT : Nat := 8
/-- R161 -/
def Irq.engine_ECHO_NA : Nat := 7
/-- R161 -/
def Irq.engine_PROBE_MISS : Nat := 6
/-- R161 -/
def Irq.engine_SAT_PERSIST : Nat := 5
/-- R161 -/
def Irq.engine_ECHO_MISMATCH : Nat := 4
/-- R161 -/
def Irq.engine_PROBE_FAIL : Nat := 3
/-- R161 -/
def Irq.engine_TALLY : Nat := 2
/-- R161 -/
def Irq.engine_RESIDUE_ERR : Nat := 1
/-- R161 -/
def Irq.engine_LEDGER_OVF : Nat := 0
/-- R257 -/
def Irq.core_IMEM_WR_REJECT : Nat := 4
/-- R257 -/
def Irq.core_IMEM_UE : Nat := 3
/-- R257 -/
def Irq.core_START_REJECT : Nat := 2
/-- R257 -/
def Irq.core_HALTED : Nat := 1
/-- R257 -/
def Irq.core_EXC : Nat := 0
/-- R260 -/
def Irq.ridgeCore_MIG_FAIL : Nat := 1
/-- R260 -/
def Irq.ridgeCore_MIG_DONE : Nat := 0
/-- R260 -/
def Irq.ridgeSync_CELL_IRQ : Nat := 0
/-- R347 -/
def Irq.spad_HUT_DISCARDED : Nat := 4
/-- R347 -/
def Irq.spad_CR_CFG_ERR : Nat := 3
/-- R347 -/
def Irq.spad_CR_FAULT : Nat := 2
/-- R347 -/
def Irq.spad_TARN_COLL : Nat := 1
/-- R347 -/
def Irq.spad_SP_UE : Nat := 0
/-- R350 -/
def Irq.stack_BAND_CHANGE : Nat := 2
/-- R350 -/
def Irq.stack_ECC_UE : Nat := 1
/-- R350 -/
def Irq.stack_ECC_CORR : Nat := 0
/-- R383 -/
def Irq.flank_SPLIT_DROP : Nat := 2
/-- R383 -/
def Irq.flank_UNREACH : Nat := 1
/-- R383 -/
def Irq.flank_ROUTE_CHANGE : Nat := 0
/-- R385 -/
def Irq.saddle_SADDLE_LOST : Nat := 3
/-- R385 -/
def Irq.saddle_LINK_RETIRED : Nat := 2
/-- R385 -/
def Irq.saddle_REPLAY : Nat := 1
/-- R385 -/
def Irq.saddle_LANE_REPAIRED : Nat := 0
/-- R436 -/
def Irq.port_SWAP_DONE : Nat := 10
/-- R436 -/
def Irq.port_SWAP_REJECT : Nat := 9
/-- R436 -/
def Irq.port_TICK_MISMATCH : Nat := 8
/-- R436 -/
def Irq.port_SLOT_LOSS : Nat := 7
/-- R436 -/
def Irq.port_AUTH : Nat := 6
/-- R436 -/
def Irq.port_VERSION : Nat := 5
/-- R436 -/
def Irq.port_PLAN_MISMATCH : Nat := 4
/-- R436 -/
def Irq.port_WIDTH_CHANGE : Nat := 3
/-- R436 -/
def Irq.port_LANE_ORDER : Nat := 2
/-- R436 -/
def Irq.port_TRAIN_FAIL : Nat := 1
/-- R436 -/
def Irq.port_UP : Nat := 0
/-- R438 -/
def Irq.fabric_GEN_CONFLICT : Nat := 3
/-- R438 -/
def Irq.fabric_STRAY : Nat := 2
/-- R438 -/
def Irq.fabric_SYNC_LOST : Nat := 1
/-- R438 -/
def Irq.fabric_GEN_CHANGE : Nat := 0
/-- R501 -/
def Irq.residency_EXPORT_DONE : Nat := 6
/-- R501 -/
def Irq.residency_REFETCH : Nat := 5
/-- R501 -/
def Irq.residency_FREED : Nat := 4
/-- R501 -/
def Irq.residency_FLIP_LATE : Nat := 3
/-- R501 -/
def Irq.residency_FLIPPED : Nat := 2
/-- R501 -/
def Irq.residency_PARCEL_FAIL : Nat := 1
/-- R501 -/
def Irq.residency_PARCEL_DONE : Nat := 0
/-- R538 -/
def Irq.serving_QUEUE_ERR : Nat := 6
/-- R538 -/
def Irq.serving_EXP_REJECT : Nat := 5
/-- R538 -/
def Irq.serving_KV_LOW : Nat := 4
/-- R538 -/
def Irq.serving_GATE_FULL : Nat := 3
/-- R538 -/
def Irq.serving_BAD_ENTRY : Nat := 2
/-- R538 -/
def Irq.serving_REQ_REFUSED : Nat := 1
/-- R538 -/
def Irq.serving_SEL_REJECT : Nat := 0
/-- R540 -/
def Irq.walker_NODES_FULL : Nat := 2
/-- R540 -/
def Irq.walker_FLUSH_DONE : Nat := 1
/-- R540 -/
def Irq.walker_COLLISION : Nat := 0
/-- R586 -/
def Irq.ridgeInt_IFT_FAIL : Nat := 6
/-- R586 -/
def Irq.ridgeInt_IFT_DONE : Nat := 5
/-- R586 -/
def Irq.ridgeInt_CLS_DONE : Nat := 4
/-- R586 -/
def Irq.ridgeInt_SET_FULL : Nat := 3
/-- R586 -/
def Irq.ridgeInt_LATE_FAIL : Nat := 2
/-- R586 -/
def Irq.ridgeInt_STEP_STUCK : Nat := 1
/-- R586 -/
def Irq.ridgeInt_RETRACT : Nat := 0
/-- R588 -/
def Irq.dieInt_TW_RESUMED : Nat := 4
/-- R588 -/
def Irq.dieInt_TW_EPOCH_FAIL : Nat := 3
/-- R588 -/
def Irq.dieInt_TW_ACK_LATE : Nat := 2
/-- R588 -/
def Irq.dieInt_FS_LOST : Nat := 1
/-- R588 -/
def Irq.dieInt_FS_PENDING : Nat := 0
/-- R623 -/
def Irq.trust_BINDING : Nat := 3
/-- R623 -/
def Irq.trust_DENIED : Nat := 2
/-- R623 -/
def Irq.trust_MBOX_FAIL : Nat := 1
/-- R623 -/
def Irq.trust_MBOX_DONE : Nat := 0
/-- R650 -/
def Irq.power_CMD_REJECT : Nat := 6
/-- R650 -/
def Irq.power_GOV_LIMIT : Nat := 5
/-- R650 -/
def Irq.power_ENTRY_ABORT : Nat := 4
/-- R650 -/
def Irq.power_RAIL_FAULT : Nat := 3
/-- R650 -/
def Irq.power_PWR_FAIL : Nat := 2
/-- R650 -/
def Irq.power_UNCLEAN : Nat := 1
/-- R650 -/
def Irq.power_LV_HOLD : Nat := 0
/-- R680 -/
def Irq.lookout_URG_DONE : Nat := 4
/-- R680 -/
def Irq.lookout_BUF_LOST : Nat := 3
/-- R680 -/
def Irq.lookout_URG_DROP : Nat := 2
/-- R680 -/
def Irq.lookout_OVERRUN : Nat := 1
/-- R680 -/
def Irq.lookout_REF_FAULT : Nat := 0
/-- R682 -/
def Irq.thermal_OVER_LIMIT : Nat := 4
/-- R682 -/
def Irq.thermal_NO_SENSOR : Nat := 3
/-- R682 -/
def Irq.thermal_SENSOR_BROKEN : Nat := 2
/-- R682 -/
def Irq.thermal_THROTTLE : Nat := 1
/-- R682 -/
def Irq.thermal_BAND_CHANGE : Nat := 0
/-- R698 -/
def Irq.calib_CAL_REJECT : Nat := 2
/-- R698 -/
def Irq.calib_CAL_FAIL : Nat := 1
/-- R698 -/
def Irq.calib_CAL_DONE : Nat := 0
/-- R716 -/
def Irq.cairn_STAGE_LOST : Nat := 3
/-- R716 -/
def Irq.cairn_FREEZE_TMO : Nat := 2
/-- R716 -/
def Irq.cairn_FLUSH_FAIL : Nat := 1
/-- R716 -/
def Irq.cairn_FLUSH_DONE : Nat := 0
/-- R742 -/
def Irq.start_UC_FAIL : Nat := 5
/-- R742 -/
def Irq.start_REVERTED : Nat := 4
/-- R742 -/
def Irq.start_UPDATE_FAIL : Nat := 3
/-- R742 -/
def Irq.start_UPDATE_DONE : Nat := 2
/-- R742 -/
def Irq.start_START_FAIL : Nat := 1
/-- R742 -/
def Irq.start_START_DONE : Nat := 0
/-- R767 -/
def Irq.hostPort_VF_DENIED : Nat := 2
/-- R767 -/
def Irq.hostPort_LINK_CHANGE : Nat := 1
/-- R767 -/
def Irq.hostPort_AP_DROP : Nat := 0
/-- R348 -/
def Irq.cacheTier_CT_REFUSED : Nat := 0

/-- The BLK_IRQ_STAT bits each page has; a bit outside is reserved. -/
def irqMask : PageKind → Nat
  | .identity => 0
  | .start => 0x3F
  | .power => 0x7F
  | .lookout => 0x1F
  | .thermal => 0x1F
  | .cairn => 0xF
  | .mgmt => 0
  | .calib => 0x7
  | .trust => 0xF
  | .hostPort => 0x7
  | .dieInt => 0x1F
  | .dieStore => 0
  | .residency => 0x7F
  | .serving => 0x7F
  | .walker => 0x7
  | .cacheTier => 1
  | .stack => 0x7
  | .flank => 0x7
  | .saddle => 0xF
  | .fabric => 0xF
  | .port => 0x7FF
  | .drvCtl => 0
  | .drvCh => 0xFFFFFFFF
  | .ridgeStore => 0x7FF
  | .ridgeCore => 0x3
  | .ridgeSync => 0x1
  | .ridgeInt => 0x7F
  | .core => 0x1F
  | .engine => 0x1FF
  | .spad => 0x1F
  | .imem => 0
  | .reserved => 0

/-- The common header (R769, R770). -/
def rowsHeader : List RegRow := [
  ⟨0x0, 1, 0x0, 0, none, [⟨0, 32, .ro⟩]⟩,
  ⟨0x4, 1, 0x0, 0, none, [⟨0, 32, .ro⟩]⟩,
  ⟨0x8, 1, 0x1, 0, none, [⟨0, 1, .rw⟩, ⟨1, 1, .w1s⟩, ⟨2, 1, .rw⟩, ⟨31, 1, .w1s⟩]⟩,
  ⟨0xC, 1, 0x0, 0, none, [⟨0, 32, .ro⟩]⟩,
  ⟨0x10, 1, 0x0, 0, none, [⟨0, 32, .w1c⟩]⟩,
  ⟨0x14, 1, 0x0, 0, none, [⟨0, 32, .rw⟩]⟩,
  ⟨0x18, 1, 0x0, 0, none, [⟨0, 32, .w1s⟩]⟩,
  ⟨0x1C, 1, 0x0, 0, none, [⟨0, 32, .ro⟩]⟩,
  ⟨0x20, 1, 0x0, 0, none, [⟨0, 32, .ro⟩]⟩]

def rowsIdentity : List RegRow := [
  ⟨0x40, 1, 0x2416, 0, none, [⟨0, 16, .ro⟩]⟩,
  ⟨0x44, 1, 0x1B0, 0, none, [⟨0, 8, .ro⟩, ⟨8, 4, .ro⟩]⟩,
  ⟨0x48, 1, 0x0, 1, none, [⟨0, 32, .ro⟩]⟩,
  ⟨0x4C, 1, 0x0, 2, none, [⟨0, 32, .ro⟩]⟩,
  ⟨0x50, 1, 0x0, 0, none, [⟨0, 32, .ro⟩]⟩,
  ⟨0x54, 1, 0x0, 0, none, [⟨0, 26, .ro⟩, ⟨26, 5, .ro⟩, ⟨31, 1, .ro⟩]⟩]

def rowsStart : List RegRow := [
  ⟨0x40, 1, 0x0, 0, none, [⟨17, 3, .ro⟩, ⟨16, 1, .ro⟩, ⟨12, 4, .ro⟩, ⟨10, 1, .ro⟩, ⟨8, 2, .ro⟩, ⟨0, 4, .ro⟩]⟩,
  ⟨0x44, 1, 0x0, 0, none, [⟨0, 1, .rwl⟩, ⟨1, 1, .rwl⟩, ⟨16, 16, .rwl⟩]⟩,
  ⟨0x48, 1, 0x0, 0, none, [⟨0, 3, .wo⟩, ⟨8, 8, .wo⟩, ⟨16, 16, .wo⟩]⟩,
  ⟨0x4C, 1, 0x0, 0, none, [⟨0, 1, .ro⟩, ⟨1, 1, .ro⟩, ⟨8, 6, .ro⟩]⟩,
  ⟨0x50, 1, 0x0, 1, none, [⟨0, 32, .rw⟩]⟩,
  ⟨0x54, 1, 0x0, 2, none, [⟨0, 32, .rw⟩]⟩,
  ⟨0x58, 1, 0x0, 0, none, [⟨0, 3, .wo⟩, ⟨3, 4, .wo⟩, ⟨16, 16, .wo⟩]⟩,
  ⟨0x5C, 1, 0x0, 0, none, [⟨0, 2, .ro⟩, ⟨4, 4, .ro⟩, ⟨8, 1, .ro⟩]⟩,
  ⟨0x60, 1, 0x0, 0, none, [⟨0, 32, .ro⟩]⟩,
  ⟨0x64, 1, 0x0, 0, none, [⟨0, 32, .ro⟩]⟩]

def rowsPower : List RegRow := [
  ⟨0x40, 1, 0x0, 0, none, [⟨0, 3, .wo⟩]⟩,
  ⟨0x44, 1, 0x1, 0, none, [⟨16, 16, .ro⟩, ⟨6, 2, .ro⟩, ⟨5, 1, .ro⟩, ⟨4, 1, .ro⟩, ⟨0, 2, .ro⟩]⟩,
  ⟨0x48, 1, 0x0, 0, none, [⟨0, 1, .w1c⟩, ⟨1, 1, .w1c⟩, ⟨2, 1, .w1c⟩, ⟨3, 1, .w1c⟩, ⟨4, 1, .w1c⟩, ⟨5, 1, .w1c⟩]⟩,
  ⟨0x4C, 1, 0x0, 0, none, [⟨0, 4, .rw⟩]⟩,
  ⟨0x50, 1, 0x0, 0, (some ⟨0x4C, 0, 4, 15⟩), [⟨0, 2, .wo⟩]⟩,
  ⟨0x54, 1, 0x3E80100, 0, (some ⟨0x4C, 0, 4, 15⟩), [⟨0, 16, .rw⟩, ⟨16, 15, .rw⟩, ⟨31, 1, .rw⟩]⟩,
  ⟨0x58, 1, 0x3, 0, (some ⟨0x4C, 0, 4, 15⟩), [⟨0, 3, .ro⟩, ⟨4, 3, .ro⟩, ⟨8, 2, .ro⟩, ⟨16, 16, .ro⟩]⟩,
  ⟨0x5C, 1, 0x0, 0, (some ⟨0x4C, 0, 4, 15⟩), [⟨0, 32, .rw⟩]⟩,
  ⟨0x60, 1, 0x0, 0, (some ⟨0x4C, 0, 4, 15⟩), [⟨0, 32, .wo⟩]⟩,
  ⟨0x64, 1, 0x0, 0, none, [⟨0, 4, .rw⟩]⟩,
  ⟨0x68, 1, 0x0, 0, (some ⟨0x64, 0, 4, 15⟩), [⟨0, 1, .ro⟩, ⟨1, 1, .ro⟩, ⟨2, 1, .ro⟩, ⟨3, 1, .ro⟩, ⟨4, 12, .ro⟩, ⟨16, 12, .ro⟩]⟩,
  ⟨0x6C, 1, 0x0, 0, none, [⟨0, 16, .ro⟩, ⟨16, 16, .ro⟩]⟩,
  ⟨0x70, 1, 0x14CD14, 0, none, [⟨0, 8, .rw⟩, ⟨8, 16, .rw⟩]⟩,
  ⟨0x74, 1, 0x3E8, 0, none, [⟨0, 10, .ro⟩, ⟨16, 8, .ro⟩]⟩,
  ⟨0x78, 1, 0x0, 0, none, [⟨0, 20, .ro⟩]⟩,
  ⟨0x7C, 1, 0x1013FF, 0, (some ⟨0x4C, 0, 4, 15⟩), [⟨0, 10, .rw⟩, ⟨12, 4, .rw⟩, ⟨16, 5, .ro⟩]⟩,
  ⟨0x80, 1, 0x10, 0, (some ⟨0x4C, 0, 4, 15⟩), [⟨0, 5, .ro⟩, ⟨8, 10, .ro⟩]⟩,
  ⟨0x84, 1, 0x0, 0, none, [⟨0, 1, .ro⟩, ⟨1, 1, .ro⟩, ⟨16, 16, .ro⟩]⟩,
  ⟨0x88, 1, 0x0, 0, none, [⟨0, 32, .ro⟩]⟩]

def rowsLookout : List RegRow := [
  ⟨0x40, 1, 0x0, 0, none, [⟨0, 2, .rw⟩]⟩,
  ⟨0x44, 1, 0x1, 0, (some ⟨0x40, 0, 2, 2⟩), [⟨0, 1, .rw⟩, ⟨1, 1, .rw⟩, ⟨2, 1, .rw⟩]⟩,
  ⟨0x48, 1, 0x1, 0, (some ⟨0x40, 0, 2, 2⟩), [⟨0, 2, .ro⟩, ⟨2, 1, .ro⟩, ⟨3, 1, .ro⟩, ⟨8, 8, .ro⟩, ⟨16, 3, .ro⟩]⟩,
  ⟨0x4C, 1, 0x0, 0, none, [⟨0, 6, .rw⟩]⟩,
  ⟨0x50, 1, 0x0, 0, (some ⟨0x4C, 0, 6, 63⟩), [⟨0, 24, .rw⟩, ⟨31, 1, .rw⟩]⟩,
  ⟨0x54, 1, 0x0, 0, (some ⟨0x40, 0, 2, 2⟩), [⟨0, 5, .wo⟩, ⟨5, 4, .wo⟩, ⟨9, 2, .wo⟩, ⟨31, 1, .wo⟩]⟩,
  ⟨0x58, 1, 0x0, 0, (some ⟨0x40, 0, 2, 2⟩), [⟨0, 12, .ro⟩, ⟨12, 2, .ro⟩, ⟨16, 16, .ro⟩]⟩,
  ⟨0x5C, 1, 0x0, 0, (some ⟨0x40, 0, 2, 2⟩), [⟨0, 16, .ro⟩, ⟨16, 16, .ro⟩]⟩,
  ⟨0x60, 1, 0x0, 0, (some ⟨0x40, 0, 2, 2⟩), [⟨0, 32, .ro⟩]⟩,
  ⟨0x64, 1, 0x0, 0, none, [⟨0, 2, .rw⟩]⟩,
  ⟨0x68, 1, 0x0, 0, (some ⟨0x64, 0, 2, 3⟩), [⟨0, 1, .rw⟩, ⟨1, 1, .rw⟩]⟩,
  ⟨0x6C, 1, 0x0, 0, (some ⟨0x64, 0, 2, 3⟩), [⟨0, 12, .rw⟩]⟩,
  ⟨0x70, 1, 0x0, 0, (some ⟨0x64, 0, 2, 3⟩), [⟨0, 12, .ro⟩, ⟨16, 13, .ro⟩]⟩,
  ⟨0x74, 1, 0x0, 0, (some ⟨0x64, 0, 2, 3⟩), [⟨0, 32, .ro⟩]⟩,
  ⟨0x800, 512, 0x0, 0, none, [⟨0, 32, .ro⟩]⟩]

def rowsThermal : List RegRow := [
  ⟨0x40, 1, 0x0, 0, none, [⟨0, 7, .rw⟩]⟩,
  ⟨0x44, 1, 0x0, 0, (some ⟨0x40, 0, 7, 67⟩), [⟨0, 16, .ro⟩, ⟨16, 1, .ro⟩, ⟨17, 1, .ro⟩, ⟨18, 1, .ro⟩, ⟨19, 2, .ro⟩]⟩,
  ⟨0x48, 1, 0x80007FFF, 0, (some ⟨0x40, 0, 7, 67⟩), [⟨0, 16, .rw⟩, ⟨16, 16, .rw⟩]⟩,
  ⟨0x4C, 1, 0x0, 0, none, [⟨0, 7, .wo⟩]⟩,
  ⟨0x50, 1, 0x0, 0, none, [⟨0, 32, .ro⟩]⟩,
  ⟨0x54, 1, 0x0, 0, none, [⟨0, 4, .rw⟩]⟩,
  ⟨0x58, 1, 0x100000, 0, (some ⟨0x54, 0, 4, 15⟩), [⟨0, 3, .ro⟩, ⟨3, 3, .ro⟩, ⟨6, 1, .ro⟩, ⟨8, 8, .ro⟩, ⟨16, 5, .ro⟩]⟩,
  ⟨0x5C, 1, 0x8, 0, none, [⟨0, 5, .rwl⟩]⟩,
  ⟨0x60, 1, 0x0, 0, none, [⟨0, 3, .rw⟩]⟩,
  ⟨0x64, 1, 0x0, 0, (some ⟨0x60, 0, 3, 5⟩), [⟨0, 8, .ro⟩, ⟨8, 1, .ro⟩, ⟨9, 3, .ro⟩]⟩,
  ⟨0x68, 1, 0x0, 0, none, [⟨0, 7, .ro⟩, ⟨7, 1, .ro⟩, ⟨8, 16, .ro⟩, ⟨24, 1, .ro⟩, ⟨25, 1, .ro⟩]⟩,
  ⟨0x6C, 1, 0x0, 1, none, [⟨0, 32, .ro⟩]⟩,
  ⟨0x70, 1, 0x0, 2, none, [⟨0, 32, .ro⟩]⟩,
  ⟨0x74, 1, 0x0, 0, none, [⟨0, 1, .wo⟩]⟩]

def rowsCairn : List RegRow := [
  ⟨0x40, 1, 0x1, 0, none, [⟨3, 1, .w1s⟩, ⟨2, 1, .w1s⟩, ⟨1, 1, .rw⟩, ⟨0, 1, .rw⟩]⟩,
  ⟨0x44, 1, 0x0, 0, none, [⟨0, 1, .ro⟩, ⟨1, 1, .ro⟩, ⟨2, 1, .ro⟩, ⟨3, 1, .ro⟩, ⟨16, 16, .ro⟩]⟩,
  ⟨0x48, 1, 0x3E80004, 0, none, [⟨0, 8, .rw⟩, ⟨16, 16, .rw⟩]⟩,
  ⟨0x4C, 1, 0x0, 1, none, [⟨0, 32, .rw⟩]⟩,
  ⟨0x50, 1, 0x0, 2, none, [⟨0, 32, .rw⟩]⟩,
  ⟨0x54, 1, 0x0, 0, none, [⟨0, 32, .ro⟩]⟩,
  ⟨0x58, 1, 0x0, 0, none, [⟨0, 32, .ro⟩]⟩,
  ⟨0x5C, 1, 0x0, 0, none, [⟨0, 15, .ro⟩, ⟨16, 16, .ro⟩]⟩,
  ⟨0x60, 1, 0x0, 0, none, [⟨0, 32, .ro⟩]⟩,
  ⟨0x64, 1, 0x0, 0, none, [⟨0, 24, .rw⟩]⟩,
  ⟨0x800, 512, 0x0, 0, none, [⟨0, 32, .ro⟩]⟩]

def rowsMgmt : List RegRow := [
  ⟨0x40, 1, 0x0, 0, none, [⟨0, 2, .ro⟩, ⟨2, 1, .ro⟩, ⟨3, 7, .ro⟩, ⟨10, 1, .ro⟩, ⟨11, 1, .ro⟩, ⟨12, 8, .ro⟩]⟩,
  ⟨0x44, 1, 0x0, 0, none, [⟨0, 1, .rw⟩]⟩,
  ⟨0x48, 1, 0x0, 0, none, [⟨0, 1, .ro⟩, ⟨1, 1, .w1c⟩, ⟨2, 1, .w1c⟩, ⟨3, 1, .ro⟩, ⟨4, 1, .w1c⟩]⟩,
  ⟨0x4C, 1, 0x1F, 0, none, [⟨0, 5, .rw⟩]⟩,
  ⟨0x50, 1, 0x0, 0, none, [⟨0, 32, .ro⟩]⟩,
  ⟨0x54, 1, 0x0, 0, none, [⟨0, 6, .ro⟩, ⟨16, 16, .ro⟩]⟩]

def rowsCalib : List RegRow := [
  ⟨0x40, 1, 0x0, 0, none, [⟨0, 4, .wo⟩, ⟨4, 4, .wo⟩, ⟨8, 6, .wo⟩, ⟨14, 4, .wo⟩, ⟨18, 4, .wo⟩, ⟨22, 7, .wo⟩, ⟨31, 1, .wo⟩]⟩,
  ⟨0x44, 1, 0x0, 0, none, [⟨0, 2, .ro⟩, ⟨4, 4, .ro⟩, ⟨8, 4, .ro⟩, ⟨12, 12, .ro⟩]⟩,
  ⟨0x48, 1, 0x10, 0, none, [⟨0, 7, .rw⟩]⟩,
  ⟨0x4C, 1, 0x190, 0, none, [⟨0, 16, .rw⟩, ⟨16, 1, .rw⟩]⟩,
  ⟨0x50, 1, 0x1E, 0, none, [⟨0, 8, .rw⟩]⟩,
  ⟨0x54, 1, 0x0, 0, none, [⟨0, 12, .rw⟩]⟩,
  ⟨0x58, 1, 0x0, 0, (some ⟨0x54, 0, 12, 4095⟩), [⟨0, 16, .ro⟩, ⟨16, 12, .ro⟩, ⟨28, 1, .ro⟩, ⟨29, 3, .ro⟩]⟩,
  ⟨0x5C, 1, 0x0, 0, none, [⟨0, 16, .ro⟩, ⟨16, 16, .ro⟩]⟩,
  ⟨0x60, 1, 0x0, 0, none, [⟨0, 4, .rw⟩, ⟨4, 6, .rw⟩, ⟨10, 3, .rw⟩, ⟨13, 3, .rw⟩, ⟨16, 4, .rw⟩]⟩,
  ⟨0x64, 1, 0x0, 0, (some ⟨0x60, 0, 20, 1048575⟩), [⟨0, 8, .ro⟩]⟩]

def rowsTrust : List RegRow := [
  ⟨0x40, 1, 0x0, 0, none, [⟨0, 2, .ro⟩, ⟨2, 1, .ro⟩, ⟨8, 8, .ro⟩, ⟨16, 8, .ro⟩]⟩,
  ⟨0x44, 1, 0x0, 0, none, [⟨0, 4, .wo⟩, ⟨4, 4, .wo⟩, ⟨8, 6, .wo⟩, ⟨16, 11, .wo⟩]⟩,
  ⟨0x48, 1, 0x0, 0, none, [⟨0, 2, .ro⟩, ⟨4, 4, .ro⟩, ⟨8, 4, .ro⟩]⟩,
  ⟨0x4C, 1, 0x0, 0, none, [⟨0, 4, .rw⟩]⟩,
  ⟨0x50, 1, 0x0, 0, (some ⟨0x4C, 0, 4, 15⟩), [⟨0, 2, .ro⟩, ⟨2, 1, .ro⟩, ⟨3, 1, .ro⟩, ⟨4, 4, .ro⟩]⟩,
  ⟨0x54, 1, 0x0, 1, (some ⟨0x4C, 0, 4, 15⟩), [⟨0, 32, .ro⟩]⟩,
  ⟨0x58, 1, 0x0, 2, (some ⟨0x4C, 0, 4, 15⟩), [⟨0, 32, .ro⟩]⟩,
  ⟨0x5C, 12, 0x0, 0, (some ⟨0x4C, 0, 4, 15⟩), [⟨0, 8, .ro⟩]⟩,
  ⟨0x8C, 1, 0x0, 0, none, [⟨0, 6, .rw⟩]⟩,
  ⟨0x90, 1, 0x0, 0, (some ⟨0x8C, 0, 6, 63⟩), [⟨0, 1, .ro⟩, ⟨1, 1, .ro⟩, ⟨2, 1, .ro⟩, ⟨16, 16, .ro⟩]⟩,
  ⟨0x94, 1, 0x0, 0, none, [⟨0, 8, .rw⟩]⟩,
  ⟨0x98, 1, 0x0, 0, (some ⟨0x94, 0, 8, 255⟩), [⟨0, 1, .ro⟩, ⟨1, 2, .ro⟩, ⟨3, 1, .ro⟩, ⟨4, 1, .ro⟩, ⟨8, 4, .ro⟩, ⟨12, 4, .ro⟩, ⟨16, 9, .ro⟩]⟩,
  ⟨0x9C, 1, 0x0, 1, (some ⟨0x94, 0, 8, 255⟩), [⟨0, 32, .ro⟩]⟩,
  ⟨0xA0, 1, 0x0, 2, (some ⟨0x94, 0, 8, 255⟩), [⟨0, 32, .ro⟩]⟩,
  ⟨0xA4, 1, 0x0, 0, none, [⟨0, 32, .ro⟩]⟩,
  ⟨0xA8, 1, 0x0, 0, none, [⟨0, 5, .ro⟩, ⟨8, 4, .ro⟩, ⟨12, 4, .ro⟩]⟩,
  ⟨0xAC, 1, 0x0, 0, none, [⟨0, 8, .rw⟩]⟩,
  ⟨0x400, 256, 0x0, 0, none, [⟨0, 32, .rw⟩]⟩]

def rowsHostPort : List RegRow := [
  ⟨0x40, 1, 0x0, 0, none, [⟨0, 1, .ro⟩, ⟨1, 1, .ro⟩, ⟨2, 3, .ro⟩, ⟨5, 5, .ro⟩, ⟨10, 1, .ro⟩]⟩,
  ⟨0x44, 1, 0x0, 0, none, [⟨0, 5, .ro⟩, ⟨5, 1, .ro⟩, ⟨16, 16, .ro⟩]⟩,
  ⟨0x48, 1, 0x0, 0, none, [⟨0, 6, .rw⟩]⟩,
  ⟨0x4C, 1, 0x0, 0, (some ⟨0x48, 0, 6, 63⟩), [⟨0, 1, .rw⟩, ⟨1, 1, .rw⟩, ⟨2, 1, .rw⟩, ⟨3, 5, .rw⟩, ⟨8, 8, .rw⟩]⟩,
  ⟨0x50, 1, 0x0, 0, none, [⟨0, 32, .ro⟩]⟩,
  ⟨0x54, 1, 0x0, 0, none, [⟨0, 6, .ro⟩, ⟨6, 5, .ro⟩, ⟨12, 3, .ro⟩]⟩,
  ⟨0x58, 1, 0x0, 0, none, [⟨0, 32, .ro⟩]⟩]

def rowsDieInt : List RegRow := [
  ⟨0x40, 1, 0x0, 0, none, [⟨0, 7, .ro⟩, ⟨16, 16, .ro⟩]⟩,
  ⟨0x44, 1, 0x0, 0, none, [⟨0, 32, .wo⟩]⟩,
  ⟨0x48, 1, 0x3E8, 0, none, [⟨0, 16, .rw⟩]⟩,
  ⟨0x50, 1, 0x0, 0, none, [⟨0, 2, .rw⟩, ⟨2, 1, .rw⟩]⟩,
  ⟨0x54, 1, 0x3E8, 0, none, [⟨0, 14, .rw⟩]⟩,
  ⟨0x58, 1, 0x0, 0, none, [⟨0, 32, .ro⟩]⟩,
  ⟨0x5C, 1, 0x0, 0, none, [⟨0, 32, .ro⟩]⟩,
  ⟨0x60, 1, 0x0, 0, none, [⟨0, 32, .rw⟩]⟩,
  ⟨0x64, 1, 0x0, 0, none, [⟨0, 4, .wo⟩]⟩,
  ⟨0x68, 1, 0x0, 0, none, [⟨0, 3, .ro⟩, ⟨8, 2, .ro⟩]⟩,
  ⟨0x6C, 1, 0x0, 0, none, [⟨0, 32, .ro⟩]⟩,
  ⟨0x400, 82, 0x0, 0, none, [⟨0, 32, .ro⟩]⟩]

def rowsDieStore : List RegRow := [
  ⟨0x40, 1, 0x7, 0, none, [⟨2, 1, .rwl⟩, ⟨1, 1, .rwl⟩, ⟨0, 1, .rwl⟩]⟩,
  ⟨0x44, 1, 0x49F, 0, none, [⟨0, 32, .rwl⟩]⟩,
  ⟨0x48, 1, 0x93F, 0, none, [⟨0, 32, .rwl⟩]⟩,
  ⟨0x4C, 1, 0x1BBD, 0, none, [⟨0, 32, .rwl⟩]⟩,
  ⟨0x50, 1, 0x6117, 0, none, [⟨0, 32, .rwl⟩]⟩,
  ⟨0x54, 1, 0x2468A, 0, none, [⟨0, 32, .rwl⟩]⟩,
  ⟨0x58, 1, 0x1C26, 0, none, [⟨0, 16, .rwl⟩]⟩,
  ⟨0x5C, 1, 0x2060C3C, 0, none, [⟨24, 8, .rwl⟩, ⟨16, 8, .rwl⟩, ⟨8, 8, .rwl⟩, ⟨0, 8, .rwl⟩]⟩,
  ⟨0x60, 1, 0x200, 0, none, [⟨16, 16, .ro⟩, ⟨0, 16, .rwl⟩]⟩,
  ⟨0x64, 1, 0x31, 0, none, [⟨0, 6, .rwl⟩]⟩,
  ⟨0x6C, 1, 0x0, 0, none, [⟨17, 4, .rw⟩, ⟨14, 3, .rw⟩, ⟨8, 6, .rw⟩, ⟨4, 4, .rw⟩, ⟨0, 4, .rw⟩]⟩,
  ⟨0x70, 1, 0x0, 0, none, [⟨0, 16, .wo⟩]⟩,
  ⟨0x74, 1, 0x0, 0, none, [⟨8, 24, .ro⟩, ⟨3, 1, .w1c⟩, ⟨0, 3, .ro⟩]⟩,
  ⟨0x78, 1, 0x0, 0, none, [⟨16, 16, .ro⟩, ⟨1, 1, .ro⟩, ⟨0, 1, .ro⟩]⟩]

def rowsResidency : List RegRow := [
  ⟨0x40, 1, 0x1, 0, none, [⟨0, 1, .rw⟩]⟩,
  ⟨0x44, 1, 0x0, 0, none, [⟨0, 4, .ro⟩, ⟨4, 1, .ro⟩, ⟨5, 1, .ro⟩, ⟨16, 16, .ro⟩]⟩,
  ⟨0x48, 1, 0x0, 0, none, [⟨0, 2, .rw⟩]⟩,
  ⟨0x4C, 1, 0x0, 1, (some ⟨0x48, 0, 2, 3⟩), [⟨0, 32, .rw⟩]⟩,
  ⟨0x50, 1, 0x0, 2, (some ⟨0x48, 0, 2, 3⟩), [⟨0, 32, .rw⟩]⟩,
  ⟨0x54, 1, 0x0, 0, (some ⟨0x48, 0, 2, 3⟩), [⟨0, 32, .rw⟩]⟩,
  ⟨0x58, 1, 0x0, 0, (some ⟨0x48, 0, 2, 3⟩), [⟨0, 1, .wo⟩, ⟨1, 1, .wo⟩]⟩,
  ⟨0x5C, 1, 0x0, 0, (some ⟨0x48, 0, 2, 3⟩), [⟨0, 2, .ro⟩, ⟨4, 4, .ro⟩]⟩,
  ⟨0x60, 1, 0x0, 0, (some ⟨0x48, 0, 2, 3⟩), [⟨0, 19, .ro⟩]⟩,
  ⟨0x64, 1, 0x0, 0, (some ⟨0x48, 0, 2, 3⟩), [⟨0, 19, .ro⟩]⟩,
  ⟨0x68, 1, 0x0, 0, (some ⟨0x48, 0, 2, 3⟩), [⟨0, 18, .ro⟩, ⟨24, 4, .ro⟩]⟩,
  ⟨0x6C, 1, 0x0, 0, none, [⟨0, 19, .rw⟩]⟩,
  ⟨0x70, 8, 0x0, 0, none, [⟨0, 32, .ro⟩]⟩,
  ⟨0x90, 1, 0x0, 0, none, [⟨0, 4, .rw⟩, ⟨4, 5, .rw⟩, ⟨9, 3, .rw⟩, ⟨12, 3, .rw⟩]⟩,
  ⟨0x94, 1, 0xFF, 0, (some ⟨0x90, 0, 15, 32767⟩), [⟨0, 4, .ro⟩, ⟨4, 4, .ro⟩]⟩,
  ⟨0x98, 1, 0x0, 0, none, [⟨0, 4, .rw⟩]⟩,
  ⟨0x9C, 1, 0x0, 0, (some ⟨0x98, 0, 4, 15⟩), [⟨0, 32, .rw⟩]⟩,
  ⟨0xA0, 1, 0x0, 0, (some ⟨0x98, 0, 4, 15⟩), [⟨0, 1, .w1s⟩, ⟨2, 10, .rw⟩, ⟨12, 1, .rw⟩]⟩,
  ⟨0xA4, 1, 0x0, 0, (some ⟨0x98, 0, 4, 15⟩), [⟨0, 1, .ro⟩, ⟨1, 3, .ro⟩]⟩,
  ⟨0xA8, 1, 0x0, 0, none, [⟨0, 16, .rw⟩]⟩,
  ⟨0xAC, 1, 0x0, 0, none, [⟨0, 4, .rw⟩, ⟨4, 5, .rw⟩]⟩,
  ⟨0xB0, 1, 0x0, 0, (some ⟨0xAC, 0, 9, 511⟩), [⟨0, 8, .rwl⟩]⟩,
  ⟨0xB4, 1, 0x0, 0, none, [⟨0, 15, .ro⟩, ⟨16, 7, .ro⟩]⟩,
  ⟨0xB8, 1, 0x0, 1, none, [⟨0, 32, .rw⟩]⟩,
  ⟨0xBC, 1, 0x0, 2, none, [⟨0, 32, .rw⟩]⟩,
  ⟨0xC0, 1, 0x0, 0, none, [⟨0, 1, .wo⟩, ⟨1, 1, .wo⟩, ⟨8, 8, .wo⟩]⟩,
  ⟨0xC4, 1, 0x0, 0, none, [⟨0, 2, .ro⟩, ⟨8, 19, .ro⟩]⟩]

def rowsServing : List RegRow := [
  ⟨0x40, 1, 0x0, 0, none, [⟨0, 1, .rw⟩]⟩,
  ⟨0x44, 1, 0x0, 0, none, [⟨0, 16, .ro⟩, ⟨16, 1, .ro⟩]⟩,
  ⟨0x48, 1, 0x0, 0, none, [⟨0, 26, .rwl⟩]⟩,
  ⟨0x4C, 1, 0x0, 0, none, [⟨0, 26, .rwl⟩]⟩,
  ⟨0x50, 1, 0x0, 0, none, [⟨0, 20, .rwl⟩]⟩,
  ⟨0x54, 1, 0x0, 0, none, [⟨0, 25, .rwl⟩]⟩,
  ⟨0x58, 1, 0x0, 0, none, [⟨0, 25, .ro⟩]⟩,
  ⟨0x5C, 1, 0x1000, 0, none, [⟨0, 25, .rw⟩]⟩,
  ⟨0x60, 1, 0x0, 0, none, [⟨0, 4, .rw⟩]⟩,
  ⟨0x64, 1, 0x0, 1, (some ⟨0x60, 0, 4, 15⟩), [⟨0, 32, .rw⟩]⟩,
  ⟨0x68, 1, 0x0, 2, (some ⟨0x60, 0, 4, 15⟩), [⟨0, 32, .rw⟩]⟩,
  ⟨0x6C, 1, 0x0, 0, (some ⟨0x60, 0, 4, 15⟩), [⟨0, 1, .rw⟩, ⟨1, 5, .rw⟩]⟩,
  ⟨0x70, 1, 0x0, 0, (some ⟨0x60, 0, 4, 15⟩), [⟨0, 32, .wo⟩]⟩,
  ⟨0x74, 1, 0x0, 0, (some ⟨0x60, 0, 4, 15⟩), [⟨0, 32, .ro⟩]⟩,
  ⟨0x78, 1, 0x800, 0, (some ⟨0x60, 0, 4, 15⟩), [⟨0, 16, .rwl⟩]⟩,
  ⟨0x7C, 1, 0x0, 0, (some ⟨0x60, 0, 4, 15⟩), [⟨0, 8, .rwl⟩, ⟨8, 1, .rwl⟩]⟩,
  ⟨0x80, 1, 0x40200, 0, (some ⟨0x60, 0, 4, 15⟩), [⟨0, 2, .rw⟩, ⟨4, 10, .rw⟩, ⟨16, 7, .rw⟩]⟩,
  ⟨0x84, 1, 0x0, 0, (some ⟨0x60, 0, 4, 15⟩), [⟨0, 10, .rw⟩]⟩,
  ⟨0x88, 4, 0x0, 0, (some ⟨0x60, 0, 4, 15⟩), [⟨0, 1, .rw⟩, ⟨1, 1, .rw⟩, ⟨2, 8, .rw⟩, ⟨10, 1, .rw⟩, ⟨11, 4, .rw⟩, ⟨15, 5, .rw⟩, ⟨20, 6, .rw⟩]⟩,
  ⟨0x98, 1, 0x0, 0, (some ⟨0x60, 0, 4, 15⟩), [⟨0, 3, .ro⟩]⟩,
  ⟨0x9C, 1, 0x0, 0, none, [⟨0, 15, .rw⟩]⟩,
  ⟨0xA0, 16, 0x0, 0, none, [⟨0, 32, .ro⟩]⟩,
  ⟨0xE0, 1, 0x0, 0, none, [⟨0, 12, .rw⟩]⟩,
  ⟨0xE4, 1, 0x1000100, 0, (some ⟨0xE0, 0, 12, 4095⟩), [⟨0, 1, .rw⟩, ⟨1, 2, .rw⟩, ⟨4, 8, .rw⟩, ⟨12, 8, .rw⟩, ⟨20, 12, .rw⟩]⟩,
  ⟨0xE8, 1, 0x0, 0, (some ⟨0xE0, 0, 12, 4095⟩), [⟨0, 20, .rw⟩]⟩,
  ⟨0xEC, 1, 0x0, 0, (some ⟨0xE0, 0, 12, 4095⟩), [⟨0, 24, .rw⟩]⟩,
  ⟨0xF0, 1, 0x0, 0, (some ⟨0xE0, 0, 12, 4095⟩), [⟨0, 32, .rw⟩]⟩,
  ⟨0xF4, 1, 0x0, 0, none, [⟨0, 8, .rw⟩]⟩,
  ⟨0xF8, 1, 0x0, 1, (some ⟨0xF4, 0, 8, 255⟩), [⟨0, 32, .rw⟩]⟩,
  ⟨0xFC, 1, 0x0, 2, (some ⟨0xF4, 0, 8, 255⟩), [⟨0, 32, .rw⟩]⟩,
  ⟨0x100, 1, 0x0, 1, (some ⟨0xF4, 0, 8, 255⟩), [⟨0, 32, .rw⟩]⟩,
  ⟨0x104, 1, 0x0, 2, (some ⟨0xF4, 0, 8, 255⟩), [⟨0, 32, .rw⟩]⟩,
  ⟨0x108, 1, 0x10100, 0, (some ⟨0xF4, 0, 8, 255⟩), [⟨0, 1, .rw⟩, ⟨1, 5, .rw⟩, ⟨8, 8, .rw⟩, ⟨16, 16, .rw⟩]⟩,
  ⟨0x10C, 1, 0x0, 0, (some ⟨0xF4, 0, 8, 255⟩), [⟨0, 32, .rw⟩]⟩,
  ⟨0x110, 1, 0x0, 0, (some ⟨0xF4, 0, 8, 255⟩), [⟨0, 32, .ro⟩]⟩,
  ⟨0x114, 1, 0x0, 0, none, [⟨0, 15, .rw⟩, ⟨15, 1, .rw⟩]⟩,
  ⟨0x118, 1, 0x0, 1, (some ⟨0x114, 0, 16, 65535⟩), [⟨0, 32, .rw⟩]⟩,
  ⟨0x11C, 1, 0x0, 2, (some ⟨0x114, 0, 16, 65535⟩), [⟨0, 5, .rw⟩]⟩,
  ⟨0x120, 1, 0x0, 0, none, [⟨0, 8, .rw⟩, ⟨8, 1, .rw⟩]⟩,
  ⟨0x124, 1, 0x0, 0, (some ⟨0x120, 0, 9, 511⟩), [⟨0, 15, .rw⟩, ⟨16, 10, .rw⟩]⟩,
  ⟨0x128, 1, 0x0, 0, none, [⟨0, 17, .ro⟩]⟩,
  ⟨0x12C, 1, 0x0, 0, none, [⟨0, 32, .ro⟩]⟩,
  ⟨0x130, 1, 0x0, 0, none, [⟨0, 32, .ro⟩]⟩]

def rowsWalker : List RegRow := [
  ⟨0x40, 1, 0x0, 0, none, [⟨0, 1, .rw⟩]⟩,
  ⟨0x44, 1, 0x0, 0, none, [⟨0, 25, .rwl⟩]⟩,
  ⟨0x48, 1, 0x0, 0, none, [⟨0, 25, .ro⟩]⟩,
  ⟨0x4C, 1, 0x0, 1, none, [⟨0, 32, .ro⟩]⟩,
  ⟨0x50, 1, 0x0, 2, none, [⟨0, 32, .ro⟩]⟩,
  ⟨0x54, 1, 0x0, 0, none, [⟨0, 32, .ro⟩]⟩,
  ⟨0x58, 1, 0x0, 0, none, [⟨0, 32, .ro⟩]⟩,
  ⟨0x5C, 1, 0x0, 0, none, [⟨0, 32, .ro⟩]⟩,
  ⟨0x60, 1, 0x0, 0, none, [⟨0, 32, .ro⟩]⟩,
  ⟨0x64, 1, 0x0, 0, none, [⟨0, 4, .rw⟩]⟩,
  ⟨0x68, 1, 0x0, 1, (some ⟨0x64, 0, 4, 15⟩), [⟨0, 32, .rwl⟩]⟩,
  ⟨0x6C, 1, 0x0, 2, (some ⟨0x64, 0, 4, 15⟩), [⟨0, 32, .rwl⟩]⟩,
  ⟨0x70, 1, 0x0, 0, none, [⟨0, 4, .wo⟩, ⟨4, 4, .wo⟩]⟩,
  ⟨0x74, 1, 0x0, 0, none, [⟨0, 2, .ro⟩, ⟨8, 24, .ro⟩]⟩]

def rowsCacheTier : List RegRow := [
  ⟨0x40, 1, 0x0, 0, none, [⟨0, 6, .rw⟩]⟩,
  ⟨0x44, 1, 0x0, 0, (some ⟨0x40, 0, 6, 63⟩), [⟨0, 26, .rwl⟩]⟩,
  ⟨0x48, 1, 0x0, 0, (some ⟨0x40, 0, 6, 63⟩), [⟨0, 26, .rwl⟩]⟩,
  ⟨0x4C, 1, 0x0, 0, (some ⟨0x40, 0, 6, 63⟩), [⟨0, 1, .rwl⟩, ⟨1, 1, .ro⟩, ⟨8, 5, .rwl⟩]⟩,
  ⟨0x50, 1, 0x0, 0, none, [⟨0, 32, .ro⟩]⟩,
  ⟨0x54, 1, 0x0, 0, none, [⟨0, 29, .ro⟩, ⟨29, 3, .ro⟩]⟩]

def rowsStack : List RegRow := [
  ⟨0x40, 1, 0x3, 0, none, [⟨0, 1, .rw⟩, ⟨1, 1, .rw⟩]⟩,
  ⟨0x44, 1, 0x0, 0, none, [⟨0, 1, .ro⟩, ⟨1, 3, .ro⟩, ⟨16, 13, .ro⟩]⟩,
  ⟨0x48, 1, 0x0, 0, none, [⟨0, 32, .ro⟩]⟩,
  ⟨0x4C, 1, 0x0, 0, none, [⟨0, 32, .ro⟩]⟩,
  ⟨0x50, 1, 0x0, 1, none, [⟨0, 32, .ro⟩]⟩,
  ⟨0x54, 1, 0x0, 2, none, [⟨0, 6, .ro⟩]⟩,
  ⟨0x58, 1, 0x18, 0, none, [⟨0, 8, .rw⟩, ⟨16, 16, .ro⟩]⟩,
  ⟨0x5C, 1, 0xF3C, 0, none, [⟨0, 16, .ro⟩]⟩]

def rowsFlank : List RegRow := [
  ⟨0x40, 1, 0x0, 0, none, [⟨0, 1, .rw⟩]⟩,
  ⟨0x44, 1, 0x0, 0, none, [⟨16, 5, .ro⟩, ⟨8, 5, .ro⟩, ⟨1, 2, .ro⟩, ⟨0, 1, .ro⟩]⟩,
  ⟨0x48, 1, 0x0, 0, none, [⟨0, 16, .ro⟩, ⟨16, 16, .ro⟩]⟩,
  ⟨0x4C, 19, 0x0, 0, none, [⟨0, 16, .ro⟩, ⟨16, 16, .ro⟩]⟩,
  ⟨0x98, 1, 0x0, 0, none, [⟨0, 5, .rw⟩]⟩,
  ⟨0x9C, 1, 0x0, 0, (some ⟨0x98, 0, 5, 31⟩), [⟨0, 1, .rw⟩, ⟨1, 4, .rw⟩, ⟨5, 5, .rw⟩, ⟨10, 1, .rw⟩, ⟨11, 8, .rw⟩]⟩,
  ⟨0xA0, 1, 0x0, 0, (some ⟨0x98, 0, 5, 31⟩), [⟨0, 12, .rw⟩, ⟨16, 12, .rw⟩]⟩,
  ⟨0xA4, 1, 0x0, 0, none, [⟨0, 8, .rw⟩, ⟨8, 8, .rw⟩, ⟨16, 8, .rw⟩, ⟨24, 8, .rw⟩]⟩,
  ⟨0xA8, 1, 0x0, 0, none, [⟨0, 32, .ro⟩]⟩]

def rowsSaddle : List RegRow := [
  ⟨0x40, 1, 0x10, 0, none, [⟨0, 8, .rw⟩]⟩,
  ⟨0x44, 1, 0x0, 0, none, [⟨0, 4, .rw⟩, ⟨4, 1, .rw⟩]⟩,
  ⟨0x48, 1, 0x2, 0, (some ⟨0x44, 0, 5, 31⟩), [⟨0, 2, .ro⟩, ⟨4, 6, .ro⟩, ⟨16, 16, .ro⟩]⟩,
  ⟨0x4C, 1, 0x0, 0, (some ⟨0x44, 0, 5, 31⟩), [⟨0, 32, .ro⟩]⟩,
  ⟨0x50, 1, 0x0, 0, (some ⟨0x44, 0, 5, 31⟩), [⟨0, 12, .ro⟩, ⟨12, 5, .ro⟩]⟩,
  ⟨0x54, 1, 0x10, 0, none, [⟨0, 5, .ro⟩, ⟨8, 1, .ro⟩]⟩]

def rowsFabric : List RegRow := [
  ⟨0x40, 1, 0x0, 0, none, [⟨0, 1, .rw⟩]⟩,
  ⟨0x44, 1, 0x0, 0, none, [⟨0, 1, .ro⟩, ⟨1, 1, .ro⟩, ⟨2, 1, .ro⟩]⟩,
  ⟨0x48, 1, 0x0, 0, none, [⟨0, 16, .ro⟩, ⟨16, 16, .ro⟩]⟩,
  ⟨0x4C, 1, 0x20, 0, none, [⟨0, 16, .rw⟩]⟩,
  ⟨0x50, 8, 0x0, 0, none, [⟨0, 32, .ro⟩]⟩,
  ⟨0x70, 8, 0x0, 0, none, [⟨0, 32, .rwl⟩]⟩,
  ⟨0x90, 1, 0x0, 0, none, [⟨0, 16, .wo⟩]⟩,
  ⟨0x94, 1, 0x0, 1, none, [⟨0, 32, .ro⟩]⟩,
  ⟨0x98, 1, 0x0, 2, none, [⟨0, 32, .ro⟩]⟩,
  ⟨0x9C, 1, 0x0, 1, none, [⟨0, 32, .rw⟩]⟩,
  ⟨0xA0, 1, 0x0, 2, none, [⟨0, 32, .rw⟩]⟩,
  ⟨0xA4, 1, 0x0, 0, none, [⟨0, 8, .rwl⟩]⟩,
  ⟨0xA8, 1, 0x0, 0, none, [⟨0, 4, .rw⟩]⟩,
  ⟨0xAC, 1, 0x0, 0, (some ⟨0xA8, 0, 4, 15⟩), [⟨0, 1, .rwl⟩, ⟨1, 9, .rwl⟩, ⟨10, 8, .rwl⟩, ⟨18, 4, .rwl⟩, ⟨22, 2, .rwl⟩]⟩,
  ⟨0xB0, 4, 0x0, 0, (some ⟨0xA8, 0, 4, 15⟩), [⟨0, 32, .rwl⟩]⟩,
  ⟨0xC0, 1, 0x0, 0, none, [⟨0, 8, .rw⟩, ⟨8, 1, .rw⟩]⟩,
  ⟨0xC4, 1, 0x0, 0, (some ⟨0xC0, 0, 9, 511⟩), [⟨0, 1, .rw⟩, ⟨1, 4, .rw⟩, ⟨5, 4, .rw⟩, ⟨9, 12, .rw⟩]⟩,
  ⟨0xC8, 1, 0x0, 0, none, [⟨0, 8, .ro⟩, ⟨8, 8, .ro⟩]⟩]

def rowsPort : List RegRow := [
  ⟨0x40, 1, 0x0, 0, none, [⟨2, 1, .rw⟩, ⟨0, 2, .rw⟩]⟩,
  ⟨0x44, 1, 0x0, 0, none, [⟨28, 1, .ro⟩, ⟨24, 4, .ro⟩, ⟨18, 1, .ro⟩, ⟨16, 2, .ro⟩, ⟨8, 8, .ro⟩, ⟨6, 2, .ro⟩, ⟨0, 5, .ro⟩]⟩,
  ⟨0x48, 1, 0x0, 0, none, [⟨0, 4, .wo⟩]⟩,
  ⟨0x4C, 1, 0x0, 0, none, [⟨0, 9, .ro⟩, ⟨16, 8, .ro⟩, ⟨24, 8, .ro⟩]⟩,
  ⟨0x50, 1, 0x0, 1, none, [⟨0, 32, .ro⟩]⟩,
  ⟨0x54, 1, 0x0, 2, none, [⟨0, 32, .ro⟩]⟩,
  ⟨0x58, 1, 0x0, 0, none, [⟨0, 32, .ro⟩]⟩,
  ⟨0x5C, 1, 0x0, 0, none, [⟨0, 32, .ro⟩]⟩,
  ⟨0x60, 1, 0x0, 0, none, [⟨0, 32, .ro⟩]⟩,
  ⟨0x64, 1, 0x4600, 0, none, [⟨0, 20, .rw⟩]⟩,
  ⟨0x68, 1, 0x0, 0, none, [⟨0, 32, .ro⟩]⟩,
  ⟨0x6C, 1, 0x0, 0, none, [⟨0, 32, .ro⟩]⟩,
  ⟨0x70, 1, 0x0, 0, none, [⟨0, 32, .ro⟩]⟩,
  ⟨0x74, 1, 0x0, 0, none, [⟨0, 32, .ro⟩]⟩,
  ⟨0x78, 1, 0x0, 0, none, [⟨0, 8, .ro⟩, ⟨8, 16, .ro⟩]⟩,
  ⟨0x7C, 1, 0x0, 0, none, [⟨0, 12, .rw⟩, ⟨12, 1, .rw⟩, ⟨13, 1, .rw⟩]⟩,
  ⟨0x80, 1, 0x0, 1, (some ⟨0x7C, 0, 14, 16383⟩), [⟨0, 32, .rw⟩]⟩,
  ⟨0x84, 1, 0x0, 2, (some ⟨0x7C, 0, 14, 16383⟩), [⟨0, 32, .rw⟩]⟩,
  ⟨0x88, 1, 0x0, 0, (some ⟨0x7C, 12, 2, 3⟩), [⟨0, 13, .rw⟩]⟩,
  ⟨0x8C, 1, 0x0, 1, none, [⟨0, 32, .rw⟩]⟩,
  ⟨0x90, 1, 0x0, 2, none, [⟨0, 32, .rw⟩]⟩,
  ⟨0x94, 1, 0x0, 0, none, [⟨0, 12, .rw⟩]⟩,
  ⟨0x98, 1, 0x0, 0, (some ⟨0x94, 0, 12, 4095⟩), [⟨0, 1, .rw⟩, ⟨4, 12, .rw⟩]⟩,
  ⟨0x9C, 1, 0x0, 0, (some ⟨0x94, 0, 12, 4095⟩), [⟨0, 1, .rw⟩, ⟨1, 8, .rw⟩, ⟨9, 1, .rw⟩, ⟨10, 4, .rw⟩]⟩,
  ⟨0xA0, 1, 0x0, 0, none, [⟨0, 32, .ro⟩]⟩,
  ⟨0xA4, 1, 0x0, 0, none, [⟨0, 32, .ro⟩]⟩,
  ⟨0xA8, 1, 0x0, 0, none, [⟨0, 32, .ro⟩]⟩,
  ⟨0xAC, 4, 0x0, 0, none, [⟨0, 8, .ro⟩]⟩]

def rowsDrvCtl : List RegRow := [
  ⟨0x40, 1, 0x64, 0, none, [⟨0, 16, .rw⟩]⟩,
  ⟨0x44, 1, 0x0, 0, none, [⟨0, 11, .ro⟩, ⟨16, 7, .ro⟩]⟩,
  ⟨0x48, 1, 0x0, 1, none, [⟨0, 32, .ro⟩]⟩,
  ⟨0x4C, 1, 0x0, 2, none, [⟨0, 32, .ro⟩]⟩,
  ⟨0x50, 1, 0x0, 0, none, [⟨0, 32, .ro⟩]⟩,
  ⟨0x54, 1, 0x0, 0, none, [⟨0, 32, .ro⟩]⟩]

def rowsDrvCh : List RegRow := [
  ⟨0x0, 1, 0x0, 1, none, [⟨0, 32, .rw⟩]⟩,
  ⟨0x4, 1, 0x0, 2, none, [⟨0, 32, .rw⟩]⟩,
  ⟨0x8, 1, 0x0, 1, none, [⟨0, 32, .rw⟩]⟩,
  ⟨0xC, 1, 0x0, 2, none, [⟨0, 32, .rw⟩]⟩,
  ⟨0x10, 1, 0x0, 0, none, [⟨0, 32, .rw⟩]⟩,
  ⟨0x14, 1, 0x0, 1, none, [⟨0, 32, .rw⟩]⟩,
  ⟨0x18, 1, 0x0, 2, none, [⟨0, 32, .rw⟩]⟩,
  ⟨0x1C, 1, 0x0, 0, none, [⟨5, 1, .w1s⟩, ⟨4, 1, .rw⟩, ⟨3, 1, .rw⟩, ⟨1, 1, .rw⟩, ⟨0, 1, .w1s⟩]⟩,
  ⟨0x20, 1, 0x0, 0, none, [⟨16, 5, .rwl⟩, ⟨4, 9, .rw⟩, ⟨0, 2, .rw⟩]⟩,
  ⟨0x24, 1, 0x0, 0, none, [⟨0, 14, .rw⟩]⟩,
  ⟨0x28, 1, 0x0, 0, none, [⟨24, 8, .ro⟩, ⟨12, 9, .ro⟩, ⟨4, 5, .ro⟩, ⟨0, 4, .ro⟩]⟩,
  ⟨0x2C, 1, 0x0, 0, none, [⟨0, 8, .ro⟩, ⟨16, 16, .ro⟩]⟩,
  ⟨0x30, 1, 0x0, 1, none, [⟨0, 32, .ro⟩]⟩,
  ⟨0x34, 1, 0x0, 2, none, [⟨0, 32, .ro⟩]⟩,
  ⟨0x38, 1, 0x1, 0, none, [⟨0, 8, .rw⟩, ⟨8, 16, .rw⟩]⟩,
  ⟨0x3C, 1, 0x0, 0, none, [⟨0, 32, .ro⟩]⟩]

def rowsRidgeStore : List RegRow := [
  ⟨0x40, 1, 0x120, 0, none, [⟨0, 6, .rwl⟩, ⟨8, 1, .rwl⟩]⟩,
  ⟨0x44, 1, 0x0, 0, none, [⟨0, 6, .ro⟩, ⟨6, 1, .ro⟩, ⟨7, 1, .ro⟩, ⟨8, 16, .ro⟩]⟩,
  ⟨0x48, 1, 0x0, 0, none, [⟨0, 32, .wo⟩]⟩,
  ⟨0x4C, 1, 0x0, 0, none, [⟨0, 4, .ro⟩]⟩,
  ⟨0x50, 1, 0x0, 0, none, [⟨0, 1, .ro⟩, ⟨1, 6, .ro⟩, ⟨7, 3, .ro⟩, ⟨10, 4, .ro⟩]⟩,
  ⟨0x54, 1, 0x0, 0, none, [⟨0, 1, .wo⟩]⟩,
  ⟨0x58, 1, 0x0, 0, none, [⟨0, 6, .rw⟩, ⟨6, 3, .rw⟩, ⟨9, 4, .rw⟩, ⟨13, 4, .rw⟩]⟩,
  ⟨0x5C, 1, 0x0, 0, none, [⟨0, 4, .ro⟩, ⟨4, 4, .ro⟩, ⟨8, 5, .ro⟩, ⟨13, 1, .ro⟩, ⟨14, 1, .ro⟩]⟩,
  ⟨0x60, 1, 0x0, 0, none, [⟨0, 17, .ro⟩]⟩,
  ⟨0x64, 1, 0x0, 0, none, [⟨0, 32, .ro⟩]⟩,
  ⟨0x68, 1, 0x80000000, 0, none, [⟨16, 16, .ro⟩, ⟨0, 16, .ro⟩]⟩,
  ⟨0x6C, 1, 0x0, 0, none, [⟨0, 10, .ro⟩, ⟨15, 1, .ro⟩]⟩,
  ⟨0x70, 1, 0x0, 1, none, [⟨0, 32, .ro⟩]⟩,
  ⟨0x74, 1, 0x0, 2, none, [⟨0, 32, .ro⟩]⟩]

def rowsRidgeCore : List RegRow := [
  ⟨0x40, 8, 0x0, 0, none, [⟨0, 6, .ro⟩]⟩,
  ⟨0x60, 1, 0x0, 0, none, [⟨0, 6, .ro⟩, ⟨6, 1, .ro⟩, ⟨8, 6, .ro⟩, ⟨14, 1, .ro⟩]⟩,
  ⟨0x64, 1, 0x0, 1, none, [⟨0, 32, .ro⟩]⟩,
  ⟨0x68, 1, 0x0, 2, none, [⟨0, 2, .ro⟩]⟩,
  ⟨0x6C, 1, 0x0, 0, none, [⟨0, 4, .wo⟩, ⟨4, 5, .wo⟩]⟩,
  ⟨0x70, 1, 0x0, 0, none, [⟨0, 4, .ro⟩, ⟨4, 5, .ro⟩, ⟨16, 16, .ro⟩]⟩,
  ⟨0x74, 1, 0x64, 0, none, [⟨0, 16, .rw⟩]⟩]

def rowsRidgeSync : List RegRow := [
  ⟨0x40, 1, 0x0, 0, none, [⟨0, 10, .rw⟩]⟩,
  ⟨0x44, 1, 0x0, 0, (some ⟨0x40, 0, 10, 1023⟩), [⟨0, 32, .rw⟩]⟩,
  ⟨0x48, 1, 0x0, 0, none, [⟨0, 32, .wo⟩]⟩,
  ⟨0x4C, 1, 0x0, 0, (some ⟨0x40, 0, 10, 1023⟩), [⟨0, 1, .rw⟩, ⟨8, 4, .ro⟩]⟩,
  ⟨0x50, 1, 0x0, 0, none, [⟨0, 9, .ro⟩]⟩,
  ⟨0x54, 1, 0x0, 0, none, [⟨0, 10, .ro⟩]⟩]

def rowsRidgeInt : List RegRow := [
  ⟨0x40, 1, 0x3804, 0, none, [⟨0, 4, .rw⟩, ⟨8, 4, .rw⟩, ⟨12, 1, .rw⟩, ⟨13, 1, .rw⟩]⟩,
  ⟨0x44, 1, 0x100, 0, none, [⟨0, 2, .rw⟩, ⟨4, 3, .rw⟩, ⟨8, 3, .rw⟩]⟩,
  ⟨0x48, 1, 0x0, 0, none, [⟨0, 10, .rw⟩, ⟨10, 6, .rw⟩, ⟨16, 10, .rw⟩]⟩,
  ⟨0x4C, 1, 0x0, 0, none, [⟨0, 32, .rw⟩]⟩,
  ⟨0x50, 1, 0x0, 0, none, [⟨0, 4, .ro⟩, ⟨4, 1, .ro⟩, ⟨5, 1, .ro⟩, ⟨8, 8, .ro⟩, ⟨16, 4, .ro⟩]⟩,
  ⟨0x54, 1, 0x0, 0, none, [⟨0, 32, .ro⟩]⟩,
  ⟨0x58, 1, 0x0, 0, none, [⟨0, 12, .rw⟩]⟩,
  ⟨0x5C, 1, 0x0, 0, none, [⟨0, 32, .ro⟩]⟩,
  ⟨0x60, 1, 0x0, 0, none, [⟨0, 16, .ro⟩, ⟨16, 16, .ro⟩]⟩,
  ⟨0x64, 1, 0x0, 0, none, [⟨0, 32, .ro⟩]⟩,
  ⟨0x68, 1, 0x0, 0, none, [⟨0, 10, .ro⟩, ⟨10, 11, .ro⟩, ⟨21, 11, .ro⟩]⟩,
  ⟨0x6C, 1, 0x0, 0, none, [⟨0, 16, .ro⟩, ⟨16, 16, .ro⟩]⟩,
  ⟨0x70, 1, 0x643000A, 0, none, [⟨0, 16, .rw⟩, ⟨16, 4, .rw⟩, ⟨20, 12, .rw⟩]⟩,
  ⟨0x74, 1, 0x0, 0, none, [⟨0, 32, .ro⟩]⟩,
  ⟨0x78, 1, 0x0, 0, none, [⟨0, 4, .rw⟩]⟩,
  ⟨0x7C, 1, 0x0, 0, (some ⟨0x78, 0, 4, 15⟩), [⟨0, 6, .ro⟩, ⟨6, 3, .ro⟩, ⟨9, 4, .ro⟩, ⟨13, 3, .ro⟩, ⟨16, 3, .ro⟩, ⟨19, 5, .ro⟩, ⟨24, 8, .ro⟩]⟩,
  ⟨0x80, 1, 0xA00A8, 0, none, [⟨0, 16, .rw⟩, ⟨16, 8, .rw⟩]⟩,
  ⟨0x84, 1, 0x0, 0, none, [⟨0, 6, .wo⟩, ⟨6, 3, .wo⟩, ⟨9, 1, .wo⟩, ⟨31, 1, .wo⟩]⟩,
  ⟨0x88, 1, 0x0, 0, none, [⟨0, 6, .ro⟩, ⟨8, 3, .ro⟩, ⟨16, 16, .ro⟩]⟩]

def rowsCore : List RegRow := [
  ⟨0x300, 1, 0x81001, 0, none, [⟨16, 4, .rw⟩, ⟨8, 8, .rw⟩, ⟨0, 1, .rw⟩]⟩,
  ⟨0x304, 1, 0x0, 0, none, [⟨0, 8, .rw⟩]⟩,
  ⟨0x308, 1, 0x0, 0, (some ⟨0x304, 0, 8, 255⟩), [⟨0, 32, .rw⟩]⟩,
  ⟨0x30C, 1, 0x3F800000, 0, (some ⟨0x304, 0, 8, 255⟩), [⟨0, 32, .rw⟩]⟩,
  ⟨0x310, 1, 0x0, 0, (some ⟨0x304, 0, 8, 255⟩), [⟨16, 16, .ro⟩, ⟨9, 1, .rw⟩, ⟨8, 1, .w1c⟩, ⟨4, 2, .ro⟩, ⟨0, 4, .rw⟩]⟩,
  ⟨0x314, 1, 0x0, 0, (some ⟨0x304, 0, 8, 255⟩), [⟨0, 32, .ro⟩]⟩,
  ⟨0x318, 1, 0x0, 0, (some ⟨0x304, 0, 8, 255⟩), [⟨0, 32, .ro⟩]⟩,
  ⟨0x40, 1, 0x2, 0, none, [⟨1, 1, .rw⟩, ⟨0, 1, .w1s⟩]⟩,
  ⟨0x44, 1, 0x0, 0, none, [⟨24, 3, .ro⟩, ⟨16, 1, .ro⟩, ⟨8, 7, .ro⟩, ⟨0, 4, .ro⟩]⟩,
  ⟨0x48, 1, 0x0, 0, none, [⟨0, 12, .wo⟩, ⟨31, 1, .wo⟩]⟩,
  ⟨0x4C, 1, 0x0, 0, none, [⟨0, 12, .ro⟩]⟩,
  ⟨0x50, 1, 0x0, 0, none, [⟨0, 12, .rw⟩]⟩,
  ⟨0x54, 1, 0x0, 0, none, [⟨0, 4, .ro⟩, ⟨4, 8, .ro⟩, ⟨12, 3, .ro⟩]⟩,
  ⟨0x58, 1, 0x0, 0, none, [⟨0, 12, .ro⟩]⟩,
  ⟨0x5C, 1, 0x0, 0, none, [⟨0, 32, .ro⟩]⟩,
  ⟨0x60, 1, 0x2710, 0, none, [⟨0, 24, .rw⟩]⟩,
  ⟨0x64, 1, 0x0, 1, none, [⟨0, 32, .ro⟩]⟩,
  ⟨0x68, 1, 0x0, 2, none, [⟨0, 32, .ro⟩]⟩,
  ⟨0x6C, 1, 0x0, 1, none, [⟨0, 32, .ro⟩]⟩,
  ⟨0x70, 1, 0x0, 2, none, [⟨0, 32, .ro⟩]⟩,
  ⟨0x74, 1, 0x0, 0, none, [⟨0, 16, .ro⟩, ⟨16, 16, .ro⟩]⟩,
  ⟨0x78, 1, 0x0, 0, none, [⟨0, 6, .ro⟩, ⟨8, 5, .ro⟩, ⟨13, 1, .ro⟩, ⟨16, 4, .ro⟩]⟩,
  ⟨0x7C, 1, 0x0, 0, none, [⟨0, 32, .rwl⟩]⟩,
  ⟨0x80, 1, 0x0, 0, none, [⟨0, 4, .rw⟩]⟩,
  ⟨0x84, 1, 0x0, 1, (some ⟨0x80, 0, 4, 15⟩), [⟨0, 32, .rw⟩]⟩,
  ⟨0x88, 1, 0x0, 2, (some ⟨0x80, 0, 4, 15⟩), [⟨0, 8, .rw⟩]⟩,
  ⟨0x8C, 1, 0x0, 0, (some ⟨0x80, 0, 4, 15⟩), [⟨0, 29, .rw⟩]⟩,
  ⟨0x90, 1, 0x0, 0, (some ⟨0x80, 0, 4, 15⟩), [⟨16, 16, .ro⟩, ⟨8, 1, .ro⟩, ⟨5, 1, .rw⟩, ⟨3, 2, .rw⟩, ⟨2, 1, .rw⟩, ⟨1, 1, .rw⟩, ⟨0, 1, .rw⟩]⟩]

def rowsEngine : List RegRow := [
  ⟨0x40, 1, 0x404001, 0, none, [⟨16, 8, .rw⟩, ⟨8, 8, .rw⟩, ⟨1, 1, .rw⟩, ⟨0, 1, .rw⟩]⟩,
  ⟨0x44, 1, 0x1000, 0, none, [⟨8, 5, .ro⟩, ⟨6, 1, .ro⟩, ⟨3, 3, .ro⟩, ⟨0, 3, .ro⟩]⟩,
  ⟨0x48, 1, 0x0, 1, none, [⟨0, 32, .ro⟩]⟩,
  ⟨0x4C, 1, 0x0, 2, none, [⟨0, 32, .ro⟩]⟩,
  ⟨0x50, 1, 0x0, 0, none, [⟨0, 32, .ro⟩]⟩,
  ⟨0x54, 1, 0x0, 0, none, [⟨0, 32, .ro⟩]⟩,
  ⟨0x58, 1, 0x0, 0, none, [⟨0, 32, .ro⟩]⟩,
  ⟨0x5C, 1, 0x0, 0, none, [⟨0, 4, .ro⟩, ⟨4, 4, .ro⟩, ⟨8, 2, .ro⟩, ⟨10, 22, .ro⟩]⟩,
  ⟨0x60, 1, 0x0, 0, none, [⟨0, 16, .ro⟩, ⟨16, 16, .ro⟩]⟩,
  ⟨0x64, 1, 0x0, 0, none, [⟨0, 4, .ro⟩, ⟨4, 2, .ro⟩, ⟨6, 10, .ro⟩, ⟨16, 10, .ro⟩]⟩,
  ⟨0x68, 1, 0x0, 0, none, [⟨0, 16, .ro⟩, ⟨16, 16, .ro⟩]⟩,
  ⟨0x6C, 1, 0x202, 0, none, [⟨0, 8, .rw⟩, ⟨8, 8, .rw⟩, ⟨16, 8, .rw⟩]⟩,
  ⟨0x70, 1, 0x0, 0, none, [⟨0, 4, .rw⟩, ⟨4, 10, .rw⟩]⟩,
  ⟨0x74, 1, 0x0, 0, (some ⟨0x70, 0, 14, 16383⟩), [⟨0, 16, .ro⟩]⟩,
  ⟨0x78, 1, 0x0, 0, none, [⟨0, 2, .ro⟩, ⟨2, 3, .ro⟩]⟩,
  ⟨0x7C, 1, 0x0, 0, none, [⟨0, 4, .rw⟩, ⟨4, 3, .rw⟩]⟩,
  ⟨0x80, 1, 0xC000000, 0, (some ⟨0x7C, 0, 7, 127⟩), [⟨3, 29, .rw⟩]⟩,
  ⟨0x84, 1, 0x0, 0, none, [⟨0, 4, .rw⟩, ⟨4, 10, .rw⟩]⟩,
  ⟨0x88, 1, 0x3C000000, 0, (some ⟨0x84, 0, 14, 16383⟩), [⟨16, 16, .rw⟩, ⟨0, 16, .rw⟩]⟩,
  ⟨0x8C, 1, 0x0, 0, none, [⟨0, 3, .rw⟩, ⟨3, 10, .rw⟩]⟩,
  ⟨0x90, 1, 0x0, 0, (some ⟨0x8C, 0, 13, 8191⟩), [⟨8, 8, .ro⟩, ⟨0, 8, .ro⟩]⟩,
  ⟨0x94, 1, 0x0, 0, none, [⟨0, 1, .ro⟩]⟩,
  ⟨0x98, 1, 0x0, 0, none, [⟨0, 1, .ro⟩, ⟨1, 10, .ro⟩, ⟨11, 1, .ro⟩, ⟨12, 10, .ro⟩]⟩,
  ⟨0x9C, 1, 0x0, 0, none, [⟨0, 32, .ro⟩]⟩]

def rowsSpad : List RegRow := [
  ⟨0x40, 1, 0x0, 0, none, [⟨0, 1, .rw⟩]⟩,
  ⟨0x44, 1, 0x0, 0, none, [⟨0, 1, .ro⟩, ⟨1, 1, .ro⟩, ⟨8, 8, .ro⟩]⟩,
  ⟨0x48, 1, 0x0, 0, none, [⟨0, 16, .ro⟩, ⟨16, 16, .ro⟩]⟩,
  ⟨0x4C, 1, 0x0, 0, none, [⟨0, 12, .ro⟩, ⟨12, 6, .ro⟩]⟩,
  ⟨0x50, 1, 0x0, 0, none, [⟨18, 6, .ro⟩, ⟨12, 6, .ro⟩, ⟨4, 8, .ro⟩, ⟨0, 1, .w1c⟩]⟩,
  ⟨0x54, 1, 0x0, 0, none, [⟨0, 32, .ro⟩]⟩,
  ⟨0x58, 1, 0x0, 0, none, [⟨0, 6, .rw⟩]⟩,
  ⟨0x5C, 1, 0x0, 0, (some ⟨0x58, 0, 6, 63⟩), [⟨0, 12, .rw⟩, ⟨16, 13, .rw⟩]⟩,
  ⟨0x60, 1, 0x0, 0, (some ⟨0x58, 0, 6, 63⟩), [⟨8, 1, .w1c⟩, ⟨4, 1, .rw⟩, ⟨3, 1, .rw⟩, ⟨2, 1, .rw⟩, ⟨1, 1, .rw⟩, ⟨0, 1, .rw⟩]⟩,
  ⟨0x64, 1, 0x0, 0, (some ⟨0x58, 0, 6, 63⟩), [⟨0, 10, .rw⟩, ⟨16, 10, .rw⟩]⟩,
  ⟨0x68, 1, 0x0, 0, (some ⟨0x58, 0, 6, 63⟩), [⟨0, 12, .ro⟩, ⟨16, 12, .ro⟩]⟩,
  ⟨0x6C, 1, 0x0, 0, (some ⟨0x58, 0, 6, 63⟩), [⟨0, 13, .ro⟩, ⟨16, 1, .ro⟩, ⟨17, 1, .ro⟩, ⟨20, 12, .ro⟩]⟩,
  ⟨0x70, 1, 0x0, 0, none, [⟨0, 4, .rw⟩]⟩,
  ⟨0x74, 1, 0x0, 0, (some ⟨0x70, 0, 4, 15⟩), [⟨0, 10, .rw⟩, ⟨16, 6, .rw⟩, ⟨24, 8, .rw⟩]⟩,
  ⟨0x78, 1, 0x0, 0, (some ⟨0x70, 0, 4, 15⟩), [⟨0, 1, .rw⟩]⟩,
  ⟨0x7C, 1, 0x0, 0, (some ⟨0x70, 0, 4, 15⟩), [⟨0, 6, .rw⟩]⟩]

def rowsImem : List RegRow := [
  ⟨0x40, 1, 0x0, 0, none, [⟨0, 7, .rw⟩]⟩,
  ⟨0x800, 512, 0x0, 0, none, [⟨0, 32, .rw⟩]⟩]

/-- The block-specific registers of a page. -/
def pageRows : PageKind → List RegRow
  | .identity => rowsIdentity
  | .start => rowsStart
  | .power => rowsPower
  | .lookout => rowsLookout
  | .thermal => rowsThermal
  | .cairn => rowsCairn
  | .mgmt => rowsMgmt
  | .calib => rowsCalib
  | .trust => rowsTrust
  | .hostPort => rowsHostPort
  | .dieInt => rowsDieInt
  | .dieStore => rowsDieStore
  | .residency => rowsResidency
  | .serving => rowsServing
  | .walker => rowsWalker
  | .cacheTier => rowsCacheTier
  | .stack => rowsStack
  | .flank => rowsFlank
  | .saddle => rowsSaddle
  | .fabric => rowsFabric
  | .port => rowsPort
  | .drvCtl => rowsDrvCtl
  | .drvCh => rowsDrvCh
  | .ridgeStore => rowsRidgeStore
  | .ridgeCore => rowsRidgeCore
  | .ridgeSync => rowsRidgeSync
  | .ridgeInt => rowsRidgeInt
  | .core => rowsCore
  | .engine => rowsEngine
  | .spad => rowsSpad
  | .imem => rowsImem
  | .reserved => []

/-- The page kind of a BAR0 page number (R782–R787). -/
def pageKind (page : Nat) : PageKind :=
  if page < 4096 then
    match page with
    | 0 => .identity | 1 => .start | 2 => .power | 3 => .lookout | 4 => .thermal | 5 => .cairn | 6 => .mgmt
    | 7 => .calib | 8 => .trust | 9 => .hostPort | 10 => .dieInt | 11 => .dieStore | 12 => .residency
    | 13 => .serving | 14 => .walker | 15 => .cacheTier
    | 16 => .stack | 17 => .stack | 18 => .stack | 19 => .stack | 20 => .stack | 21 => .stack
    | 22 => .flank | 23 => .flank | 24 => .saddle | 25 => .fabric
    | 36 => .drvCtl | 37 => .drvCh | 38 => .drvCh | 39 => .drvCh | 40 => .drvCh
    | p => if 26 ≤ p && p ≤ 35 then .port else .reserved
  else if page < 4096 + 16 * 1024 then
    let q := (page - 4096) % 1024
    if q < 256 then
      match q with
      | 0 => .ridgeStore | 1 => .ridgeCore | 2 => .ridgeSync | 3 => .ridgeInt | 4 => .trust | 5 => .drvCtl
      | 6 => .drvCh | 7 => .drvCh | _ => .reserved
    else if q < 256 + 34 * 16 then
      let p := (q - 256) % 16
      if p = 0 then .core else if p ≤ 8 then .engine else if p = 9 then .spad else if p = 10 then .imem else .reserved
    else .reserved
  else .reserved


/-- The row of an offset among rows. -/
def findRow (off : Nat) : List RegRow → Option RegRow
  | [] => none
  | r :: rest => if r.off ≤ off && off < r.off + 4 * r.count then some r else findRow off rest

/-- The register row at an offset of a page of this kind: the header below 0x040, else the block's own (R769). -/
def regRow (kind : PageKind) (off : Nat) : Option RegRow :=
  match kind with
  | .reserved => none
  | .drvCh =>
    if off < 0x40 then findRow off rowsHeader
    else if 0x100 ≤ off && off < 0x500 then findRow ((off - 0x100) % 0x40) rowsDrvCh else none
  | _ => if off < 0x40 then findRow off rowsHeader else findRow off (pageRows kind)

end Sys2Proof.Machine
end

