-- ==== Sys2Proof/Machine/State.lean ====
section
/-! DEFINITION. The state of the block as plain data, its reasons to stop, and the state right after reset. -/
namespace Sys2Proof.Machine

/-- Why a command stops the model. -/
inductive Fault where
  /-- Raised by a command whose list operand does not have the length that the spec's object has (a verify read of other
  than 544 cells): no such command exists in the table, so the stop is safe. -/
  | illFormed
  deriving DecidableEq, Repr

/-- Why a command has no meaning. -/
inductive Refusal where
  /-- Raised by Dispatch alone, for a command that has no meaning yet; safe. -/
  | notModelled (mnemonic : String)
  deriving DecidableEq, Repr

/-- Everything the spec gives the hardware: its registers, memories, queues, modes and pins. -/
structure Block where
  /-- the register file: every register of the BAR0 map and every cell behind a selection, by key; an unlisted one holds
  its reset value -/
  regs : SMap Word
  /-- LO values staged for RW pairs, by key × 32 + requester (R780) -/
  staged : SMap Word
  /-- HI halves latched for RO pairs, by key × 32 + requester (R781) -/
  hiLatch : SMap Word
  /-- the snapshot of the RO registers of frozen pages, by key (R772) -/
  frozen : SMap Word
  /-- MSI-X messages signalled, by function × 256 + vector (R753–R755) -/
  msix : SMap Nat
  /-- the free values handed out so far -/
  freeCtr : Nat
  /-- the bytes the last command that answers the outside world returned -/
  answer : List Byte
  /-- writes into host memory, oldest first -/
  hostOut : List HostWrite
  /-- engines by engine key -/
  eng : SMap EngSt
  /-- core sites by site key -/
  core : SMap Core
  /-- scratchpads by site key -/
  spad : SMap Spad
  /-- sync cells by ridge -/
  sync : SMap SyncSt
  /-- the migration of a ridge -/
  mig : SMap Migration
  /-- drovers: 0–15 of the ridges, 16 the die's -/
  drv : SMap Drover
  cache : CacheSt
  store : StoreSt
  net : NetSt
  fab : FabSt
  res : ResSt
  serv : ServSt
  tw : TwinSt
  pow : PowSt
  tr : TrustSt
  int : IntSt
  cairn : CairnSt
  look : LookSt
  cal : CalSt
  hp : HostSt
  mg : MgmtSt
  boot : BootSt
  deriving DecidableEq, Repr

/-- The whole state of the block: the hardware, and the queue of the commands that are waiting. -/
structure State extends Block where
  /-- commands that wait, first in first out -/
  pending : List Instr
  deriving DecidableEq, Repr

/-- The hardware right after reset. -/
def Block.reset : Block where
  regs := []
  staged := []
  hiLatch := []
  frozen := []
  msix := []
  freeCtr := 0
  answer := []
  hostOut := []
  eng := []
  core := []
  spad := []
  sync := []
  mig := []
  drv := []
  cache := CacheSt.reset
  store := StoreSt.reset
  net := NetSt.reset
  fab := FabSt.reset
  res := ResSt.reset
  serv := ServSt.reset
  tw := TwinSt.reset
  pow := PowSt.reset
  tr := TrustSt.reset
  int := IntSt.reset
  cairn := CairnSt.reset
  look := LookSt.reset
  cal := CalSt.reset
  hp := HostSt.reset
  mg := MgmtSt.reset
  boot := BootSt.reset

/-- The block right after reset: nothing waits. -/
def State.reset : State where
  toBlock := Block.reset
  pending := []

/-- What a command's meaning, given over the hardware alone, answers on the whole state: the queue is as it was. -/
def State.runs (s : State) (f : Block → Host.Outcome Block Fault Refusal) : Host.Outcome State Fault Refusal :=
  match f s.toBlock with
  | .next b => .next ⟨b, s.pending⟩
  | .fault e => .fault e
  | .refused r => .refused r

end Sys2Proof.Machine
end

