-- ==== Sys2Proof/Machine/Ops.lean ====
section
/-! DEFINITION. The named operations over the state that every family of commands shares: the register file, interrupts
and MSI-X messages, free values, block errors, the site map, the cairn's records and fault signatures. -/
namespace Sys2Proof.Machine

/-! ## The register file -/

/-- The reset value of a register that depends on which instance it is (R258, R382, R461, R464); `none` where the table
of its page gives one value. Log entry 5 names the values of a part without defects. -/
def instReset (kind : PageKind) (page off idx : Nat) : Option Nat :=
  match kind with
  | .power =>
    if off = 0x68 then
      some (([750, 800, 900, 2800, 800, 1800, 750, 1200, 1100, 400, 1800].getD idx 0) * 2 ^ 4
        + (if idx = 4 ∨ idx = 5 then 1 else if idx ≤ 10 then 9 else 0))
    else none
  | .thermal => if off = 0x58 then some (16 * 2 ^ 16) else none
  | .ridgeCore =>
    if 0x40 ≤ off && off < 0x60 then
      let n := (off - 0x40) / 4
      some (4 * n + (4 * n + 1) * 2 ^ 8 + (4 * n + 2) * 2 ^ 16 + (4 * n + 3) * 2 ^ 24)
    else if off = 0x60 then some (32 + 2 ^ 6 + 33 * 2 ^ 8 + 2 ^ 14) else none
  | .drvCtl => if off = 0x44 then some ((if page = 36 then 64 else 32) * 2 ^ 16) else none
  | .drvCh =>
    if 0x100 ≤ off && off < 0x500 && (off - 0x100) % 0x40 = 0x20 then
      let k := (off - 0x100) / 0x40
      if page < 4096 then
        let c := (page - 37) * 16 + k
        some ((if c < 48 then c / 3 else 16) * 2 ^ 16 + 32 * 2 ^ 4 + (if c < 48 then 1 else 3))
      else some ((page - 4096) / 1024 * 2 ^ 16 + 32 * 2 ^ 4 + 1)
    else none
  | _ => none

/-- The reset value of a key of the register file (R10; log entries 5–7). -/
def regReset (key : Nat) : Word :=
  let addr := key / regSpan
  let page := addr / 4096
  let off := addr % 4096
  let kind := pageKind page
  match instReset kind page off (key % regSpan) with
  | some v => BitVec.ofNat 32 v
  | none => match regRow kind off with
    | some r => BitVec.ofNat 32 r.reset
    | none => 0

/-- The value a register holds. -/
def Block.reg (s : Block) (k : Nat) : Word := (SMap.find k s.regs).getD (regReset k)

/-- Writes a register's value. -/
def Block.setReg (s : Block) (k : Nat) (v : Word) : Block := { s with regs := SMap.set (regReset k) s.regs k v }

/-- `w` bits of a word from bit `lo` (R4). -/
def getBits (v : Word) (lo w : Nat) : Nat := v.toNat / 2 ^ lo % 2 ^ w

/-- A word with `w` bits from bit `lo` replaced. -/
def putBits (v : Word) (lo w n : Nat) : Word :=
  BitVec.ofNat 32 (v.toNat / 2 ^ (lo + w) * 2 ^ (lo + w) + n % 2 ^ w * 2 ^ lo + v.toNat % 2 ^ lo)

/-- The value of a field. -/
def Block.fld (s : Block) (f : Field) : Nat := getBits (s.reg f.key) f.lo f.w

/-- Writes a field. -/
def Block.setFld (s : Block) (f : Field) (n : Nat) : Block := s.setReg f.key (putBits (s.reg f.key) f.lo f.w n)

/-- Whether a one-bit field is 1. -/
def Block.bit (s : Block) (f : Field) : Bool := s.fld f = 1

/-- Writes a one-bit field. -/
def Block.setBit (s : Block) (f : Field) (b : Bool) : Block := s.setFld f (if b then 1 else 0)

/-- Adds to a field that saturates. -/
def Block.addSat (s : Block) (f : Field) (n : Nat) : Block := s.setFld f (min (2 ^ f.w - 1) (s.fld f + n))

/-- Adds to a whole register that saturates at 0xFFFF_FFFF. -/
def Block.addReg (s : Block) (k n : Nat) : Block :=
  s.setReg k (BitVec.ofNat 32 (min 0xFFFFFFFF ((s.reg k).toNat + n)))

/-- Adds to a whole register that wraps. -/
def Block.wrapReg (s : Block) (k n : Nat) : Block := s.setReg k (s.reg k + BitVec.ofNat 32 n)

/-- A 64-bit value of a LO and a HI register. -/
def Block.pair (s : Block) (lo hi : Nat) : Nat := (s.reg lo).toNat + (s.reg hi).toNat * 2 ^ 32

/-- Writes a 64-bit value, modulo 2⁶⁴, to a LO and a HI register. -/
def Block.setPair (s : Block) (lo hi n : Nat) : Block :=
  (s.setReg lo (BitVec.ofNat 32 n)).setReg hi (BitVec.ofNat 32 (n / 2 ^ 32))

/-! ## Free values -/

/-- The next free value (log entry 9). -/
def Block.freeNat (s : Block) : Nat := Config.freeValue s.freeCtr

/-- The state after a free value was handed out. -/
def Block.tick (s : Block) : Block := { s with freeCtr := s.freeCtr + 1 }

/-! ## The site map (R243, R258) -/

/-- The physical site of a logical core: byte k mod 4 of RC_SITEMAP(k div 4). -/
def Block.siteOf (s : Block) (r k : Nat) : Nat := getBits (s.reg (RC_SITEMAP r (k / 4))) (8 * (k % 4)) 6

/-- Writes the site map. -/
def Block.setSite (s : Block) (r k site : Nat) : Block :=
  s.setFld ⟨RC_SITEMAP r (k / 4), 8 * (k % 4), 6⟩ site

/-- The logical core that a site holds. -/
def Block.coreOf (s : Block) (r site : Nat) : Option Nat := (List.range 32).find? (fun k => s.siteOf r k = site)

/-- Whether a site is retired. -/
def Block.siteRetired (s : Block) (r site : Nat) : Bool :=
  if site < 32 then (s.reg (RC_RETIRED_LO r)).getLsbD site else (s.reg (RC_RETIRED_HI r)).getLsbD (site - 32)

/-- Marks a site retired. -/
def Block.retireSite (s : Block) (r site : Nat) : Block :=
  if site < 32 then s.setFld ⟨RC_RETIRED_LO r, site, 1⟩ 1 else s.setFld ⟨RC_RETIRED_HI r, site - 32, 1⟩ 1

/-! ## Interrupts (R753–R755, R773, R779) -/

/-- The pages of one core site whose events share a vector: core page, engine pages, scratchpad control page. -/
def sitePages (r site : Nat) : List Nat := (List.range 10).map (sitePage r site)

/-- Whether a page has an enabled interrupt status bit of the mask at 1. -/
def Block.irqActive (s : Block) (g : Nat × Nat) : Bool :=
  decide (s.reg (BLK_IRQ_STAT g.1) &&& s.reg (BLK_IRQ_EN g.1) &&& BitVec.ofNat 32 g.2 ≠ 0)

/-- Whether virtual function r exists (R744). -/
def Block.vfExists (s : Block) (r : Nat) : Bool := s.bit HP_VF.VF_EN && decide (r < s.fld HP_VF.NUMVF)

/-- Whether VF r exists and its MSI-X Enable is 1 (R744, R755). -/
def Block.vfSignals (s : Block) (r : Nat) : Bool := s.vfExists r && decide (s.fld HP_VF.MSIX_EN / 2 ^ r % 2 = 1)

/-- The function that an owner's host requests come from (R445, R744): 0 the physical function, r + 1 virtual function r. -/
def Block.hostFn (s : Block) (owner : Nat) : Nat := if owner < 16 && s.vfExists owner then owner + 1 else 0

/-- Whether an owner's host requests wait for D0 (R745). -/
def Block.hostWaits (s : Block) (owner : Nat) : Bool := s.hp.d3.contains (s.hostFn owner)

/-- Every status bit. -/
def allBits : Nat := 0xFFFFFFFF

/-- The pages of every source of ridge r together (R755). -/
def ridgeSources (r : Nat) : List (Nat × Nat) :=
  ((List.range 8).map (ridgePage r) ++ ((List.range 34).map (sitePages r)).flatten).map (fun p => (p, allBits))

/-- A vector: the function (0 the physical function, r + 1 virtual function r), its number, and the pages, with the
status bits, whose enabled OR it stands for. -/
structure Vector where
  fn : Nat
  vec : Nat
  pages : List (Nat × Nat)
  deriving DecidableEq, Repr

/-- The status bits DONE and BAD of channel k of a channel page (R466). -/
def channelBits (k : Nat) : Nat := 2 ^ k + 2 ^ (16 + k)

/-- The vectors that a page's events signal (R753, R755). A die drover channel below 48 belongs to ridge c div 3. -/
def Block.vectorsOf (s : Block) (page : Nat) : List Vector :=
  let own (v : Nat) : List Vector := [⟨0, v, [(page, allBits)]⟩]
  if page < 4096 then
    match page with
    | 36 => own 64 | 11 => own 65 | 12 => own 66 | 13 => own 67 | 14 => own 68 | 25 => own 69
    | 22 => own 80 | 23 => own 81 | 24 => own 82 | 15 => own 83
    | 10 => own 90 | 8 => own 91 | 2 => own 92 | 3 => own 93 | 4 => own 94 | 7 => own 95 | 5 => own 96 | 1 => own 97
    | 9 => own 98
    | p =>
      if 26 ≤ p && p ≤ 35 then own (70 + (p - 26))
      else if 16 ≤ p && p ≤ 21 then own (84 + (p - 16))
      else if 37 ≤ p && p ≤ 40 then
        (List.range 16).map (fun k =>
          let c := (p - 37) * 16 + k
          if c < 48 && s.vfSignals (c / 3) then ⟨c / 3 + 1, 48 + c % 3, [(p, channelBits k)]⟩
          else ⟨0, c, [(p, channelBits k)]⟩)
      else []
  else
    let r := (page - 4096) / 1024
    let q := (page - 4096) % 1024
    if s.vfSignals r then
      if q < 256 then
        let own (v : Nat) : List Vector := [⟨r + 1, v, [(page, allBits)]⟩]
        match q with
        | 5 => own 51 | 3 => own 52 | 0 => own 53 | 1 => own 54 | 2 => own 55 | 4 => own 56
        | 6 => (List.range 16).map (fun k => ⟨r + 1, 16 + k, [(page, channelBits k)]⟩)
        | 7 => (List.range 16).map (fun k => ⟨r + 1, 32 + k, [(page, channelBits k)]⟩)
        | _ => []
      else
        let site := (q - 256) / 16
        match s.coreOf r site with
        | some k => [⟨r + 1, 57 + k, (sitePages r site).map (fun p => (p, allBits))⟩]
        | none => []
    else [⟨0, 128 + r, ridgeSources r⟩]

/-- Sends one MSI-X message. -/
def Block.signal (s : Block) (fn vec : Nat) : Block :=
  { s with msix := SMap.set 0 s.msix (fn * 256 + vec) (SMap.get 0 s.msix (fn * 256 + vec) + 1) }

/-- Signals each vector of a page whose enabled OR was 0 in `old` and is 1 now (R754). -/
def Block.signalRises (s : Block) (page : Nat) (old : Block) : Block :=
  (old.vectorsOf page).foldl (fun t v => if !v.pages.any old.irqActive && v.pages.any s.irqActive then t.signal v.fn v.vec else t) s

/-- Signals each vector of a page whose enabled OR is 1 (R754, after a write of BLK_IRQ_STAT). -/
def Block.signalActive (s : Block) (page : Nat) : Block :=
  (s.vectorsOf page).foldl (fun t v => if v.pages.any s.irqActive then t.signal v.fn v.vec else t) s

/-- Sets a bit of BLK_IRQ_STAT; the vector is signalled when the enabled OR rises (R754, R773). -/
def Block.raise (s : Block) (page bit : Nat) : Block :=
  (s.setFld ⟨BLK_IRQ_STAT page, bit, 1⟩ 1).signalRises page s

/-- Counts a block error with its detail (R769, R774). -/
def Block.blkErr (s : Block) (page : Nat) (info : Word) : Block :=
  (s.addReg (BLK_ERR_CNT page) 1).setReg (BLK_ERR_INFO page) info

/-! ## Keys of the indexed parts -/

/-- Site key: ridge × 34 + site. -/
def siteKey (r c : Nat) : Nat := r * 34 + c
/-- Engine key (R701): site key × 8 + engine. -/
def engKey (r c e : Nat) : Nat := siteKey r c * 8 + e
/-- Slab key (R701): engine key × 9 + slab. -/
def slabKey (r c e p : Nat) : Nat := engKey r c e * 9 + p

/-! ## Ridge states (R630, R632) -/

/-- PM_RIDGE_STAT.STATE: 0 Run, 1 Doze, 2 Nap, 3 Off. -/
def Block.ridgeState (s : Block) (r : Nat) : Nat := s.fld (PM_RIDGE_STAT.STATE r)

/-- Whether the ridge is in Run or Doze. -/
def Block.ridgeUp (s : Block) (r : Nat) : Bool := decide (s.ridgeState r ≤ 1)

/-- The seconds with every ridge Off in Standby count from 0 again (R694). -/
def Block.unsettle (s : Block) : Block := { s with cal := { s.cal with settled := 0 } }

/-- Sets a ridge's state and its bit of PM_DIE_STAT.RIDGES_RUN (R649). -/
def Block.setRidgeState (s : Block) (r code : Nat) : Block :=
  ((if code = 3 then s else s.unsettle).setFld (PM_RIDGE_STAT.STATE r) code).setFld ⟨PM_DIE_STAT, 16 + r, 1⟩ (if code ≤ 1 then 1 else 0)

/-- Any arrival at a ridge in Doze returns it to Run (R632). -/
def Block.dozeWake (s : Block) (r : Nat) : Block := if s.ridgeState r = 1 then s.setRidgeState r 0 else s

/-- Whether the die is Active (R649). -/
def Block.dieActive (s : Block) : Bool := decide (s.fld PM_DIE_STAT.STATE = 2)

/-- Whether the die is in Hold, with VDD_BASE present. -/
def Block.dieHold (s : Block) : Bool := decide (s.fld PM_DIE_STAT.STATE = 0) && !s.pow.off

/-- Enables the next rail of step 4; VDD_CORE starts at 0.80 V (R719, R797, R799). -/
def Block.nextRail (s : Block) : Block :=
  match s.boot.rails with
  | [] => s
  | k :: _ => (if k = 0 then s.setFld (PM_RAIL_STAT.SETPOINT 0) 800 else s).setBit (PM_RAIL_STAT.EN k) true

/-- Step 4 of the start (R627, R719): a wake of the die from Hold enables the rails, VPP first and VPGM last. A trip that
has not been cleared ignores it (R676). -/
def Block.startMain (s : Block) : Block :=
  if !s.dieHold ∨ s.bit LT_TRIP_INFO.TRIPPED ∨ s.boot.recovery then s
  else
    let t := (s.setFld PM_DIE_STAT.STATE 3).setFld BC_STAT.STEP 4
    let t := ((t.setBit PM_PF_STAT.LATCHED false).setBit PM_PF_STAT.FLUSH_DONE false).setBit PM_DIE_STAT.PF_LATCHED false
    { t with boot := { t.boot with rails := [10, 8, 9, 6, 7, 1, 0, 2, 3] }, pow := { t.pow with clean := false } }.nextRail

/-- A wake event at a ridge (R62, R632, R634, R635): Nap and Off start to wake, or do so once the die is Active; an entry
in progress notes it, and PM_WAKE_CAUSE records the event in bit `cause`. Doze returns to Run. A due refresh, cause 2,
also takes the die from Hold (R627), and alone lets a ridge return to Off afterwards. A ridge whose microcode did not verify
stays Off (R719). -/
def Block.wakeRidge (s : Block) (r cause : Nat) : Block :=
  if s.boot.ucBad.contains r then s
  else
  let t := s.setFld ⟨PM_WAKE_CAUSE, cause, 1⟩ 1
  let t := if cause = 2 then t else { t with pow := { t.pow with returnOff := t.pow.returnOff.filter (· ≠ r) } }
  let later := { t with pow := { t.pow with wakePending := (t.pow.wakePending.filter (· ≠ r)) ++ [r] } }
  match s.ridgeState r with
  | 0 => { s with pow := t.pow }
  | 1 => { s with pow := t.pow }.setRidgeState r 0
  | 4 => later
  | 5 => { s with pow := t.pow }
  | _ =>
    if s.dieActive then t.setRidgeState r 5
    else if cause = 2 then later.startMain else later

/-- Whether a ridge is BOUND (R598). -/
def Block.bound (s : Block) (r : Nat) : Bool := decide (s.fld (TR_RIDGE_STAT.STATE 16 r) = 1)

/-- The ridge that owns a sequence that is not FREE (R503). -/
def Block.seqRidge (s : Block) (q : Nat) : Option Nat := (SMap.find q s.serv.seqs).map (·.ridge)

/-! ## The cairn's event records (R704, R705, R710) -/

/-- Units in staging. -/
def stagedUnits (l : List CairnRec) : Nat := (l.map (·.len)).sum

/-- Drops the oldest staged records until a record of `len` units fits; answers how many were dropped. -/
def dropOldest (len : Nat) : List CairnRec → List CairnRec × Nat
  | [] => ([], 0)
  | r :: rest =>
    if stagedUnits (r :: rest) + len ≤ 1856 then (r :: rest, 0)
    else let (l, n) := dropOldest len rest; (l, n + 1)

/-- A working-state update that a freeze, or EN = 0, makes the cairn miss (R710, R715). -/
def Block.cairnMiss (s : Block) : Block :=
  { s.addReg CAIRN_MISSED 1 with cairn := { s.cairn with missedSince := true } }

/-- Whether the cairn records now. -/
def Block.cairnOn (s : Block) : Bool := !s.bit CAIRN_CTL.FREEZE && s.bit CAIRN_CTL.EN && !s.bit PM_PF_STAT.LATCHED

/-- Appends an event record to staging whatever the freeze says. -/
def Block.cairnPut (s : Block) (kind len back body : Nat) : Block :=
  let c := s.cairn
  let seq := ((s.reg CAIRN_SEQ).toNat + 1) % 2 ^ 32
  let flags := (if s.bit CAIRN_STAT.TIME_SET then 0 else 1) + back * 2 + (if c.missedSince then 4 else 0)
  let (kept, n) := dropOldest len c.staging
  let t := { s with cairn := { c with staging := kept ++ [(⟨c.time, kind, len, flags, seq, body⟩ : CairnRec)], missedSince := false } }
  let t := t.setReg CAIRN_SEQ (BitVec.ofNat 32 seq)
  if n = 0 then t else (t.addSat CAIRN_STAT.STAGE_LOST n).raise (diePage 5) Irq.cairn_STAGE_LOST

/-- Writes an event record, or counts it as missed (R704, R710). -/
def Block.cairnRecord (s : Block) (kind len body : Nat) : Block :=
  if s.cairnOn then s.cairnPut kind len 0 body else s.cairnMiss

/-- Requests a fault flush: at once, or merged into one at the end of the spacing or of a freeze (R708, R711). -/
def Block.faultFlush (s : Block) (why : Nat) : Block :=
  if s.bit CAIRN_CTL.FREEZE || s.cairn.spacing || s.cairn.flush.isSome then
    { s with cairn := { s.cairn with faultWaits := true } }
  else
    { s.setBit CAIRN_STAT.FLUSHING true with cairn := { s.cairn with flush := some why, spacing := true } }

/-- Starts the fault flush that waited (R708, R711). -/
def Block.releaseFaultFlush (s : Block) : Block :=
  if s.cairn.faultWaits && !s.cairn.spacing && s.cairn.flush.isNone && !s.bit CAIRN_CTL.FREEZE then
    { s.setBit CAIRN_STAT.FLUSHING true with
      cairn := { s.cairn with flush := some 3, spacing := true, faultWaits := false } }
  else s

/-- Freezes or releases the cairn (R710, R711). -/
def Block.cairnFreeze (s : Block) (b : Bool) : Block :=
  let t := s.setBit CAIRN_CTL.FREEZE b
  if b then t else t.releaseFaultFlush

/-! ## Fault signatures (R572–R575) -/

/-- LOCATION (R573) of the parts named: ridge, site, logical core, engine, slab, column, port, stack, flank. -/
def location (ridge site logical engine slab column port stack flank : Option Nat) : BitVec 64 :=
  let f (o : Option Nat) (lo w : Nat) : Nat := match o with | some n => n % 2 ^ w * 2 ^ lo | none => 0
  let v (o : Option Nat) (b : Nat) : Nat := if o.isSome then 2 ^ b else 0
  BitVec.ofNat 64 (f ridge 0 4 + f site 4 6 + f logical 10 5 + f engine 15 3 + f slab 18 4 + f column 22 10 + f port 32 4
    + f stack 36 3 + f flank 39 1 + v ridge 40 + v site 41 + v logical 42 + v engine 43 + v slab 44 + v column 45
    + v port 46 + v stack 47 + v flank 48)

/-- The location of a slab. -/
def Block.locSlab (s : Block) (r c e p : Nat) : BitVec 64 :=
  location (some r) (some c) (s.coreOf r c) (some e) (some p) none none none none

/-- The location of an engine. -/
def Block.locEngine (s : Block) (r c e : Nat) : BitVec 64 :=
  location (some r) (some c) (s.coreOf r c) (some e) none none none none none

/-- The location of a core site. -/
def Block.locSite (s : Block) (r c : Nat) : BitVec 64 :=
  location (some r) (some c) (s.coreOf r c) none none none none none none

/-- The location of a ridge. -/
def locRidge (r : Nat) : BitVec 64 := location (some r) none none none none none none none none

/-- Severity 2 (corrected) for TRANSIENT and for repaired faults, 0 for what leaves the die degraded (R572). A fault is
repaired when ACTION is replay, column or slab replaced, migrated, or converter steered. -/
def Signature.severity (g : Signature) : Nat :=
  if g.cls = 1 || g.action = 1 || g.action = 2 || g.action = 3 || g.action = 4 || g.action = 8 then 2 else 0

/-- The 128 bytes of the vendor section as one number, byte 0 lowest (R573); `serial` is the die's. -/
def Signature.vendor (g : Signature) (serial : Nat) : Nat :=
  serial + g.kind * 2 ^ 64 + g.cls * 2 ^ 80 + g.band * 2 ^ 88 + g.location.toNat * 2 ^ 96 + g.step * 2 ^ 160
    + g.rev * 2 ^ 192 + g.action * 2 ^ 200 + g.count * 2 ^ 208 + g.age * 2 ^ 224 + g.wear * 2 ^ 256 + g.fw * 2 ^ 288
    + g.time * 2 ^ 384 + g.detail * 2 ^ 448

/-- The `n` bytes of a number, lowest first (R5). -/
def bytesOf (n v : Nat) : List Byte := (List.range n).map (fun k => BitVec.ofNat 8 (v / 2 ^ (8 * k)))

/-- The number whose bytes these are, lowest first (R5). -/
def ofBytes : List Byte → Nat
  | [] => 0
  | b :: rest => b.toNat + 256 * ofBytes rest

/-- The 328 bytes of a signature: 200 bytes that the UEFI specification lays out, then the vendor section (R572). -/
def Block.sigBytes (s : Block) (g : Signature) : List Byte :=
  (List.range 200).map (Config.cperByte g.severity g.time) ++ bytesOf 128 (g.vendor (s.pair ID_SERIAL_LO ID_SERIAL_HI))

/-- What DETAIL shows of an echo fault of a bound ridge: the number of differing codes, of 10 bits each with bit 9 at 1 (R617). -/
def echoCount (detail : Nat) : Nat := ((List.range 528).filter (fun k => detail.testBit (10 * k + 9))).length

/-- The signature as one outside a bound ridge's trust sees it (R617). -/
def Block.shownSignature (s : Block) (g : Signature) : Signature :=
  if g.kind = 3 ∧ g.location.getLsbD 40 ∧ s.bound (g.location.toNat % 16) then { g with detail := echoCount g.detail } else g

/-- Power-on hours of the die: the time counted in the die's three powered states (R573, R701). -/
def Block.powerHours (s : Block) : Nat :=
  (SMap.get 0 s.cairn.data.powerMs 0 + SMap.get 0 s.cairn.data.powerMs 1 + SMap.get 0 s.cairn.data.powerMs 2) / 3600000

/-- The FW bytes of a signature: base-camp, ridge-microcode and SerDes firmware versions (R573). -/
def Block.firmware (s : Block) (loc : BitVec 64) : Nat :=
  (s.reg BC_FW_ACTIVE).toNat
    + (if loc.getLsbD 40 then SMap.get 0 s.boot.ucVersion (loc.toNat % 16) else 0) % 2 ^ 32 * 2 ^ 32
    + (if loc.getLsbD 46 then SMap.get 0 s.boot.serdesVersion (loc.toNat / 2 ^ 32 % 16) else 0) % 2 ^ 32 * 2 ^ 64

/-- Shows ALERT_N and the sources that follow a queue, and sends an IBI for each source bit that became set (R764). -/
def Block.showAlert (s : Block) : Block :=
  let t := (s.setBit MG_ALERT_SRC.FS !s.int.fsQueue.isEmpty).setBit MG_ALERT_SRC.PLDM_EVENT !s.mg.events.isEmpty
  let now := t.reg MG_ALERT_SRC
  let rises := (List.range 5).filter (fun b => now.getLsbD b && !s.mg.sources.testBit b)
  let t := t.setBit MG_STAT.ALERT (decide (now &&& t.reg MG_ALERT_EN ≠ 0))
  { t with mg := { t.mg with sources := now.toNat, ibis := if t.bit MG_STAT.IBI_EN then t.mg.ibis ++ rises else t.mg.ibis } }

/-- Raises RAIL_FAULT, which is an alert source (R639, R640, R768). -/
def Block.railFault (s : Block) : Block :=
  ((s.raise (diePage 2) Irq.power_RAIL_FAULT).setBit MG_ALERT_SRC.RAIL true).showAlert

/-- Raises the signature into the queue, merging it with a like one that is recent enough (R575). -/
def Block.fsEnqueue (s : Block) (g : Signature) : Block :=
  let now := s.cairn.time
  let like (e : Signature × Nat) : Bool :=
    decide (e.1.kind = g.kind ∧ e.1.cls = g.cls ∧ e.1.location = g.location ∧ now - e.2 ≤ s.fld FS_MERGE.MS)
  if s.int.fsQueue.any like then
    let bump := s.int.fsQueue.map (fun e => if like e then ({ e.1 with count := min 65535 (e.1.count + 1) }, e.2) else e)
    { s with int := { s.int with fsQueue := bump } }
  else if s.int.fsQueue.length ≥ 64 then
    (s.addSat FS_STAT.LOST 1).raise (diePage 10) Irq.dieInt_FS_LOST
  else
    let t := { s with int := { s.int with fsQueue := s.int.fsQueue ++ [(g, now)] } }
    ((t.setFld FS_STAT.COUNT t.int.fsQueue.length).raise (diePage 10) Irq.dieInt_FS_PENDING).showAlert

/-- A fault signature: queued, written to the cairn, and followed by a fault flush when its severity is 0
(R575, R704, R708). -/
def Block.signature (s : Block) (kind cls action : Nat) (loc : BitVec 64) (step rev wear detail : Nat) : Block :=
  let band := if s.bit LT_TRIP_INFO.TRIPPED then 7
    else if loc.getLsbD 40 then s.fld (LT_RIDGE_STAT.BAND (loc.toNat % 16)) else 0
  let g : Signature := ⟨kind, cls, band, loc, step, rev, action, 1, wear, s.cairn.time, detail, s.powerHours, s.firmware loc⟩
  let t := (s.fsEnqueue g).cairnRecord 1 6 (ofBytes (s.sigBytes g))
  if g.severity = 0 then t.faultFlush 3 else t

end Sys2Proof.Machine
end

