-- ==== Sys2Proof/Machine/Checks.lean ====
section
/-! DEFINITION. Failed checks, retracts and the sets of uncommitted steps (R545–R560), as every chapter that reports a
failed check uses them. -/
namespace Sys2Proof.Machine

/-- The integrity unit of a ridge. -/
def Block.ri (s : Block) (r : Nat) : RidgeInt := SMap.get RidgeInt.reset s.int.ridges r

/-- Writes the integrity unit of a ridge. -/
def Block.setRi (s : Block) (r : Nat) (x : RidgeInt) : Block :=
  { s with int := { s.int with ridges := SMap.set RidgeInt.reset s.int.ridges r x } }

/-- STEP of a ridge (RI_STEP). -/
def Block.step (s : Block) (r : Nat) : Nat := (s.reg (RI_STEP r)).toNat

/-- REV of a ridge (RI_STAT.REV). -/
def Block.rev (s : Block) (r : Nat) : Nat := s.fld (RI_STAT.REV r)

/-- Whether revision a is newer than b (R546). -/
def revNewer (a b : Nat) : Bool := decide (1 ≤ (a + 256 - b % 256) % 256 ∧ (a + 256 - b % 256) % 256 ≤ 127)

/-- Whether step a comes before step b, compared in 32 bits by the rule of R426 (R488). -/
def stepBefore (a b : Nat) : Bool := decide (1 ≤ (b + 2 ^ 32 - a % 2 ^ 32) % 2 ^ 32 ∧ (b + 2 ^ 32 - a % 2 ^ 32) % 2 ^ 32 < 2 ^ 31)

/-- Whether a step of a ridge is started and uncommitted. -/
def Block.isOpen (s : Block) (r step : Nat) : Bool := (s.ri r).openSteps.any (fun e => decide (e.1 = step))

/-- The oldest uncommitted step. -/
def Block.oldest (s : Block) (r : Nat) : Option Nat := ((s.ri r).openSteps.head?).map (·.1)

/-- Writes the uncommitted steps, RI_STAT.UNCOMMITTED and RI_OLDEST. -/
def Block.setOpen (s : Block) (r : Nat) (l : List (Nat × Nat)) : Block :=
  let t := (s.setRi r { s.ri r with openSteps := l }).setFld (RI_STAT.UNCOMMITTED r) l.length
  match l with
  | [] => t.setReg (RI_OLDEST r) (s.reg (RI_STEP r))
  | e :: _ => t.setReg (RI_OLDEST r) (BitVec.ofNat 32 e.1)

/-- This die's half that a ridge belongs to: the flank after a split, 0 before (R431). -/
def Block.halfOf (s : Block) (r : Nat) : Nat := if s.bit (NET_STAT.SPLIT 0) then r / 8 else 0

/-- The source that a ridge is (R548). -/
def Block.sourceOf (s : Block) (r : Nat) : Source := ⟨s.fld FAB_SELF.COORD, s.halfOf r, r⟩

/-- The serving unit of this die as a source (R548). -/
def Block.servingSource (s : Block) : Source := ⟨s.fld FAB_SELF.COORD, 0, 16⟩

/-- Sends a message or packet: it is on its way until a command lets it arrive. -/
def Block.send (s : Block) (p : Packet) : Block := { s with int := { s.int with sent := s.int.sent ++ [p] } }

/-- A COMMIT or RETRACT message (R553): `arg` is LAST. -/
def ctlMessage (op : PktOp) (src dst : Source) (step last rev : Nat) : Packet :=
  { Packet.blank with op := op, src := src, dst := dst, step := step, arg := last, rev := rev }

/-- The steps of a ridge from S on in the uncommitted list. -/
def stepsFrom (S : Nat) (l : List (Nat × Nat)) : List (Nat × Nat) := l.dropWhile (fun e => decide (e.1 ≠ S))

/-- Steps 1–3 of R555: REV rises, RETRACT goes to every destination of S and of every later step, and their sets are
dropped. -/
def Block.sendRetracts (s : Block) (r S : Nat) : Block :=
  let x := s.ri r
  let old := s.rev r
  let last := s.step r
  let hit (b : StepSets) : Bool := decide (b.step = S) || stepBefore S b.step
  let dsts := ((x.sets.filter hit).map (·.outputs)).flatten.eraseDups
  let t := s.setFld (RI_STAT.REV r) (old + 1)
  let t := dsts.foldl (fun t d => t.send (ctlMessage .retractMsg (s.sourceOf r) d S last old)) t
  let t := t.setRi r { t.ri r with sets := x.sets.filter (fun b => !hit b) }
  (t.addSat (RI_RETRACTS.SENT r) 1).raise (ridgePage r 3) Irq.ridgeInt_RETRACT

/-- Halts every core of a ridge that issues (R241, R560). -/
def Block.haltCores (s : Block) (r : Nat) : Block :=
  (List.range 34).foldl (fun t c =>
    let st := t.fld (CORE_STAT.STATE r c)
    if st = 1 ∨ st = 2 ∨ st = 3 then
      (t.setFld (CORE_STAT.STATE r c) 0).raise (sitePage r c 0) Irq.core_HALTED
    else t) s

/-- A retract from S (R555, R557, R560): messages go out and a replay of S is due, or the ridge is stuck when S has used
its replays. -/
def Block.retract (s : Block) (r S cause : Nat) : Block :=
  let last := s.step r
  let used := (((s.ri r).openSteps.find? (fun e => decide (e.1 = S))).map (·.2)).getD 0
  let limit := max 1 (s.fld (RI_CTL.MAX_REPLAY r))
  let t := s.sendRetracts r S
  if used ≥ limit then
    let t := (t.haltCores r).setBit (RI_STAT.STUCK r) true
    (t.raise (ridgePage r 3) Irq.ridgeInt_STEP_STUCK).signature 16 0 7 (locRidge r) S (t.rev r) 0 0
  else
    let x := t.ri r
    let keep := x.openSteps.takeWhile (fun e => decide (e.1 ≠ S))
    let first := match x.replay with
      | some p => if stepBefore p.step S then p.step else S
      | none => S
    let t := t.setRi r { x with replay := some ⟨first, cause, last⟩, drained := false }
    let t := t.setOpen r (keep ++ [(S, used + 1)])
    t.setBit (RI_STAT.REPLAYING r) true

/-- A failed check of a step, raised by work issued under revision `rev` (R554). -/
def Block.failedCheck (s : Block) (r S rev : Nat) : Block :=
  if revNewer (s.rev r) rev then s.addReg (RI_STALE_DROP r) 1
  else if s.isOpen r S then s.retract r S 0
  else
    let t := (s.addSat (RI_LATE.LATE_FAIL r) 1).raise (ridgePage r 3) Irq.ridgeInt_LATE_FAIL
    t.signature 17 0 0 (locRidge r) S rev 0 0

/-- A failed check of a ridge's current step. -/
def Block.failedNow (s : Block) (r : Nat) : Block := s.failedCheck r (s.step r) (s.rev r)

/-- A failed check of the oldest uncommitted step, or of the current step when none is uncommitted. -/
def Block.failedOldest (s : Block) (r : Nat) : Block := s.failedCheck r ((s.oldest r).getD (s.step r)) (s.rev r)

/-- Records a destination of a provisional packet in a step's output set (R550); a full set is a failed check (R549). -/
def Block.recordOutput (s : Block) (r S : Nat) (dst : Source) : Block :=
  let x := s.ri r
  match x.sets.find? (fun b => decide (b.step = S)) with
  | none => s.setRi r { x with sets := x.sets ++ [⟨S, [], [dst]⟩] }
  | some b =>
    if b.outputs.contains dst then s
    else if b.outputs.length ≥ 1024 then (s.raise (ridgePage r 3) Irq.ridgeInt_SET_FULL).failedCheck r S (s.rev r)
    else s.setRi r { x with sets := x.sets.map (fun b' => if b'.step = S then { b' with outputs := b'.outputs ++ [dst] } else b') }

/-- Whether a packet is provisional when a ridge issues it now (R547). -/
def Block.provNow (s : Block) (r : Nat) : Bool := s.isOpen r (s.step r)

/-- Sends a packet of a ridge with its step, revision and provisional fields, recording a provisional packet's
destination (R547, R550). -/
def Block.sendFrom (s : Block) (r : Nat) (p : Packet) : Block :=
  let prov := s.provNow r
  let q := { p with src := s.sourceOf r, step := s.step r, rev := s.rev r, prov := prov, gen := s.fld FAB_GEN.GEN }
  let t := s.send q
  if prov then t.recordOutput r (s.step r) p.dst else t

/-- Records a provisional packet of step T from a source (R549). -/
def Block.recordInput (s : Block) (r T : Nat) (src : Source) (rev : Nat) : Block :=
  let x := s.ri r
  let base := (s.oldest r).getD (s.step r + 1)
  if stepBefore T base then s.addSat (RI_LATE.LATE_INPUT r) 1
  else if (T + 2 ^ 32 - base) % 2 ^ 32 ≥ 16 then s.failedOldest r
  else
    let b := (x.sets.find? (fun b => decide (b.step = T))).getD ⟨T, [], []⟩
    let put (b : StepSets) : Block := s.setRi r { x with sets := x.sets.filter (fun b' => decide (b'.step ≠ T)) ++ [b] }
    match b.inputs.find? (fun e => decide (e.src = src)) with
    | some e =>
      if e.committed ∧ e.rev = rev then s
      else
        let newer := if revNewer rev e.rev then rev else e.rev
        put { b with inputs := b.inputs.map (fun e' => if e'.src = src then ⟨src, newer, false⟩ else e') }
    | none =>
      if b.inputs.length ≥ 1024 then (s.raise (ridgePage r 3) Irq.ridgeInt_SET_FULL).failedCheck r T (s.rev r)
      else put { b with inputs := b.inputs ++ [⟨src, rev, false⟩] }

/-- Classifications that have started and not ended, shown in RI_STAT.CLS_ACTIVE. -/
def Block.showClasses (s : Block) (r : Nat) : Block :=
  s.setFld (RI_STAT.CLS_ACTIVE r) (min 15 ((s.ri r).classes.filter (fun y => decide (y.stage = 1 ∨ y.stage = 2))).length)

/-- An event that starts a classification, or is counted while its engine already classifies (R565, R585). -/
def Block.noteEvent (s : Block) (r : Nat) (e : Classify) : Block :=
  let x := s.ri r
  if !s.bit (RI_CTL.CLS_EN r) then s
  else if x.classes.any (fun y => decide (y.site = e.site ∧ y.engine = e.engine ∧ y.stage ≠ 3)) then s.addReg (RI_CLS_BUSY r) 1
  else s.setRi r { x with classes := x.classes ++ [e] }

/-- Whether a packet from a source at a step and revision is void on a ridge (R556). -/
def Block.isVoid (s : Block) (r : Nat) (src : Source) (T rev : Nat) : Bool :=
  (s.ri r).voids.any (fun v => decide (v.src = src) && (decide (v.step = T) || stepBefore v.step T) && !revNewer rev v.rev)

end Sys2Proof.Machine
end

