-- ==== Sys2Proof/Machine/StoreOps.lean ====
section
/-! DEFINITION. Shared operations of the resistive store and of the layer map: slabs, cells and their targets, the
operation queues, retirement, replacement and valley mode (R28–R75, R163, R482–R495). -/
namespace Sys2Proof.Machine

/-! ## Slabs -/

/-- A physical slab. -/
def Block.slab (s : Block) (r c e p : Nat) : Slab := SMap.get (Slab.new p) s.store.slabs (slabKey r c e p)

/-- Writes a physical slab. -/
def Block.setSlab (s : Block) (r c e p : Nat) (b : Slab) : Block :=
  { s with store := { s.store with slabs := SMap.set (Slab.new p) s.store.slabs (slabKey r c e p) b } }

/-- Changes a physical slab. -/
def Block.modSlab (s : Block) (r c e p : Nat) (f : Slab → Slab) : Block := s.setSlab r c e p (f (s.slab r c e p))

/-- Sets a slab's state. -/
def Block.slabTo (s : Block) (r c e p : Nat) (st : SlabState) : Block := s.modSlab r c e p (fun b => { b with state := st })

/-- Whether slab 8 is in a state in which it serves another slab; one that replaces a slab stays so in SUSPECT and
RESIDENT (R52, R64, R71). -/
def SlabState.screeServes (st : SlabState) : Bool :=
  decide (st = .standin ∨ st = .assigned ∨ st = .suspect ∨ st = .resident)

/-- The physical slab that serves a data slab: slab 8 while it stands in for it or has replaced it (R64, R70, R71). -/
def Block.serving (s : Block) (r c e p : Nat) : Nat :=
  let x := s.slab r c e 8
  if x.state.screeServes ∧ x.replaces = p then 8 else p

/-! ## Levels and windows (R28–R34), in 1/1,000 µS -/

/-- The nominal conductance of a level. -/
def levelG (l : Nat) : Nat := 2000 * (l + 1)

/-- The target conductance of a tally code (R29). -/
def tallyG (t : Nat) : Nat := 2000 + 500 * t

/-- round(S / 8) with ties to even (R30). -/
def tallyCode (sum : Nat) : Nat :=
  let q := sum / 8
  let r := sum % 8
  if r > 4 ∨ (r = 4 ∧ q % 2 = 1) then q + 1 else q

/-- The level that reference column 528 + k holds in row r (R34). -/
def refLevel (row k : Nat) : Nat := (row + k) % 16

/-- A cell's target: nominal conductance, half the program window and half the read window. -/
structure CellTarget where
  nominal : Nat
  prog : Nat
  read : Nat
  deriving DecidableEq, Repr

/-- Whether a conductance lies within ±h of a nominal one. -/
def within (g nominal h : Nat) : Bool := decide (nominal ≤ g + h ∧ g ≤ nominal + h)

/-- The conductances of a row of a new part (R814). -/
def factoryRow (row : Nat) : List Nat :=
  (List.range 544).map (fun col => if col < 528 then 18000 else levelG (refLevel row (col - 528)))

/-- The conductances of a row's cells. -/
def Block.cellRow (s : Block) (r c e p row : Nat) : List Nat :=
  (SMap.find (slabKey r c e p * 512 + row) s.store.cells).getD (factoryRow row)

/-- Writes the conductances of a row's cells. -/
def Block.setCellRow (s : Block) (r c e p row : Nat) (g : List Nat) : Block :=
  { s with store := { s.store with cells := SMap.set (factoryRow row) s.store.cells (slabKey r c e p * 512 + row) g } }

/-! ## The weight image (R37, R475) -/

/-- The image-row key of row `row` of the slot of physical slab p of engine e of logical core k. -/
def imageKey (r k e p row : Nat) : Nat := ((((r * 32 + k) * 8 + e) * 8 + p) * 512) + row

/-- An image row of level 8 throughout (R814). -/
def blankRow : BitVec 2048 := BitVec.ofNat 2048 ((2 ^ 2048 - 1) / 15 * 8)

/-- An image row. -/
def Block.imageRow (s : Block) (r k e p row : Nat) : BitVec 2048 := SMap.get blankRow s.store.image (imageKey r k e p row)

/-- Writes an image row. -/
def Block.setImageRow (s : Block) (r k e p row : Nat) (v : BitVec 2048) : Block :=
  { s with store := { s.store with image := SMap.set blankRow s.store.image (imageKey r k e p row) v } }

/-- The level of a logical data column in an image row. -/
def rowLevel (v : BitVec 2048) (col : Nat) : Nat := v.toNat / 16 ^ col % 16

/-- An image row with one level replaced. -/
def putLevel (v : BitVec 2048) (col l : Nat) : BitVec 2048 :=
  BitVec.ofNat 2048 (v.toNat / 16 ^ (col + 1) * 16 ^ (col + 1) + l % 16 * 16 ^ col + v.toNat % 16 ^ col)

/-- The logical core whose image slots a site's slabs use: the one it holds, or the one migrating to it. -/
def Block.imageCore (s : Block) (r c : Nat) : Nat := (s.coreOf r c).getD (s.fld (RC_MIG_STAT.LOGICAL r))

/-- The image slot that a physical slab takes its targets from: slab 8 uses the slot of the slab it serves (R37). -/
def Block.imageSlot (s : Block) (r c e p : Nat) : Nat := if p = 8 then (s.slab r c e 8).replaces else p

/-- SHAPE of the block that holds a logical data column of a physical slab (R159). -/
def Block.blockShape (s : Block) (r c e p col : Nat) : Nat :=
  getBits (s.reg (ENG_BT_DATA r c e (p + col / 64 * 16))) 26 2

/-- The target of a logical column in a row of a physical slab: a data column by its image level, a tally column by the
tally code of its 32 data columns (R28–R30); a data column of a block of shape X has the X program window (R189). -/
def Block.logicalTarget (s : Block) (r c e p row l : Nat) : CellTarget :=
  let v := s.imageRow r (s.imageCore r c) e (s.imageSlot r c e p) row
  if l < 512 then
    ⟨levelG (rowLevel v l), if s.blockShape r c e (s.imageSlot r c e p) l = 2 then 16 else 250, 800⟩
  else
    let k := l - 512
    ⟨tallyG (tallyCode (((List.range 32).map (fun j => rowLevel v (32 * k + j))).sum)), 60, 200⟩

/-- The target of a physical column: a scree column by the logical column it replaces, or its reference level (R34, R36). -/
def Block.cellTarget (s : Block) (r c e p row col : Nat) : CellTarget :=
  if col < 528 then s.logicalTarget r c e p row col
  else
    let b := s.slab r c e p
    match (SMap.find (col - 528) b.colmap).orElse (fun _ => SMap.find (col - 528) b.stagedMap) with
    | some l => s.logicalTarget r c e p row l
    | none => ⟨levelG (refLevel row (col - 528)), 250, 800⟩

/-- The columns whose conductance lies outside the program window. -/
def Block.outside (s : Block) (r c e p row : Nat) (g : List Nat) : List Nat :=
  (List.range 544).filter (fun col =>
    let t := s.cellTarget r c e p row col
    !within (g.getD col 0) t.nominal t.prog)

/-! ## The layer map (R482–R485) -/

/-- The position of a block (R482). -/
def position (r k e slab block : Nat) : Nat := (((r * 32 + k) * 8 + e) * 8 + slab) * 8 + block

/-- An entry of the layer map. -/
def Block.entry (s : Block) (i : Nat) : LayerEntry := SMap.get LayerEntry.none s.res.layer i

/-- Writes an entry; the change awaits the journal (R485). -/
def Block.setEntry (s : Block) (i : Nat) (x : LayerEntry) : Block :=
  { s with res := { s.res with
      layer := SMap.set LayerEntry.none s.res.layer i x
      unjournalled := if s.res.unjournalled.contains i then s.res.unjournalled else s.res.unjournalled ++ [i] } }

/-- The version map: the physical slab of logical slab `l` in version v, 15 for none (RZ_VM_DATA). -/
def Block.pslabOf (s : Block) (r k e l v : Nat) : Nat :=
  getBits (s.reg (RZ_VM_DATA (r + k * 16 + e * 512 + l * 4096))) (4 * v) 4

/-- Writes the version map. -/
def Block.setPslab (s : Block) (r k e l v p : Nat) : Block :=
  s.setFld ⟨RZ_VM_DATA (r + k * 16 + e * 512 + l * 4096), 4 * v, 4⟩ p

/-- A ridge's active version: 0 A, 1 B. -/
def Block.activeVer (s : Block) (r : Nat) : Nat := s.fld (RZ_FLIP_STAT.ACTIVE r)

/-- Whether an entry belongs to a version. -/
def LayerEntry.inVer (x : LayerEntry) (v : Nat) : Bool := decide (x.ver / 2 ^ v % 2 = 1)

/-- The entries of an engine that lie on a physical slab, in increasing order of entry index (R482). -/
def Block.entriesOn (s : Block) (r k e p : Nat) : List (Nat × LayerEntry) :=
  s.res.layer.filter (fun x => decide (x.1 / 128 = (r * 32 + k) * 8 + e ∧ x.2.pslab = p ∧ x.2.state ≠ 0))

/-- Sets REFETCH in every entry of a slab and raises REFETCH (R485). -/
def Block.markRefetch (s : Block) (r c e p : Nat) : Block :=
  let l := s.entriesOn r (s.imageCore r c) e (s.imageSlot r c e p)
  let t := l.foldl (fun t x => t.setEntry x.1 { x.2 with refetch := true }) s
  if l.isEmpty then t else t.raise (diePage 12) Irq.residency_REFETCH

/-- Puts a slab in SUSPECT, with its entries (R52, R484). -/
def Block.suspect (s : Block) (r c e p : Nat) : Block :=
  let t := s.slabTo r c e p .suspect
  (t.entriesOn r (t.imageCore r c) e (t.imageSlot r c e p)).foldl
    (fun t x => if x.2.state = 2 then t.setEntry x.1 { x.2 with state := 4 } else t) t

/-- A slab returns to RESIDENT, with its SUSPECT entries. -/
def Block.backToResident (s : Block) (r c e p : Nat) : Block :=
  let t := s.modSlab r c e p (fun b => { b with state := .resident, overdue := false })
  (t.entriesOn r (t.imageCore r c) e (t.imageSlot r c e p)).foldl
    (fun t x => if x.2.state = 4 then t.setEntry x.1 { x.2 with state := 2 } else t) t

/-! ## Operation queues (R50) -/

/-- A ridge's queued operations. -/
def Block.queue (s : Block) (r : Nat) : List StoreOp := SMap.get [] s.store.queues r

/-- Writes a ridge's queue. -/
def Block.setQueue (s : Block) (r : Nat) (l : List StoreOp) : Block :=
  { s with store := { s.store with queues := SMap.set [] s.store.queues r l } }

/-- Queues an operation; a class 1–3 operation wakes a ridge in Nap or Off, which returns to Off afterwards (R632). -/
def Block.enqueue (s : Block) (r : Nat) (op : StoreOp) : Block :=
  let t := s.setQueue r (s.queue r ++ [op])
  if op.cls ≤ 3 ∧ 2 ≤ s.ridgeState r ∧ s.ridgeState r ≤ 3 then
    let t := if s.ridgeState r = 3 then { t with pow := { t.pow with returnOff := t.pow.returnOff ++ [r] } } else t
    t.wakeRidge r 2
  else t

/-- The running operation of an engine. -/
def Block.runOf (s : Block) (r c e : Nat) : Option RunOp := SMap.find (engKey r c e) s.store.running

/-- Sets or ends the running operation of an engine. -/
def Block.setRun (s : Block) (r c e : Nat) (o : Option RunOp) : Block :=
  { s with store := { s.store with running := match o with
      | some x => SMap.ins (engKey r c e) x s.store.running
      | none => SMap.del (engKey r c e) s.store.running } }

/-- Refreshes waiting at the loop of R64. -/
def Block.waiting (s : Block) (r : Nat) : List StoreOp := SMap.get [] s.store.waiting r

/-- Writes the waiting refreshes. -/
def Block.setWaiting (s : Block) (r : Nat) (l : List StoreOp) : Block :=
  { s with store := { s.store with waiting := SMap.set [] s.store.waiting r l } }

/-- Changes held to the step boundary. -/
def Block.acts (s : Block) (r : Nat) : List BoundaryAct := SMap.get [] s.store.boundary r

/-- Holds a change to the ridge's step boundary. -/
def Block.atBoundary (s : Block) (r : Nat) (a : BoundaryAct) : Block :=
  { s with store := { s.store with boundary := SMap.set [] s.store.boundary r (s.acts r ++ [a]) } }

/-- Whether slab 8 of an engine is granted to a holder: an operation that programs it is queued or running, or a change
of its alias awaits the step boundary (R65). -/
def Block.screeLent (s : Block) (r c e : Nat) : Bool :=
  let holds (k : StoreKind) : Bool := decide (k = .standin ∨ k = .mirror ∨ k = .testStandin ∨ k = .replaceSlab)
  (s.queue r).any (fun o => decide (o.site = c ∧ o.engine = e) && holds o.kind)
    || ((s.runOf r c e).any (fun x => holds x.op.kind))
    || (s.acts r).any (fun a => match a with
      | .standInFor c' e' _ => decide (c' = c ∧ e' = e) | .assign c' e' _ => decide (c' = c ∧ e' = e)
      | .standBack c' e' _ => decide (c' = c ∧ e' = e) | .freeMirror c' e' => decide (c' = c ∧ e' = e) | _ => false)

/-- Whether slab 8 is granted to a holder, or a classification, which comes before every other request, waits for it
(R65). -/
def Block.screeHeld (s : Block) (r c e : Nat) : Bool :=
  s.screeLent r c e || (s.ri r).classes.any (fun x => decide (x.site = c ∧ x.engine = e ∧ x.stage = 1))

/-- Drops an operation of an engine with its intent (R74). -/
def Block.endRun (s : Block) (r c e : Nat) (o : RunOp) : Block :=
  let mine (i : Intent) : Bool := decide (i.kind = o.op.kind ∧ i.ridge = r ∧ i.site = c ∧ i.engine = e ∧ i.slab = o.op.slab)
  let t := s.setRun r c e none
  { t with store := { t.store with intents := t.store.intents.filter (fun i => !mine i) } }

/-- Whether slab 8 stands in for a slab. -/
def Block.standsFor (s : Block) (r c e p : Nat) : Bool :=
  let b := s.slab r c e 8
  decide (b.state = .standin ∧ b.replaces = p)

/-- Queues the refresh of a slab, once; an overdue slab's moves to class 3 (R62, R63). Nothing is queued while
SD_CTL.REFRESH_EN is 0 (R92). -/
def Block.queueRefresh (s : Block) (r c e p cls : Nat) : Block :=
  let same (o : StoreOp) : Bool := decide (o.kind = .refresh ∧ o.site = c ∧ o.engine = e ∧ o.slab = p)
  if !s.bit SD_CTL.REFRESH_EN then s
  else match (s.queue r).find? same with
    | some o => if cls < o.cls then s.setQueue r (((s.queue r).filter (fun x => !same x)) ++ [{ o with cls := cls }]) else s
    | none =>
      if (s.runOf r c e).any (fun x => decide (x.op.slab = p ∧ (x.op.kind = .refresh ∨ x.op.kind = .refreshSlab)))
        || (s.waiting r).any same then s
      else s.enqueue r ⟨.refresh, c, e, p, 0, cls, false⟩

/-- Adds to a slab's debt, saturating; a RESIDENT, SUSPECT or ASSIGNED slab whose debt fills falls due (R59, R60, R62). -/
def Block.addDebt (s : Block) (r c e p n : Nat) : Block :=
  let b := s.slab r c e p
  let debt := min 0xFFFFFFFF (b.debt + n)
  let due := decide (debt = 0xFFFFFFFF ∧ b.dueAt = none ∧ (b.state = .resident ∨ b.state = .suspect ∨ b.state = .assigned))
  let t := s.setSlab r c e p { b with debt := debt, dueAt := if due then some s.store.seconds else b.dueAt }
  if due then
    let t := t.queueRefresh r c e p 5
    if t.bit SD_CTL.REFRESH_EN ∧ t.ridgeState r = 3 then
      { t with pow := { t.pow with returnOff := t.pow.returnOff ++ [r] } }.wakeRidge r 2
    else t
  else t

/-! ## Retirement, replacement and valley mode (R48, R69–R73, R492) -/

/-- Integer weights of a width and zero levels stay within −128 to 127 (R163, R480). -/
def zeroLevelsFit (width zh zl : Nat) : Bool :=
  if width ≤ 4 then true
  else
    let hiMax := 2 ^ (width - 4) - 1
    decide ((16 : Int) * (0 - zh) + (0 - zl) ≥ -128) && decide ((16 : Int) * (hiMax - zh) + ((15 : Int) - zl) ≤ 127)

/-- The valley blocks of a logical core. -/
def Block.valleyBlocks (s : Block) (r k : Nat) : Nat :=
  (s.res.layer.filter (fun x => decide (x.1 / 1024 = r * 32 + k ∧ x.2.state = 3))).length

/-- The lowest free valley slot. -/
def Block.freeValleySlot (s : Block) : Option Nat :=
  (List.range 16384).find? (fun n => (SMap.find n s.res.valley).isNone)

/-- Whether the engine at a position can take one more valley block of these zero levels (R492, but for its slot). -/
def Block.valleyFits (s : Block) (r k e width zh zl : Nat) : Bool :=
  let c := s.siteOf r k
  decide (s.fld (RZ_QMV.EN (r + k * 16)) / 2 ^ e % 2 = 1) && s.bit (ENG_CTL.QM_EN r c e) && zeroLevelsFit width zh zl
    && !s.res.qmFailed.contains (engKey r c e) && decide (s.valleyBlocks r k < 63)
    && decide (s.fld SD_VALLEY.VALLEY_USED < s.fld SD_VALLEY.VALLEY_MAX)

/-- The codes of a block in the image, by the reverse of R163: a single column's level, or 16 × L_hi + L_lo of a pair
(R469, R493). -/
def Block.imageCodes (s : Block) (r k e p block width : Nat) : List Nat :=
  ((List.range 512).map (fun row =>
    let v := s.imageRow r k e p row
    if width ≤ 4 then (List.range 64).map (fun j => rowLevel v (64 * block + j))
    else (List.range 32).map (fun m => 16 * rowLevel v (64 * block + 2 * m + 1) + rowLevel v (64 * block + 2 * m)))).flatten

/-- SHAPE of a block-table entry in force set to 3: slab passes leave the block alone (R118). -/
def Block.disableBlock (s : Block) (r c e p block : Nat) : Block := s.setFld ⟨ENG_BT_DATA r c e (p + block * 16), 26, 2⟩ 3

/-- A cairn STORE record: the event code in the low 8 bits and the slab key above (R704). -/
def Block.storeRecord (s : Block) (event slab : Nat) : Block := s.cairnRecord 11 1 (event + slab * 256)

/-- A block that can be placed neither in a slab nor in valley mode (R73). -/
def Block.unservable (s : Block) (r c e p i : Nat) (x : LayerEntry) : Block :=
  let t := (s.setEntry i { x with state := 5 }).setBit SD_STAT.UNSERVABLE true
  let t := t.raise (ridgePage r 0) Irq.ridgeStore_UNSERVABLE
  (t.storeRecord 2 (slabKey r c e p)).signature 8 0 6 (t.locSlab r c e p) (t.step r) (t.rev r) (t.slab r c e p).cycles 0

/-- One block of a failed slab or engine goes to valley mode, or R73 applies (R72, R73). -/
def Block.valleyBlock (s : Block) (r c e p : Nat) (ix : Nat × LayerEntry) : Block :=
  let (i, x) := ix
  let k := s.imageCore r c
  let block := i / 2 % 8
  let bt := s.reg (ENG_BT_DATA r c e (p + block * 16))
  if !s.valleyFits r k e x.width (getBits bt 22 4) (getBits bt 18 4) then s.unservable r c e p i x
  else match s.freeValleySlot with
    | none => s.unservable r c e p i x
    | some n =>
      let codes := s.imageCodes r k e p block x.width
      let t := { s with res := { s.res with valley := SMap.ins n codes s.res.valley } }
      let t := t.setEntry i { x with state := 3, src := 1, pslab := 15, vslot := n }
      let t := (t.disableBlock r c e p block).setFld SD_VALLEY.VALLEY_USED (s.fld SD_VALLEY.VALLEY_USED + 1)
      let t := t.setFld RZ_VALLEY_USE.SLOTS t.res.valley.length
      let t := { t with res := { t.res with mailbox := t.res.mailbox ++ [siteKey r c] } }
      let t := (t.raise (ridgePage r 0) Irq.ridgeStore_VALLEY).storeRecord 1 (slabKey r c e p)
      t.signature 7 0 5 (t.locSlab r c e p) (t.step r) (t.rev r) (t.slab r c e p).cycles 0

/-- The blocks of a failed slab go to valley mode one at a time, in increasing order (R72). -/
def Block.valleySlab (s : Block) (r c e p : Nat) : Block :=
  (s.entriesOn r (s.imageCore r c) e (s.imageSlot r c e p)).foldl (fun t ix => t.valleyBlock r c e (s.imageSlot r c e p) ix) s

/-- A slab enters RETIRED (R69). -/
def Block.retireSlab (s : Block) (r c e p : Nat) : Block :=
  (s.slabTo r c e p .retired).raise (ridgePage r 0) Irq.ridgeStore_SLAB_RETIRED

/-- A slab needs a replacement: slab 8 when it is FREE or stands in for it already, else its blocks go to valley mode
(R70, R72). -/
def Block.replaceOrValley (s : Block) (r c e p : Nat) : Block :=
  let x := s.slab r c e 8
  if x.state = .free ∧ !s.screeHeld r c e then s.enqueue r ⟨.replaceSlab, c, e, p, p, 2, false⟩
  else if (x.state = .standin ∨ x.state = .mirror) ∧ x.replaces = p then s.atBoundary r (.assign c e p)
  else (s.retireSlab r c e p).valleySlab r c e p

/-- The unassigned scree columns k of a slab, in order from column 528. -/
def Slab.unassigned (b : Slab) : List Nat :=
  (List.range 16).filter (fun k => (SMap.find k b.colmap).isNone && (SMap.find k b.stagedMap).isNone)

/-- The scree column that the next replacement takes: the lowest assignable one, never one of the last two unassigned and
never a defective one (R35, R815). -/
def Slab.nextScree (b : Slab) : Option Nat :=
  let u := b.unassigned
  (u.take (u.length - 2)).find? (fun k => !b.defective.contains k)

/-- Whether an unassigned scree column is left that is usable as a reference column (R815). -/
def Slab.hasReference (b : Slab) : Bool := b.unassigned.any (fun k => !b.defective.contains k)

/-- The logical column that a failed physical column carries: its own, or that of the replacement it is; none for a
reference column. -/
def Slab.logicalOf (b : Slab) (col : Nat) : Option Nat :=
  if col < 528 then some col
  else (SMap.find (col - 528) b.colmap).orElse (fun _ => SMap.find (col - 528) b.stagedMap)

/-- Stages a replacement column for a logical column; `none` when R35 allows none. -/
def Slab.stageColumn (b : Slab) (l : Nat) : Option Slab :=
  (b.nextScree).map (fun k => { b with stagedMap := SMap.ins k l b.stagedMap })

/-- The scree branch of the refresh loop (R64): a stand-in, a lease, programming in place, or waiting. -/
def Block.refreshLoop (s : Block) (r : Nat) (op : StoreOp) : Block :=
  let c := op.site
  let e := op.engine
  let p := op.slab
  let x := s.slab r c e 8
  let wait := s.setWaiting r (s.waiting r ++ [op])
  if x.state = .free then
    if s.screeHeld r c e then wait
    else
      let t := s.modSlab r c e 8 (fun b => { b with replaces := p })
      t.setQueue r (t.queue r ++ [{ op with kind := .standin, slab := 8, arg := p }])
  else if (x.state = .assigned ∨ x.state = .retired) ∧ s.bit (SR_CTL.LEASE_MODE r) then
    if s.bit (SR_LEASE_REQ.VALID r) then wait
    else
      let t := (((s.setBit (SR_LEASE_REQ.VALID r) true).setFld (SR_LEASE_REQ.SITE r) c).setFld (SR_LEASE_REQ.ENGINE r) e).setFld
        (SR_LEASE_REQ.SLAB r) p
      (t.setWaiting r (t.waiting r ++ [{ op with kind := .refreshSlab }])).raise (ridgePage r 0) Irq.ridgeStore_LEASE_REQ
  else if (s.slab r c e p).overdue then s.setQueue r (s.queue r ++ [{ op with kind := .refreshSlab }])
  else wait

/-- Ends an operation: a queued command sets SR_CMD_STAT.RESULT and raises OP_DONE (R98, R100). -/
def Block.opDone (s : Block) (r : Nat) (commanded ok : Bool) : Block :=
  if commanded then (s.setFld (SR_CMD_STAT.RESULT r) (if ok then 0 else 5)).raise (ridgePage r 0) Irq.ridgeStore_OP_DONE else s

end Sys2Proof.Machine
end

