-- ==== Sys2Proof/Machine/EngineOps.lean ====
section
/-! DEFINITION. Shared operations of the engines: queues, the conversion of a pass, latching into the ledger, the tally
comparison, drains, probes and echoes (R101–R155). -/
namespace Sys2Proof.Machine

/-! ## Engines and cores -/

/-- An engine. -/
def Block.engine (s : Block) (r c e : Nat) : EngSt := SMap.get EngSt.reset s.eng (engKey r c e)

/-- Writes an engine. -/
def Block.setEngine (s : Block) (r c e : Nat) (x : EngSt) : Block :=
  { s with eng := SMap.set EngSt.reset s.eng (engKey r c e) x }

/-- Changes an engine. -/
def Block.modEngine (s : Block) (r c e : Nat) (f : EngSt → EngSt) : Block := s.setEngine r c e (f (s.engine r c e))

/-- A core site. -/
def Block.coreAt (s : Block) (r c : Nat) : Core := SMap.get Core.reset s.core (siteKey r c)

/-- Writes a core site. -/
def Block.setCore (s : Block) (r c : Nat) (x : Core) : Block :=
  { s with core := SMap.set Core.reset s.core (siteKey r c) x }

/-- Changes a core site. -/
def Block.modCore (s : Block) (r c : Nat) (f : Core → Core) : Block := s.setCore r c (f (s.coreAt r c))

/-- The page of an engine. -/
def engPage (r c e : Nat) : Nat := sitePage r c (1 + e)

/-- The registers that show the depths of an engine's queues (R158). -/
def Block.showDepths (s : Block) (r c e : Nat) : Block :=
  let x := s.engine r c e
  (s.setFld (ENG_STAT.QDEPTH r c e) x.queue.length).setFld (ENG_STAT.QMDEPTH r c e) x.qmQueue.length

/-- Whether an engine's queues advance: not in a stall or check frame, the handler, a hold or a low-voltage hold
(R128, R144, R213, R234). -/
def Block.queuesRun (s : Block) (r c : Nat) : Bool :=
  let x := s.coreAt r c
  let st := s.fld (CORE_STAT.STATE r c)
  decide (x.frame = 0) && !x.lvHold && decide (st ≠ 2 ∧ st ≠ 3)

/-! ## Slabs and versions (R36, R64, R102, R486) -/

/-- The version of a ridge that its current step uses (R486, R488). -/
def Block.stepVersion (s : Block) (r : Nat) : Nat :=
  let v := s.activeVer r
  if s.fld (RZ_FLIP_STAT.STATE r) = 2 ∧ stepBefore (s.step r) (s.fld (RZ_FLIP_STEP.STEP r)) then 1 - v else v

/-- The physical slab that the version map gives a logical slab; 15 for none (R486). -/
def Block.mapSlab (s : Block) (r c e l : Nat) : Nat := s.pslabOf r (s.imageCore r c) e l (s.stepVersion r)

/-- The physical column that carries a logical column (R36). -/
def Slab.physical (b : Slab) (l : Nat) : Nat :=
  match b.colmap.find? (fun x => decide (x.2 = l)) with
  | some x => 528 + x.1
  | none => l

/-- Whether R49 forbids a FIRE to the slab. -/
def Slab.noFire (b : Slab) : Bool :=
  b.leased || decide (b.state = .empty ∨ b.state = .programming ∨ b.state = .erasing ∨ b.state = .retired)

/-! ## Block table and column parameters (R159) -/

/-- A block-table entry in force: physical data slab or slab 8, block. -/
def Block.block (s : Block) (r c e p b : Nat) : Word := s.reg (ENG_BT_DATA r c e (p + 16 * b))

def btWidth (w : Word) : Nat := getBits w 28 4
def btShape (w : Word) : Nat := getBits w 26 2
def btZeroHi (w : Word) : Nat := getBits w 22 4
def btZeroLo (w : Word) : Nat := getBits w 18 4
def btGuardQ (w : Word) : Nat := getBits w 7 8
def btGuardX (w : Word) : Nat := getBits w 3 4

/-- STEP_E as a shape uses it (R115, R159). -/
def btStep (w : Word) (shape : Nat) : Nat :=
  if shape = 2 then 0 else if shape = 1 then min 5 (getBits w 15 3) else getBits w 15 3

/-- CENTRE of a logical column, and SCALE as fp16 bits. -/
def Block.centre (s : Block) (r c e p l : Nat) : Int := signedOf 16 (s.fld (ENG_COL_DATA.CENTRE r c e (p + 16 * l)))
def Block.scale (s : Block) (r c e p l : Nat) : Nat := s.fld (ENG_COL_DATA.SCALE r c e (p + 16 * l))

/-- The zero level of a logical column (R114). -/
def columnZero (w : Word) (l : Nat) : Nat := if l < 512 ∧ btWidth w ≥ 5 ∧ l % 2 = 0 then btZeroLo w else btZeroHi w

/-- The block of a logical column: a data column's, or that of a tally column's group (R29). -/
def columnBlock (l : Nat) : Nat := if l < 512 then l / 64 else (l - 512) / 2

/-! ## Input slices (R110–R112) -/

/-- Bits of a slice by shape. -/
def sliceWidth (shape : Nat) : Nat := if shape = 0 then 4 else if shape = 1 then 2 else 1

/-- The rows that fire, each with its slice value x_i. -/
def driven (cmd : EngCmd) : List (Nat × Int) :=
  let rows := if cmd.shape = 0 then List.range 512
    else if cmd.shape = 1 then (List.range 128).map (fun i => 128 * cmd.group + i)
    else (List.range 32).map (fun i => 32 * cmd.group + i)
  let w := sliceWidth cmd.shape
  rows.map (fun i =>
    let raw := rowBits cmd.data (8 * i + cmd.slice) w
    (i, if cmd.signed ∧ cmd.shape ≠ 2 then signedOf w raw else (raw : Int)))

def sumX (d : List (Nat × Int)) : Int := (d.map (·.2)).sum
def sumAbs (d : List (Nat × Int)) : Nat := (d.map (fun x => x.2.natAbs)).sum

/-- Σ x_i g_i of every physical column, g in 1/1,000 µS. -/
def Block.lineSums (s : Block) (r c e p : Nat) (d : List (Nat × Int)) : List Int :=
  d.foldl (fun acc x => if x.2 = 0 then acc
    else List.zipWith (fun (a : Int) (g : Nat) => a + x.2 * (g : Int)) acc (s.cellRow r c e p x.1)) (List.replicate 544 0)

/-- 2,000 × U of every physical column: the level sum of its cells plus the analogue error of the pass, which is given in
1/1,000 level for each column (R113; log entry 11). -/
def Block.columnU (s : Block) (r c e p : Nat) (d : List (Nat × Int)) (err : List Int) : List Int :=
  List.zipWith (fun a x => a - 2000 * sumX d + 2 * x) (s.lineSums r c e p d) err

/-- A conversion: the code, whether it saturated, and V_j. -/
structure Conv where
  code : Nat
  sat : Bool
  v : Int
  deriving DecidableEq, Repr

/-- Clamps to a 9-bit code. -/
def clampCode (x : Int) : Nat := (max 0 (min 511 x)).toNat

/-- A conversion of a column at 2,000 × U with window centre M and step 2^stepE; shape X has a fixed window
(R114–R116). -/
def convert (u2000 : Int) (shape stepE : Nat) (M : Int) : Conv :=
  if shape = 2 then
    let code := clampCode (roundEvenInt u2000 2000)
    ⟨code, decide (2 * u2000 < -2000) || decide (2 * u2000 > 1023 * 2000), code⟩
  else
    let q := 2 ^ stepE
    let num := u2000 - 2000 * M
    let den := 2000 * q
    let code := clampCode (roundEvenInt num den + 256)
    ⟨code, decide (2 * num < -(513 * den : Nat)) || decide (2 * num > (511 * den : Nat)), M + ((code : Int) - 256) * (q : Nat)⟩

/-- The conversions of the 528 logical columns of a slab pass; `p` is the physical slab fired and `bp` the slab whose
parameters apply. -/
def Block.conversions (s : Block) (r c e p bp : Nat) (cmd : EngCmd) (err : List Int) : List Conv :=
  let d := driven cmd
  let u := s.columnU r c e p d err
  let b := s.slab r c e p
  (List.range 528).map (fun l =>
    let w := s.block r c e bp (columnBlock l)
    let M := (columnZero w l : Int) * sumX d + s.centre r c e bp l
    convert (u.getD (b.physical l) 0) cmd.shape (btStep w cmd.shape) M)

/-! ## The ledger (R119–R121) -/

/-- Saturates to 48 bits. -/
def sat48 (x : Int) : Int := max (-(2 ^ 47)) (min (2 ^ 47 - 1) x)

/-- The residue mod 7 of an accumulator. -/
def residue7 (x : Int) : Nat := (x % 7).toNat

/-- Adds to or replaces an accumulator; answers whether it saturated. -/
def EngSt.accumulate (x : EngSt) (j : Nat) (v : Int) (acc : Bool) (step rev : Nat) : EngSt × Bool :=
  let old := if acc then SMap.get 0 x.ledger j else 0
  let new := sat48 (old + v)
  let steps := if acc then SMap.get [] x.latched j else []
  let steps := if steps.contains (step, rev) then steps else steps ++ [(step, rev)]
  ({ x with ledger := SMap.set 0 x.ledger j new, residue := SMap.set 0 x.residue j (residue7 new),
            latched := SMap.set [] x.latched j steps }, decide (new ≠ old + v))

/-- Adds to or replaces a list of accumulators. -/
def EngSt.accumulateAll (x : EngSt) (l : List (Nat × Int)) (acc : Bool) (step rev : Nat) : EngSt × Bool :=
  l.foldl (fun t jv => let (y, o) := t.1.accumulate jv.1 jv.2 acc step rev; (y, t.2 || o)) (x, false)

/-- Zeroes an accumulator. -/
def EngSt.zero (x : EngSt) (j : Nat) : EngSt :=
  { x with ledger := SMap.del j x.ledger, residue := SMap.del j x.residue, latched := SMap.del j x.latched }

/-- The accumulators of blocks first–last: data columns, or the two tally accumulators of each block (R122). -/
def ledgerColumns (first last : Nat) (tally : Bool) : List Nat :=
  if tally then (List.range (2 * (last + 1 - first))).map (fun k => 512 + 2 * first + k)
  else (List.range (64 * (last + 1 - first))).map (fun k => 64 * first + k)

/-- Sets status bits of NSTAT; enabled ones raise the arithmetic trap at the next bundle boundary (R183, R231). -/
def Core.addFlags (x : Core) (flags : Nat) : Core :=
  let f := flags % 16
  let trap := f &&& getBits x.nstat 16 4
  let old := (x.excWait.filter (fun e => decide (e.1 = 6))).foldl (fun n e => n ||| e.2) 0
  { x with nstat := x.nstat ||| BitVec.ofNat 32 f
           excWait := if trap = 0 then x.excWait else x.excWait.filter (fun e => decide (e.1 ≠ 6)) ++ [(6, trap ||| old)] }

/-- Sets status bits of a core's NSTAT. -/
def Block.setNstat (s : Block) (r c flags : Nat) : Block :=
  if flags % 16 = 0 then s else s.modCore r c (fun x => x.addFlags flags)

/-- A saturating accumulator add (R120). -/
def Block.ledgerOvf (s : Block) (r c e : Nat) : Block :=
  (s.raise (engPage r c e) Irq.engine_LEDGER_OVF).setNstat r c flagLedger

/-! ## Counting passes (R60, R156) -/

/-- Counts a pass of an engine on a physical slab. -/
def Block.countPass (s : Block) (r c e p : Nat) : Block :=
  let lo := ENG_PASSES_LO r c e
  let hi := ENG_PASSES_HI r c e
  let t := s.setPair lo hi (s.pair lo hi + 1)
  let n := if s.bit SD_CTL.RD_DEBT_EN then 1 else 0
  let t := t.modSlab r c e p (fun b => { b with passes := b.passes + 1, readCount := b.readCount + n })
  { t with cairn := { t.cairn with newPasses := SMap.set 0 t.cairn.newPasses (engKey r c e) (SMap.get 0 t.cairn.newPasses (engKey r c e) + 1) } }

/-! ## Tally comparison (R124–R127) -/

/-- A tally event (R127): counted, recorded, raised, counted by the cairn, and a failed check of the pass's step. -/
def Block.tallyEvent (s : Block) (r c e p g shape dmag step rev : Nat) : Block :=
  let t := s.addReg (ENG_TALLY_EVT r c e) 1
  let t := t.setReg (ENG_TALLY_LAST r c e)
    (BitVec.ofNat 32 (p % 16 + g % 16 * 2 ^ 4 + shape % 4 * 2 ^ 8 + min dmag (2 ^ 22 - 1) * 2 ^ 10))
  let t := t.raise (engPage r c e) Irq.engine_TALLY
  let t := { t with cairn := { t.cairn with newTally := SMap.set 0 t.cairn.newTally (slabKey r c e p) (SMap.get 0 t.cairn.newTally (slabKey r c e p) + 1) } }
  (t.failedCheck r step rev).noteEvent r ⟨c, e, p, 1, step, rev, 0, [], (t.reg (ENG_TALLY_LAST r c e)).toNat, 0⟩

/-- The consecutive-saturation count of the physical columns of a pass, and the groups whose count reaches SAT_PERSIST
(R126). -/
def EngSt.runCounts (x : EngSt) (p persist : Nat) (cols : List (Nat × Nat × Bool)) : EngSt × List Nat :=
  cols.foldl (fun t lcs =>
    let (l, ph, sat) := lcs
    let key := p * 544 + ph
    if sat then
      let n := SMap.get 0 t.1.satRun key + 1
      if persist ≠ 0 ∧ n ≥ persist then
        ({ t.1 with satRun := SMap.del key t.1.satRun }, t.2 ++ [if l < 512 then l / 32 else l - 512])
      else ({ t.1 with satRun := SMap.set 0 t.1.satRun key n }, t.2)
    else ({ t.1 with satRun := SMap.del key t.1.satRun }, t.2)) (x, [])

/-- What one tally group gives: D_k, whether its comparison is skipped for saturation, and whether D_k exceeds the
guard (R124–R126). -/
def tallyGroup (conv : List Conv) (w : Word) (shape : Nat) (absX g : Nat) : Int × Bool × Bool :=
  let data := (conv.drop (32 * g)).take 32
  let t := conv.getD (512 + g) ⟨0, false, 0⟩
  let D := 32 * t.v - (data.map (·.v)).sum
  let skip := t.sat || data.any (·.sat)
  (D, skip, !skip && decide (8 * D.natAbs > 8 * (btGuardQ w * 2 ^ btStep w shape) + btGuardX w * absX))

/-- Counts a saturation of a physical column of a slab (R116). -/
def Block.countSat (s : Block) (r c e p ph : Nat) : Block := s.addSat (ENG_SAT_CNT.COUNT r c e (p + 16 * ph)) 1

/-- The saturation flags of every column of a pass: the logical column a physical one carries, the physical column, the
flag. Only columns of the blocks the pass latches saturate (DEDUCED from R116 and R118: notes/assumptions/47.md). -/
def Block.satList (s : Block) (r c e p : Nat) (blocks : List Nat) (conv : List Conv) : List (Nat × Nat × Bool) :=
  let b := s.slab r c e p
  (List.range 528).map (fun l => (l, b.physical l, blocks.contains (columnBlock l) && (conv.getD l ⟨0, false, 0⟩).sat))

/-- The latch of a slab pass (R116–R127): contributions and D_k into the ledger, saturation counts, tally events, pass
history and pass counts. `bp` is the slab of the version map, whose parameters apply. -/
def Block.latchPass (s : Block) (r c e p bp : Nat) (cmd : EngCmd) (err : List Int) : Block :=
  let d := driven cmd
  let conv := s.conversions r c e p bp cmd err
  let blocks := (List.range 8).filter (fun b =>
    let w := s.block r c e bp b
    decide (btShape w = cmd.shape ∧ 1 ≤ btWidth w ∧ btWidth w ≤ 8))
  let sign : Int := if cmd.shape = 2 ∧ cmd.signed then -1 else 1
  let cols := (blocks.map (fun b => (List.range 64).map (fun k => 64 * b + k))).flatten
  let contrib := cols.map (fun l =>
    let w := s.block r c e bp (columnBlock l)
    (l, sign * ((conv.getD l ⟨0, false, 0⟩).v - (columnZero w l : Int) * sumX d) * (2 ^ cmd.slice : Nat)))
  let groups := (blocks.map (fun b => [2 * b, 2 * b + 1])).flatten
  let res := groups.map (fun g => (g, tallyGroup conv (s.block r c e bp (g / 2)) cmd.shape (sumAbs d) g))
  let dvals := res.map (fun x => (512 + x.1, sign * x.2.1 * (2 ^ cmd.slice : Nat)))
  let (x, ovf1) := (s.engine r c e).accumulateAll contrib cmd.acc cmd.step cmd.rev
  let (x, ovf2) := x.accumulateAll dvals cmd.acc cmd.step cmd.rev
  let sats := s.satList r c e p blocks conv
  let (x, persist) := x.runCounts p (s.fld (ENG_CTL.SAT_PERSIST r c e)) sats
  let x := if s.bit (ENG_CTL.PH_FREEZE r c e) then x
    else { x with history := (⟨cmd, p, blocks, conv.map (·.code)⟩ :: x.history).take 2 }
  let t := (s.setEngine r c e { x with pass := none }).countPass r c e p
  let t := if ovf1 || ovf2 then t.ledgerOvf r c e else t
  let t := sats.foldl (fun t x => if x.2.2 then t.countSat r c e p x.2.1 else t) t
  let t := t.addReg (ENG_TALLY_SKIP r c e) (res.filter (fun x => x.2.2.1)).length
  let t := res.foldl (fun t x =>
    if x.2.2.2 then t.tallyEvent r c e p x.1 cmd.shape x.2.1.natAbs cmd.step cmd.rev else t) t
  persist.foldl (fun t g =>
    (t.raise (engPage r c e) Irq.engine_SAT_PERSIST).tallyEvent r c e p g cmd.shape 0 cmd.step cmd.rev) t

/-! ## Drains (R122, R164–R168, R184) -/

/-- Outputs of a block in a DRAIN: 64 at single-column widths, 32 pairs at widths 5–8 (R168). -/
def blockOutputs (w : Word) : Nat := if 5 ≤ btWidth w ∧ btWidth w ≤ 8 then 32 else 64

/-- A × SCALE × DSCALE with its exceptions (R167, R184). -/
def drainValue (A : Int) (scale dscale : FVal) : FVal :=
  if scale.isNan || dscale.isNan then .nan
  else
    let k := match scale, dscale with
      | .inf a, .inf b => FVal.inf (a != b)
      | .inf a, .fin b n _ => if n = 0 then .nan else .inf (a != b)
      | .fin a n _, .inf b => if n = 0 then .nan else .inf (a != b)
      | x, y => x.mul y
    match k with
    | .nan => .nan
    | _ => (FVal.ofInt A).mul k

/-- The outputs of a DRAIN with TALLY = 0. -/
def Block.drainOutputs (s : Block) (r c e bp : Nat) (cmd : EngCmd) : List FVal :=
  let x := s.engine r c e
  let acc (j : Nat) : Int := SMap.get 0 x.ledger j
  let ds := f32 cmd.dscale.toNat
  let sc (l : Nat) : FVal := if cmd.slab = 15 then .fin false 1 1 else fp16.decode (s.scale r c e bp l)
  ((List.range (cmd.last + 1 - cmd.first)).map (fun i =>
    let b := cmd.first + i
    let width := if cmd.slab = 15 then 4 else btWidth (s.block r c e bp b)
    if width = 0 ∨ width ≥ 9 then (List.range 64).map (fun _ => FVal.fin false 0 1)
    else if width ≤ 4 then (List.range 64).map (fun j => drainValue (acc (64 * b + j)) (sc (64 * b + j)) ds)
    else (List.range 32).map (fun m =>
      let hi := 64 * b + 2 * m + 1
      drainValue (16 * acc hi + acc (hi - 1)) (sc hi) ds))).flatten

/-- The row and status bits of a DRAIN. -/
def Block.drainRow (s : Block) (r c e bp : Nat) (cmd : EngCmd) : Row × Nat :=
  if cmd.tally then
    let l := (ledgerColumns cmd.first cmd.last true).map (fun j => encodeElem 3 (FVal.ofInt (SMap.get 0 (s.engine r c e).ledger j)))
    (packElems 3 (l.map (·.1)), l.foldl (fun f x => f ||| x.2) 0)
  else encodeRow cmd.fmt (s.drainOutputs r c e bp cmd)

/-! ## Probe passes (R130–R137) -/

/-- The probe store's entry index of a slab: 2s ROW, 2s + 1 SUM. -/
def probeIndex (p turn : Nat) : Nat := 2 * p + turn

/-- A slab state in which it is probed (R130). -/
def SlabState.probed (st : SlabState) : Bool :=
  decide (st = .resident ∨ st = .suspect ∨ st = .standin ∨ st = .assigned ∨ st = .mirror)

/-- Whether a probe of a slab finds a valid entry for its turn. -/
def Block.probeReady (s : Block) (r c e p : Nat) : Bool :=
  let x := s.engine r c e
  (s.slab r c e p).state.probed
    && decide ((SMap.get ProbeEntry.none x.probes (probeIndex p (SMap.get 0 x.turns p))).kind ≠ 0)

/-- Physical columns that a probe pass does not compare: those taken out of service by the column map, defective
reference columns, and a converter that a steering entry uses (R132, R137). -/
def Block.probeSkips (s : Block) (r c e p col : Nat) : Bool :=
  let b := s.slab r c e p
  (decide (col < 528) && decide (b.physical col ≠ col))
    || (decide (col ≥ 528) && (SMap.find (col - 528) b.colmap).isNone && b.defective.contains (col - 528))
    || (decide (col = 542) && s.bit (ENG_CVSTEER.VALID0 r c e))
    || (decide (col = 543) && s.bit (ENG_CVSTEER.VALID1 r c e))

/-- Starts a probe pass of a slab with the step current at the probe. -/
def Block.startProbe (s : Block) (r c e p : Nat) : Block :=
  s.modEngine r c e (fun x => { x with pass := some (.probe p (s.step r) (s.rev r)), lastProbe := p })

/-- Invalidates both probe entries of a slab (R135); they are refilled by PROBE_ENTRY_REFILL. -/
def Block.dropProbes (s : Block) (r c e p : Nat) : Block :=
  s.modEngine r c e (fun x => { x with probes := SMap.del (2 * p) (SMap.del (2 * p + 1) x.probes) })

/-- The level that a probe expects of a physical column: its target's nominal level in an X pass, in quarter levels. -/
def Block.expectQuarter (s : Block) (r c e p row col : Nat) : Nat := ((s.cellTarget r c e p row col).nominal - 2000) / 500

/-- The expected codes of a probe entry: the clamped, rounded level sum of the rows it drives; 0 where no comparison is
made (R132, R133). -/
def Block.expectCodes (s : Block) (r c e p : Nat) (rows : List Nat) : List Nat :=
  (List.range 544).map (fun col =>
    if s.probeSkips r c e p col then 0
    else clampCode (roundEven ((rows.map (fun row => s.expectQuarter r c e p row col)).sum) 4))

/-- Whether passes and cores stall: a low-voltage hold is in force (R637), a power-fail is latched (R643), or the rails go
down (R640). -/
def Block.lvActive (s : Block) : Bool := !s.pow.lvRails.isEmpty || s.bit PM_PF_STAT.LATCHED || s.pow.railDown.isSome

/-- Whether an engine holds a SUSPECT slab (R544). -/
def Block.holdsSuspect (s : Block) (r c e : Nat) : Bool := (List.range 9).any (fun p => decide ((s.slab r c e p).state = .suspect))

end Sys2Proof.Machine
end

