-- ==== Sys2Proof/Machine/ScratchOps.lean ====
section
/-! DEFINITION. Shared operations of sync cells' messages, scratchpad rows, circular regions and buffer pools
(R224–R228, R308–R331). -/
namespace Sys2Proof.Machine

/-! ## Messages to sync cells -/

/-- An operation on a cell on its way (R225, R228): `addr` is the cell within its ridge, `arg` the operation, `data` the
operand, `srcCore` the logical core. -/
def cellPacket (src : Source) (core : Nat) (dst : Source) (cell : Nat) (k : CellOpKind) (v : BitVec 32) : Packet :=
  { Packet.blank with op := .syncOp, src := src, srcCore := core, dst := dst, addr := cell, arg := k.code, data := v.setWidth 4096 }

/-- SYNC.ADD from a logical core of ridge r to a cell of its own ridge (R224, R325). -/
def Block.addCell (s : Block) (r core cell n : Nat) : Block :=
  s.send (cellPacket (s.sourceOf r) core (s.sourceOf r) cell .add (BitVec.ofNat 32 n))

/-! ## Scratchpad rows (R308–R314) -/

/-- A scratchpad. -/
def Block.spadAt (s : Block) (r c : Nat) : Spad := SMap.get Spad.reset s.spad (siteKey r c)

/-- Writes a scratchpad. -/
def Block.setSpad (s : Block) (r c : Nat) (x : Spad) : Block :=
  { s with spad := SMap.set Spad.reset s.spad (siteKey r c) x }

/-- Changes a scratchpad. -/
def Block.modSpad (s : Block) (r c : Nat) (f : Spad → Spad) : Block := s.setSpad r c (f (s.spadAt r c))

/-- A row's contents. -/
def Block.row (s : Block) (r c n : Nat) : Row := SMap.get 0 (s.spadAt r c).rows n

/-- The bits of the 64-bit words that a mask enables. -/
def wordMask (m : BitVec 64) : Row :=
  BitVec.ofNat 4096 (((List.range 64).map (fun w => if m.getLsbD w then (2 ^ 64 - 1) <<< (64 * w) else 0)).sum)

/-- A row with the enabled words replaced. -/
def mergeWords (old new : Row) (m : BitVec 64) : Row := (old &&& ~~~(wordMask m)) ||| (new &&& wordMask m)

/-- Every word of a row. -/
def allWords : BitVec 64 := BitVec.allOnes 64

/-- Writes the enabled words of a row; their errors clear (R314, R315). -/
def Block.writeRow (s : Block) (r c n : Nat) (v : Row) (m : BitVec 64) : Block :=
  s.modSpad r c (fun x => { x with
    rows := SMap.set 0 x.rows n (mergeWords (SMap.get 0 x.rows n) v m)
    bad := x.bad.filter (fun b => decide (b / 64 ≠ n) || !(m.getLsbD (b % 64))) })

/-- The words of a row that hold an uncorrectable error. -/
def Block.badWords (s : Block) (r c n : Nat) : List Nat :=
  ((s.spadAt r c).bad.filter (fun b => decide (b / 64 = n))).map (· % 64)

/-- A row as a core or a migration copy reads it: failing words are 0 (R314). -/
def Block.readRow (s : Block) (r c n : Nat) : Row :=
  let bad := s.badWords r c n
  mergeWords (s.row r c n) 0 (BitVec.ofNat 64 ((bad.map (fun w => 2 ^ w)).sum))

/-- Counts and records an uncorrectable error of a row (R314). -/
def Block.countSpadUe (s : Block) (r c n : Nat) : Block :=
  match s.badWords r c n with
  | [] => s
  | w :: _ =>
    let t := s.addSat (SP_ECC.UNCORRECTABLE r c) 1
    (t.setFld (SP_ECC_ROW.ROW r c) n).setFld (SP_ECC_ROW.WORD r c) w

/-- What a core read or a migration copy of a row with an uncorrectable error does beside delivering it: a failed check of
the ridge's current step, SP_UE and a fault signature (R314). -/
def Block.spadUe (s : Block) (r c n : Nat) : Block :=
  if (s.badWords r c n).isEmpty then s
  else
    let t := ((s.countSpadUe r c n).raise (sitePage r c 9) Irq.spad_SP_UE).failedNow r
    t.signature 9 0 1 (t.locSite r c) (s.step r) (s.rev r) 0 n

/-! ## Circular regions (R320–R327) -/

/-- The logical core of a site; the core migrating to it where the site holds none. -/
def Block.logicalAt (s : Block) (r c : Nat) : Nat := (s.coreOf r c).getD (s.fld (RC_MIG_STAT.LOGICAL r))

/-- Rows reserved and not yet visible (R324). -/
def Block.reservedRows (s : Block) (r c g : Nat) : List (Nat × Bool) := SMap.get [] (s.spadAt r c).reserved g

/-- The row after `k` more rows of a region's ring (R320). -/
def Block.ringRow (s : Block) (r c g row k : Nat) : Nat :=
  let base := s.fld (CR_CFG.BASE r c g)
  let size := s.fld (CR_CFG.SIZE r c g)
  if size = 0 then base else base + (row - base + k) % size

/-- Rows that the full test of R322 counts as taken (R324). -/
def Block.takenRows (s : Block) (r c g : Nat) : Nat := s.fld (CR_COUNT.COUNT r c g) + (s.reservedRows r c g).length

/-- Whether a region is full. -/
def Block.regionFull (s : Block) (r c g : Nat) : Bool := decide (s.takenRows r c g ≥ s.fld (CR_CFG.SIZE r c g))

/-- Rows that the core's pops and frees may still take: COUNT less those already taken at issue (R323). -/
def Block.regionAvail (s : Block) (r c g : Nat) : Nat :=
  s.fld (CR_COUNT.COUNT r c g) - SMap.get 0 (s.spadAt r c).headAhead g

/-- Writes FULL and EMPTY. -/
def Block.showRegion (s : Block) (r c g : Nat) : Block :=
  (s.setBit (CR_COUNT.FULL r c g) (s.regionFull r c g)).setBit (CR_COUNT.EMPTY r c g) (decide (s.fld (CR_COUNT.COUNT r c g) = 0))

/-- Reserves the row at TAIL and advances TAIL (R323, R324). -/
def Block.reserveRow (s : Block) (r c g : Nat) (written : Bool) : Block × Nat :=
  let row := s.fld (CR_STAT.TAIL r c g)
  let t := s.setFld (CR_STAT.TAIL r c g) (s.ringRow r c g row 1)
  let t := t.modSpad r c (fun x => { x with reserved := SMap.set [] x.reserved g (SMap.get [] x.reserved g ++ [(row, written)]) })
  (t.showRegion r c g, row)

/-- The written rows at the front of a region's reservations become visible, in TAIL order (R324, R325). -/
def Block.publishRows (s : Block) (r c g : Nat) : Block :=
  let l := s.reservedRows r c g
  let n := (l.takeWhile (·.2)).length
  if n = 0 then s
  else
    let t := s.modSpad r c (fun x => { x with reserved := SMap.set [] x.reserved g (l.drop n) })
    let t := (t.setFld (CR_COUNT.COUNT r c g) (s.fld (CR_COUNT.COUNT r c g) + n)).showRegion r c g
    if t.bit (CR_CTL.DATA_EN r c g) then t.addCell r (t.logicalAt r c) (t.fld (CR_CELLS.DATA_CELL r c g)) n else t

/-- Marks a reserved row written and publishes what has become visible. -/
def Block.landRow (s : Block) (r c g row : Nat) : Block :=
  let l := s.reservedRows r c g
  let mark := fun (acc : List (Nat × Bool) × Bool) (e : Nat × Bool) =>
    if !acc.2 && decide (e.1 = row) && !e.2 then (acc.1 ++ [(e.1, true)], true) else (acc.1 ++ [e], acc.2)
  let t := s.modSpad r c (fun x => { x with reserved := SMap.set [] x.reserved g (l.foldl mark ([], false)).1 })
  t.publishRows r c g

/-- A buffer pool counts rows freed from its region and adds 1 to its cell at each multiple of BUF_ROWS (R329). -/
def Block.poolFree (s : Block) (r c p k : Nat) : Block :=
  let buf := s.fld (POOL_CFG.BUF_ROWS r c p)
  let old := SMap.get 0 (s.spadAt r c).freed p
  let t := s.modSpad r c (fun x => { x with freed := SMap.set 0 x.freed p (old + k) })
  let n := if buf = 0 then 0 else (old + k) / buf - old / buf
  if n = 0 then t else t.addCell r (t.logicalAt r c) (t.fld (POOL_CFG.CELL r c p)) n

/-- k rows of a region become free for every producer (R323–R325, R329). -/
def Block.freeRows (s : Block) (r c g k : Nat) : Block :=
  let t := (s.setFld (CR_COUNT.COUNT r c g) (s.fld (CR_COUNT.COUNT r c g) - k)).showRegion r c g
  let t := if t.bit (CR_CTL.SPACE_EN r c g) ∧ k ≠ 0 then t.addCell r (t.logicalAt r c) (t.fld (CR_CELLS.SPACE_CELL r c g)) k else t
  (List.range 16).foldl (fun t p =>
    if t.bit (POOL_CTL.EN r c p) ∧ t.fld (POOL_CFG.REGION r c p) = g then t.poolFree r c p k else t) t

/-- HEAD advances by k rows at issue for further core operations (R323). -/
def Block.advanceHead (s : Block) (r c g k : Nat) : Block :=
  let t := s.setFld (CR_STAT.HEAD r c g) (s.ringRow r c g (s.fld (CR_STAT.HEAD r c g)) k)
  t.modSpad r c (fun x => { x with headAhead := SMap.set 0 x.headAhead g (SMap.get 0 x.headAhead g + k) })

/-- A refused attempt in FAULT mode (R326, R327). -/
def Block.regionFault (s : Block) (r c g : Nat) : Block :=
  (s.setBit (CR_CTL.FAULT r c g) true).raise (sitePage r c 9) Irq.spad_CR_FAULT

/-! ## The shared phase (R309, R310) -/

/-- Queues a request for a scratchpad's shared phase (R310). -/
def Block.askShared (s : Block) (r c : Nat) (q : SharedReq) : Block :=
  let t := s.modSpad r c (fun x => { x with queue := x.queue ++ [q] })
  t.setFld (SP_STAT.SHARED_DEPTH r c) (t.spadAt r c).queue.length

end Sys2Proof.Machine
end

