-- ==== Sys2Proof/Machine/CoreOps.lean ====
section
/-! DEFINITION. Shared operations of the cores: register files, results on their way, access windows, remote requests,
sync operations, circular regions as a core uses them, norm watch, exceptions, and the issue of a bundle
(R191–R242, R261–R307, R320–R327). -/
namespace Sys2Proof.Machine

/-! ## Register files (R204) -/

/-- A scalar register; s0 reads 0. -/
def Core.s (x : Core) (n : Nat) : BitVec 64 := if n = 0 then 0 else SMap.get 0 x.sreg n
/-- A vector register. -/
def Core.v (x : Core) (n : Nat) : Row := SMap.get 0 x.vreg n
/-- A predicate register; p0 reads all ones. -/
def Core.p (x : Core) (n : Nat) : BitVec 512 := if n = 0 then BitVec.allOnes 512 else SMap.get 0 x.preg n
/-- A loop counter. -/
def Core.l (x : Core) (n : Nat) : BitVec 32 := SMap.get 0 x.lreg n

/-- Every bit of a row. -/
def allBitsRow : Row := BitVec.allOnes 4096

/-- A row with the bits of a mask replaced. -/
def mergeBits (old new mask : Row) : Row := (old &&& ~~~mask) ||| (new &&& mask)

/-- Writes the masked bits of a destination register; writes to s0 and p0 are discarded. -/
def Core.put (x : Core) (d : Dest) (val mask : Row) : Core :=
  match d with
  | .s n => if n = 0 then x else { x with sreg := SMap.set 0 x.sreg n (val.setWidth 64) }
  | .v n => { x with vreg := SMap.set 0 x.vreg n (mergeBits (x.v n) val mask) }
  | .p n => if n = 0 then x
    else { x with preg := SMap.set 0 x.preg n ((mergeBits ((x.p n).setWidth 4096) val mask).setWidth 512) }
  | .f => x.addFlags val.toNat

/-- Results land in the order of their cycles, those of one cycle in issue order (R207, R209). -/
def Core.addResult (x : Core) (r : Result) : Core :=
  { x with results := x.results.takeWhile (fun e => decide (e.due ≤ r.due)) ++ [r]
      ++ x.results.dropWhile (fun e => decide (e.due ≤ r.due)) }

/-- The results due by a cycle reach their registers. -/
def Core.land (x : Core) (clock : Nat) : Core :=
  let hit := x.results.takeWhile (fun e => decide (e.due ≤ clock))
  let y := hit.foldl (fun y e => y.put e.dest e.val e.mask) x
  { y with results := x.results.drop hit.length }

/-- Every result on its way reaches its register (R233). -/
def Core.landAll (x : Core) : Core :=
  { x.results.foldl (fun y e => y.put e.dest e.val e.mask) x with results := [] }

/-- Bit 0 of the guard predicate XOR GNEG (R264). -/
def Core.guard (x : Core) (gp : BitVec 3) (gneg : Bool) : Bool := (x.p gp.toNat).getLsbD 0 != gneg

/-! ## fp32 arithmetic on bits (R182) -/

def fadd (a b : Nat) : Nat × Nat := fp32.encode ((f32 a).add (f32 b))
def fsub (a b : Nat) : Nat × Nat := fp32.encode ((f32 a).add (f32 b).neg)
def fmul (a b : Nat) : Nat × Nat := fp32.encode ((f32 a).mul (f32 b))
def fdiv (a b : Nat) : Nat × Nat := fp32.encode ((f32 a).div (f32 b))

/-- The square of a value added to an fp32 sum, rounded once (R192, R279). -/
def faddSq (sum : Nat) (v : FVal) : Nat × Nat := fp32.encode ((f32 sum).add (v.mul v))

/-- fp32 bits of m / d rounded toward +∞, for positive finite m (R195). -/
def fdivUp (m d : Nat) : Nat :=
  let q := (f32 m).mul (.fin false 1 d)
  let c := (fp32.encode q).1
  if (f32 c).lt q then c + 1 else c

/-! ## Norm watch (R191–R201) -/

/-- An observation with one more element (R192); the maximum is NaN once an element is. -/
def NwOpen.push (o : NwOpen) (v : FVal) : NwOpen :=
  ⟨(faddSq o.norm v).1,
   if v.isNan || (f32 o.mx).isNan then fp32.nanCode
   else if (f32 o.mx).lt v.abs then (match v with | .inf _ => 0x7F800000 | _ => (fp32.encode v.abs).1) else o.mx⟩

/-- R := R + (n − R) / k, each operation in fp32 (R193). -/
def nwMove (R n k : Nat) : Nat := (fadd R (fdiv (fsub n R).1 (fp32.encode (FVal.ofInt k)).1).1).1

/-- R is updated at most once per step; OBS rises with it while the warm-up runs (R193). -/
def Block.nwUpdate (s : Block) (r c e n : Nat) (warm : Bool) : Block :=
  let x := s.coreAt r c
  if SMap.get 0 x.nwDone e = s.step r + 1 then s
  else
    let w := max 1 (s.fld (NW_CTL.WARMUP r c))
    let obs := if warm then min w (s.fld (NW_STAT.OBS r c e) + 1) else s.fld (NW_STAT.OBS r c e)
    let k := if warm then obs else 64
    let t := s.setCore r c { x with nwDone := SMap.set 0 x.nwDone e (s.step r + 1) }
    (t.setFld (NW_STAT.OBS r c e) obs).setReg (NW_EST r c e) (BitVec.ofNat 32 (nwMove (s.reg (NW_EST r c e)).toNat n k))

/-- Whether an observation n is flagged against R (R194, R200). -/
def nwFlagged (factor R n : Nat) : Bool :=
  let F : FVal := .fin false (max 5 factor) 4
  let v := f32 n
  v.isNan || (F.mul (f32 R)).lt v || (v.mul F).lt (f32 R)

/-- The scale recomputed on a flag; kept for a maximum of 0, NaN or infinity (R195). -/
def nwScale (s mx : Nat) (u8 : Bool) : Nat :=
  match f32 mx with
  | .fin _ n _ => if n = 0 then s else fdivUp mx (if u8 then 255 else 127)
  | _ => s

/-- A flagged observation (R195–R197): the scale is recomputed, and the step fails its check; the third flag of a step is
accepted with ESCALATED. -/
def Block.nwFlag (s : Block) (r c e : Nat) (o : NwOpen) : Block :=
  let x := s.coreAt r c
  let step := s.step r
  let rev := s.rev r
  let t := s.addSat (NW_STAT.FLAGS r c e) 1
  let t := t.setReg (NW_SCALE r c e) (BitVec.ofNat 32 (nwScale (s.reg (NW_SCALE r c e)).toNat o.mx (s.bit (NW_STAT.U8 r c e))))
  let revs := SMap.get [] x.nwReplays step
  if !revs.contains rev && decide (revs.length ≥ 2) then
    ((t.nwUpdate r c e o.norm false).setBit (NW_STAT.ESCALATED r c e) true).signature 5 0 0 (s.locSite r c) step rev 0 e
  else
    let t := if revs.contains rev then t
      else t.modCore r c (fun y => { y with nwReplays := SMap.set [] y.nwReplays step (revs ++ [rev]) })
    t.failedCheck r step rev

/-- nwend: an open observation closes (R193–R196, R281). -/
def Block.nwEnd (s : Block) (r c e : Nat) : Block :=
  match SMap.find e (s.coreAt r c).nwOpen with
  | none => s
  | some o =>
    let t := s.modCore r c (fun y => { y with nwOpen := SMap.del e y.nwOpen })
    let t := (t.setReg (NW_LAST_NORM r c e) (BitVec.ofNat 32 o.norm)).setReg (NW_LAST_MAX r c e) (BitVec.ofNat 32 o.mx)
    let R := (s.reg (NW_EST r c e)).toNat
    if s.fld (NW_STAT.OBS r c e) < max 1 (s.fld (NW_CTL.WARMUP r c)) ∨ (f32 R).isZero then t.nwUpdate r c e o.norm true
    else if s.bit (NW_CTL.EN r c) && nwFlagged (s.fld (NW_CTL.FACTOR r c)) R o.norm then t.nwFlag r c e o
    else t.nwUpdate r c e o.norm false

/-! ## Special registers (R205, R298) -/

/-- What movx2s reads; `none` for a reserved code. -/
def Block.readSpecial (s : Block) (r c code : Nat) : Option (BitVec 64) :=
  let x := s.coreAt r c
  let w (v : Word) : Option (BitVec 64) := some (v.setWidth 64)
  match code with
  | 0 => some (BitVec.ofNat 64 x.pc)
  | 1 => some (BitVec.ofNat 64 x.epc)
  | 2 => w (s.reg (CORE_EXC_CAUSE r c))
  | 3 => w (s.reg (CORE_EXC_INFO r c))
  | 4 => w x.dscale
  | 5 => w x.nstat
  | 6 => some (BitVec.ofNat 64 (s.pair (CORE_CYCLES_LO r c) (CORE_CYCLES_HI r c)))
  | 7 => w (s.reg (RI_STEP r))
  | 8 => some (BitVec.ofNat 64 (s.logicalAt r c + r * 2 ^ 8 + s.fld FAB_SELF.COORD * 2 ^ 16))
  | 9 => some (BitVec.ofNat 64 (s.fld FAB_GEN.GEN))
  | 10 => some (BitVec.ofNat 64 (s.fld (CORE_STAT.WAKE_PEND r c)))
  | 11 => w (x.l 0) | 12 => w (x.l 1) | 13 => w (x.l 2) | 14 => w (x.l 3)
  | _ => none

/-- Whether movs2x may write a special register: EPC, DSCALE, NSTAT and WAKE (R205). -/
def specialWritable (code : Nat) : Bool := decide (code = 1 ∨ code = 4 ∨ code = 5 ∨ code = 10)

/-- The bits of NSTAT that are not reserved (R183). -/
def nstatMask : Word := 0x000F000F

/-- Writes a special register; an enabled NSTAT status bit that the write sets traps (R183, R205). -/
def Block.writeSpecial (s : Block) (r c code : Nat) (v : BitVec 64) : Block :=
  match code with
  | 1 => s.modCore r c (fun x => { x with epc := v.toNat % 4096 })
  | 4 => s.modCore r c (fun x => { x with dscale := v.setWidth 32 })
  | 5 =>
    s.modCore r c (fun x =>
      let new := v.setWidth 32 &&& nstatMask
      let trap := getBits new 0 4 &&& getBits new 16 4 &&& (15 - getBits x.nstat 0 4 &&& 15)
      { x with nstat := new, excWait := if trap = 0 then x.excWait else x.excWait ++ [(6, trap)] })
  | 10 => if v.getLsbD 0 then s else s.setBit (CORE_STAT.WAKE_PEND r c) false
  | _ => s

/-! ## Exceptions (R231–R236, R818) -/

/-- A list of waiting exceptions without the first of a code. -/
def dropFirst (code : Nat) : List (Nat × Nat) → List (Nat × Nat)
  | [] => []
  | e :: rest => if e.1 = code then rest else e :: dropFirst code rest

/-- Takes an exception (R231–R235): results of earlier bundles land, cause, EPC and information are recorded, and the core
halts or enters its handler; in the handler it halts with DOUBLE_FAULT. An engine fault is recorded on the engine's page as
well (R160). -/
def Block.takeException (s : Block) (r c code sub slot info : Nat) : Block :=
  let x := s.coreAt r c
  let pc := x.pc % 4096
  let t := if code = 5 then
      (s.blkErr (engPage r c (info % 8)) (BitVec.ofNat 32 (info / 256))).raise (engPage r c (info % 8)) Irq.engine_ENG_FAULT
    else s
  let (code', sub', slot', info') := if x.handler then (8, 0, slot, code + sub * 16) else (code, sub, slot, info)
  let t := t.setReg (CORE_EXC_CAUSE r c) (BitVec.ofNat 32 (code' + sub' * 2 ^ 4 + slot' * 2 ^ 12))
  let t := (t.setFld (CORE_EXC_PC.EPC r c) pc).setReg (CORE_EXC_INFO r c) (BitVec.ofNat 32 info')
  let z := { x with excWait := if code = 7 then dropFirst 7 x.excWait else x.excWait.filter (fun e => decide (e.1 ≠ code)) }.landAll
  let y := { z with epc := pc, bundle := Bundle.none, wait := none, heldOn := [],
                    heldWait := if code = 4 ∨ x.handler then none else x.wait }
  let t := t.setFld (CORE_STAT.HOLD_CAUSE r c) 0
  if x.handler || s.bit (CORE_CTL.EXC_MODE r c) then
    ((t.setCore r c { y with handler := false }).setFld (CORE_STAT.STATE r c) 4).raise (sitePage r c 0) Irq.core_EXC
  else
    (t.setCore r c { y with handler := true, pc := s.fld (CORE_EXC_VEC.VEC r c) }).setFld (CORE_STAT.STATE r c) 3

/-- The between-bundle exception to take first: 7, 4, 6 (R232). -/
def nextWaiting (l : List (Nat × Nat)) : Option (Nat × Nat) :=
  (l.find? (fun e => decide (e.1 = 7))).orElse (fun _ =>
    (l.find? (fun e => decide (e.1 = 4))).orElse (fun _ => l.head?))

/-- Halts a core (R241). -/
def Block.haltCore (s : Block) (r c : Nat) : Block :=
  let t := s.modCore r c (fun x => { x with haltReq := false, handler := false, bundle := Bundle.none, wait := none, heldWait := none, heldOn := [] })
  let t := ((t.setBit (CORE_CTL.HALT_REQ r c) false).setFld (CORE_STAT.STATE r c) 0).setFld (CORE_STAT.HOLD_CAUSE r c) 0
  t.raise (sitePage r c 0) Irq.core_HALTED

/-- A bundle boundary of a core that issues: a waiting exception is taken, then a halt (R231, R232, R241). -/
def Block.boundary (s : Block) (r c : Nat) : Block :=
  let x := s.coreAt r c
  let st := s.fld (CORE_STAT.STATE r c)
  if (st ≠ 1 ∧ st ≠ 3) ∨ x.bundle ≠ Bundle.none then s
  else match nextWaiting x.excWait with
    | some (code, info) => s.takeException r c code 0 7 info
    | none => if x.haltReq then s.haltCore r c else s

/-- A between-bundle exception becomes pending (R231). -/
def Block.postException (s : Block) (r c code info : Nat) : Block :=
  (s.modCore r c (fun x => { x with excWait := x.excWait ++ [(code, info)] })).boundary r c

/-! ## Access windows (R217, R218, R255, R256) -/

/-- Whether a window admits a request of an extent with the right it needs (R217). -/
def Block.windowOk (s : Block) (r c win off extent : Nat) (write : Bool) : Bool :=
  s.bit (AW_CTL.VALID r c win) && s.bit (if write then AW_CTL.WR r c win else AW_CTL.RD r c win)
    && decide (off + extent ≤ s.fld (AW_SIZE.SIZE r c win))

/-- Whether a window is fenced: it leads to another die, and its generation is not the die's or the die is STRAY (R429,
R430). -/
def Block.fenced (s : Block) (r c win : Nat) : Bool :=
  s.bit (AW_CTL.REMOTE r c win)
    && (decide (s.fld (AW_CTL.GEN r c win) ≠ s.fld FAB_GEN.GEN) || !s.bit FAB_STAT.MEMBER)

/-- CORE_EXC_INFO of a failed window check (R818). -/
def windowInfo (win off : Nat) : Nat := win + min off (2 ^ 27 - 1) * 2 ^ 4

/-- The unit of a source that is the cache tier of a die. -/
def cacheUnit : Nat := 17

/-- The unit or ridge that a window leads to, with the logical core and the row, unit or cell at an offset (R255). -/
def Block.windowTarget (s : Block) (r c win off : Nat) : Source × Nat × Nat :=
  let lo := s.reg (AW_TGT_LO r c win)
  let kind := s.fld (AW_CTL.KIND r c win)
  let remote := s.bit (AW_CTL.REMOTE r c win)
  let unit := if kind = 0 then getBits lo 17 4 else if kind = 1 then cacheUnit else (getBits lo 0 14 + off) / 1024
  let src : Source := if remote then ⟨s.fld (AW_TGT_HI.DIE r c win), 0, unit⟩
    else ⟨s.fld FAB_SELF.COORD, if unit < 16 then s.halfOf unit else 0, unit⟩
  if kind = 0 then (src, getBits lo 12 5, getBits lo 0 12 + off)
  else if kind = 1 then (src, 0, getBits lo 0 29 + off)
  else (src, 0, (getBits lo 0 14 + off) % 1024)

/-- Whether a PUT of ridge r to a row of a core travels in the reduction channel (R359): by the table of the issuing
flank. -/
def Block.reductionClass (s : Block) (r : Nat) (dst : Source) (core row : Nat) : Bool :=
  let f := r / 8
  (List.range 32).any (fun i =>
    s.bit (NET_RED_TGT.VALID f i) && decide (s.fld (NET_RED_TGT.RIDGE f i) = dst.unit ∧ s.fld (NET_RED_TGT.CORE f i) = core)
      && (if s.bit (NET_RED_TGT.REMOTE f i) then decide (s.fld (NET_RED_TGT.DIE f i) = dst.die)
          else decide (dst.die = s.fld FAB_SELF.COORD))
      && decide (s.fld (NET_RED_ROWS.BASE f i) ≤ row ∧ row ≤ s.fld (NET_RED_ROWS.LIMIT f i)))

/-! ## Remote requests (R217–R223) -/

/-- Whether every tag is taken. -/
def Core.tagsFull (x : Core) : Bool := decide (x.tags.length ≥ 64)

/-- Writes CORE_STAT.OUTSTANDING. -/
def Block.showTags (s : Block) (r c : Nat) : Block :=
  s.setFld (CORE_STAT.OUTSTANDING r c) (s.coreAt r c).tags.length

/-- Takes the lowest free tag for a request (R219); answers the tag as its packet carries it: the tag and, above it, the
request's number. -/
def Block.takeTag (s : Block) (r c : Nat) (op : PktOp) (row cell count : Nat) : Block × Nat :=
  let x := s.coreAt r c
  let tag := ((List.range 64).find? (fun k => (SMap.find k x.tags).isNone)).getD 0
  ((s.setCore r c { x with tags := SMap.ins tag ⟨op, row, cell, count, s.rev r, x.requests, s.step r⟩ x.tags, requests := x.requests + 1 }).showTags r c,
    tag + 64 * x.requests)

/-- The outstanding request that a packet's tag names. -/
def Block.tagOf (s : Block) (r c tag : Nat) : Option Tag :=
  match SMap.find (tag % 64) (s.coreAt r c).tags with
  | some t => if t.serial = tag / 64 then some t else none
  | none => none

/-- Frees a tag. -/
def Block.freeTag (s : Block) (r c tag : Nat) : Block :=
  (s.modCore r c (fun x => { x with tags := SMap.del (tag % 64) x.tags })).showTags r c

/-- A successful completion frees its tag and adds 1 to its cell, unless a retract has followed its issue (R222, R558). -/
def Block.completeTag (s : Block) (r c tag : Nat) : Block :=
  match s.tagOf r c tag with
  | none => s
  | some t =>
    let u := s.freeTag r c tag
    if revNewer (s.rev r) t.rev then u else u.addCell r (u.logicalAt r c) t.cell 1

/-- An error completion frees its tag and raises the remote-error exception, unless a retract has followed its issue (R223,
R558, R818). -/
def Block.failTag (s : Block) (r c tag status : Nat) : Block :=
  match s.tagOf r c tag with
  | none => s
  | some t =>
    let u := s.freeTag r c tag
    if revNewer (s.rev r) t.rev then u else u.postException r c 7 (tag % 64 + status * 2 ^ 8)

/-- The row as the fixed pipeline reads it at issue: with the stores issued before it (R211, R220). -/
def Block.pipelineRow (s : Block) (r c row : Nat) : Row :=
  (s.coreAt r c).accesses.foldl (fun v a => match a with
    | .store n d => if n = row then d else v
    | .push _ n d => if n = row then d else v
    | _ => v) (s.readRow r c row)

/-- Issues a remote request through a window: the lowest free tag, then the packet, or STALE_GEN at once (R219, R429,
R430). -/
def Block.issueRemote (s : Block) (r c : Nat) (op : PktOp) (row win off cell : Nat) : Block :=
  let (t, tag) := s.takeTag r c op row cell 0
  if s.fenced r c win then t.failTag r c tag 2
  else
    let (dst, core, addr) := s.windowTarget r c win off
    let data := if op = .putReq then s.pipelineRow r c row else 0
    let t := if op = .putReq then t.spadUe r c row else t
    let vc := if op = .putReq ∧ dst.unit < 16 ∧ s.reductionClass r dst core addr then 1 else 3
    t.sendFrom r { Packet.blank with
      op := op, srcCore := s.logicalAt r c, dst := dst, dstCore := core, addr := addr, tag := tag,
      arg := s.fld (AW_CTL.KIND r c win), data := data, vc := vc }

/-- Sends emit entries to the serving unit of the ridge's home die (R301, R524). -/
def Block.issueEmit (s : Block) (r c row count cell : Nat) : Block :=
  let (t, tag) := s.takeTag r c .emit row cell count
  (t.spadUe r c row).sendFrom r { Packet.blank with
    op := .emit, srcCore := s.logicalAt r c, dst := ⟨s.fld (SV_HOME.COORD r), s.fld (SV_HOME.HALF r), 16⟩, tag := tag, arg := count, data := s.pipelineRow r c row, vc := 3 }

/-- An entry of the expert map (R529): target die, half, ridge, logical core, region and flow. -/
structure Expert where
  die : Nat
  half : Nat
  ridge : Nat
  core : Nat
  region : Nat
  flow : Nat
  deriving DecidableEq, Repr

/-- The resolution of an expert of a layer slot through a ridge's active version; `none` where it is not valid (R529). -/
def Block.expert (s : Block) (r slot ex : Nat) : Option Expert :=
  let ver := s.stepVersion r
  let k := slot + 256 * ver
  let i := s.fld (SV_SLOT_DATA.BASE k) + ex + 32768 * ver
  let e := s.pair (SV_EXP_LO i) (SV_EXP_HI i)
  if ex < s.fld (SV_SLOT_DATA.COUNT k) ∧ e % 2 = 1 then
    some ⟨e / 2 % 256, e / 2 ^ 9 % 2, e / 2 ^ 10 % 16, e / 2 ^ 14 % 32, e / 2 ^ 19 % 64, e / 2 ^ 25 % 4096⟩
  else none

/-- Sends a local row to an expert (R300, R529); an invalid map entry completes with REFUSED. -/
def Block.issueMdisp (s : Block) (r c row slot ex cell : Nat) : Block :=
  let (t, tag) := s.takeTag r c .mdisp row cell 0
  match s.expert r slot ex with
  | none => t.failTag r c tag 3
  | some e =>
    if e.die ≠ s.fld FAB_SELF.COORD ∧ !s.bit FAB_STAT.MEMBER then t.failTag r c tag 2
    else
      (t.spadUe r c row).sendFrom r { Packet.blank with
        op := .mdisp, srcCore := s.logicalAt r c, dst := ⟨e.die, e.half, e.ridge⟩, dstCore := e.core, addr := e.region,
        tag := tag, arg := e.flow, data := s.pipelineRow r c row, vc := 3 }

/-! ## SYNC operations (R224–R228, R303) -/

/-- Sends a SYNC operation of a core to a cell of its own ridge, or through a window; a fenced window sends nothing
(R224, R228, R303, R430). A CLAIM's packet carries its destination register in `tag`. -/
def Block.sendSync (s : Block) (r c : Nat) (kind : CellOpKind) (cell : Nat) (xw : Bool) (win : Nat) (v : BitVec 32)
    (rd : Nat) : Block :=
  if !xw then s.send { cellPacket (s.sourceOf r) (s.logicalAt r c) (s.sourceOf r) cell kind v with tag := rd }
  else if s.fenced r c win then s
  else
    let (dst, _, addr) := s.windowTarget r c win cell
    s.sendFrom r { cellPacket (s.sourceOf r) (s.logicalAt r c) dst addr kind v with tag := rd }

/-! ## Circular regions at issue (R321–R327) -/

/-- A core operation on a region: refused while the region is disabled; beyond the pointers it sets FAULT in FAULT mode.
Answers the state and the value written to s[SB] (R299, R321, R326). -/
def Block.regionIssue (s : Block) (r c g : Nat) (ok push : Bool) (f : Block → Block) : Block × Nat :=
  if !s.bit (CR_CTL.EN r c g) then (s, 0)
  else if ok then (f s, 1)
  else if s.bit (if push then CR_CTL.OVF_MODE r c g else CR_CTL.UNF_MODE r c g) then (s.regionFault r c g, 0)
  else (s, 0)

/-- Adds an access to the local pipeline. -/
def Block.pushAccess (s : Block) (r c : Nat) (a : LocalAccess) : Block :=
  s.modCore r c (fun x => { x with accesses := x.accesses ++ [a] })

/-- The effect at issue of cr.push (R323). -/
def Block.crPush (s : Block) (r c g : Nat) (v : Row) : Block × Nat :=
  s.regionIssue r c g (!s.regionFull r c g) true (fun t =>
    let (u, row) := t.reserveRow r c g false
    u.pushAccess r c (.push g row v))

/-- The effect at issue of cr.pop (R323). -/
def Block.crPop (s : Block) (r c g vr : Nat) : Block × Nat :=
  s.regionIssue r c g (decide (s.regionAvail r c g ≥ 1)) false (fun t =>
    (t.advanceHead r c g 1).pushAccess r c (.pop g (s.fld (CR_STAT.HEAD r c g)) vr))

/-- The effect at issue of cr.peek (R323). -/
def Block.crPeek (s : Block) (r c g k vr : Nat) : Block × Nat :=
  s.regionIssue r c g (decide (k < s.regionAvail r c g)) false (fun t =>
    t.pushAccess r c (.peek (s.ringRow r c g (s.fld (CR_STAT.HEAD r c g)) k) vr))

/-- The effect at issue of cr.free (R323). -/
def Block.crFree (s : Block) (r c g k : Nat) : Block × Nat :=
  s.regionIssue r c g (decide (k ≤ s.regionAvail r c g)) false (fun t =>
    (t.advanceHead r c g k).pushAccess r c (.free g k))

/-! ## Drover channels as a core pushes to them (R216, R446) -/

/-- A drover: 0–15 of the ridges, 16 the die's. -/
def Block.droverAt (s : Block) (k : Nat) : Drover := SMap.get Drover.reset s.drv k

/-- A channel. -/
def Block.chan (s : Block) (k ch : Nat) : Chan := SMap.get Chan.reset (s.droverAt k).chans ch

/-- Writes a channel. -/
def Block.setChan (s : Block) (k ch : Nat) (x : Chan) : Block :=
  let d := s.droverAt k
  { s with drv := SMap.set Drover.reset s.drv k { d with chans := SMap.set Chan.reset d.chans ch x } }

/-- Whether a submission queue is full. -/
def Block.chanFull (s : Block) (k ch : Nat) : Bool := decide ((s.chan k ch).queue.length ≥ 16)

/-- Adds an entry to a submission queue (R446). -/
def Block.submit (s : Block) (k ch : Nat) (e : Submission) : Block :=
  let x := s.chan k ch
  (s.setChan k ch { x with queue := x.queue ++ [e] }).setFld (CH_STAT.QDEPTH k ch) (x.queue.length + 1)

/-! ## Effects of an issued bundle -/

/-- Adds a result of latency `lat` to the results on their way. -/
def Block.addResult (s : Block) (r c lat : Nat) (d : Dest) (val mask : Row) : Block :=
  s.modCore r c (fun x => x.addResult ⟨x.clock + lat, d, val, mask⟩)

/-- Puts a command in its engine's queue (R104, R154). -/
def Block.enqueueEng (s : Block) (r c e : Nat) (cmd : EngCmd) : Block :=
  (s.modEngine r c e (fun x =>
    let cmd := { cmd with order := x.issued, step := s.step r, rev := s.rev r }
    let y := { x with issued := x.issued + 1 }
    if cmd.kind = .qmFire ∨ cmd.kind = .qload then { y with qmQueue := x.qmQueue ++ [cmd] }
    else { y with queue := x.queue ++ [cmd] })).showDepths r c e

/-- A vector-unit residue mismatch (R542, R565): counted, a failed check of the current step, and classified. -/
def Block.vectorResidue (s : Block) (r c : Nat) : Block :=
  let t := s.addSat (RI_RESIDUE.VECTOR r) 1
  (t.failedNow r).noteEvent r ⟨c, 8, 15, 4, s.step r, s.rev r, 0, [], (t.reg (RI_RESIDUE r)).toNat, 0⟩

/-- Writes the success value of a region operation (R299, R323). -/
def Block.regionResult (p : Block × Nat) (r c sb : Nat) : Block :=
  p.1.addResult r c 1 (.s sb) (BitVec.ofNat 4096 p.2) allBitsRow

/-- What one effect does when its bundle issues. -/
def Block.applyFx (s : Block) (r c : Nat) (f : Fx) : Block :=
  match f with
  | .result lat d v m => s.addResult r c lat d v m
  | .flags lat f => if f = 0 then s else s.addResult r c lat .f (BitVec.ofNat 4096 f) 0
  | .engine e cmd => s.enqueueEng r c e cmd
  | .access a => s.pushAccess r c a
  | .crPush g v sb => Block.regionResult (s.crPush r c g v) r c sb
  | .crPop g vr sb => Block.regionResult (s.crPop r c g vr) r c sb
  | .crPeek g k vr sb => Block.regionResult (s.crPeek r c g k vr) r c sb
  | .crFree g k sb => Block.regionResult (s.crFree r c g k) r c sb
  | .special code v => s.writeSpecial r c code v
  | .remote op row win off cell => s.issueRemote r c op row win off cell
  | .emit row count cell => s.issueEmit r c row count cell
  | .mdisp row slot ex cell => s.issueMdisp r c row slot ex cell
  | .push ch desc cell => s.submit r ch ⟨none, desc.toNat, r * 1024 + cell, true, s.step r, s.rev r⟩
  | .sync kind cell xw win v => s.sendSync r c kind cell xw win v 0
  | .claim cell xw win v rd =>
    (s.modCore r c (fun x => if rd = 0 then x else { x with claims := x.claims ++ [(rd, cell)] })).sendSync r c .claim cell xw win v rd
  | .wait w =>
    let t := s.modCore r c (fun x => { x with wait := some w })
    if w.wake then t else t.sendSync r c w.kind w.cell w.xw w.win w.value 0
  | .branch _ => s
  | .loop lc n last =>
    s.modCore r c (fun x =>
      let rest := x.loops.filter (fun l => decide (l.lc ≠ lc))
      if n = 0 then { x with loops := rest }
      else { x with loops := ⟨lc, x.pc + 1, last⟩ :: rest, lreg := SMap.set 0 x.lreg lc n })
  | .halt => s.modCore r c (fun x => { x with haltReq := true })
  | .eret => s
  | .topk u t => s.modCore r c (fun x => { x with topk := SMap.set TopK.reset x.topk u t })
  | .nwOpen e o => s.modCore r c (fun x => { x with nwOpen := SMap.ins e o x.nwOpen })
  | .nwEnd e => s.nwEnd r c e
  | .residue => s.vectorResidue r c

/-! ## Issue of a bundle (R206–R214, R231–R236, R305–R307) -/

/-- The target of a bundle's taken branch: br, jr, a loop of count 0, eret. -/
def takenBranch (x : Core) (l : List Fx) : Option Nat :=
  l.findSome? (fun f => match f with
    | .branch t => some t
    | .loop _ n last => if n = 0 then some (last + 1) else none
    | .eret => some x.epc
    | _ => none)

/-- Evaluates the active loops that end at a bundle, the most recently started first (R306): the loops left, the counters,
and the next bundle. -/
def evalLoops (pc : Nat) : List Loop → SMap (BitVec 32) → List Loop × SMap (BitVec 32) × Nat
  | [], regs => ([], regs, pc + 1)
  | l :: rest, regs =>
    if l.last ≠ pc then
      let (ls, regs', next) := evalLoops pc rest regs
      (l :: ls, regs', next)
    else
      let n := SMap.get 0 regs l.lc
      if n.toNat > 1 then (l :: rest, SMap.set 0 regs l.lc (n - 1), l.first)
      else evalLoops pc rest (SMap.set 0 regs l.lc 0)

/-- The program counter and loops after a bundle (R210, R305–R307). -/
def Core.advance (x : Core) (l : List Fx) : Core :=
  match takenBranch x l with
  | some t =>
    if x.handler then { x with pc := t }
    else { x with pc := t, loops := x.loops.filter (fun a => decide (a.first ≤ t ∧ t ≤ a.last)) }
  | none =>
    if x.handler then { x with pc := x.pc + 1 }
    else
      let (ls, regs, next) := evalLoops x.pc x.loops x.lreg
      { x with loops := ls, lreg := regs, pc := next }

/-- Slots in the order A, B, V, E, M, C, by insertion. -/
def insertBySlot {α : Type} (key : α → Nat) (a : α) : List α → List α
  | [] => [a]
  | b :: rest => if key a < key b then a :: b :: rest else b :: insertBySlot key a rest

/-- The exception that a duplicate destination raises: the later of its two slots, the first such slot (R209, R232,
R266). -/
def duplicateSlot (l : List (Nat × Dest)) : Option Nat :=
  let sorted := l.foldr (insertBySlot (·.1)) []
  let late := (List.range sorted.length).filter (fun i => match sorted[i]? with
    | some (_, d) => (sorted.take i).any (fun e => decide (e.2 = d))
    | none => false)
  late.head?.bind (fun i => (sorted[i]?).map (·.1))

/-- The order in which the exceptions of a bundle and the sub-causes of ILLEGAL_BUNDLE take effect (R232). -/
def excRank (e : SlotExc) : Nat :=
  let major := match e.code with | 1 => 0 | 3 => 1 | 2 => 2 | _ => 3
  let minor := if e.code = 1 then (match e.sub with | 6 => 0 | 5 => 1 | n => n + 1) else 0
  (major * 16 + minor) * 8 + e.slot

/-- The exception that a bundle at a program counter takes (R209, R231, R232). -/
def bundleExc (pc : Nat) (b : Bundle) : Option SlotExc :=
  let l := b.excs ++ (if pc ≥ 4096 then [⟨1, 6, 7, 6⟩] else [])
    ++ (match duplicateSlot b.dests with | some k => [⟨1, 2, k, 2⟩] | none => [])
  l.foldl (fun o e => match o with
    | none => some e
    | some a => if excRank e < excRank a then some e else some a) none

/-- Enters a hold (R212, R213): the cause, and what it waits for. -/
def Block.hold (s : Block) (r c cause : Nat) (on : List Nat) : Block :=
  ((s.modCore r c (fun x => { x with bundle := Bundle.none, heldOn := on })).setFld (CORE_STAT.STATE r c) 2).setFld
    (CORE_STAT.HOLD_CAUSE r c) cause

/-- The drover channel that a bundle pushes to. -/
def pushChannel (l : List Fx) : Option Nat := l.findSome? (fun f => match f with | .push ch _ _ => some ch | _ => none)

/-- Whether a bundle takes a tag. -/
def needsTag (l : List Fx) : Bool :=
  l.any (fun f => match f with | .remote _ _ _ _ _ => true | .emit _ _ _ => true | .mdisp _ _ _ _ => true | _ => false)

/-- Adds cycles to CYCLE (R214). -/
def Block.addCycles (s : Block) (r c n : Nat) : Block :=
  s.setPair (CORE_CYCLES_LO r c) (CORE_CYCLES_HI r c) (s.pair (CORE_CYCLES_LO r c) (CORE_CYCLES_HI r c) + n)

/-- A bundle issues: its effects in slot order, then the program counter, the cycle counts and the results due (R206,
R207, R210, R214). -/
def Block.issueBundle (s : Block) (r c : Nat) (b : Bundle) : Block :=
  let x := s.coreAt r c
  let n := if (takenBranch x b.fx).isSome then 3 else 1
  let t := s.modCore r c (fun x => { x with bundle := Bundle.none })
  let t := b.fx.foldl (fun t f => t.applyFx r c f) t
  let t := t.setFld (CORE_PC.PC r c) x.pc
  let t := if x.handler then t else t.addCycles r c n
  let t := t.modCore r c (fun y =>
    let z := y.advance b.fx
    { z.land (z.clock + n) with clock := z.clock + n })
  let t := if b.fx.contains .eret then
      (t.modCore r c (fun y => { y with handler := false, wait := y.heldWait, heldWait := none })).setFld (CORE_STAT.STATE r c) 1
    else t
  if (t.coreAt r c).wait.isSome then t.hold r c 3 [] else t.boundary r c

/-- The bundle whose slots have been given closes: a waiting exception, an illegal encoding, a hold, another exception, or
issue (R206, R209, R212, R231, R232). -/
def Block.closeBundle (s : Block) (r c : Nat) : Block :=
  let x := s.coreAt r c
  let b := x.bundle
  let t := s.modCore r c (fun y => { y with bundle := Bundle.none })
  if !x.excWait.isEmpty || x.haltReq then t.boundary r c
  else
    let e := bundleExc x.pc b
    match e with
    | some ⟨1, sub, slot, info⟩ => t.takeException r c 1 sub slot info
    | _ =>
      if !b.reads.isEmpty then t.hold r c 4 b.reads
      else match e with
        | some e => t.takeException r c e.code e.sub e.slot e.info
        | none =>
          if needsTag b.fx && x.tagsFull then t.hold r c 1 []
          else match pushChannel b.fx with
            | some ch => if s.chanFull r ch then t.hold r c 2 [ch] else s.issueBundle r c b
            | none => s.issueBundle r c b

/-- Whether a core issues bundles now (R128, R142, R144, R239, R557, R643). -/
def Block.issues (s : Block) (r c : Nat) : Bool :=
  let x := s.coreAt r c
  let st := s.fld (CORE_STAT.STATE r c)
  decide (st = 1 ∨ st = 3) && decide (x.frame = 0) && !x.lvHold && (s.ri r).replay.isNone && !s.bit PM_PF_STAT.LATCHED
    && decide (s.ridgeState r = 0)

/-- What one slot adds to its bundle. -/
structure SlotOut where
  dests : List Dest
  excs : List SlotExc
  reads : List Nat
  fx : List Fx
  deriving DecidableEq, Repr

/-- A slot joins the bundle that is now being issued; the last one closes it. A core that does not issue leaves the slot
unissued (log entry 12). -/
def Block.slot (s : Block) (r c k : Nat) (last : Bool) (o : SlotOut) : Block :=
  if !s.issues r c then s
  else
    let t := s.modCore r c (fun x => { x with bundle :=
      { dests := x.bundle.dests ++ (o.dests.filter (fun d => decide (d ≠ .s 0 ∧ d ≠ .p 0))).map (fun d => (k, d))
        excs := x.bundle.excs ++ o.excs
        reads := x.bundle.reads ++ o.reads
        fx := x.bundle.fx ++ o.fx } })
    if last then t.closeBundle r c else t

/-- The exception ILLEGAL_BUNDLE with a sub-cause in a slot (R231, R266, R818). -/
def illegal (sub slot : Nat) : SlotExc := ⟨1, sub, slot, sub⟩

/-- Those registers that a pending CLAIM will write (R212). -/
def Core.claimed (x : Core) (l : List Nat) : List Nat := l.filter (fun n => x.claims.any (fun e => decide (e.1 = n)))

/-- A slot's output from its encoding checks, its named destinations, the registers it reads, and its exceptions and
effects once the encoding is legal and the guard holds (R262, R264). -/
def slotOut (x : Core) (k : Nat) (guard : Bool) (checks : List (Bool × Nat)) (dests : List Dest) (reads : List Nat)
    (run : Unit → List SlotExc × List Fx) : SlotOut :=
  let bad := (checks.filter (·.1)).map (fun e => illegal e.2 k)
  if !bad.isEmpty then ⟨dests, bad, [], []⟩
  else if !guard then ⟨dests, [], [], []⟩
  else
    let (es, fx) := run ()
    ⟨dests, es, x.claimed reads, if es.isEmpty then fx else []⟩

end Sys2Proof.Machine
end

