-- ==== Sys2Proof/Machine/TierOps.lean ====
section
/-! DEFINITION. Shared operations of grants and of the cache tier (R333–R342, R609, R613–R615). -/
namespace Sys2Proof.Machine

/-! ## Grants (R613–R615) -/

/-- The die's serial. -/
def Block.serial (s : Block) : Nat := s.pair ID_SERIAL_LO ID_SERIAL_HI

/-- The grants in force: an expired grant is treated as absent. -/
def Block.liveGrants (s : Block) : List Grant :=
  (s.tr.grants.map (·.2)).filter (fun g => decide (g.expiry = 0 ∨ s.cairn.time < g.expiry))

/-- Whether a grant covers an extent of a kind and ridge with the rights it needs. -/
def Grant.covers (g : Grant) (kind ridge core lo extent : Nat) (rd wr : Bool) : Bool :=
  decide (g.kind = kind ∧ g.targetRidge = ridge ∧ g.base ≤ lo ∧ lo + extent ≤ g.limit + 1)
    && (decide (kind ≠ 0) || decide (g.targetCore = 255 ∨ g.targetCore = core)) && (g.rd || !rd) && (g.wr || !wr)

/-- Whether a grant of this die's own ranges names a ridge of a die as grantee. -/
def Block.grants (s : Block) (g : Grant) (die ridge : Nat) : Bool :=
  decide (g.targetSerial = s.serial ∧ g.granteeRidge = ridge)
    && (decide (g.granteeCoord = die) || decide (g.granteeCoord = 0xFFFF ∧ die = s.fld FAB_SELF.COORD))

/-- Whether a request of a ridge of a die to an extent of another ridge's range is granted here (R615). -/
def Block.requestGranted (s : Block) (die ridge kind target core lo extent : Nat) (wr : Bool) : Bool :=
  s.liveGrants.any (fun g => s.grants g die ridge && g.covers kind target core lo extent (!wr) wr)

/-- Whether the target of a window lies in another ridge or on another die (R218). -/
def Block.windowNeedsGrant (s : Block) (r c i : Nat) (remote : Bool) (kind : Nat) : Bool :=
  let lo := s.reg (AW_TGT_LO r c i)
  let first := getBits lo 0 14
  let last := first + (s.fld (AW_SIZE.SIZE r c i) - 1)
  remote || (match kind with
    | 0 => decide (getBits lo 17 4 ≠ r)
    | 2 => decide (first / 1024 ≠ r ∨ last / 1024 ≠ r)
    | _ => false)

/-- Whether a live grant covers a window's range and rights for the window's ridge (R218, R615). On the grantee's die the
target die is known by a serial that is not this die's; a cache-tier window's owner ridge is the grant's. -/
def Block.windowGranted (s : Block) (r c i : Nat) (remote : Bool) (kind : Nat) (rd wr : Bool) : Bool :=
  let lo := s.reg (AW_TGT_LO r c i)
  let size := s.fld (AW_SIZE.SIZE r c i)
  s.liveGrants.any (fun g =>
    (if remote then decide (g.targetSerial ≠ s.serial ∧ g.granteeCoord = s.fld FAB_SELF.COORD ∧ g.granteeRidge = r)
      else s.grants g (s.fld FAB_SELF.COORD) r)
    && (match kind with
      | 0 => g.covers 0 (getBits lo 17 4) (getBits lo 12 5) (getBits lo 0 12) size rd wr
      | 1 => g.covers 1 g.targetRidge 0 (getBits lo 0 29 / 8) ((getBits lo 0 29 + size + 7) / 8 - getBits lo 0 29 / 8) rd wr
      | _ => g.covers 2 (getBits lo 0 14 / 1024) 0 (getBits lo 0 14 % 1024) size rd wr))

/-! ## The cache tier (R333–R341) -/

/-- Units of the cache tier (R333). -/
def cacheUnits : Nat := 215999987712 / 512

/-- The stack of a unit (R334). -/
def stackOf (unit : Nat) : Nat := unit / 8 % 6

/-- The valid region that covers a unit. -/
def Block.regionOf (s : Block) (unit : Nat) : Option Nat :=
  (List.range 64).find? (fun i => s.bit (CT_REG_CTL.VALID i)
    && decide (s.fld (CT_REG_BASE.BASE_G i) ≤ unit / 8 ∧ unit / 8 ≤ s.fld (CT_REG_LIMIT.LIMIT_G i)))

/-- The owner of a unit's region. -/
def Block.ownerOf (s : Block) (unit : Nat) : Option Nat := (s.regionOf unit).map (fun i => s.fld (CT_REG_CTL.OWNER i))

/-- Why an access is refused: 1 beyond the tier, 2 no region, 3 no grant; `none` where it is performed (R333, R341). -/
def Block.cacheRefusal (s : Block) (die requester unit : Nat) (write : Bool) : Option Nat :=
  if unit ≥ cacheUnits then some 1
  else match s.ownerOf unit with
    | none => some 2
    | some o =>
      if o = requester ∧ die = s.fld FAB_SELF.COORD then none
      else if s.requestGranted die requester 1 o 0 (unit / 8) 1 write then none
      else some 3

/-- A refused access (R341). -/
def Block.cacheRefuse (s : Block) (unit reason : Nat) : Block :=
  let t := s.addReg CT_REFUSED_CNT 1
  ((t.setFld CT_REFUSED_INFO.UNIT unit).setFld CT_REFUSED_INFO.REASON reason).raise (diePage 15) Irq.cacheTier_CT_REFUSED

/-- The key that a unit's region uses now: its owner and the number of the owner's draws (R340, R609). -/
def Block.unitKey (s : Block) (unit : Nat) : Nat :=
  let o := (s.ownerOf unit).getD 16
  o * 2 ^ 32 + SMap.get 0 s.tr.xts o

/-- A unit in clear under the key of its region; a unit written under another key reads as a free value (R342). -/
def Block.clearUnit (s : Block) (unit : Nat) : Row × Block :=
  match SMap.find unit s.cache.units with
  | none => (0, s)
  | some v =>
    if SMap.get (s.unitKey unit) s.cache.keys unit = s.unitKey unit then (v, s)
    else (BitVec.ofNat 4096 s.freeNat, s.tick)

/-- What an access finds in a unit's code (R337): corrected errors and newly uncorrectable codewords of the stack are
counted and recorded. -/
def Block.unitEcc (s : Block) (unit corrected : Nat) (bad : List (Fin 8)) : Block :=
  let h := stackOf unit
  let t := { s with cache := { s.cache with bad := (s.cache.bad ++ bad.map (fun k => unit * 8 + k.val)).eraseDups } }
  let t := if corrected = 0 then t else (t.addReg (CT_ECC_CORR h) corrected).raise (diePage (16 + h)) Irq.stack_ECC_CORR
  let n := (t.cache.bad.filter (fun b => decide (b / 8 = unit))).length
  if n = 0 then t
  else
    let t := (t.addReg (CT_ECC_UE h) n).setReg (CT_ERR_ADDR_LO h) (BitVec.ofNat 32 (unit * 512))
    (t.setReg (CT_ERR_ADDR_HI h) (BitVec.ofNat 32 (unit * 512 / 2 ^ 32))).raise (diePage (16 + h)) Irq.stack_ECC_UE

/-- Whether a unit holds an uncorrectable codeword. -/
def Block.unitBad (s : Block) (unit : Nat) : Bool := s.cache.bad.any (fun b => decide (b / 8 = unit))

/-- The bits of the bytes that a mask enables. -/
def byteMask (m : BitVec 512) : Row :=
  BitVec.ofNat 4096 (((List.range 512).map (fun k => if m.getLsbD k then 255 <<< (8 * k) else 0)).sum)

/-- The codewords of a unit that a byte mask covers in part, or wholly. -/
def maskedCodewords (m : BitVec 512) (whole : Bool) : List Nat :=
  (List.range 8).filter (fun k =>
    let n := ((List.range 64).filter (fun b => m.getLsbD (64 * k + b))).length
    if whole then decide (n = 64) else decide (0 < n ∧ n < 64))

/-- Writes the enabled bytes of a unit (R335): a codeword covered wholly is written afresh; an uncorrectable codeword
covered in part keeps its contents and its error. Answers whether the write met one. -/
def Block.storeUnit (s : Block) (unit : Nat) (v : Row) (m : BitVec 512) : Block × Bool :=
  let (old, t) := if m = BitVec.allOnes 512 then (0, s) else s.clearUnit unit
  let stuck := (maskedCodewords m false).filter (fun k => t.cache.bad.contains (unit * 8 + k))
  let keep := (stuck.map (fun k => (2 ^ 64 - 1) <<< (64 * k))).sum
  let m' := m &&& ~~~(BitVec.ofNat 512 keep)
  let bits := byteMask m'
  let fresh := (maskedCodewords m true).map (fun k => unit * 8 + k)
  ({ t with cache := { t.cache with
      units := SMap.set 0 t.cache.units unit ((old &&& ~~~bits) ||| (v &&& bits))
      keys := SMap.ins unit (t.unitKey unit) t.cache.keys
      bad := t.cache.bad.filter (fun b => !fresh.contains b) } }, !stuck.isEmpty)

/-- Whether a unit lies in the serving area or in the KV region (R502, R513). -/
def Block.twinUnit (s : Block) (unit : Nat) : Bool :=
  let area := s.fld SV_AREA.BASE_G * 8
  let kv := s.fld SV_KV_BASE.BASE_G * 8
  decide (area ≤ unit ∧ unit < area + 11534336) || decide (kv ≤ unit ∧ unit < kv + s.fld SV_KV_HANDLES.HANDLES * s.fld SV_KV_STRIDE.STRIDE)

/-- A write of a unit; on an active die the unit is noted for the next epoch (R577). -/
def Block.writeUnit (s : Block) (unit : Nat) (v : Row) (m : BitVec 512) : Block × Bool :=
  let (t, lost) := s.storeUnit unit v m
  if s.fld TW_CTL.ROLE = 1 && s.twinUnit unit && !s.tw.dirty.contains unit then
    ({ t with tw := { t.tw with dirty := t.tw.dirty ++ [unit] } }, lost)
  else (t, lost)

/-- Every byte of a unit. -/
def allBytes : BitVec 512 := BitVec.allOnes 512

/-- A stack's waiting accesses. -/
def Block.stackQueue (s : Block) (h : Nat) : List CacheReq := SMap.get [] s.cache.queues h

/-- Writes a stack's waiting accesses and CT_STAT.OUTSTANDING. -/
def Block.setStackQueue (s : Block) (h : Nat) (l : List CacheReq) : Block :=
  ({ s with cache := { s.cache with queues := SMap.set [] s.cache.queues h l } }).setFld (CT_STAT.OUTSTANDING h) l.length

end Sys2Proof.Machine
end

