-- ==== Sys2Proof/Machine/Deliver.lean ====
section
/-! DEFINITION. Shared operations of packets that arrive at a ridge, a scratchpad or the cache tier: the checks of the
target's interface, and the rows and units that requests read and write (R219–R223, R309–R316, R335, R341, R379, R496,
R549, R556, R632). -/
namespace Sys2Proof.Machine

/-! ## Packets on their way -/

/-- Whether a packet asks for a completion (R219, R222). -/
def PktOp.asks (o : PktOp) : Bool := decide (o = .getReq ∨ o = .putReq ∨ o = .mdisp ∨ o = .emit ∨ o = .drvBeat)

/-- Whether a packet answers a request: it is neither a request nor posted (R412). -/
def PktOp.answers (o : PktOp) : Bool := decide (o = .completion ∨ o = .getData ∨ o = .syncAnswer)

/-- Whether a packet is a request or a posted packet that R556 voids. -/
def PktOp.voidable (o : PktOp) : Bool := o.asks || decide (o = .syncOp ∨ o = .batchRow)

/-- Whether two packets go from one interface to one interface in one virtual channel (R355, R360). -/
def sameWay (a b : Packet) : Bool :=
  decide (a.src.die = b.src.die ∧ a.src.unit = b.src.unit ∧ a.dst.die = b.dst.die ∧ a.dst.unit = b.dst.unit ∧ a.vc = b.vc)
    && (decide (a.dst.unit ≠ cacheUnit) || decide (stackOf a.addr = stackOf b.addr))

/-- Whether a packet is on its way and the first of those that arrive in the order sent (R360). -/
def Block.isSent (s : Block) (p : Packet) : Bool := decide (s.int.sent.find? (sameWay p) = some p)

/-- Takes a packet off the network. -/
def Block.takeSent (s : Block) (p : Packet) : Block := { s with int := { s.int with sent := s.int.sent.erase p } }

/-- Puts held packets back in front of the others (R632). -/
def Block.sendFirst (s : Block) (l : List Packet) : Block := { s with int := { s.int with sent := l ++ s.int.sent } }

/-- The unit of a source that is the die drover, and the one that is the host. -/
def droverUnit : Nat := 18
def hostUnit : Nat := 19

/-- An aperture access that is not performed or meets an uncorrectable error, which has REASON 0 (R751). -/
def Block.apDrop (s : Block) (window fn reason : Nat) : Block :=
  let t := s.addReg HP_AP_DROP 1
  let t := ((t.setFld HP_AP_LAST.WINDOW window).setFld HP_AP_LAST.FUNC fn).setFld HP_AP_LAST.REASON reason
  t.raise (diePage 9) Irq.hostPort_AP_DROP

/-- The end of an aperture access (R751, R752): the bytes that a read names, as its tag carries them. -/
def Block.hostReply (s : Block) (p : Packet) (status : Nat) (data : Row) : Block :=
  if status ≠ 0 then { s.apDrop p.srcCore p.step (if status = 3 then 4 else 0) with answer := [] }
  else { s with answer := if p.op = .getReq then
      (List.range (p.tag % 1024)).map (fun k => BitVec.ofNat 8 (data.toNat / 2 ^ (8 * (p.tag / 1024 + k)))) else [] }

/-- The answer of a target to a packet: back to the requesting core, with the tag and a status (R222, R223). A
reduction-class PUT is answered in the control channel (R358); the host port answers the host. -/
def Block.reply (s : Block) (p : Packet) (op : PktOp) (status : Nat) (data : Row) : Block :=
  if p.src.unit = hostUnit then s.hostReply p status data
  else s.send { Packet.blank with
    op := op, src := p.dst, srcCore := p.dstCore, dst := p.src, dstCore := p.srcCore, step := p.step, rev := p.rev,
    gen := p.gen, tag := p.tag, arg := p.arg, status := status, data := data, vc := if p.vc = 1 then 0 else 2 }

/-- A packet that is not delivered: a request completes with a status, another packet is dropped. -/
def Block.turnAway (s : Block) (p : Packet) (status : Nat) : Block :=
  if p.op.asks then s.reply p .completion status 0 else s

/-- The flank of a unit of the die (R355): ridges 0–7 and stacks H0–H2 are west, and so are the die drover, the host port
and the serving unit of half 0. -/
def flankOf (u : Source) (addr : Nat) : Nat :=
  if u.unit < 16 then u.unit / 8 else if u.unit = cacheUnit then stackOf addr / 3 else if u.unit = 16 then u.half % 2 else 0

/-! ## Delivery at a unit (R379, R556, R632, R634, R635, R246) -/

/-- The interface of a ridge takes a packet: held, turned away, void, or recorded and delivered (answer `true`). -/
def Block.enterRidge (s : Block) (p : Packet) : Block × Bool :=
  let r := p.dst.unit
  let hold (t : Block) : Block × Bool :=
    ({ t with pow := { t.pow with held := SMap.set [] t.pow.held r (SMap.get [] t.pow.held r ++ [p]) } }, false)
  let deliver (t : Block) : Block × Bool :=
    let paused := match SMap.find r t.mig with
      | some m => if m.phase = 3 ∧ m.logical = p.dstCore ∧ p.op ≠ .syncOp ∧ p.op ≠ .commitMsg ∧ p.op ≠ .retractMsg then some m.source else none
      | none => none
    match paused with
    | some c => (t.modCore r c (fun x => { x with held := x.held ++ [p] }), false)
    | none =>
      if p.op.voidable && decide (p.src.unit ≤ 16) && t.isVoid r p.src p.step p.rev then
        ((t.addReg (RI_STALE_DROP r) 1).turnAway p 3, false)
      else (if p.prov then t.recordInput r p.step p.src p.rev else t, true)
  match s.ridgeState r with
  | 2 => hold (s.wakeRidge r 5)
  | 3 => (s.turnAway p 1, false)
  | 4 =>
    if s.fld (PM_RIDGE_STAT.ENTRY_STEP r) ≥ 3 then
      if s.fld (PM_RIDGE_STAT.TARGET r) = 2 then hold (s.wakeRidge r 5) else (s.turnAway p 1, false)
    else if s.fld (PM_RIDGE_STAT.TARGET r) = 2 then deliver (s.wakeRidge r 5)
    else deliver s
  | 5 => hold s
  | _ => deliver (s.dozeWake r)

/-- A packet that has crossed to this die, or started on it, reaches its unit (R379). -/
def Block.enter (s : Block) (p : Packet) : Block × Bool :=
  if p.dst.unit < 16 then s.enterRidge p else (s, true)

/-- A packet on its way arrives: it is delivered (answer `true`), or held, turned away, dropped, or left for the fabric
when its unit is on another die or cut off by a split. -/
def Block.arrive (s : Block) (p : Packet) : Block × Bool :=
  if !s.isSent p ∨ p.dst.die ≠ s.fld FAB_SELF.COORD then (s, false)
  else
    let a := flankOf p.src p.addr
    let b := flankOf p.dst p.addr
    if s.fab.crossed.contains p then
      (({ s with fab := { s.fab with crossed := s.fab.crossed.erase p } }).takeSent p).enter p
    else if s.bit (NET_STAT.SPLIT 0) ∧ p.src.die = p.dst.die ∧ a ≠ b then
      if s.bit (NET_CTL.SPLIT_FABRIC_EN a) then (s, false)
      else if p.op.asks then ((s.takeSent p).reply p .completion 1 0, false)
      else (((s.takeSent p).addReg (NET_SPLIT_DROP a) 1).raise (diePage (22 + a)) Irq.flank_SPLIT_DROP, false)
    else (s.takeSent p).enter p

/-! ## The shared phase of a scratchpad (R309–R316, R331, R345) -/

/-- What the code of a row finds in an access (R314): corrected errors, and words that are newly uncorrectable. -/
def Block.rowEcc (s : Block) (r c row corrected : Nat) (bad : List (Fin 64)) : Block :=
  let t := if corrected = 0 then s else s.addSat (SP_ECC.CORRECTED r c) corrected
  if bad.isEmpty then t
  else t.modSpad r c (fun x => { x with bad := (x.bad ++ bad.map (fun w => row * 64 + w.val)).eraseDups })

/-- The oldest local access of a core acts on its bank (R311, R314, R323–R325). -/
def Block.localAccess (s : Block) (r c corrected : Nat) (bad : List (Fin 64)) : Block :=
  match (s.coreAt r c).accesses with
  | [] => s
  | a :: rest =>
    let t := s.modCore r c (fun x => { x with accesses := rest })
    let read (row vr : Nat) : Block :=
      let u := t.rowEcc r c row corrected bad
      (u.modCore r c (fun x => x.put (.v vr) (u.readRow r c row) allBitsRow)).spadUe r c row
    match a with
    | .load row vr => read row vr
    | .peek row vr => read row vr
    | .store row v => t.writeRow r c row v allWords
    | .push g row v => (t.writeRow r c row v allWords).landRow r c g row
    | .pop g row vr =>
      let u := read row vr
      let n := SMap.get 0 (u.spadAt r c).headAhead g
      if n = 0 then u
      else (u.modSpad r c (fun x => { x with headAhead := SMap.set 0 x.headAhead g (n - 1) })).freeRows r c g 1
    | .free g k =>
      let n := SMap.get 0 (t.spadAt r c).headAhead g
      let m := min n k
      if m = 0 then t
      else (t.modSpad r c (fun x => { x with headAhead := SMap.set 0 x.headAhead g (n - m) })).freeRows r c g m

/-- The row that the oldest local access reads or writes, and whether it writes. -/
def Core.nextAccess (x : Core) : Option (Nat × Bool) :=
  match x.accesses with
  | .load row _ :: _ | .peek row _ :: _ | .pop _ row _ :: _ => some (row, false)
  | .store row _ :: _ | .push _ row _ :: _ => some (row, true)
  | _ => none

/-- A collision in the tarn bank (R316): port B's write of the words is discarded. -/
def Block.tarnCollision (s : Block) (r c row source : Nat) (mask : BitVec 64) : Block :=
  let word := ((List.range 64).find? (fun w => mask.getLsbD w)).getD 0
  let t := s.addReg (SP_TARN_COLL r c) 1
  let t := ((t.setFld (SP_TARN_STAT.SOURCE r c) source).setFld (SP_TARN_STAT.WORD r c) word).setFld (SP_TARN_STAT.ROW r c) (row - 3840)
  (t.setBit (SP_TARN_STAT.COLLISION r c) true).raise (sitePage r c 9) Irq.spad_TARN_COLL

/-- A shared write of a row in a cycle in which the oldest local access acts too, or not (R311, R316); answers whether
words were discarded. -/
def Block.sharedWrite (s : Block) (r c row : Nat) (v : Row) (mask : BitVec 64) (source : Nat) (withCore : Bool)
    (corrected : Nat) (bad : List (Fin 64)) : Block × Bool :=
  let u := if withCore then s.localAccess r c corrected bad else s
  if withCore && decide (row ≥ 3840) && decide ((s.coreAt r c).nextAccess = some (row, true)) && decide (mask ≠ 0) then
    (u.tarnCollision r c row source mask, true)
  else (u.writeRow r c row v mask, false)

/-- A shared read of a row in a cycle in which the oldest local access acts too, or not (R311, R316): a tarn bank's read
sees the old data, another bank's the core's write. Answers the row, and whether it holds an uncorrectable word. -/
def Block.sharedRead (s : Block) (r c row : Nat) (withCore : Bool) (corrected : Nat) (bad : List (Fin 64)) :
    Block × Row × Bool :=
  let read (t : Block) : Block × Row × Bool :=
    let t := t.rowEcc r c row corrected bad
    if (t.badWords r c row).isEmpty then (t, t.row r c row, false)
    else ((t.countSpadUe r c row), 0, true)
  if withCore && decide (row ≥ 3840) then
    let (t, v, ue) := read s
    (t.localAccess r c 0 [], v, ue)
  else read (if withCore then s.localAccess r c 0 [] else s)

/-- Whether a row of a core with valley blocks is for the core's own reads alone (R496). -/
def Block.valleyHidden (s : Block) (r c row : Nat) : Bool :=
  decide (s.valleyBlocks r (s.logicalAt r c) ≠ 0)
    && (decide (row ≥ 3840) || (s.bit (CR_CTL.EN r c 63)
      && decide (s.fld (CR_CFG.BASE r c 63) ≤ row ∧ row < s.fld (CR_CFG.BASE r c 63) + s.fld (CR_CFG.SIZE r c 63))))

/-- The source ID of a packet's sender at a ridge (R330). -/
def Block.sourceId (s : Block) (r : Nat) (p : Packet) : Nat :=
  if p.src.die ≠ s.fld FAB_SELF.COORD then 52 + p.port
  else if p.src.unit = 16 then 51
  else if p.src.unit = droverUnit then 49
  else if p.src.unit = hostUnit then 50
  else if p.src.unit = r then (if p.srcCore = 32 then 48 else p.srcCore)
  else 32 + p.src.unit

/-- A request of the shared phase is served and answered (R219, R222, R314). -/
def Block.serveShared (s : Block) (r c : Nat) (q : SharedReq) (withCore : Bool) (corrected : Nat) (bad : List (Fin 64)) :
    Block :=
  if q.write then
    let (t, lost) := s.sharedWrite r c q.row q.data q.mask q.source withCore corrected bad
    t.reply { q.pkt with arg := if lost then 1 else 0 } .completion 0 0
  else if s.valleyHidden r c q.row then s.reply q.pkt .completion 3 0
  else
    let (t, v, ue) := s.sharedRead r c q.row withCore corrected bad
    if ue then t.reply q.pkt .completion 4 0 else t.reply q.pkt .getData 0 v

/-- Whether a request of another ridge or die to a row is granted (R615); a ridge's own cores need no grant. -/
def Block.rowGranted (s : Block) (p : Packet) (row : Nat) (wr : Bool) : Bool :=
  decide (p.src.die = s.fld FAB_SELF.COORD ∧ p.src.unit = p.dst.unit)
    || s.requestGranted p.src.die p.src.unit 0 p.dst.unit p.dstCore row 1 wr

/-- A GET or PUT that was delivered to a scratchpad: turned away without a grant or beyond the rows, served at once when
the shared phase is free, or queued (R310, R368, R615). -/
def Block.askRow (s : Block) (p : Packet) (write busy : Bool) (corrected : Nat) (bad : List (Fin 64)) : Block :=
  let r := p.dst.unit
  let c := s.siteOf r p.dstCore
  if s.net.unreachable.contains (r, c) then s.reply p .completion 1 0
  else if p.addr ≥ 4096 ∨ !s.rowGranted p p.addr write then s.reply p .completion 3 0
  else
    let q : SharedReq := ⟨write, p.addr, p.data, allWords, s.sourceId r p, p⟩
    if !busy && (s.spadAt r c).queue.isEmpty then s.serveShared r c q false corrected bad else s.askShared r c q

/-! ## The cache tier (R335, R337, R341) -/

/-- The requester of a cache-tier access: the ridge, or 16 for the die. -/
def tierRequester (u : Source) : Nat := if u.unit < 16 then u.unit else 16

/-- An access of a unit is performed and answered (R335, R337). -/
def Block.serveUnit (s : Block) (q : CacheReq) (corrected : Nat) (bad : List (Fin 8)) : Block :=
  let t := s.unitEcc q.unit corrected bad
  if q.write then
    let (u, met) := t.writeUnit q.unit q.data q.mask
    u.reply q.pkt .completion (if met then 4 else 0) 0
  else if t.unitBad q.unit then t.reply q.pkt .completion 4 0
  else
    let (v, u) := t.clearUnit q.unit
    u.reply q.pkt .getData 0 v

/-- A GET or PUT that was delivered to the cache tier (R333, R335, R341). -/
def Block.askUnit (s : Block) (p : Packet) (write busy : Bool) (corrected : Nat) (bad : List (Fin 8)) : Block :=
  match s.cacheRefusal p.src.die (tierRequester p.src) p.addr write with
  | some why => (s.cacheRefuse p.addr why).reply p .completion 3 0
  | none =>
    let h := stackOf p.addr
    let q : CacheReq := ⟨p.addr, p.src.die, tierRequester p.src, write, p.data, allBytes, p⟩
    if !busy && (s.stackQueue h).isEmpty then s.serveUnit q corrected bad
    else s.setStackQueue h (s.stackQueue h ++ [q])

end Sys2Proof.Machine
end

