-- ==== Sys2Proof/Machine/Access.lean ====
section
/-! DEFINITION. Register accesses through BAR0 (R748, R777–R787): where an address lies, whether its page answers, what a
bound ridge's protected state allows, how a write stores by access code, and what a read returns. -/
namespace Sys2Proof.Machine

/-- Where a BAR0 access lands: a page and offset, a page that the function's view denies (R748), or a reserved range
(R778). -/
inductive Place where
  | at (page off : Nat)
  | denied
  | unmapped
  deriving DecidableEq, Repr

/-- The place of DW address `dw` of a requester's BAR0 (R747, R748, R782–R787). -/
def place (req : Requester) (dw : Nat) : Place :=
  let a := dw * 4
  if req.val = 0 ∨ req.val = 17 then
    if pageKind (a / 4096) = .reserved then .unmapped else .at (a / 4096) (a % 4096)
  else
    let r := req.val - 1
    if a < 0x400000 then
      let page := 4096 + r * 1024 + a / 4096
      if pageKind page = .reserved then .unmapped else .at page (a % 4096)
    else if a < 0x500000 then
      let p := (a - 0x400000) / 4096
      if p = 0 ∨ p = 13 ∨ p = 14 then .at p (a % 4096) else .denied
    else .unmapped

/-- What makes a page answer (R784, R785, R787). -/
inductive Answers where
  | baseCamp | hostPort | network | ridge (r : Nat)
  deriving DecidableEq, Repr

/-- The "Answers" column of a page. -/
def answers (page : Nat) : Answers :=
  if page < 4096 then
    if page ≤ 8 ∨ page = 10 then .baseCamp else if page = 9 then .hostPort else .network
  else
    let r := (page - 4096) / 1024
    if (page - 4096) % 1024 = 4 then .baseCamp else .ridge r

/-- Whether a page answers now (R784). -/
def Block.pageUp (s : Block) (page : Nat) : Bool :=
  match answers page with
  | .baseCamp => decide (s.fld PM_DIE_STAT.STATE = 1 ∨ s.fld PM_DIE_STAT.STATE = 2)
  | .hostPort => s.bit HP_LINK.UP
  | .network => s.dieActive
  | .ridge r => s.ridgeUp r

/-- An access to a reserved range or page (R778, R789). -/
def Block.countUnmapped (s : Block) (req : Requester) (dw : Nat) (write : Bool) : Block :=
  let t := s.addReg ID_UNMAPPED 1
  ((t.setFld ID_UNMAPPED_LAST.DW dw).setFld ID_UNMAPPED_LAST.FUNC (if req.val = 17 then 0 else req.val)).setBit
    ID_UNMAPPED_LAST.WRITE write

/-- An access that a virtual function's view denies (R748). -/
def Block.countDenied (s : Block) : Block := (s.addReg HP_VF_DENIED 1).raise (diePage 9) Irq.hostPort_VF_DENIED

/-- A denied access to protected state (R617, R621). -/
def Block.trustDenied (s : Block) (req r reason : Nat) : Block :=
  let t := s.addReg (TR_DENIED 16) 1
  let t := ((t.setFld (TR_DENIED_INFO.FUNC 16) req).setFld (TR_DENIED_INFO.RIDGE 16) r).setFld (TR_DENIED_INFO.REASON 16) reason
  t.raise (diePage 8) Irq.trust_DENIED

/-- Whether the requester is outside the trust of a bound ridge: the physical function always, virtual function r unless
POLICY has VF_TRUST = 1 (R617); the base-camp firmware never. -/
def Block.outsider (s : Block) (req : Requester) (r : Nat) : Bool :=
  s.bound r && (decide (req.val = 0) || (decide (req.val = r + 1) && !s.bit (TR_RIDGE_STAT.VF_TRUST 16 r)))

/-- The ridge of a ridge or core-site page. -/
def ridgeOfPage (page : Nat) : Nat := (page - 4096) / 1024

/-- The channel of a channel page's offset (R462). -/
def channelOf (page off : Nat) : Nat :=
  (off - 0x100) / 0x40 + (if page < 4096 then (page - 37) * 16 else ((page - 4096) % 1024 - 6) * 16)

/-- The bound ridge whose protected state a write would change, with the reason code (R617). -/
def Block.protectedWrite (s : Block) (req : Requester) (page off : Nat) (v : Word) : Option (Nat × Nat) :=
  let r := ridgeOfPage page
  let guard (b : Bool) (r reason : Nat) : Option (Nat × Nat) := if b && s.outsider req r then some (r, reason) else none
  match pageKind page with
  | .engine => guard (decide (off = 0x80 ∨ off = 0x88)) r 1
  | .core => guard (decide (off = 0x84 ∨ off = 0x88 ∨ off = 0x8C ∨ off = 0x90 ∨ off = 0x308 ∨ off = 0x30C ∨ off = 0x310)) r 1
  | .spad => guard (decide (off = 0x5C ∨ off = 0x60 ∨ off = 0x64 ∨ off = 0x74 ∨ off = 0x78 ∨ off = 0x7C)) r 1
  | .ridgeSync => guard (decide (off = 0x44 ∨ off = 0x48)) r 1
  | .drvCh =>
    if off < 0x100 then none
    else if page ≥ 4096 then guard true r 3
    else
      let owner := s.fld (CH_CFG.OWNER 16 (channelOf page off))
      if owner < 16 && s.outsider req owner then some (owner, 3)
      else if (off - 0x100) % 0x40 = 0x20 then
        let o := getBits v 16 5
        if o < 16 && s.outsider req o then some (o, 3) else none
      else none
  | .residency => guard (decide (off = 0xB0)) (s.fld RZ_QMV_SEL.RIDGE) 1
  | _ => none

/-- The bound ridge whose protected state a read would show; the read then returns 0 (R617). -/
def Block.protectedRead (s : Block) (req : Requester) (page off : Nat) : Option Nat :=
  let guard (b : Bool) (r : Nat) : Option Nat := if b && s.outsider req r then some r else none
  match pageKind page with
  | .engine => guard (decide (off = 0x80 ∨ off = 0x88)) (ridgeOfPage page)
  | .core => guard (decide (off = 0x308 ∨ off = 0x30C ∨ off = 0x310)) (ridgeOfPage page)
  | .imem => guard (decide (0x800 ≤ off)) (ridgeOfPage page)
  | .ridgeSync => guard (decide (off = 0x44)) (ridgeOfPage page)
  | .residency =>
    if off = 0x94 then guard true (s.fld RZ_VM_SEL.RIDGE)
    else if off = 0xB0 then guard true (s.fld RZ_QMV_SEL.RIDGE)
    else guard (decide ((0x70 ≤ off ∧ off < 0x90))) (s.fld RZ_LM_SEL.INDEX / 32768)
  | _ => none

/-- The cell that a register access names: the selected cell of its page (the selector registers' current values). A ridge
trust page shows the die trust page's cells of its own ridge (R621). -/
def Block.cellKey (s : Block) (page off : Nat) (row : RegRow) : Nat :=
  let kind := pageKind page
  let base (pg idx : Nat) : Nat := regKey pg off idx
  if kind = .trust ∧ page ≠ diePage 8 then
    if 0x50 ≤ off ∧ off ≤ 0x88 then base (diePage 8) (ridgeOfPage page)
    else match row.sel with
      | some sel => base (diePage 8) (min sel.cap (getBits (s.reg (regKey page sel.off 0)) sel.lo sel.w))
      | none => if off = 0x44 ∨ off = 0x48 ∨ off = 0x4C ∨ off = 0x8C ∨ off = 0x94 ∨ off < 0x40 ∨ 0x400 ≤ off then base page 0 else base (diePage 8) 0
  else if kind = .lookout ∧ off = 0x50 then
    base page (min 2 (s.fld LK_SEL.CONV) * 64 + s.fld LK_SCAN_SEL.ENTRY)
  else if kind = .lookout ∧ 0x68 ≤ off ∧ off ≤ 0x74 then
    base page (min 2 (s.fld LK_SEL.CONV) * 4 + s.fld LK_BUF_SEL.BUF)
  else match row.sel with
    | some sel => base page (min sel.cap (getBits (s.reg (regKey page sel.off 0)) sel.lo sel.w))
    | none => base page 0

/-- One field of a written word stored by its access code (R8); `locked` is the page's BLK_CTL.LOCK. A W1S field has a
behaviour of its own, which its command gives. -/
def storeField (locked : Bool) (old new : Word) (cur : Word) (f : FieldRow) : Word :=
  let o := getBits old f.lo f.w
  let n := getBits new f.lo f.w
  match f.acc with
  | .rw => putBits cur f.lo f.w n
  | .rwl => if locked then cur else putBits cur f.lo f.w n
  | .w1c => putBits cur f.lo f.w (o &&& (2 ^ f.w - 1 - n))
  | .w1s => cur
  | .ro => cur
  | .wo => cur
  | .rsv => cur

/-- A written word stored field by field. -/
def storeWord (locked : Bool) (fields : List FieldRow) (old new : Word) : Word :=
  fields.foldl (fun cur f => storeField locked old new cur f) old

/-- Whether a page is locked (R770, R775). -/
def Block.locked (s : Block) (page : Nat) : Bool := s.bit (BLK_CTL.LOCK page)

/-- The values that a register's own rule replaces, or refuses by answering the old word, when a write reaches it (R91,
R94, R98, R344, R348, R349, R381, R432, R464, R496, R500, R504, R536, R537, R539, R585, R587, R681, R696, R749, R766). -/
def Block.storeRule (s : Block) (page off idx : Nat) (old new : Word) : Word :=
  let clampHi (lo w m : Nat) : Word := if getBits new lo w > m then putBits new lo w m else new
  match pageKind page with
  | .dieStore =>
    if off = 0x64 then (if getBits new 0 6 > 49 then old else new)
    else if off = 0x60 then clampHi 0 16 16384 else new
  | .ridgeStore => if off = 0x40 then clampHi 0 6 32 else new
  | .drvCh =>
    if 0x100 ≤ off ∧ (off - 0x100) % 0x40 = 0x20 then
      let v := clampHi 4 9 256
      if page ≥ 4096 then putBits v 16 5 (getBits old 16 5) else v
    else new
  | .core =>
    if off = 0x84 ∨ off = 0x88 ∨ off = 0x8C then (if (s.reg (regKey page 0x90 idx)).getLsbD 0 then old else new) else new
  | .spad =>
    if off = 0x74 then (if (s.reg (regKey page 0x78 idx)).getLsbD 0 then old else new)
    else if off = 0x5C ∨ off = 0x64 then (if (s.reg (regKey page 0x60 idx)).getLsbD 0 then old else new)
    else new
  | .cacheTier =>
    if off = 0x44 ∨ off = 0x48 then (if (s.reg (regKey page 0x4C idx)).getLsbD 0 ∨ idx = 63 then old else new) else new
  | .stack => if off = 0x58 then (if getBits new 0 8 = 0 then putBits new 0 8 1 else new) else new
  | .flank => if off = 0xA4 then 0 else new
  | .port =>
    let active := getBits (s.reg (regKey page 0x44 0)) 18 1
    if off = 0x80 ∨ off = 0x84 then (if idx / 8192 = active ∧ getBits (s.reg (regKey page 0x44 0)) 16 2 = 2 then old else new)
    else if off = 0x88 then
      (if idx / 2 = active ∧ getBits (s.reg (regKey page 0x44 0)) 16 2 = 2 then old else clampHi 0 13 4096)
    else if off = 0x98 then (if old.getLsbD 0 && new.getLsbD 0 then old else new)
    else if off = 0x9C then (if old.getLsbD 0 && new.getLsbD 0 then old else new)
    else new
  | .serving =>
    let ringEn := (s.reg (regKey page 0x108 idx)).getLsbD 0
    let sqEn := (s.reg (regKey page 0x6C idx)).getLsbD 0
    if off = 0x64 ∨ off = 0x68 then (if sqEn then old else new)
    else if off = 0x6C then
      (if old.getLsbD 0 then putBits old 0 1 (getBits new 0 1)
       else if new.getLsbD 0 ∧ (getBits new 1 5 < 4 ∨ getBits new 1 5 > 12) then old else new)
    else if 0xF8 ≤ off ∧ off ≤ 0x104 then (if ringEn then old else new)
    else if off = 0x108 then
      (if old.getLsbD 0 ∧ new.getLsbD 0 then putBits new 1 5 (getBits old 1 5)
       else if new.getLsbD 0 ∧ (getBits new 1 5 < 6 ∨ getBits new 1 5 > 16) then old else new)
    else if off = 0x54 then clampHi 0 25 16777216
    else new
  | .walker =>
    if off = 0x44 then clampHi 0 25 16777216
    else if (off = 0x68 ∨ off = 0x6C) ∧ (s.bound idx ∨ s.serv.nodes.any (fun n => decide (n.2.ridge = idx))) then old else new
  | .trust =>
    if 0x400 ≤ off ∧ getBits (s.reg (regKey page 0x48 0)) 0 2 = 1 then old
    else new
  | .ridgeInt =>
    if off = 0x4C then
      let r := ridgeOfPage page
      let running := (List.range 34).any (fun c => decide (s.fld (CORE_STAT.STATE r c) ≠ 0 ∧ s.fld (CORE_STAT.STATE r c) ≠ 4))
      (if running || decide (s.fld (RI_STAT.UNCOMMITTED r) ≠ 0) then old else new)
    else new
  | .dieInt =>
    if off = 0x54 then
      (if getBits new 0 14 < 50 then putBits new 0 14 50 else if getBits new 0 14 > 10000 then putBits new 0 14 10000 else new)
    else if off = 0x50 then
      (if s.fld TW_STAT.STATE = 1 ∨ s.fld TW_STAT.STATE = 2 then putBits new 0 2 (getBits old 0 2) else new)
    else new
  | .thermal =>
    if off = 0x48 then 0x80007FFF
    else if off = 0x5C then
      (if getBits new 0 5 < 8 then putBits new 0 5 8 else if getBits new 0 5 > 16 then putBits new 0 5 16 else new)
    else new
  | .calib => if off = 0x48 then clampHi 0 7 64 else new
  | _ => new

/-- The key under which an RW pair's LO half is staged for a requester (R780). -/
def stageKey (key req : Nat) : Nat := key * 32 + req

/-- Stores a software write in the registers of a page: a LO half of an RW pair is staged, a HI half commits both, and any
other register stores by its fields' access codes under its own rule (R8, R780). -/
def Block.storeAt (s : Block) (req : Requester) (page off : Nat) (v : Word) : Block :=
  match regRow (pageKind page) off with
  | none => s
  | some row =>
    let key := s.cellKey page off row
    let idx := key % regSpan
    let locked := s.locked page
    let writable := row.fields.any (fun f => decide (f.acc = .rw ∨ f.acc = .rwl))
    if row.pair = 1 ∧ writable then
      { s with staged := SMap.ins (stageKey key req.val) v s.staged }
    else if row.pair = 2 ∧ writable then
      if locked ∧ row.fields.any (fun f => decide (f.acc = .rwl)) then s
      else
        let loKey := key - 4 * regSpan
        let lo := (SMap.find (stageKey loKey req.val) s.staged).getD 0
        let hiOld := s.reg key
        let hiNew := s.storeRule page off idx hiOld (storeWord locked row.fields hiOld v)
        let loOld := s.reg loKey
        let loNew := s.storeRule page (off - 4) idx loOld lo
        (s.setReg loKey loNew).setReg key hiNew
    else
      let old := s.reg key
      (s.setReg key (s.storeRule page off idx old (storeWord locked row.fields old v))).signalRises page s

/-- The serving and walker registers that a virtual function may write (R786). -/
def vfWritable (page off : Nat) : Bool :=
  if page = 13 then
    decide ((0x64 ≤ off ∧ off ≤ 0x94) ∨ (0x9C ≤ off ∧ off ≤ 0x9C) ∨ (0xE0 ≤ off ∧ off ≤ 0xF0) ∨ (0xF4 ≤ off ∧ off ≤ 0x10C)
      ∨ off = 0x60)
  else if page = 14 then decide (0x64 ≤ off ∧ off ≤ 0x70) else false

/-- The ridge of the object that a write of a serving or walker selector names (R503, R504). -/
def selectedRidge (s : Block) (page off : Nat) (v : Word) : Option Nat :=
  if page = 13 then
    if off = 0x60 then some (getBits v 0 4)
    else if off = 0xE0 then some (getBits v 0 12 / 256)
    else if off = 0xF4 then some (getBits v 0 8 / 16)
    else if off = 0x9C then s.seqRidge (getBits v 0 15)
    else none
  else if page = 14 ∧ off = 0x64 then some (getBits v 0 4)
  else if page = 14 ∧ off = 0x70 then some (getBits v 4 4) else none

/-- Whether an access reaches its page; the state after what the attempt itself does (R629, R632, R748, R778). -/
def Block.reach (s : Block) (req : Requester) (dw : Nat) (write : Bool) : Block × Option (Nat × Nat) :=
  match place req dw with
  | .denied => (s.countDenied, none)
  | .unmapped => (s.countUnmapped req dw write, none)
  | .at page off =>
    if s.pageUp page then
      match answers page with
      | .ridge r => (s.dozeWake r, some (page, off))
      | _ => (s, some (page, off))
    else (s.addReg PM_OFF_ACCESS 1, none)

/-- What refuses a software write that reached its page: the view's limits, or the protected state of a bound ridge. The
state after the refusal, or `none` where the write is admitted. -/
def Block.refusal (s : Block) (req : Requester) (page off : Nat) (v : Word) : Option Block :=
  let vf := decide (1 ≤ req.val ∧ req.val ≤ 16)
  if vf && decide (page = 0) then some s
  else if vf && decide (page < 4096) && !vfWritable page off then some (s.addReg HP_VF_DENIED 1)
  else if vf && decide (page < 4096) && decide ((selectedRidge s page off v).any (fun r => decide (r ≠ req.val - 1))) then
    some (if page = 13 then s.raise page Irq.serving_SEL_REJECT else s.raise (diePage 13) Irq.serving_SEL_REJECT)
  else if vf && decide (pageKind page = .trust ∧ off = 0xAC) then some s
  else match s.protectedWrite req page off v with
    | some (r, reason) => some (s.trustDenied (if req.val = 17 then 0 else req.val) r reason)
    | none => none

/-- A software write that reached its page: admitted, it stores. -/
def Block.writeAt (s : Block) (req : Requester) (page off : Nat) (v : Word) : Block :=
  match s.refusal req page off v with
  | some t => t
  | none => s.storeAt req page off v

/-- A write of a register that has a behaviour of its own: `f` runs on the page, the offset and the cell of the selection
when the write reaches a register of the kind at one of the offsets and is admitted. -/
def Block.command (s : Block) (req : Requester) (dw : Nat) (v : Word) (kind : PageKind) (offs : List Nat)
    (f : Nat → Nat → Nat → Block → Block) : Block :=
  let (t, p) := s.reach req dw true
  match p with
  | none => t
  | some (page, off) =>
    if pageKind page ≠ kind ∨ !offs.contains off then t
    else match t.refusal req page off v with
      | some u => u
      | none => match regRow kind off with
        | none => t
        | some row => f page off (t.cellKey page off row % regSpan) t

/-- The word that a write of a register leaves by its access codes. -/
def Block.written (s : Block) (page off : Nat) (old v : Word) : Word :=
  match regRow (pageKind page) off with
  | none => old
  | some row => storeWord (s.locked page) row.fields old v

/-- The registers whose writes are commands of their own in the table, by page kind and offset. -/
def ownCommand (kind : PageKind) (off : Nat) : Bool :=
  match kind with
  | .engine => decide (off = 0x80 ∨ off = 0x88)
  | .core => decide (off = 0x48 ∨ off = 0x90 ∨ off = 0x308 ∨ off = 0x30C ∨ off = 0x310)
  | .ridgeSync => decide (off = 0x44 ∨ off = 0x48)
  | .spad => decide (off = 0x60 ∨ off = 0x78)
  | .cacheTier => decide (off = 0x4C)
  | .ridgeCore => decide (off = 0x6C)
  | .port => decide (off = 0x48 ∨ off = 0x84 ∨ off = 0x90)
  | .fabric => decide (off = 0x40 ∨ off = 0x90 ∨ off = 0xA0 ∨ (0xAC ≤ off ∧ off ≤ 0xBC))
  | .dieStore => decide (off = 0x40 ∨ off = 0x6C ∨ off = 0x70)
  | .ridgeStore => decide (off = 0x48 ∨ off = 0x54)
  | .residency => decide (off = 0x58 ∨ off = 0xA0 ∨ off = 0xA8 ∨ off = 0xC0)
  | .ridgeInt => decide (off = 0x84)
  | .dieInt => decide (off = 0x44 ∨ off = 0x64)
  | .trust => decide (off = 0x44)
  | .start => decide (off = 0x48 ∨ off = 0x58)
  | .hostPort => decide (off = 0x4C)
  | .serving => decide (off = 0x70 ∨ off = 0xF0 ∨ off = 0x10C ∨ off = 0x118 ∨ off = 0x11C ∨ off = 0x124)
  | .walker => decide (off = 0x70)
  | .power => decide (off = 0x40 ∨ off = 0x50 ∨ off = 0x60)
  | .lookout => decide (off = 0x54 ∨ off = 0x68 ∨ off = 0x6C)
  | .thermal => decide (off = 0x4C ∨ off = 0x74)
  | .calib => decide (off = 0x40)
  | .cairn => decide (off = 0x40 ∨ off = 0x50 ∨ off = 0x64)
  | _ => false

end Sys2Proof.Machine
end

