-- ==== Sys2Proof/Machine/Registers.lean ====
section
/-! DEFINITION. The commands of the register file: writes by access code, LOCK and the common interrupt registers (R8,
R748, R754, R769–R781). -/
namespace Sys2Proof.Machine
open Host

/-- Stores a write that carries no behaviour of its own: BLK_CTL keeps ENABLE alone, and BLK_IRQ_STAT and BLK_IRQ_FORCE
are commands of their own (R769, R770). The LO half of an instruction word is staged (R780, R791). -/
def Block.plainWrite (s : Block) (req : Requester) (page off : Nat) (v : Word) : Block :=
  if off = 0x08 then s.writeAt req page off (putBits (s.reg (BLK_CTL page)) 0 1 (getBits v 0 1) &&& ~~~(0x80000002#32))
  else if off = 0x10 ∨ off = 0x18 ∨ ownCommand (pageKind page) off then s
  else if pageKind page = .imem ∧ off ≥ 0x800 then
    if off % 8 = 0 then { s with staged := SMap.ins (stageKey (regKey page off (s.fld ⟨regKey page 0x40 0, 0, 7⟩)) req.val) v s.staged }
    else s
  else s.writeAt req page off v

/-- A BLK_CTL write that reached its page, unless a virtual function wrote a die page (R776). -/
def Block.ctlWrite (s : Block) (req : Requester) (dw : Nat) (f : Nat → Block → Block) : Block :=
  let (t, p) := s.reach req dw true
  match p with
  | none => t
  | some (page, off) =>
    if off ≠ 0x08 then t
    else if 1 ≤ req.val ∧ req.val ≤ 16 ∧ page < 4096 then t.addReg HP_VF_DENIED 1
    else f page t

/-- LOCK_SET (R770, R775, R776). -/
def execLockSet (req : Fin 18) (dw : BitVec 26) (s : State) : Outcome State Fault Refusal := s.runs fun s =>
  .next (s.ctlWrite req dw.toNat (fun page t => t.setBit (BLK_CTL.LOCK page) true))

/-- Runs an interrupt-register write that reached its page. -/
def Block.irqWrite (s : Block) (req : Requester) (dw want : Nat) (f : Nat → Block → Block) : Block :=
  let (t, p) := s.reach req dw true
  match p with
  | none => t
  | some (page, off) =>
    if off ≠ want then t
    else if 1 ≤ req.val ∧ req.val ≤ 16 ∧ page < 4096 then (if page = 0 then t else t.addReg HP_VF_DENIED 1)
    else f page t

/-- IRQ_FORCE (R773): sets the status bits that the page has, with the signalling of R754. -/
def execIrqForce (req : Fin 18) (dw : BitVec 26) (v : Word) (s : State) : Outcome State Fault Refusal := s.runs fun s =>
  .next (s.irqWrite req dw.toNat 0x18 (fun page t =>
    (t.setReg (BLK_IRQ_STAT page) (t.reg (BLK_IRQ_STAT page) ||| (v &&& BitVec.ofNat 32 (irqMask (pageKind page))))).signalRises
      page t))

/-- IRQ_STATUS_CLEAR (R8, R754): each 1 clears its bit; a vector whose OR stays at 1 is signalled again. -/
def execIrqStatusClear (req : Fin 18) (dw : BitVec 26) (v : Word) (s : State) : Outcome State Fault Refusal := s.runs fun s =>
  .next (s.irqWrite req dw.toNat 0x10 (fun page t =>
    (t.setReg (BLK_IRQ_STAT page) (t.reg (BLK_IRQ_STAT page) &&& ~~~v)).signalActive page))

end Sys2Proof.Machine
end

