-- ==== Sys2Proof/Machine/Scratch.lean ====
section
/-! DEFINITION. Scratchpad accesses, circular regions and buffer pools as producers and the host use them, and the cache
tier's accesses, scrubs and regions (R308–R342). -/
namespace Sys2Proof.Machine
open Host

/-! ## Local and shared accesses (R310, R311) -/

/-- LOCAL_ROW_ACCESS (R211, R311, R314, R323): the core's oldest local access acts on its bank. -/
def execLocalRowAccess (r : RidgeId) (c : SiteId) (corrected : Nat) (bad : List (Fin 64)) (s : State) :
    Outcome State Fault Refusal := s.runs fun s =>
  .next (s.localAccess r c corrected bad)

/-- SHARED_PHASE_ACCESS (R310, R311, R316): the oldest waiting request is served; `withCore` when the core's oldest local
access acts in the same cycle. -/
def execSharedPhaseAccess (r : RidgeId) (c : SiteId) (withCore : Bool) (corrected : Nat) (bad : List (Fin 64)) (s : State) :
    Outcome State Fault Refusal := s.runs fun s =>
  match (s.spadAt r c).queue with
  | [] => .next s
  | q :: rest =>
    let t := (s.modSpad r c (fun x => { x with queue := rest })).setFld (SP_STAT.SHARED_DEPTH r c) rest.length
    .next (t.serveShared r c q withCore corrected bad)

/-! ## Circular regions (R320–R327) -/

/-- Why a region takes no row from an outside producer: disabled (`some false`) or full (`some true`) (R321, R322). -/
def Block.regionRefuses (s : Block) (r c g : Nat) : Option Bool :=
  if !s.bit (CR_CTL.EN r c g) then some false else if s.regionFull r c g then some true else none

/-- An outside producer writes a row at TAIL (R324). -/
def Block.produceRow (s : Block) (r c g : Nat) (v : Row) (source : Nat) (withCore : Bool) : Block :=
  let (t, row) := s.reserveRow r c g true
  (t.sharedWrite r c row v allWords source withCore 0 []).1.publishRows r c g

/-- A refused network arrival (R321, R326). -/
def Block.refuseArrival (s : Block) (r c g : Nat) (full : Bool) : Block :=
  let t := s.addSat (CR_COUNT.REFUSED r c g) 1
  if full ∧ t.bit (CR_CTL.OVF_MODE r c g) then t.regionFault r c g else t

/-- An mdisp row or a batch row reaches its region: written at TAIL and, the mdisp row, completed, or refused (R300, R321, R324,
R326, R520). -/
def Block.regionArrival (s : Block) (p : Packet) (withCore : Bool) : Block :=
  if (p.op ≠ .mdisp ∧ p.op ≠ .batchRow) ∨ p.dst.unit ≥ 16 ∨ p.dstCore ≥ 32 ∨ p.addr ≥ 64 then s
  else
    let (t, ok) := s.arrive p
    let r := p.dst.unit
    let c := t.siteOf r p.dstCore
    if !ok then t
    else match t.regionRefuses r c p.addr with
      | some full => (t.refuseArrival r c p.addr full).turnAway p 3
      | none =>
        if p.op = .batchRow then t.produceRow r c p.addr p.data (t.sourceId r p) withCore
        else if !t.rowGranted p (t.fld (CR_STAT.TAIL r c p.addr)) true then t.reply p .completion 3 0
        else (t.produceRow r c p.addr p.data (t.sourceId r p) withCore).reply p .completion 0 0

/-- REGION_ARRIVAL (R324, R326): a producer's row reaches a region of this die. -/
def blkRegionArrival (p : Packet) (withCore : Bool) (s : Block) : Outcome Block Fault Refusal :=
  .next (s.regionArrival p withCore)
/-- RegionArrival (R324, R326): the effect of blkRegionArrival. -/
def execRegionArrival (p : Packet) (withCore : Bool) (s : State) : Outcome State Fault Refusal :=
  s.runs (blkRegionArrival p withCore)

/-- MDISP_ARRIVAL (R300, R326, R529): an mdisp row reaches its expert's receive region. -/
def blkMdispArrival (p : Packet) (withCore : Bool) (s : Block) : Outcome Block Fault Refusal :=
  .next (s.regionArrival p withCore)
/-- MdispArrival (R300, R326, R529): the effect of blkMdispArrival. -/
def execMdispArrival (p : Packet) (withCore : Bool) (s : State) : Outcome State Fault Refusal :=
  s.runs (blkMdispArrival p withCore)

/-- A region is enabled with its pointers at BASE (R321), or refused (R320). -/
def Block.enableRegion (s : Block) (r c g : Nat) : Block :=
  let base := s.fld (CR_CFG.BASE r c g)
  let size := s.fld (CR_CFG.SIZE r c g)
  if size = 0 ∨ base + size > 4096 then s.raise (sitePage r c 9) Irq.spad_CR_CFG_ERR
  else
    let t := s.modSpad r c (fun x => { x with reserved := SMap.del g x.reserved, headAhead := SMap.del g x.headAhead })
    let t := ((t.setFld (CR_STAT.HEAD r c g) base).setFld (CR_STAT.TAIL r c g) base).setFld (CR_COUNT.COUNT r c g) 0
    (t.setBit (CR_CTL.EN r c g) true).showRegion r c g

/-- A region is disabled: its pointers are discarded, and what they then show is a free value (R321). -/
def Block.disableRegion (s : Block) (r c g : Nat) : Block :=
  let n := s.freeNat
  let t := s.tick.modSpad r c (fun x => { x with reserved := SMap.del g x.reserved, headAhead := SMap.del g x.headAhead })
  let t := ((t.setFld (CR_STAT.HEAD r c g) n).setFld (CR_STAT.TAIL r c g) (n / 2 ^ 12)).setFld (CR_COUNT.COUNT r c g) (n / 2 ^ 24)
  (t.setBit (CR_CTL.EN r c g) false).showRegion r c g

/-- CR_CTL_WRITE (R320, R321, R346). -/
def execCrCtlWrite (req : Fin 18) (dw : BitVec 26) (v : Word) (s : State) : Outcome State Fault Refusal := s.runs fun s =>
  .next (s.command req dw.toNat v .spad [0x60] (fun page off g t =>
    let r := ridgeOfPage page
    let c := (page - 4096) % 1024 / 16 - 16
    let old := t.reg (regKey page off g)
    let new := putBits (t.written page off old v) 0 1 (getBits old 0 1)
    let t := t.setReg (regKey page off g) new
    let was := getBits old 0 1 = 1
    if getBits v 0 1 = 1 then (if was then t else t.enableRegion r c g)
    else if was then t.disableRegion r c g else t))

/-! ## Buffer pools (R328, R329) -/

/-- A pool is enabled: its cell is notified of the number of buffers; or it is refused (R328). -/
def Block.enablePool (s : Block) (r c p : Nat) : Block :=
  let g := s.fld (POOL_CFG.REGION r c p)
  let buf := s.fld (POOL_CFG.BUF_ROWS r c p)
  if !s.bit (CR_CTL.EN r c g) ∨ buf = 0 then (s.setBit (POOL_CTL.EN r c p) false).raise (sitePage r c 9) Irq.spad_CR_CFG_ERR
  else
    let t := (s.setBit (POOL_CTL.EN r c p) true).modSpad r c (fun x => { x with freed := SMap.del p x.freed })
    t.send (cellPacket (t.sourceOf r) (t.logicalAt r c) (t.sourceOf r) (t.fld (POOL_CFG.CELL r c p)) .notify
      (BitVec.ofNat 32 (t.fld (CR_CFG.SIZE r c g) / buf)))

/-- POOL_ENABLE: a write of POOL_CTL (R328). -/
def execPoolEnable (req : Fin 18) (dw : BitVec 26) (v : Word) (s : State) : Outcome State Fault Refusal := s.runs fun s =>
  .next (s.command req dw.toNat v .spad [0x78] (fun page _ p t =>
    let r := ridgeOfPage page
    let c := (page - 4096) % 1024 / 16 - 16
    if getBits v 0 1 = 1 then t.enablePool r c p else t.setBit (POOL_CTL.EN r c p) false))

/-! ## The cache tier (R335–R342) -/

/-- CACHE_ACCESS (R335, R337, R340): a stack's controller performs one of the accesses that wait at it; an earlier access of
the same unit goes first. -/
def execCacheAccess (h : StackId) (k : Nat) (corrected : Nat) (bad : List (Fin 8)) (s : State) : Outcome State Fault Refusal := s.runs fun s =>
  let l := s.stackQueue h
  match l[k]? with
  | none => .next s
  | some q =>
    if (l.take k).any (fun e => decide (e.unit = q.unit)) then .next s
    else .next ((s.setStackQueue h (l.eraseIdx k)).serveUnit q corrected bad)

/-- CACHE_SCRUB (R337, R338): a scrub read of a unit in a gap between requests; `last` ends the pass over the stack. A
rewrite of a corrected unit leaves its contents. -/
def execCacheScrub (h : StackId) (unit : Nat) (corrected : Nat) (bad : List (Fin 8)) (last : Bool) (s : State) :
    Outcome State Fault Refusal := s.runs fun s =>
  if !s.bit (CT_CTL.SCRUB_EN h) ∨ !(s.stackQueue h).isEmpty ∨ unit ≥ cacheUnits ∨ stackOf unit ≠ h then .next s
  else
    let t := s.unitEcc unit corrected bad
    .next (if last then t.setFld (CT_SCRUB.PASSES h) (t.fld (CT_SCRUB.PASSES h) + 1) else t)

/-- HBM_REFRESH (R339): a refresh of a stack keeps what the stack holds. -/
def execHbmRefresh (_h : StackId) (s : State) : Outcome State Fault Refusal := s.runs fun s => .next s

/-- Whether a region's range overlaps another valid region's (R342). -/
def Block.regionOverlaps (s : Block) (i : Nat) : Bool :=
  let b := s.fld (CT_REG_BASE.BASE_G i)
  let l := s.fld (CT_REG_LIMIT.LIMIT_G i)
  (List.range 64).any (fun j => decide (j ≠ i) && s.bit (CT_REG_CTL.VALID j)
    && decide (s.fld (CT_REG_BASE.BASE_G j) ≤ l ∧ b ≤ s.fld (CT_REG_LIMIT.LIMIT_G j)))

/-- CT_REG_CTL written for a region (R342, R348, R619). -/
def Block.setRegion (s : Block) (i : Nat) (v : Word) : Block :=
  let valid := s.bit (CT_REG_CTL.VALID i)
  let t := if valid then s else s.setFld (CT_REG_CTL.OWNER i) (getBits v 8 5)
  if getBits v 0 1 = 0 then t.setBit (CT_REG_CTL.VALID i) false
  else if valid then t.setBit (CT_REG_CTL.OVERLAP i) false
  else if t.fld (CT_REG_LIMIT.LIMIT_G i) < t.fld (CT_REG_BASE.BASE_G i) ∨ t.regionOverlaps i then t.setBit (CT_REG_CTL.OVERLAP i) true
  else if t.fld (CT_REG_CTL.OWNER i) > 16 then t
  else (t.setBit (CT_REG_CTL.VALID i) true).setBit (CT_REG_CTL.OVERLAP i) false

/-- CACHE_REGION_WRITE (R341, R342): host writes to region 63 are ignored. -/
def execCacheRegionWrite (req : Fin 18) (dw : BitVec 26) (v : Word) (s : State) : Outcome State Fault Refusal := s.runs fun s =>
  .next (s.command req dw.toNat v .cacheTier [0x4C] (fun page _ i t =>
    if i = 63 ∨ t.locked page then t else t.setRegion i v))

end Sys2Proof.Machine
end

