-- ==== Sys2Proof/Machine/Migration.lean ====
section
/-! DEFINITION. Migration of a logical core between sites (R243–R251). -/
namespace Sys2Proof.Machine
open Host

/-! ## Preparing (R245, R246, R249) -/

/-- The registers of one page copied to another page of the same kind, for the offsets named: the target's own values
there give way. -/
def Block.copyPage (s : Block) (src dst : Nat) (offs : Nat → Bool) : Block :=
  let on (page : Nat) (e : Nat × Word) : Bool := decide (e.1 / regSpan / 4096 = page) && offs (e.1 / regSpan % 4096)
  let moved := s.regs.filter (on src)
  let t := { s with regs := s.regs.filter (fun e => !on dst e) }
  moved.foldl (fun t e => t.setReg (regKey dst (e.1 / regSpan % 4096) (e.1 % regSpan)) e.2) t

/-- The site's instruction memory, block tables and column parameters, those in force and those that await the boundary,
copied to another site (R246). -/
def Block.copyParameters (s : Block) (r a b : Nat) : Block :=
  let t := s.modCore r b (fun x => { x with imem := (s.coreAt r a).imem })
  (List.range 8).foldl (fun t e =>
    let t := t.copyPage (engPage r a e) (engPage r b e) (fun off => decide (off = 0x80 ∨ off = 0x88))
    let moved := (t.engine r a e).shadow.map (fun x => (x.1 - engPage r a e * 4096 * regSpan + engPage r b e * 4096 * regSpan, x.2))
    (t.modEngine r b e (fun x => { x with shadow := moved })).setFld (ENG_SHADOW.PENDING r b e) (t.fld (ENG_SHADOW.PENDING r a e))) t

/-- A rejected or aborted migration: its state code, and MIG_FAIL (R245, R247, R248). -/
def Block.migFail (s : Block) (r code : Nat) : Block :=
  (s.setFld (RC_MIG_STAT.STATE r) code).raise (ridgePage r 1) Irq.ridgeCore_MIG_FAIL

/-- Whether records of the logical core's blocks are in the residency pipeline (R249). -/
def Block.swapRuns (s : Block) (r k : Nat) : Bool := s.res.records.any (fun p => decide (p.body.ridge = r ∧ p.body.core = k))

/-- A migration whose target is programmed, with no weight swap running, waits for the step boundary (R246, R249). -/
def Block.migReady (s : Block) (r : Nat) : Block :=
  match SMap.find r s.mig with
  | none => s
  | some m =>
    if m.phase = 1 ∧ m.slabsLeft.isEmpty ∧ !s.swapRuns r m.logical then
      ({ s with mig := SMap.ins r { m with phase := 2 } s.mig }).setFld (RC_MIG_STAT.STATE r) 2
    else s

/-- The data slabs of a site: engine and slab. -/
def siteSlabs : List (Nat × Nat) := ((List.range 8).map (fun e => (List.range 8).map (fun p => (e, p)))).flatten

/-- A migration starts: PREPARING (R246). -/
def Block.migPrepare (s : Block) (r k source target op : Nat) : Block :=
  let t := { s with mig := SMap.ins r ⟨k, source, target, op, siteSlabs, 1, 0, 0⟩ s.mig }
  let t := (t.setFld (RC_MIG_STAT.STATE r) 1).setFld (RC_MIG_STAT.LOGICAL r) k
  let t := t.copyParameters r source target
  siteSlabs.foldl (fun t ep => t.enqueue r ⟨.migrate, target, ep.1, ep.2, 0, 2, false⟩) t

/-- A free scree site (R258). -/
def Block.freeScree (s : Block) (r : Nat) : Option Nat :=
  if s.bit (RC_SCREE.FREE0 r) then some (s.fld (RC_SCREE.SCREE0 r))
  else if s.bit (RC_SCREE.FREE1 r) then some (s.fld (RC_SCREE.SCREE1 r)) else none

/-- The site in TEST that a logical core returns to (R251). -/
def Block.testedSite (s : Block) (r k : Nat) : Option Nat :=
  (List.range 34).find? (fun c => decide ((s.coreAt r c).testOf = some k ∧ s.fld (CORE_STAT.STATE r c) = 6))

/-- A migration requested by software or by the integrity unit (R245). -/
def Block.migRequest (s : Block) (r k op : Nat) : Block :=
  let c := s.siteOf r k
  let st := s.fld (CORE_STAT.STATE r c)
  if (SMap.find r s.mig).isSome ∨ st = 4 ∨ st = 6 then s.migFail r 6
  else if op = 3 then
    match s.testedSite r k with
    | some t => s.migPrepare r k c t 3
    | none => s.migFail r 6
  else match s.freeScree r with
    | some t => s.migPrepare r k c t op
    | none => s.migFail r 5

/-- A write of RC_MIG_CMD with one OP (R258). -/
def Block.migWrite (s : Block) (req : Requester) (dw : Nat) (v : Word) (op : Nat) : Block :=
  s.command req dw v .ridgeCore [0x6C] (fun page _ _ t =>
    if getBits v 0 4 = op then t.migRequest (ridgeOfPage page) (getBits v 4 5) op else t)

/-- MIG_TEMPORARY (R245, R246). -/
def execMigTemporary (req : Fin 18) (dw : BitVec 26) (v : Word) (s : State) : Outcome State Fault Refusal := s.runs fun s =>
  .next (s.migWrite req dw.toNat v 1)

/-- MIG_PERMANENT (R245, R246). -/
def execMigPermanent (req : Fin 18) (dw : BitVec 26) (v : Word) (s : State) : Outcome State Fault Refusal := s.runs fun s =>
  .next (s.migWrite req dw.toNat v 2)

/-- MIG_RETURN (R251). -/
def execMigReturn (req : Fin 18) (dw : BitVec 26) (v : Word) (s : State) : Outcome State Fault Refusal := s.runs fun s =>
  .next (s.migWrite req dw.toNat v 3)

/-! ## Stopping and draining (R246, R247) -/

/-- At the step boundary the source stops issue and enters MIGRATING (R246). -/
def Block.migStop (s : Block) (r : Nat) : Block :=
  match SMap.find r s.mig with
  | none => s
  | some m =>
    let st := s.fld (CORE_STAT.STATE r m.source)
    if m.phase ≠ 2 ∨ st = 5 then s
    else
      let m' := { m with prior := st, priorHold := s.fld (CORE_STAT.HOLD_CAUSE r m.source) }
      ((({ s with mig := SMap.ins r m' s.mig }).modCore r m.source (fun x => { x with bundle := Bundle.none })).setFld
        (CORE_STAT.STATE r m.source) 5).setFld (CORE_STAT.HOLD_CAUSE r m.source) 0

/-- Whether the source has drained (R246). -/
def Block.migDrained (s : Block) (r c : Nat) : Bool :=
  let x := s.coreAt r c
  x.tags.isEmpty && x.claims.isEmpty && x.accesses.isEmpty
    && (List.range 8).all (fun e =>
      let y := s.engine r c e
      y.queue.isEmpty && y.qmQueue.isEmpty && y.pass.isNone && y.discarded.isEmpty && y.qmPass.isNone && y.drains.isEmpty)

/-- MIG_DRAIN_DONE (R246): the drained source is PAUSED and its state copy starts. -/
def execMigDrainDone (r : RidgeId) (s : State) : Outcome State Fault Refusal := s.runs fun s =>
  match SMap.find r.val s.mig with
  | none => .next s
  | some m =>
    if m.phase ≠ 2 ∨ s.fld (CORE_STAT.STATE r m.source) ≠ 5 ∨ !s.migDrained r m.source then .next s
    else .next (({ s with mig := SMap.ins r.val { m with phase := 3 } s.mig }).setFld (RC_MIG_STAT.STATE r) 3)

/-- MIG_DRAIN_TIMEOUT (R247): the source resumes. -/
def execMigDrainTimeout (r : RidgeId) (s : State) : Outcome State Fault Refusal := s.runs fun s =>
  match SMap.find r.val s.mig with
  | none => .next s
  | some m =>
    if m.phase ≠ 2 ∨ s.fld (CORE_STAT.STATE r m.source) ≠ 5 then .next s
    else
      let t := { s with mig := SMap.del r.val s.mig }
      let t := (t.setFld (CORE_STAT.STATE r m.source) m.prior).setFld (CORE_STAT.HOLD_CAUSE r m.source) m.priorHold
      .next (t.migFail r 7)

/-! ## The copy and the flip (R246, R250, R251, R314) -/

/-- The scratchpad copied: a failing word is copied as 0 and its row reported (R246, R314). -/
def Block.copySpad (s : Block) (r a b : Nat) : Block :=
  let x := s.spadAt r a
  let badRows := (x.bad.map (· / 64)).eraseDups
  let rows := badRows.foldl (fun m n => SMap.set 0 m n (s.readRow r a n)) x.rows
  let t := badRows.foldl (fun t n => t.spadUe r a n) s
  let t := t.setSpad r b { x with rows := rows, bad := [] }
  let t := t.modSpad r a (fun y => { y with queue := [], reserved := [], headAhead := [], freed := [] })
  let t := (t.setFld (SP_STAT.SHARED_DEPTH r b) x.queue.length).setFld (SP_STAT.SHARED_DEPTH r a) 0
  t.copyPage (sitePage r a 9) (sitePage r b 9) (fun off => decide (0x58 ≤ off ∧ off ≤ 0x7C))

/-- The register files, special registers, norm-watch entries and core-page registers copied (R246). Pass history, probe
entries and top-k lists stay behind (R250). -/
def Block.copyCore (s : Block) (r a b : Nat) : Block :=
  let x := s.coreAt r a
  let y := s.coreAt r b
  let moved := { x with
    imem := y.imem, topk := y.topk, frame := y.frame, frameNo := y.frameNo, ranNo := y.ranNo, probeOwed := y.probeOwed,
    lvHold := y.lvHold, held := [], testOf := none }
  let t := (s.setCore r b moved).copyPage (sitePage r a 0) (sitePage r b 0) (fun off => decide (0x40 ≤ off ∧ off ≠ 0x74))
  (List.range 8).foldl (fun t e =>
    let z := t.engine r a e
    t.modEngine r b e (fun w => { w with ledger := z.ledger, residue := z.residue, latched := z.latched, qm := z.qm })) t

/-- The scree site's FREE bit, where the site is a scree site (R258). -/
def Block.setFree (s : Block) (r c : Nat) (free : Bool) : Block :=
  let t := if s.fld (RC_SCREE.SCREE0 r) = c then s.setBit (RC_SCREE.FREE0 r) free else s
  if s.fld (RC_SCREE.SCREE1 r) = c then t.setBit (RC_SCREE.FREE1 r) free else t

/-- A site left by its logical core: in TEST, retired, or a free scree site again (R246, R251). -/
def Block.leaveSite (s : Block) (r c k op : Nat) : Block :=
  let t := s.modCore r c (fun x => { Core.reset with
    imem := x.imem, frame := x.frame, frameNo := x.frameNo, ranNo := x.ranNo, testOf := if op = 1 then some k else none })
  let t := (t.setFld (CORE_STAT.STATE r c) (if op = 1 then 6 else 0)).setFld (CORE_STAT.OUTSTANDING r c) 0
  if op = 2 then
    (List.range 8).foldl (fun t e => t.setReg (ENG_CVSTEER r c e) 0) (t.retireSite r c)
  else if op = 3 then t.setFree r c true
  else t

/-- MIG_FLIP (R246, R247, R251): `spans` is the length of the pause in hold spans. -/
def execMigFlip (r : RidgeId) (spans : Nat) (s : State) : Outcome State Fault Refusal := s.runs fun s =>
  match SMap.find r.val s.mig with
  | none => .next s
  | some m =>
    if m.phase ≠ 3 then .next s
    else
      let held := (s.coreAt r m.source).held
      let t := ((s.copySpad r m.source m.target).copyCore r m.source m.target).setSite r m.logical m.target
      let t := t.leaveSite r m.source m.logical m.op
      let t := if m.op = 3 then t else t.setFree r m.target false
      let t := (t.setFld (CORE_STAT.STATE r m.target) m.prior).setFld (CORE_STAT.HOLD_CAUSE r m.target) m.priorHold
      let t := ({ t with mig := SMap.del r.val t.mig }).sendFirst held
      let t := if m.op = 2 then
          { t with boot := { t.boot with fused := SMap.ins (r.val * 32 + m.logical) (SMap.get [] t.boot.fused (r.val * 32 + m.logical) ++ [m.target]) t.boot.fused } }
        else t
      let t := if m.op = 1 ∧ (t.ri r).ift = some (m.source, 8) ∧ t.fld (RI_IFT_STAT.STATE r) = 2 then t.setFld (RI_IFT_STAT.STATE r) 3 else t
      let t := (t.setFld (RC_MIG_STAT.STATE r) 4).setFld (RC_MIG_STAT.PAUSE_SPANS r) spans
      .next ((t.raise (ridgePage r 1) Irq.ridgeCore_MIG_DONE).boundary r m.target)

end Sys2Proof.Machine
end

