-- ==== Sys2Proof/Machine/ClassOps.lean ====
section
/-! DEFINITION. Shared operations of classifications and in-field tests: the mirror, the repeat rule, what each result does,
and the progress of a test (R65, R565–R571). -/
namespace Sys2Proof.Machine

/-! ## The mirror (R52, R65, R566) -/

/-- Whether slab 8 is in MIRROR for a slab. -/
def Block.isMirror (s : Block) (r c e p : Nat) : Bool :=
  let b := s.slab r c e 8
  decide (b.state = .mirror ∧ b.replaces = p)

/-- Moves a classification to another stage. -/
def Block.stageClass (s : Block) (r : Nat) (x : Classify) (stage : Nat) : Block :=
  let y := s.ri r
  (s.setRi r { y with classes := y.classes.map (fun z => if z = x then { z with stage := stage } else z) }).showClasses r

/-- Slab 8 is granted to a classification when it is free: it enters MIRROR and is programmed in class 2 (R65, R566). -/
def Block.mirrorGrant (s : Block) (r : Nat) (x : Classify) : Block :=
  if (s.slab r x.site x.engine 8).state = .free ∧ !s.screeLent r x.site x.engine then
    let t := s.modSlab r x.site x.engine 8 (fun b => { b with state := .mirror, replaces := x.slab })
    (t.enqueue r ⟨.mirror, x.site, x.engine, 8, x.slab, 2, false⟩).stageClass r x 2
  else s.stageClass r x 1

/-- Every classification of a ridge that waits for slab 8 asks again. -/
def Block.mirrorGrants (s : Block) (r : Nat) : Block :=
  ((s.ri r).classes.filter (fun x => decide (x.stage = 1))).foldl (fun t x => t.mirrorGrant r x) s

/-- A mirror returns to FREE; its programming ends. -/
def Block.dropMirror (s : Block) (r c e : Nat) : Block :=
  let mine (o : StoreOp) : Bool := decide (o.kind = .mirror ∧ o.site = c ∧ o.engine = e)
  let t := s.setQueue r ((s.queue r).filter (fun o => !mine o))
  let t := match t.runOf r c e with | some o => if mine o.op then t.endRun r c e o else t | none => t
  if (t.slab r c e 8).state = .mirror then t.modSlab r c e 8 (fun b => { b with state := .free, replaces := 0 }) else t

/-! ## Results (R566, R567) -/

/-- The repeat rule (R566): the result, and whether it is INTERMITTENT. -/
def Block.repeatRule (s : Block) (r : Nat) (x : Classify) (escalated plain : FaultClass) : FaultClass × Bool :=
  let now := s.store.seconds
  let like (f : Finding) : Bool := decide (f.cls = plain ∧ now - f.time ≤ s.fld (RI_CLS_CFG.WINDOW_S r) ∧ f.site = x.site)
    && (decide (escalated = .inputPath) || decide (f.engine = x.engine ∧ f.slab = x.slab))
  if ((s.ri r).findings.filter like).length ≥ max 1 (s.fld (RI_CLS_CFG.REPEAT r)) - 1 then (escalated, true) else (plain, false)

/-- Replaces columns of a slab under its mirror, or in place (R567); a reference column is marked defective (R815). -/
def Block.replaceColumns (s : Block) (r c e p : Nat) (cols : List Nat) : Block :=
  let b := s.slab r c e p
  let logical := (cols.filterMap b.logicalOf).eraseDups
  let refs := (cols.filter (fun col => decide (col ≥ 528) && (b.logicalOf col).isNone)).map (· - 528)
  let t := s.modSlab r c e p (fun y => { y with defective := (y.defective ++ refs).eraseDups })
  let ops := logical.map (fun l => (⟨.replaceColumn, c, e, p, l, 2, false⟩ : StoreOp))
  if ops.isEmpty then t.dropMirror r c e
  else if t.isMirror r c e p then (t.atBoundary r (.standInFor c e p)).setWaiting r (t.waiting r ++ ops)
  else ops.foldl (fun t o => t.enqueue r o) t

/-- Steering entries of an engine that are neither valid nor about to be (R137). -/
def Block.freeSteers (s : Block) (r c e : Nat) : Nat :=
  let used := (if s.bit (ENG_CVSTEER.VALID0 r c e) then 1 else 0) + (if s.bit (ENG_CVSTEER.VALID1 r c e) then 1 else 0)
  2 - used - ((s.acts r).filter (fun a => match a with | .steer c' e' _ => decide (c' = c ∧ e' = e) | _ => false)).length

/-- Requests a migration of the logical core of a site (R245). -/
def Block.migSite (s : Block) (r c op : Nat) : Block :=
  match s.coreOf r c with
  | some k => s.migRequest r k op
  | none => s

/-- Converter steering takes each column, and a mirror is freed, at the step boundary; without a free entry for a column
the core migrates for good (R567). -/
def Block.steerColumns (s : Block) (r c e p : Nat) (cols : List Nat) : Block :=
  let n := s.freeSteers r c e
  let t := (cols.take n).foldl (fun t col => t.atBoundary r (.steer c e col)) s
  let t := if t.isMirror r c e p then t.atBoundary r (.freeMirror c e) else t
  if cols.length ≤ n then t else t.migSite r c 2

/-- Shows an in-field test in RI_IFT_STAT (R585). -/
def Block.showIft (s : Block) (r c state : Nat) : Block :=
  (s.setFld (RI_IFT_STAT.SITE r) c).setFld (RI_IFT_STAT.STATE r) state

/-- Requests a temporary migration of a core for its site's test, unless one of the ridge runs (R569). -/
def Block.iftMigrate (s : Block) (r c : Nat) : Block :=
  if (SMap.find r s.mig).isSome then s.showIft r c 1
  else
    let t := s.migSite r c 1
    t.showIft r c (if (SMap.find r t.mig).isSome then 2 else 1)

/-- The action of a result on a slab (R567), and its ACTION code (R573). -/
def Block.classAction (s : Block) (r : Nat) (x : Classify) (cls : FaultClass) (cols : List Nat) : Block × Nat :=
  let c := x.site
  let e := x.engine
  let p := x.slab
  match cls with
  | .permanentColumn => (s.replaceColumns r c e p cols, 2)
  | .permanentSlab =>
    let t := s.replaceOrValley r c e p
    (t, if (t.slab r c e p).state = .retired then 5 else 3)
  | .permanentConverter => (s.steerColumns r c e p cols, if cols.length ≤ s.freeSteers r c e then 8 else 4)
  | .inputPath =>
    let t := if e < 8 then s.dropMirror r c e else s
    let again := (s.ri r).findings.any (fun f =>
      decide (f.cls = .inputPath ∧ f.site = c ∧ s.store.seconds - f.time ≤ s.fld (RI_CLS_CFG.WINDOW_S r)))
    if again then (t.migSite r c 2, 4)
    else if (t.ri r).ift.isSome then (t.migSite r c 1, 4)
    else ((t.setRi r { t.ri r with ift := some (c, 8) }).iftMigrate r c, 4)
  | .unresolved => (((s.dropMirror r c e).suspect r c e p).enqueue r ⟨.scan, c, e, p, 0, 2, false⟩, 0)
  | _ => (if e < 8 then s.dropMirror r c e else s, 1)

/-- The location of a classified event. -/
def Block.locClass (s : Block) (r : Nat) (x : Classify) (cols : List Nat) : BitVec 64 :=
  location (some r) (some x.site) (s.coreOf r x.site) (if x.engine < 8 then some x.engine else none)
    (if x.slab < 9 then some x.slab else none) cols.head? none none none

/-- Writes RI_CLS_DATA: the newest of 16 results at entry 0 (R567, R585). -/
def Block.classData (s : Block) (r : Nat) (x : Classify) (code : Nat) (cols : List Nat) : Block :=
  let t := (List.range 15).foldl (fun t i => t.setReg (RI_CLS_DATA r (15 - i)) (s.reg (RI_CLS_DATA r (14 - i)))) s
  t.setReg (RI_CLS_DATA r 0) (BitVec.ofNat 32 (x.site + x.engine % 8 * 2 ^ 6 + x.slab * 2 ^ 9 + x.kind * 2 ^ 13 + code * 2 ^ 16
    + min 31 cols.length * 2 ^ 19 + cols.headD 0 % 256 * 2 ^ 24))

/-- Whether the first action of an ended classification has not taken effect (R559). -/
def Block.classActing (s : Block) (r : Nat) (x : Classify) : Bool :=
  let mine (o : StoreOp) : Bool := decide (o.site = x.site ∧ o.engine = x.engine)
    && (decide (o.kind = .replaceColumn ∧ o.slab = x.slab) || decide (o.kind = .replaceSlab ∧ o.arg = x.slab))
  (s.acts r).any (fun a => match a with
    | .standInFor c e _ => decide (c = x.site ∧ e = x.engine) | .assign c e _ => decide (c = x.site ∧ e = x.engine)
    | .columns c e _ => decide (c = x.site ∧ e = x.engine) | .steer c e _ => decide (c = x.site ∧ e = x.engine)
    | _ => false)
    || (!s.standsFor r x.site x.engine x.slab && ((s.queue r).any mine || (s.runOf r x.site x.engine).any (fun o => mine o.op)))
    || (match SMap.find r s.mig with | some m => decide (m.source = x.site) | none => false)

/-- A classification ends with a result on physical columns `cols` (R566, R567, R572). -/
def Block.endClassify (s : Block) (r : Nat) (x : Classify) (cls : FaultClass) (again : Bool) (cols : List Nat) : Block :=
  let t := if x.kind = 1 then s.setBit (ENG_CTL.PH_FREEZE r x.site x.engine) false else s
  let code := if again then 2 else cls.code
  let (t, action) := t.classAction r x cls cols
  let y := t.ri r
  let rest := y.classes.filter (fun z => decide (z ≠ x))
  let left := if t.classActing r x then rest ++ [{ x with stage := 3 }] else rest
  let t := t.setRi r { y with classes := left, findings := y.findings ++ [⟨cls, x.site, x.engine, x.slab, s.store.seconds⟩] }
  let t := ((t.showClasses r).classData r x code cols).raise (ridgePage r 3) Irq.ridgeInt_CLS_DONE
  let wear := if x.slab < 9 then (t.slab r x.site x.engine x.slab).cycles else 0
  t.signature x.kind code action (t.locClass r x cols) x.step x.rev wear x.detail

/-! ## In-field tests (R568–R571) -/

/-- An in-field test ends in a state of RI_IFT_STAT. -/
def Block.iftEnd (s : Block) (r state : Nat) : Block :=
  ((s.setRi r { s.ri r with ift := none }).setFld (RI_IFT_STAT.STATE r) state).raise (ridgePage r 3) Irq.ridgeInt_IFT_DONE

/-- An in-field test of an engine that cannot run records SKIPPED (R570, R816). -/
def Block.iftSkip (s : Block) (r : Nat) : Block := s.iftEnd r 6

/-- A failed in-field test (R571). -/
def Block.iftFail (s : Block) (r action : Nat) (loc : BitVec 64) : Block :=
  let t := (s.addSat (RI_IFT_STAT.FAILS r) 1).raise (ridgePage r 3) Irq.ridgeInt_IFT_FAIL
  t.signature 15 0 action loc (t.step r) (t.rev r) 0 0

/-- An engine test goes to its next slab when slab 8 is free, or ends (R570). -/
def Block.iftEngine (s : Block) (r c e : Nat) : Block :=
  let x := s.ri r
  let st := (s.slab r c e 8).state
  let next := (List.range 8).find? (fun p => decide (x.iftSlab ≤ p)
    && decide ((s.slab r c e p).state = .resident ∨ (s.slab r c e p).state = .suspect))
  if st = .free ∧ !s.screeHeld r c e then
    match next with
    | none => s.iftEnd r (if x.iftBad then 5 else 4)
    | some p =>
      let t := s.setRi r { x with iftSlab := p }
      let t := t.modSlab r c e 8 (fun b => { b with replaces := p })
      (t.enqueue r ⟨.testStandin, c, e, 8, p, 5, false⟩).showIft r c 3
  else if st = .assigned ∨ st = .retired ∨ st = .resident ∨ st = .suspect then
    (if x.iftBad then s.iftEnd r 5 else s.iftSkip r)
  else s

/-- A waiting test goes on at a step boundary: a core test whose core is in HALT starts, and an engine test takes its next
slab (R569, R570). -/
def Block.iftGo (s : Block) (r : Nat) : Block :=
  match (s.ri r).ift with
  | none => s
  | some (c, 8) =>
    if s.fld (RI_IFT_STAT.STATE r) = 1 ∧ s.fld (CORE_STAT.STATE r c) = 0 then
      (s.showIft r c 3).setFld (CORE_STAT.STATE r c) 6
    else s
  | some (c, e) => s.iftEngine r c e

/-- A test of a core site (engine 8) or an engine starts, unless one of the ridge runs or the site is retired (R568). -/
def Block.iftStart (s : Block) (r c e : Nat) : Block :=
  if (s.ri r).ift.isSome ∨ c > 33 ∨ s.siteRetired r c then s
  else
    let t := (s.setRi r { s.ri r with ift := some (c, e), iftSlab := 0, iftBad := false }).showIft r c 1
    if e = 8 then t else t.iftEngine r c e

end Sys2Proof.Machine
end

