-- ==== Sys2Proof/Machine/ResOps.lean ====
section
/-! DEFINITION. Shared operations of model residency: the layer map's positions, the version map, valley slots, records in
the pipeline and parcel slots (R472–R493). -/
namespace Sys2Proof.Machine

/-! ## Positions and versions (R482, R486, R487) -/

/-- Entries of a position: version A or both, and version B. -/
def entryA (pos : Nat) : Nat := 2 * pos
def entryB (pos : Nat) : Nat := 2 * pos + 1

/-- The index of the entry of a position that belongs to a version, if any. -/
def Block.entryOf (s : Block) (pos v : Nat) : Option Nat :=
  if (s.entry (entryA pos)).state ≠ 0 ∧ (s.entry (entryA pos)).inVer v then some (entryA pos)
  else if (s.entry (entryB pos)).state ≠ 0 ∧ (s.entry (entryB pos)).inVer v then some (entryB pos) else none

/-- The logical slab and block of an entry index. -/
def entrySlab (i : Nat) : Nat := i / 16 % 8
def entryBlock (i : Nat) : Nat := i / 2 % 8

/-- Whether a ridge is in REBUILD (R491). -/
def Block.rebuilding (s : Block) (r : Nat) : Bool := (s.reg RZ_MODE).getLsbD r

/-- Writes the layer map, with the ridges' active versions, to the journal (R485). -/
def Block.journalNow (s : Block) : Block :=
  { s with res := { s.res with
      journal := s.res.layer, unjournalled := [],
      journalActive := (List.range 16).foldl (fun m r => SMap.set 0 m r (s.activeVer r)) [] } }

/-- Shows the valley slots and host-table entries in use (R500). -/
def Block.showValley (s : Block) : Block :=
  (s.setFld RZ_VALLEY_USE.SLOTS s.res.valley.length).setFld RZ_VALLEY_USE.HOST_ENTRIES s.res.hostTable.length

/-- Empties an entry: its valley slot, or its host-table entry, goes with the last entry that names it (R493). -/
def Block.dropEntry (s : Block) (i : Nat) : Block :=
  let x := s.entry i
  let t := s.setEntry i LayerEntry.none
  let shared := t.res.layer.any (fun e => decide (e.2.src = x.src ∧ e.2.vslot = x.vslot ∧ e.2.pslab = 15 ∧ e.2.state ≠ 0))
  let valley := decide (x.pslab = 15 ∧ x.src ≠ 0 ∧ x.state ≠ 0)
  let t := if valley ∧ x.src = 1 ∧ !shared then { t with res := { t.res with valley := SMap.del x.vslot t.res.valley } } else t
  let t := if valley ∧ x.src = 2 then
      { t with res := { t.res with hostCodes := SMap.del i t.res.hostCodes,
                                   hostTable := if shared then t.res.hostTable else SMap.del x.vslot t.res.hostTable } }
    else t
  let t := if x.state = 3 then t.setFld SD_VALLEY.VALLEY_USED (t.fld SD_VALLEY.VALLEY_USED - 1) else t
  t.showValley

/-- Puts an entry at its position: at 2p for version A or both, at 2p + 1 for version B (R482). -/
def Block.putEntry (s : Block) (pos : Nat) (x : LayerEntry) : Block :=
  s.setEntry (if x.ver = 2 then entryB pos else entryA pos) x

/-- Takes one version's bit from a position: an entry of both stays with the other (R487). -/
def Block.leaveVersion (s : Block) (pos v : Nat) : Block :=
  match s.entryOf pos v with
  | none => s
  | some i =>
    let x := s.entry i
    if x.ver = 3 then (s.setEntry i LayerEntry.none).putEntry pos { x with ver := if v = 0 then 2 else 1 } else s.dropEntry i

/-- The physical slabs of an engine that the version map names. -/
def Block.mapped (s : Block) (r k e : Nat) : List Nat :=
  ((List.range 8).map (fun l => [s.pslabOf r k e l 0, s.pslabOf r k e l 1])).flatten

/-- A free physical slab for logical slab `l`: EMPTY and unnamed, `l` itself or the lowest (R487). -/
def Block.freeSlab (s : Block) (r k e l : Nat) : Option Nat :=
  let used := s.mapped r k e
  let ok (p : Nat) : Bool := decide ((s.slab r (s.siteOf r k) e p).state = .empty) && !used.contains p
  if ok l then some l else (List.range 8).find? ok

/-- An image slot all of level 8 (R475). -/
def Block.blankSlot (s : Block) (r k e p : Nat) : Block :=
  { s with store := { s.store with image := s.store.image.filter (fun x => decide (x.1 / 512 ≠ imageKey r k e p 0 / 512)) } }

/-- Copies an image slot to another of the engine (R477, R487). -/
def Block.copySlot (s : Block) (r k e p q : Nat) : Block :=
  (List.range 512).foldl (fun t row => t.setImageRow r k e q row (t.imageRow r k e p row)) s

/-- Weight codes of a block row: 64 of widths 1–4, 32 of widths 5–8. -/
def rowCodes (width : Nat) : Nat := if width ≤ 4 then 64 else 32

/-- Writes a block's codes into an image slot by R163; `codes` in row order; an absent code stands for level 8. -/
def Block.writeCodes (s : Block) (r k e p block width : Nat) (codes : List Nat) : Block :=
  let n := rowCodes width
  (List.range 512).foldl (fun t row =>
    let l := (codes.drop (n * row)).take n
    let levels := if width ≤ 4 then l else (l.map (fun c => [c % 16, c / 16])).flatten
    t.setImageRow r k e p row
      ((List.range 64).foldl (fun v j => putLevel v (64 * block + j) (levels.getD j 8)) (t.imageRow r k e p row))) s

/-- Bytes of a block's weight data (R469). -/
def dataBytes (width : Nat) : Nat := if width = 0 then 0 else if width ≤ 4 then 4096 * width else 2048 * width

/-- Bytes of a record: plaintext, tag and padding (R468). -/
def recordBytes (width : Nat) : Nat := 320 + dataBytes width + 64

/-! ## Ends of records (R479) -/

/-- Shows the running parcel slots. -/
def Block.showSlots (s : Block) : Block :=
  s.setFld RZ_STAT.SLOTS_BUSY (((List.range 4).map (fun n => if s.fld (RZ_P_STAT.STATE n) = 1 then 2 ^ n else 0)).sum)

/-- A slot whose records have all ended is DONE. -/
def Block.slotDone (s : Block) (n : Nat) : Block :=
  match SMap.find n s.res.parcels with
  | none => s
  | some p =>
    if s.fld (RZ_P_STAT.STATE n) = 1 ∧ p.accepted ∧ s.fld (RZ_P_OK.OK n) + (s.reg (RZ_P_FAIL n)).toNat = p.records then
      let t := { s with res := { s.res with parcels := SMap.del n s.res.parcels } }
      ((t.setFld (RZ_P_STAT.STATE n) 2).showSlots).raise (diePage 12) Irq.residency_PARCEL_DONE
    else s

/-- Record `i` of a slot ends with a code, 0 for OK. -/
def Block.endRecord (s : Block) (n i code : Nat) : Block :=
  let t := if code = 0 then s.addSat (RZ_P_OK.OK n) 1
    else
      let t := if s.reg (RZ_P_FAIL n) = 0 then (s.setFld (RZ_P_FIRST_ERR.RECORD n) i).setFld (RZ_P_FIRST_ERR.CODE n) code else s
      (t.addReg (RZ_P_FAIL n) 1).raise (diePage 12) Irq.residency_PARCEL_FAIL
  t.slotDone n

/-- Removes records from the pipeline, ending each with a code. -/
def Block.endRecords (s : Block) (l : List PendRec) (code : Nat) : Block :=
  l.foldl (fun t x => t.endRecord x.slot x.index code) { s with res := { s.res with records := s.res.records.filter (fun x => !l.contains x) } }

/-- The records of a physical slab. -/
def PendRec.on (x : PendRec) (r k e p : Nat) : Bool :=
  decide (x.body.ridge = r ∧ x.body.core = k ∧ x.body.engine = e ∧ x.pslab = p)

def Block.recordsOn (s : Block) (r k e p : Nat) : List PendRec := s.res.records.filter (fun x => x.on r k e p)

/-- Moves the records of a physical slab to a stage. -/
def Block.stageOf (s : Block) (r k e p : Nat) (st : RecStage) : Block :=
  { s with res := { s.res with records := s.res.records.map (fun x => if x.on r k e p then { x with stage := st } else x) } }

/-! ## Completing and failing a slab (R474–R477) -/

/-- A complete slab is queued for class-4 programming. -/
def Block.queueLoad (s : Block) (r k e p : Nat) : Block :=
  (s.stageOf r k e p .queued).enqueue r ⟨.load, s.siteOf r k, e, p, 0, 4, false⟩

/-- The parcel's records stop naming their slab, which is complete (R476). -/
def Block.closeNaming (s : Block) (n : Nat) : Block :=
  match SMap.find n s.res.parcels with
  | none => s
  | some p =>
    match p.naming with
    | none => s
    | some key =>
      let t := { s with res := { s.res with parcels := SMap.ins n { p with naming := none } s.res.parcels } }
      let e := key / 9 % 8
      let r := key / 9 / 8 / 34
      let k := t.coreOf r (key / 9 / 8 % 34)
      match k with
      | some k => if (t.recordsOn r k e (key % 9)).isEmpty then t else t.queueLoad r k e (key % 9)
      | none => t

/-- The entries between unpack and commit that name a physical slab. -/
def Block.openEntries (s : Block) (r k e p : Nat) : List (Nat × LayerEntry) :=
  (s.entriesOn r k e p).filter (fun x => decide (x.2.state = 1))

/-- The version map drops a physical slab. -/
def Block.unmap (s : Block) (r k e p : Nat) : Block :=
  (List.range 8).foldl (fun t l => (List.range 2).foldl (fun t v => if t.pslabOf r k e l v = p then t.setPslab r k e l v 15 else t) t) s

/-- A record whose slab failed twice is placed in valley mode when R492 allows it (R477); its codes are in the image. -/
def Block.recordToValley (s : Block) (x : PendRec) : Block :=
  let b := x.body
  let pos := position b.ridge b.core b.engine b.slab b.block
  match s.entryOf pos x.ver with
  | none => s.endRecords [x] 9
  | some i =>
    if b.width ≠ 0 ∧ b.src = 0 ∧ s.valleyFits b.ridge b.core b.engine b.width b.zeroHi b.zeroLo then
      match s.freeValleySlot with
      | none => (s.dropEntry i).endRecords [x] 9
      | some n =>
        let t := s.setEntry i { s.entry i with src := 1, pslab := 15, vslot := n }
        let y := { x with pslab := 15, stage := .committing, body := { b with src := 1, shape := 3 } }
        { t with res := { t.res with valley := SMap.ins n b.codes t.res.valley,
                                     records := t.res.records.map (fun z => if z = x then y else z) } }.showValley
    else (s.dropEntry i).endRecords [x] 9

/-- A failed write-verify or probe of a loaded slab (R477): one more try on another free slab, else its records end with
PROGRAM or go to valley mode. -/
def Block.loadFailed (s : Block) (r k e p : Nat) : Block :=
  let l := s.recordsOn r k e p
  match l.head? with
  | none => s
  | some x =>
    let again := if x.retried then none else s.freeSlab r k e x.body.slab
    match again with
    | some q =>
      let t := s.copySlot r k e p q
      let t := (List.range 8).foldl (fun t n => (List.range 2).foldl (fun t v =>
        if t.pslabOf r k e n v = p then t.setPslab r k e n v q else t) t) t
      let t := (t.entriesOn r k e p).foldl (fun t y => t.setEntry y.1 { y.2 with pslab := q }) t
      let t := { t with res := { t.res with records := t.res.records.map (fun (y : PendRec) =>
        if y.on r k e p then { y with pslab := q, retried := true } else y) } }
      t.queueLoad r k e q
    | none =>
      let t := l.foldl (fun t y => t.recordToValley y) s
      ((t.openEntries r k e p).foldl (fun t y => t.dropEntry y.1) t).unmap r k e p

/-- Writes a record's block-table entry and column parameters to the engine's shadow copies (R478). -/
def Block.shadowBlock (s : Block) (r c e p : Nat) (b : BlockRecord) : Block :=
  let page := engPage r c e
  let word : Word := BitVec.ofNat 32 (b.width * 2 ^ 28 + (if b.src ≠ 0 ∨ b.width = 0 then 3 else b.shape) * 2 ^ 26 + b.zeroHi * 2 ^ 22
    + b.zeroLo * 2 ^ 18 + b.stepE * 2 ^ 15 + b.guardQ * 2 ^ 7 + b.guardX * 2 ^ 3)
  let col (x : Nat × Nat) : Word := BitVec.ofNat 32 (x.2 % 65536 + x.1 % 65536 * 65536)
  let cols := ((List.range 64).map (fun j => (64 * b.block + j, col (b.columns.getD j (0, 0)))))
    ++ ((List.range 2).map (fun j => (512 + 2 * b.block + j, col (0, b.tallyCentre.getD j 0))))
  let entries := (regKey page 0x80 (p + 16 * b.block), word) :: cols.map (fun x => (regKey page 0x88 (p + 16 * x.1), x.2))
  (s.modEngine r c e (fun x => { x with shadow := entries.foldl (fun m y => SMap.ins y.1 y.2 m) x.shadow })).setBit
    (ENG_SHADOW.PENDING r c e) true

/-- The commit of a slab's records: their parameters go to the shadow copies and their entries change at the step boundary
(R478); a migration's target takes them as well (R249). -/
def Block.commitRecord (s : Block) (x : PendRec) : Block :=
  let b := x.body
  let c := s.siteOf b.ridge b.core
  let p := if x.pslab = 15 then s.pslabOf b.ridge b.core b.engine b.slab x.ver else x.pslab
  let t := if p = 15 then s else s.shadowBlock b.ridge c b.engine p b
  { t with res := { t.res with records := t.res.records.map (fun z => if z = x then { x with stage := .committing } else z) } }

end Sys2Proof.Machine
end

