-- ==== Sys2Proof/Machine/StoreProg.lean ====
section
/-! DEFINITION. Shared operations of programming: token grants, row operations, the end of a slab programming operation,
drift fits and erases (R40–R83, R815, R816). -/
namespace Sys2Proof.Machine

/-! ## Kinds of operation -/

/-- Whether an operation programs cells. -/
def StoreKind.programs (k : StoreKind) : Bool := !decide (k = .scan ∨ k = .refresh ∨ k = .driftSample)

/-- Whether an operation programs slab 8 to serve another slab (R816). -/
def StoreKind.onScree (k : StoreKind) : Bool := decide (k = .standin ∨ k = .mirror ∨ k = .replaceSlab ∨ k = .testStandin)

/-! ## Token grants (R43, R50, R74, R76) -/

/-- Running operations of a ridge. -/
def Block.runsOf (s : Block) (r : Nat) : List (Nat × RunOp) := s.store.running.filter (fun x => decide (x.1 / (34 * 8) = r))

/-- The lowest free programming token of a ridge. -/
def Block.freeToken (s : Block) (r : Nat) : Option Nat :=
  let used := ((s.runsOf r).filter (fun x => !x.2.suspended)).map (fun x => x.2.token)
  (List.range (s.fld (SR_CTL.PGM_TOKENS r))).find? (fun n => !used.contains n)

/-- Whether a replacement by slab 8 can start or fail: slab 8 is FREE with no other holder waiting for it (R65), or serves
or is RETIRED for good. -/
def Block.screeSettled (s : Block) (r c e : Nat) : Bool :=
  let st := (s.slab r c e 8).state
  let other (o : StoreOp) : Bool := decide (o.site = c ∧ o.engine = e) && (decide (o.kind = .standin ∨ o.kind = .mirror ∨ o.kind = .testStandin))
  let acts := (s.acts r).any (fun a => match a with
    | .standInFor c' e' _ => decide (c' = c ∧ e' = e) | .assign c' e' _ => decide (c' = c ∧ e' = e)
    | .standBack c' e' _ => decide (c' = c ∧ e' = e) | .freeMirror c' e' => decide (c' = c ∧ e' = e) | _ => false)
  (decide (st = .free) && !acts && !(s.queue r).any other) || decide (st = .assigned ∨ st = .retired ∨ st = .suspect ∨ st = .resident)

/-- Whether a queued operation can start: its engine runs none, and slab 8 is not lent to another holder. -/
def Block.canStart (s : Block) (r : Nat) (o : StoreOp) : Bool :=
  (s.runOf r o.site o.engine).isNone && (!decide (o.kind = .replaceSlab) || s.screeSettled r o.site o.engine)

/-- What a grant starts: a suspended operation (by engine key), or a queued one. -/
def Block.nextGrant (s : Block) (r : Nat) : Option (Nat ⊕ StoreOp) :=
  (List.range 5).findSome? (fun n =>
    match (s.runsOf r).find? (fun x => x.2.suspended && decide (x.2.op.cls = n + 1)) with
    | some x => some (.inl x.1)
    | none => ((s.queue r).find? (fun o => decide (o.cls = n + 1) && s.canStart r o)).map .inr)

/-- The intent entry of an operation (R74); `standin` is slab 8 while it serves for the slab, else 15. -/
def Block.openIntent (s : Block) (r : Nat) (o : StoreOp) : Block :=
  let b := s.slab r o.site o.engine 8
  let i : Intent := ⟨o.kind, r, o.site, o.engine, o.slab, if b.state = .standin ∧ b.replaces = o.slab then 8 else 15⟩
  { s with store := { s.store with intents := s.store.intents ++ [i] } }

/-- Puts an operation in run with a token; a programming operation leaves its intent first (R74). -/
def Block.startRun (s : Block) (r token : Nat) (o : StoreOp) : Block :=
  let t := if o.kind.programs then s.openIntent r o else s
  let t := if o.commanded then t.setFld (SR_CMD_STAT.RESULT r) 2 else t
  t.setRun r o.site o.engine (some ⟨o, token, decide (o.kind = .reverify), 0, 0, [], [], false, [], false, false⟩)

/-- Starts a queued operation (R52, R70, R71). -/
def Block.startOp (s : Block) (r token : Nat) (o : StoreOp) : Block :=
  let c := o.site
  let e := o.engine
  match o.kind with
  | .load | .migrate =>
    let st := (s.slab r c e o.slab).state
    (if st = .empty ∨ st = .suspect then s.slabTo r c e o.slab .programming else s).startRun r token o
  | .replaceSlab =>
    if (s.slab r c e 8).state = .free then
      (s.modSlab r c e 8 (fun b => { b with replaces := o.arg })).startRun r token { o with slab := 8 }
    else (s.replaceOrValley r c e o.arg).opDone r o.commanded false
  | .replaceColumn =>
    match (s.slab r c e o.slab).stageColumn o.arg with
    | some b => (s.setSlab r c e o.slab b).startRun r token o
    | none => (s.replaceOrValley r c e o.slab).opDone r o.commanded false
  | _ => s.startRun r token o

/-! ## Row operations (R28–R34, R40, R42, R46, R47) -/

/-- The target of a cell that is erased: level 8, tally code 32, or the reference pattern (R34, R80). -/
def Block.eraseTarget (s : Block) (r c e p row col : Nat) : CellTarget :=
  let l := (s.slab r c e p).logicalOf col
  match l with
  | none => ⟨levelG (refLevel row (col - 528)), 250, 800⟩
  | some l => if l < 512 then ⟨levelG 8, 250, 800⟩ else ⟨tallyG 32, 60, 200⟩

/-- The target of a cell under an operation; a loaded block's own shape decides its window. -/
def Block.opTarget (s : Block) (r : Nat) (o : StoreOp) (row col : Nat) : CellTarget :=
  let c := o.site
  let e := o.engine
  if o.kind = .erase then s.eraseTarget r c e o.slab row col
  else
    let t := s.cellTarget r c e o.slab row col
    match (s.slab r c e o.slab).logicalOf col with
    | some l =>
      if l < 512 ∧ o.kind = .load then
        match (s.entriesOn r (s.imageCore r c) e o.slab).find? (fun x => decide (x.2.state = 1 ∧ entryBlock x.1 = l / 64)) with
        | some x => { t with prog := if x.2.shape = 2 then 16 else 250 }
        | none => t
      else t
    | none => t

/-- The level whose read window holds a conductance (R28, R31). -/
def readLevel (g : Nat) : Option Nat := (List.range 16).find? (fun l => within g (levelG l) 800)

/-- Repairs uncorrectable codewords of an image row from a verify read of the slab that serves its slot (R40); answers
false where a cell of one is not in window, and the slab is then SUSPECT. -/
def Block.repairImage (s : Block) (r c e slot row : Nat) (words : List (Fin 4)) (read : List Nat) : Block × Bool :=
  words.foldl (fun (t, ok) w =>
    let cols := (List.range 128).map (fun j => 128 * w.val + j)
    let p := t.serving r c e slot
    let levels := cols.map (fun l => (l, readLevel (read.getD ((t.slab r c e p).physical l) 0)))
    if levels.all (fun x => x.2.isSome) then
      (t.setImageRow r (t.imageCore r c) e slot row
        (levels.foldl (fun v x => putLevel v x.1 (x.2.getD 0)) (t.imageRow r (t.imageCore r c) e slot row)), ok)
    else (((t.suspect r c e p).markRefetch r c e p).raise (ridgePage r 0) Irq.ridgeStore_IMAGE_ERR, false)) (s, true)

/-- Pulses of one iteration on a row (R42, R46): SET below the window, RESET above it. -/
def Block.pulseRow (s : Block) (r : Nat) (o : RunOp) (g : List Nat) (out : List Nat) : Block × RunOp :=
  let c := o.op.site
  let e := o.op.engine
  let low (col : Nat) : Bool := let t := s.opTarget r o.op o.row col; decide (g.getD col 0 + t.prog < t.nominal)
  let count (m : SMap Nat) (col : Nat) : Nat := SMap.get 0 m col
  let next := (List.range 544).map (fun col =>
    let x := g.getD col 0
    if !out.contains col then x
    else if low col then Config.pulsed x true (count o.setCount col + 1) s.freeCtr
    else Config.pulsed x false (count o.resetCount col + 1) s.freeCtr)
  let sets := out.filter low
  let resets := out.filter (fun col => !low col)
  let bump (m : SMap Nat) (l : List Nat) : SMap Nat := l.foldl (fun m col => SMap.set 0 m col (count m col + 1)) m
  ((s.tick).setCellRow r c e o.op.slab o.row next,
    { o with it := o.it + 1, pulsed := true, setCount := bump o.setCount sets, resetCount := bump o.resetCount resets })

/-- The next row of an operation, or the end of its sweeps. -/
def RunOp.nextRow (o : RunOp) : RunOp :=
  let x := { o with it := 0, setCount := [], resetCount := [] }
  if o.row < 511 then { x with row := o.row + 1 } else if o.second then { x with swept := true } else { x with row := 0, second := true }

/-- A row ends, converged when `out` is empty: an erase of its slab stops any other operation (R81), and a power-down
request suspends it (R75). -/
def Block.rowDone (s : Block) (r : Nat) (o : RunOp) (out : List Nat) : Block :=
  let c := o.op.site
  let e := o.op.engine
  let o := { o with failed := if out.isEmpty then SMap.del o.row o.failed else SMap.ins o.row out o.failed }
  let x := o.nextRow
  if o.op.kind ≠ .erase ∧ s.store.eraseLeft.contains (slabKey r c e o.op.slab) then s.endRun r c e o
  else s.setRun r c e (some { x with suspended := decide (s.ridgeState r = 4) && !x.swept })

/-! ## The end of a programming operation (R47, R48, R58, R67–R71, R814–R816) -/

/-- Removes repeats, keeping the first. -/
def distinct (l : List Nat) : List Nat := l.eraseDups

/-- Clears the saturation counters of a slab (R116). -/
def Block.clearSat (s : Block) (r c e p : Nat) : Block :=
  let t := (List.range 544).foldl (fun t col => t.setFld (ENG_SAT_CNT.COUNT r c e (p + 16 * col)) 0) s
  t.modEngine r c e (fun x => { x with satRun := x.satRun.filter (fun y => decide (y.1 / 544 ≠ p)) })

/-- Wear, debt, trims, counters and probe entries of a programmed slab (R58, R60, R67, R68, R814). -/
def Block.wearSlab (s : Block) (r c e : Nat) (o : RunOp) : Block :=
  let p := o.op.slab
  let b := s.slab r c e p
  let cycles := if o.pulsed then b.cycles + 1 else b.cycles
  let warn := decide (cycles ≥ 72000) && !b.warned
  let t := s.setSlab r c e p { b with
    cycles := cycles, warned := b.warned || warn, debt := 0, dueAt := none, driftLimit := false, gain := 32768, offset := 0,
    stagedFit := none, passes := 0, readCount := 0 }
  let t := if warn then t.raise (ridgePage r 0) Irq.ridgeStore_WEAR_WARN else t
  ((t.clearSat r c e p).dropProbes r c e p).endRun r c e o

/-- What the failed cells of an operation ask for (R48, R69, R815): the slab with its new defective columns, the logical
columns to replace, and whether the slab retires. -/
def failures (b : Slab) (failed : SMap (List Nat)) : Slab × List Nat × Bool :=
  let cols := distinct ((failed.map (·.2)).flatten)
  let logical := distinct (cols.filterMap b.logicalOf)
  let refs := (cols.filter (fun col => decide (col ≥ 528) && (b.logicalOf col).isNone)).map (· - 528)
  let marked := { b with defective := distinct (b.defective ++ refs) }
  let staged := logical.foldl (fun (x : Option Slab) l => x.bind (fun y => y.stageColumn l)) (some marked)
  let fault := failed.any (fun x => decide (x.2.length > 8))
  let lost := match staged with | none => true | some y => !y.hasReference
  (marked, logical, fault || lost || decide (b.cycles ≥ 80000))

/-- A migration whose target slab is in service (R246). -/
def Block.slabMigrated (s : Block) (r c e p : Nat) : Block :=
  match SMap.find r s.mig with
  | none => s
  | some m =>
    if m.target ≠ c then s
    else ({ s with mig := SMap.ins r { m with slabsLeft := m.slabsLeft.filter (fun x => decide (x ≠ (e, p))) } s.mig }).migReady r

/-- A migration whose target slab cannot be brought into service is aborted (R248). -/
def Block.migAbort (s : Block) (r c : Nat) : Block :=
  match SMap.find r s.mig with
  | none => s
  | some m =>
    if m.target ≠ c then s
    else
      let t := (s.migFail r 8).setQueue r ((s.queue r).filter (fun o => !decide (o.kind = .migrate ∧ o.site = c)))
      { t with mig := SMap.del r t.mig }

/-- Slab 8 retires at the end of its programming, and its holder goes on without it (R816). -/
def Block.screeLost (s : Block) (r : Nat) (o : StoreOp) : Block :=
  let c := o.site
  let e := o.engine
  let t := s.retireSlab r c e 8
  match o.kind with
  | .standin => t.refreshLoop r { o with kind := .refresh, slab := o.arg, arg := 0 }
  | .testStandin => t.iftSkip r
  | .mirror => match (t.ri r).classes.find? (fun x => decide (x.site = c ∧ x.engine = e ∧ x.stage = 2)) with
    | some x => t.endClassify r x .unresolved false []
    | none => t
  | .replaceSlab => ((t.replaceOrValley r c e o.arg).migAbort r c).opDone r o.commanded false
  | _ => t

/-- Whether a column replacement of a slab is queued or waits. -/
def Block.columnsLeft (s : Block) (r c e p : Nat) : Bool :=
  (s.queue r ++ s.waiting r).any (fun o => decide (o.kind = .replaceColumn ∧ o.site = c ∧ o.engine = e ∧ o.slab = p))

/-- Counts a refresh operation of an engine for the cairn (R702). -/
def Block.countRefresh (s : Block) (r c e : Nat) : Block :=
  { s with cairn := { s.cairn with newRefreshes := SMap.set 0 s.cairn.newRefreshes (engKey r c e) (SMap.get 0 s.cairn.newRefreshes (engKey r c e) + 1) } }

/-- A slab's refresh by stand-in, lease or in place ends (R63, R64, R66). -/
def Block.refreshEnd (s : Block) (r c e p : Nat) (commanded : Bool) : Block :=
  let s := s.countRefresh r c e
  let b := s.slab r c e p
  if b.leased then
    let t := (s.setSlab r c e p { b with leased := false }).backToResident r c e p
    ((t.setBit (SR_LEASE_REQ.VALID r) false).setFld (SR_CMD_STAT.RESULT r) 0).raise (ridgePage r 0) Irq.ridgeStore_OP_DONE
  else if s.standsFor r c e p then (s.atBoundary r (.standBack c e p)).opDone r commanded true
  else (s.backToResident r c e p).opDone r commanded true

/-- The state that an erased slab returns to (R52, R80). -/
def Block.erased (s : Block) (r c e p : Nat) : Block :=
  let b := s.slab r c e p
  let st : SlabState := if b.state = .retired then .retired else if p = 8 then .free else .empty
  let t := s.setSlab r c e p { b with state := st, replaces := 0, overdue := false, leased := false }
  let t := { t with store := { t.store with eraseLeft := t.store.eraseLeft.filter (fun k => decide (k ≠ slabKey r c e p)) } }
  t.setFld SD_ERASE_STAT.PROGRESS (t.fld SD_ERASE_STAT.PROGRESS + 1)

/-- What follows a completed slab programming operation that brought its slab into service. -/
def Block.programmed (s : Block) (r : Nat) (o : StoreOp) : Block :=
  let c := o.site
  let e := o.engine
  let p := o.slab
  match o.kind with
  | .load => (s.backToResident r c e p).stageOf r (s.imageCore r c) e p .probing
  | .migrate => (s.slabTo r c e p .resident).slabMigrated r c e p
  | .standin =>
    (s.setWaiting r (s.waiting r ++ [{ o with kind := .refreshSlab, slab := o.arg, arg := 0 }])).atBoundary r (.standInFor c e o.arg)
  | .mirror => s
  | .testStandin => s.atBoundary r (.standInFor c e o.arg)
  | .replaceSlab => ((s.atBoundary r (.assign c e o.arg)).slabMigrated r c e o.arg).opDone r o.commanded true
  | .refreshSlab => s.refreshEnd r c e p o.commanded
  | .replaceColumn =>
    let t := (s.atBoundary r (.columns c e p)).opDone r o.commanded true
    if t.standsFor r c e p ∧ (t.slab r c e p).state = .outForRefresh ∧ !t.columnsLeft r c e p then t.atBoundary r (.standBack c e p) else t
  | .reverify => s.opDone r o.commanded true
  | _ => s

/-- What follows when the slab must retire (R48, R69, R248, R477). -/
def Block.programLost (s : Block) (r : Nat) (o : StoreOp) : Block :=
  let c := o.site
  let e := o.engine
  let p := o.slab
  match o.kind with
  | .load => (s.retireSlab r c e p).loadFailed r (s.imageCore r c) e p
  | .migrate =>
    let t := s.retireSlab r c e p
    if (t.slab r c e 8).state = .free ∧ !t.screeHeld r c e then t.enqueue r ⟨.replaceSlab, c, e, p, p, 2, false⟩
    else t.migAbort r c
  | .refreshSlab =>
    let t := s.replaceOrValley r c e p
    let t := if (t.slab r c e p).leased then
        (t.modSlab r c e p (fun b => { b with leased := false })).setBit (SR_LEASE_REQ.VALID r) false
      else t
    t.opDone r o.commanded false
  | _ => (s.replaceOrValley r c e p).opDone r o.commanded false

/-- SLAB_PROGRAM_DONE's work (R47, R48). -/
def Block.finishProgram (s : Block) (r c e : Nat) (o : RunOp) : Block :=
  let p := o.op.slab
  let t := s.wearSlab r c e o
  let t := if o.failed.isEmpty then t else t.raise (ridgePage r 0) Irq.ridgeStore_VERIFY_FAIL
  if o.op.kind = .erase ∧ (t.slab r c e p).state = .retired then t.erased r c e p
  else
    let (b, cols, lost) := failures (t.slab r c e p) o.failed
    let t := t.setSlab r c e p b
    if o.op.kind = .erase then
      let t := t.erased r c e p
      if lost then t.retireSlab r c e p
      else cols.foldl (fun t l => t.enqueue r ⟨.replaceColumn, c, e, p, l, 2, false⟩) t
    else if lost then (if o.op.kind.onScree then t.screeLost r o.op else t.programLost r o.op)
    else (cols.foldl (fun t l => t.enqueue r ⟨.replaceColumn, c, e, p, l, 2, false⟩) t).programmed r o.op

/-! ## Scans -/

/-- Cells whose measured conductance differs from the stored one: row, column and the conductance measured. -/
def Block.moveCells (s : Block) (r c e p : Nat) (moved : List (Fin 512 × Fin 544 × Nat)) : Block :=
  moved.foldl (fun t m => t.setCellRow r c e p m.1.val ((t.cellRow r c e p m.1.val).set m.2.1.val m.2.2)) s

/-- The columns of a slab with a cell outside its program window, and the number of such cells (R64, R99). -/
def Block.scanSlab (s : Block) (r c e p : Nat) : List Nat × Nat :=
  let rows := (List.range 512).map (fun row => s.outside r c e p row (s.cellRow r c e p row))
  ((List.range 544).filter (fun col => rows.any (fun l => l.contains col)), (rows.map List.length).sum)

/-! ## Drift (R53–R57) -/

/-- Least squares of 64 samples, four of each level in level order, against the nominal conductances: the numerators of
a and b over one denominator (R55). -/
def driftFit (g : List Nat) : Int × Int × Int :=
  let xs := (List.range 64).map (fun i => ((levelG (i / 4) : Nat) : Int))
  let ys := g.map Int.ofNat
  let n : Int := 64
  let sx := xs.sum
  let sy := ys.sum
  let sxx := (xs.map (fun x => x * x)).sum
  let sxy := ((xs.zip ys).map (fun p => p.1 * p.2)).sum
  (n * sxy - sx * sy, sy * sxx - sx * sxy, n * sxx - sx * sx)

/-- Rounds a quotient to the nearest integer, ties upwards. -/
def roundDiv (a b : Int) : Int := (2 * a + b) / (2 * b)

/-- Whether a fit lies within the limits of R57: a, b and the mean of each level against the fitted value. -/
def driftOk (g : List Nat) : Bool :=
  let (a, b, d) := driftFit g
  decide (94 * d ≤ 100 * a ∧ 100 * a ≤ 106 * d) && decide (b.natAbs ≤ 600 * d.natAbs)
    && (List.range 16).all (fun l =>
      let mean4 : Int := (((List.range 4).map (fun i => ((g.getD (4 * l + i) 0 : Nat) : Int))).sum)
      let fitted4 := 4 * (a * (levelG l : Nat) + b)
      decide ((mean4 * d - fitted4).natAbs ≤ 4 * 300 * d.natAbs))

/-- The trims that a fit gives: a in 1/32,768 and b in 1/1,024 µS. -/
def driftTrims (g : List Nat) : Nat × Int :=
  let (a, b, d) := driftFit g
  ((roundDiv (a * 32768) d).toNat, roundDiv (b * 1024) (d * 1000))

/-! ## Erases (R78–R83, R490, R491) -/

/-- Slab keys from a key on. -/
structure SlabSpan where
  lo : Nat
  n : Nat
  deriving DecidableEq, Repr

def SlabSpan.has (x : SlabSpan) (k : Nat) : Bool := decide (x.lo ≤ k ∧ k < x.lo + x.n)

/-- The parts of a slab key. -/
def keyRidge (k : Nat) : Nat := k / 2448
def keySite (k : Nat) : Nat := k / 72 % 34
def keyEngine (k : Nat) : Nat := k / 9 % 8
def keySlab (k : Nat) : Nat := k % 9

/-- The span of an erase scope (R95); `none` for an invalid one. -/
def eraseSpan (kind ridge site engine slab : Nat) : Option SlabSpan :=
  match kind with
  | 1 => if site > 33 ∨ slab > 8 then none else some ⟨slabKey ridge site engine slab, 1⟩
  | 2 => if site > 33 then none else some ⟨slabKey ridge site engine 0, 9⟩
  | 3 => if site > 33 then none else some ⟨slabKey ridge site 0 0, 72⟩
  | 4 => some ⟨slabKey ridge 0 0 0, 2448⟩
  | 5 => some ⟨0, 39168⟩
  | _ => none

/-- The span that SD_ERASE_SCOPE selects. -/
def Block.scopeSpan (s : Block) : Option SlabSpan :=
  eraseSpan (s.fld SD_ERASE_SCOPE.KIND) (s.fld SD_ERASE_SCOPE.RIDGE) (s.fld SD_ERASE_SCOPE.SITE) (s.fld SD_ERASE_SCOPE.ENGINE)
    (s.fld SD_ERASE_SCOPE.SLAB)

/-- Whether a layer-map entry lies in a span: by its physical slab, or a valley block by its whole engine. -/
def Block.entryIn (s : Block) (x : SlabSpan) (i : Nat) (y : LayerEntry) : Bool :=
  let r := i / 32768
  let c := s.siteOf r (i / 1024 % 32)
  let e := i / 128 % 8
  if y.pslab = 15 then x.has (slabKey r c e 0) && x.has (slabKey r c e 8) else x.has (slabKey r c e y.pslab)

/-- Every slab that an erase of a span covers: those in it, and stand-ins for slabs in it (R80). -/
def Block.erasedSlabs (s : Block) (x : SlabSpan) : List Nat :=
  let inside := (List.range x.n).map (x.lo + ·)
  inside ++ ((s.store.slabs.filter (fun y => decide (y.1 % 9 = 8 ∧ y.2.state = .standin) && !x.has y.1
    && x.has (y.1 - 8 + y.2.replaces))).map (·.1))

/-- An erase starts (R80, R81, R478): what serves the slabs stops, their image and entries are emptied, and an operation of
class 2 is queued for each. -/
def Block.eraseRun (s : Block) (x : SlabSpan) : Block :=
  let keys := s.erasedSlabs x
  let inOp (r : Nat) (o : StoreOp) : Bool := keys.contains (slabKey r o.site o.engine o.slab)
  let image := s.store.image.filter (fun y =>
    let slot := y.1 / 512
    let r := slot / 2048
    !keys.contains (slabKey r (s.siteOf r (slot / 64 % 32)) (slot / 8 % 8) (slot % 8)))
  let clean (m : SMap (List StoreOp)) : SMap (List StoreOp) :=
    (m.map (fun y => (y.1, y.2.filter (fun o => !inOp y.1 o)))).filter (fun y => !y.2.isEmpty)
  let lost := s.res.records.filter (fun y =>
    keys.contains (slabKey y.body.ridge (s.siteOf y.body.ridge y.body.core) y.body.engine y.pslab))
  let gone := s.res.layer.filter (fun y => s.entryIn x y.1 y.2)
  let stopped := s.store.running.filter (fun y => inOp (y.1 / 272) y.2.op && !y.2.op.kind.programs)
  let t := { s with store := { s.store with
    image := image, queues := clean s.store.queues, waiting := clean s.store.waiting,
    running := s.store.running.filter (fun y => !stopped.contains y), eraseLeft := keys, erase := .running } }
  let t := gone.foldl (fun t y => t.dropEntry y.1) t
  let t := keys.foldl (fun t k =>
    let r := keyRidge k
    let c := keySite k
    let e := keyEngine k
    let p := keySlab k
    let t := if p < 8 then match t.coreOf r c with | some n => t.unmap r n e p | none => t else t
    let t := if (t.slab r c e p).state = .retired then t else t.slabTo r c e p .erasing
    t.enqueue r ⟨.erase, c, e, p, 0, 2, false⟩) t
  (t.setFld SD_ERASE_STAT.PROGRESS 0).endRecords lost 11

end Sys2Proof.Machine
end

