-- ==== Sys2Proof/Machine/CalOps.lean ====
section
/-! DEFINITION. Calibration: units in scope, their results, the commit at the step boundary, and how a command ends
(R683–R697). -/
namespace Sys2Proof.Machine

/-- A converter steering entry takes a column (R137). -/
def Block.steerColumn (s : Block) (r c e col : Nat) : Block :=
  if !s.bit (ENG_CVSTEER.VALID0 r c e) then (s.setFld (ENG_CVSTEER.COL0 r c e) col).setBit (ENG_CVSTEER.VALID0 r c e) true
  else if !s.bit (ENG_CVSTEER.VALID1 r c e) then (s.setFld (ENG_CVSTEER.COL1 r c e) col).setBit (ENG_CVSTEER.VALID1 r c e) true
  else s

/-! ## Units and outcomes (R685, R696, R697) -/

/-- Whether a calibration runs (R684). -/
def Block.calRuns (s : Block) : Bool := decide (s.fld CAL_STAT.STATE = 1)

/-- The ridge of a unit of CONV, ROWDRV or RESTORE (an engine key) or of DRIFT (a slab key). -/
def calRidge (target id : Nat) : Option Nat :=
  if target = 1 ∨ target = 2 ∨ target = 7 then some (id / 272) else if target = 3 then some (id / 2448) else none

/-- Changes the unit at an index. -/
def Block.modUnit (s : Block) (n : Nat) (f : CalUnit → CalUnit) : Block :=
  { s with cal := { s.cal with units := s.cal.units.modify n f } }

/-- A command ends with a result (R685–R697). -/
def Block.calEnd (s : Block) (result : Nat) : Block :=
  let t := (s.setFld CAL_STAT.STATE 2).setFld CAL_STAT.RESULT result
  let t := { t with cal := { t.cal with port := none } }
  let t := t.raise (diePage 7) 0
  if result = 0 then t else t.raise (diePage 7) 1

/-- A command whose every unit has ended (R697): the lowest of LIMIT, BAND_MOVED and ABORTED that applies; a record names each
unit that failed (R687). -/
def Block.calFinish (s : Block) : Block :=
  if !s.calRuns ∨ s.cal.units.any (fun u => !u.ended) then s
  else
    let n := s.cal.units.length
    let has (o : Nat) : List Nat := (List.range n).filter (fun i => decide (s.fld (CAL_Q_DATA.OUTCOME i) = o))
    let t := (has 2).foldl (fun t i =>
      t.cairnRecord 9 1 (t.fld CAL_STAT.TARGET + (((t.cal.units[i]?).map (·.id)).getD 0) * 2 ^ 8)) s
    t.calEnd (if !(has 2).isEmpty then 1 else if !(has 3).isEmpty then 4 else if !(has 4).isEmpty then 5 else 0)

/-- A unit ends with an outcome: 1 new values, 2 old values kept, 3 BAND_MOVED, 4 ABORTED. -/
def Block.unitEnds (s : Block) (n outcome : Nat) : Block :=
  (s.setFld (CAL_Q_DATA.OUTCOME n) outcome).modUnit n (fun u => { u with ended := true, staged := none })

/-- Ends with an outcome the units that a test names. -/
def Block.endUnits (s : Block) (f : CalUnit → Bool) (outcome : Nat) : Block :=
  if !s.calRuns then s
  else
    ((List.range s.cal.units.length).foldl (fun t i =>
      if (s.cal.units[i]?).any (fun u => !u.ended && f u) then t.unitEnds i outcome else t) s).calFinish

/-- A ridge powers down or is reset: its uncommitted units keep their old values (R691, R730). -/
def Block.calAbort (s : Block) (r : Nat) : Block :=
  s.endUnits (fun u => decide (calRidge (s.fld CAL_STAT.TARGET) u.id = some r)) 4

/-- The main rails go: nothing uncommitted is kept (R691). -/
def Block.calAbortAll (s : Block) : Block := s.endUnits (fun _ => true) 4

/-- A ridge's band changes: units of CONV and ROWDRV between their first frame and their commit keep their old values (R691). -/
def Block.calBandMoved (s : Block) (r : Nat) : Block :=
  let target := s.fld CAL_STAT.TARGET
  if target ≠ 1 ∧ target ≠ 2 then s
  else s.endUnits (fun u => u.band.isSome && decide (calRidge target u.id = some r)) 3

/-- The figures of a passing unit stand in CAL_WORST when they are the worst (R696): the largest residual, or the narrowest
eye. -/
def Block.calWorst (s : Block) (first : Bool) (figure figure2 : Nat) : Block :=
  let old := s.fld CAL_WORST.FIGURE
  let worse := if s.fld CAL_STAT.TARGET = 4 then decide (figure < old) else decide (figure > old)
  if first ∨ worse then (s.setFld CAL_WORST.FIGURE figure).setFld CAL_WORST.FIGURE2 figure2 else s

/-- Shows a measured unit's figures (R696). -/
def Block.calShow (s : Block) (n figure figure2 : Nat) (ok : Bool) : Block :=
  let none' := (List.range s.cal.units.length).all (fun i => !s.bit (CAL_Q_DATA.PASS i))
  let t := ((s.setFld (CAL_Q_DATA.FIGURE n) (min 65535 figure)).setFld (CAL_Q_DATA.FIGURE2 n) (min 4095 figure2)).setBit (CAL_Q_DATA.PASS n) ok
  if ok then t.calWorst none' (min 65535 figure) (min 65535 figure2) else t

/-! ## The calibration record (R695) -/

/-- A committed value awaits its write to flash; an absent one removes the entry. -/
def Block.calSave (s : Block) (key : Nat) (v : Option Word) : Block :=
  { s with cal := { s.cal with unsaved := SMap.ins key v s.cal.unsaved } }

/-- A trim that has no register. -/
def Block.setTrim (s : Block) (n : Nat) (v : Word) : Block :=
  ({ s with cal := { s.cal with trims := SMap.set 0 s.cal.trims n v } }).calSave n (some v)

/-- Number of the verify trim set of an engine in a band. -/
def verifyTrim (engine band : Nat) : Nat := engine * 8 + band

/-- Whether a register or trim number holds a trim of an engine: its converter trims, its row-drive trims or its verify trim
sets. -/
def engineTrim (id key : Nat) : Bool :=
  let r := id / 272
  let c := id / 8 % 34
  let e := id % 8
  decide (key / regSpan = sitePage r c (1 + e) * 4096 + 0x90)
    || (decide (key / regSpan = diePage 7 * 4096 + 0x64) && decide (key % regSpan % 8192 = r + c * 16 + e * 1024))
    || decide (key < 40000 ∧ key / 8 = id)

/-! ## Commit (R687, R690) -/

/-- The fused values return to an engine, and the record's entries of it go (R695). -/
def Block.restoreEngine (s : Block) (id : Nat) : Block :=
  let t := { s with
    regs := s.regs.filter (fun e => !engineTrim id e.1), cal := { s.cal with trims := s.cal.trims.filter (fun e => !engineTrim id e.1) } }
  let saved := (t.cal.record.map (·.1) ++ t.cal.unsaved.map (·.1)).eraseDups
  (saved.filter (engineTrim id)).foldl (fun t k => t.calSave k none) t

/-- A result takes effect: new values are in force, failing converters are steered, and without a free entry the core
migrates (R137, R567, R687). -/
def Block.commitUnit (s : Block) (id band : Nat) (x : CalResult) : Block :=
  let r := id / 272
  let c := id / 8 % 34
  let e := id % 8
  let t := if x.restore then s.restoreEngine id else s
  let t := x.values.foldl (fun t v => (t.setReg v.1 v.2).calSave v.1 (some v.2)) t
  let t := match x.verify with | some v => t.setTrim (verifyTrim id band) v | none => t
  let n := (if t.bit (ENG_CVSTEER.VALID0 r c e) then 0 else 1) + (if t.bit (ENG_CVSTEER.VALID1 r c e) then 0 else 1)
  let t := (x.cols.take n).foldl (fun t col => t.steerColumn r c e col) t
  let t := if x.cols.length > n then t.migSite r c 2 else t
  t.setBit (ENG_SHADOW.PENDING r c e) false

/-- The results of a ridge's engines take effect at its step boundary (R690). -/
def Block.calCommit (s : Block) (r : Nat) : Block :=
  let target := s.fld CAL_STAT.TARGET
  if !s.calRuns ∨ (target ≠ 1 ∧ target ≠ 2 ∧ target ≠ 7) then s
  else
    ((List.range s.cal.units.length).foldl (fun t i =>
      match t.cal.units[i]? with
      | some u => match u.staged with
        | some x =>
          if u.ended ∨ u.id / 272 ≠ r then t
          else (t.commitUnit u.id (u.band.getD 0) x).unitEnds i (if x.failed then 2 else 1)
        | none => t
      | none => t) s).calFinish

end Sys2Proof.Machine
end

