-- ==== Sys2Proof/Machine/Boundary.lean ====
section
/-! DEFINITION. The step boundary of a ridge (R51): held slab changes, drift fits, shadow copies, committed records, a
version flip, and the valley set and stream (R56, R64, R71, R117, R137, R159, R198, R246, R478, R488–R495). -/
namespace Sys2Proof.Machine

/-! ## Held changes -/

/-- Queues the operations that waited for a slab's stand-in (R64, R567). -/
def Block.releaseFor (s : Block) (r c e p : Nat) : Block :=
  let mine (o : StoreOp) : Bool := decide (o.site = c ∧ o.engine = e ∧ o.slab = p ∧ (o.kind = .refreshSlab ∨ o.kind = .replaceColumn))
  let l := (s.waiting r).filter mine
  l.foldl (fun t o => t.enqueue r o) (s.setWaiting r ((s.waiting r).filter (fun o => !mine o)))

/-- Staged replacement columns enter the column map; a scree column that they take over from becomes defective (R71). -/
def Slab.takeColumns (b : Slab) : Slab :=
  b.stagedMap.foldl (fun x m =>
    let old := (x.colmap.filter (fun y => decide (y.2 = m.2))).map (·.1)
    { x with colmap := SMap.ins m.1 m.2 (x.colmap.filter (fun y => decide (y.2 ≠ m.2))), defective := distinct (x.defective ++ old) })
    { b with stagedMap := [] }

/-- One held change takes effect (R51). -/
def Block.boundaryAct (s : Block) (r : Nat) : BoundaryAct → Block
  | .standInFor c e p =>
    ((s.modSlab r c e 8 (fun b => { b with state := .standin, replaces := p })).slabTo r c e p .outForRefresh).releaseFor r c e p
  | .standBack c e p => (s.backToResident r c e p).modSlab r c e 8 (fun b => { b with state := .free, replaces := 0 })
  | .assign c e p => (s.retireSlab r c e p).modSlab r c e 8 (fun b => { b with state := .assigned, replaces := p })
  | .columns c e p => (s.modSlab r c e p Slab.takeColumns).raise (ridgePage r 0) Irq.ridgeStore_COL_REPLACED
  | .steer c e col => s.steerColumn r c e col
  | .freeMirror c e => s.modSlab r c e 8 (fun b => { b with state := .free, replaces := 0 })

/-- Every held change, in order; what waits for slab 8 or for a boundary goes on (R65, R569, R570). -/
def Block.runActs (s : Block) (r : Nat) : Block :=
  let l := s.acts r
  let t := l.foldl (fun t a => t.boundaryAct r a) { s with store := { s.store with boundary := SMap.del r s.store.boundary } }
  (t.mirrorGrants r).iftGo r

/-- New drift fits take effect (R56). -/
def Block.applyFits (s : Block) (r : Nat) : Block :=
  let l := s.store.slabs.filter (fun x => decide (keyRidge x.1 = r) && x.2.stagedFit.isSome)
  l.foldl (fun t x => t.modSlab r (keySite x.1) (keyEngine x.1) (keySlab x.1) (fun b => match b.stagedFit with
    | some (g, o) => { b with gain := g, offset := o, stagedFit := none }
    | none => b)) s

/-- The engines' shadow copies and the trim set of the ridge's band take effect (R117, R159). -/
def Block.applyShadows (s : Block) (r : Nat) : Block :=
  let band := s.fld (LT_RIDGE_STAT.BAND r)
  (s.eng.filter (fun x => decide (x.1 / 272 = r))).foldl (fun t x =>
    let c := x.1 / 8 % 34
    let e := x.1 % 8
    let y := t.engine r c e
    let t := y.shadow.foldl (fun t w => t.setReg w.1 w.2) t
    (t.setEngine r c e { y with shadow := [], trimBand := band }).setBit (ENG_SHADOW.PENDING r c e) false) s

/-- Software's writes of norm-watch entries take effect (R198). -/
def Block.applyNorms (s : Block) (r : Nat) : Block :=
  (s.core.filter (fun x => decide (x.1 / 34 = r))).foldl (fun t x =>
    let c := x.1 % 34
    let page := sitePage r c 0
    let t := x.2.nwShadow.foldl (fun t w =>
      let off := 0x308 + 4 * (w.1 % 4)
      let key := regKey page off (w.1 / 4)
      t.setReg key (t.written page off (t.reg key) w.2)) t
    t.modCore r c (fun y => { y with nwShadow := [] })) s

/-! ## Residency at the boundary (R478, R488, R489, R494, R495) -/

/-- A committed record's entry becomes RESIDENT, VALLEY or, for WIDTH 0, EMPTY (R478, R481). -/
def Block.activate (s : Block) (x : PendRec) : Block :=
  let b := x.body
  let pos := position b.ridge b.core b.engine b.slab b.block
  let t := if b.width = 0 then s.leaveVersion pos x.ver
    else match s.entryOf pos x.ver with
      | none => s
      | some i =>
        if b.src = 0 then s.setEntry i { s.entry i with state := 2, refetch := false }
        else
          let t := s.setEntry i { s.entry i with state := 3, refetch := false }
          { t.setFld SD_VALLEY.VALLEY_USED (t.fld SD_VALLEY.VALLEY_USED + 1) with
            res := { t.res with mailbox := t.res.mailbox ++ [siteKey b.ridge (s.siteOf b.ridge b.core)] } }
  let t := if x.pslab = 15 then t
    else (t.openEntries b.ridge b.core b.engine x.pslab).foldl (fun t y =>
      if t.res.records.any (fun z => decide (z ≠ x ∧ z.stage ≠ .committing) && z.on b.ridge b.core b.engine x.pslab) then t
      else if y.2.src = 0 ∧ !t.res.records.any (fun z => decide (position z.body.ridge z.body.core z.body.engine z.body.slab z.body.block = y.1 / 2)) then
        t.setEntry y.1 { y.2 with state := 2 }
      else t) t
  t.endRecords [x] 0

/-- Every committing record of the ridge (R478); a migration that waited for the swap goes on (R249). -/
def Block.activateAll (s : Block) (r : Nat) : Block :=
  let l := s.res.records.filter (fun x => decide (x.body.ridge = r ∧ x.stage = .committing))
  if l.isEmpty then s else (l.foldl (fun t x => t.activate x) s).migReady r

/-- The valley blocks of a logical core in a version, in order of position. -/
def Block.valleySet (s : Block) (r k v : Nat) : List (Nat × LayerEntry) :=
  s.res.layer.filter (fun x => decide (x.1 / 1024 = r * 32 + k ∧ x.2.state = 3) && x.2.inVer v)

/-- A mailbox entry (R494). -/
def Block.mailEntry (s : Block) (r c : Nat) (x : Nat × LayerEntry) : Nat :=
  let e := x.1 / 128 % 8
  let l := entrySlab x.1
  let b := entryBlock x.1
  let p := s.pslabOf r (s.imageCore r c) e l (s.activeVer r)
  let w := s.block r c e p b
  e + l * 2 ^ 3 + b * 2 ^ 6 + x.2.width * 2 ^ 9 + btZeroHi w * 2 ^ 13 + btZeroLo w * 2 ^ 17 + x.2.src * 2 ^ 21

/-- Writes a core's valley mailbox, row 4,095 (R494). -/
def Block.writeMailbox (s : Block) (r c step : Nat) : Block :=
  let l := s.valleySet r (s.imageCore r c) (s.activeVer r)
  let row : Row := (List.range l.length).foldl (fun v i => v ||| (BitVec.ofNat 4096 (s.mailEntry r c (l.getD i (0, .none))) <<< (64 + 64 * i)))
    (BitVec.ofNat 4096 (l.length + step * 2 ^ 32))
  (s.sharedWrite r c 4095 row allWords 49 false 0 []).1

/-- The mailboxes of cores whose valley set changes at this boundary. -/
def Block.writeMailboxes (s : Block) (r step : Nat) : Block :=
  let l := distinct (s.res.mailbox.filter (fun k => decide (k / 34 = r)))
  l.foldl (fun t k => t.writeMailbox r (k % 34) step)
    { s with res := { s.res with mailbox := s.res.mailbox.filter (fun k => decide (k / 34 ≠ r)) } }

/-- Codes as a stream of N-bit codes, byte 0 lowest (R272). -/
def codeStream (n : Nat) : List Nat → Nat
  | [] => 0
  | c :: rest => c % 2 ^ n + 2 ^ n * codeStream n rest

/-- The rows of a valley block's stream (R495): header and data, or the header alone when its record fails its tag. -/
def Block.streamRows (s : Block) (r c step : Nat) (bad : Bool) (x : Nat × LayerEntry) : List Row :=
  let head : Row := BitVec.ofNat 4096 (s.mailEntry r c x + step % 2 ^ 32 * 2 ^ 64 + (if bad then 0xFFFFFFFF * 2 ^ 96 else 0))
  if bad then [head]
  else
    let codes := if x.2.src = 2 then SMap.get [] s.res.hostCodes x.1 else SMap.get [] s.res.valley x.2.vslot
    let n := rowCodes x.2.width
    let perRow := 4096 / x.2.width
    head :: (List.range (512 * n / perRow)).map (fun i =>
      (BitVec.ofNat 4096 (codeStream x.2.width ((codes.drop (perRow * i)).take perRow))))

/-- Streams rows while region 63 of their core has room (R456, R495); a disabled region takes none. -/
def Block.pumpStreams (s : Block) : Block :=
  (List.range s.res.streams.length).foldl (fun t _ =>
    match t.res.streams with
    | [] => t
    | (k, row) :: rest =>
      let r := k / 34
      let c := k % 34
      let u := { t with res := { t.res with streams := rest } }
      match t.regionRefuses r c 63 with
      | none => u.produceRow r c 63 row 49 false
      | some true => t
      | some false => u) s

/-- Whether a valley block held in host memory cannot be decrypted: its record fails its tag, or its key is gone (R495,
R604). -/
def Block.hostBad (s : Block) (bad : List Nat) (x : Nat × LayerEntry) : Bool :=
  decide (x.2.src = 2) && (bad.contains x.1 || (match SMap.find x.2.vslot s.res.hostTable with
    | some (slot, _) => (SMap.find slot s.tr.keys).isNone
    | none => true))

/-- The valley stream of a step (R495): `bad` are the entries whose record fails its tag. -/
def Block.streamStep (s : Block) (r step : Nat) (bad : List Nat) : Block :=
  let t := (List.range 32).foldl (fun t k =>
    let c := t.siteOf r k
    (t.valleySet r k (t.stepVersion r)).foldl (fun t x =>
      let b := t.hostBad bad x
      let u := { t with res := { t.res with streams := t.res.streams ++ (t.streamRows r c step b x).map (fun row => (siteKey r c, row)) } }
      if b then (u.failedNow r).signature 7 0 0 (u.locEngine r c (x.1 / 128 % 8)) step (u.rev r) 0 0 else u) t) s
  t.pumpStreams

/-- An armed flip at the boundary into a step (R488, R489). -/
def Block.flip (s : Block) (r step : Nat) : Block :=
  if s.fld (RZ_FLIP_STAT.STATE r) ≠ 1 ∨ stepBefore step (s.fld (RZ_FLIP_STEP.STEP r)) then s
  else
    let into := s.fld (RZ_FLIP_CTL.TO r)
    let late := s.res.layer.any (fun x => decide (x.1 / 32768 = r) && x.2.inVer into && (decide (x.2.state = 1) || x.2.refetch))
    if late then (s.setFld (RZ_FLIP_STAT.STATE r) 3).raise (diePage 12) Irq.residency_FLIP_LATE
    else
      let t := (s.setFld (RZ_FLIP_STAT.ACTIVE r) into).setFld (RZ_FLIP_STAT.STATE r) 2
      let t := { t with res := { t.res with mailbox := t.res.mailbox
        ++ ((t.res.layer.filter (fun (x : Nat × LayerEntry) => decide (x.1 / 32768 = r ∧ x.2.state = 3))).map (fun (x : Nat × LayerEntry) => siteKey r (t.siteOf r (x.1 / 1024 % 32)))) } }
      let t := t.send (cellPacket ⟨t.fld FAB_SELF.COORD, 0, 18⟩ 32 (t.sourceOf r) (t.fld (RZ_FLIP_CTL.CELL r)) .add 1)
      t.raise (diePage 12) Irq.residency_FLIPPED

/-! ## The boundary -/

/-- The step boundary of a ridge. `into` is the step that begins, absent where the counter does not advance (R51). -/
def Block.stepBoundary (s : Block) (r : Nat) (into : Option Nat) (bad : List Nat) : Block :=
  let t := ((((((s.runActs r).applyFits r).applyShadows r).calCommit r).applyNorms r).migStop r).activateAll r
  let step := into.getD (s.step r)
  let t := match into with | some n => t.flip r n | none => t
  let t := t.writeMailboxes r step
  match into with | some n => t.streamStep r n bad | none => t

end Sys2Proof.Machine
end

