-- ==== Sys2Proof/Machine/Store.lean ====
section
/-! DEFINITION. The commands of the resistive store (R28–R100, R815, R816). -/
namespace Sys2Proof.Machine
open Host

/-- TOKEN_GRANT (R43, R50, R74, R76): a free token goes to the next operation in class order, while the ridge runs and no
rail holds it (R637). -/
def execTokenGrant (r : RidgeId) (s : State) : Outcome State Fault Refusal := s.runs fun s =>
  if !s.ridgeUp r ∨ s.lvActive then .next s
  else match s.freeToken r, s.nextGrant r with
    | some token, some (.inl key) =>
      .next { s with store := { s.store with running := s.store.running.map (fun x =>
        if x.1 = key then (x.1, { x.2 with suspended := false, token := token }) else x) } }
    | some token, some (.inr o) =>
      let t := s.setQueue r ((s.queue r).erase o)
      .next (t.startOp r token o)
    | _, _ => .next s

/-- PGM_ITERATION (R40, R42–R46): `g` are the row's 544 conductances that the verify read measured, referred to 25 °C (R32);
`ue` are the image codewords of the row that are uncorrectable, and `repair` then the row as a verify read of the serving
slab finds it. -/
def execPgmIteration (r : RidgeId) (c : SiteId) (e : EngineId) (g : List Nat) (ue : List (Fin 4)) (repair : List Nat) (s : State) :
    Outcome State Fault Refusal := s.runs fun s =>
  if g.length ≠ 544 ∨ repair.length ≠ 544 then .fault .illFormed
  else match s.runOf r c e with
    | none => .next s
    | some o =>
      if o.swept ∨ o.suspended ∨ !o.op.kind.programs ∨ s.lvActive then .next s
      else
        let p := o.op.slab
        let (t, ok) := if o.op.kind = .erase then (s, true)
          else s.repairImage r c e (s.imageSlot r c e p) o.row ue repair
        if !ok then .next ((t.endRun r c e o).opDone r o.op.commanded false)
        else
          let t := t.setCellRow r c e p o.row g
          let out := (List.range 544).filter (fun col =>
            let x := t.opTarget r o.op o.row col
            !within (g.getD col 0) x.nominal x.prog)
          let reads := if o.second then o.it else o.it + 1
          if out.isEmpty ∨ reads = 12 then .next (t.rowDone r o out)
          else if o.second ∧ o.it = 0 then .next (t.setRun r c e (some { o with it := 1 }))
          else
            let (t, x) := t.pulseRow r o g out
            .next (t.setRun r c e (some x))

/-- SLAB_PROGRAM_DONE (R47, R48, R58, R67–R71, R80, R815, R816). -/
def execSlabProgramDone (r : RidgeId) (c : SiteId) (e : EngineId) (s : State) : Outcome State Fault Refusal := s.runs fun s =>
  match s.runOf r c e with
  | none => .next s
  | some o => .next (if o.swept then s.finishProgram r c e o else s)

/-! ## Drift -/

/-- Whether a slab is sampled for drift (R53). -/
def SlabState.sampled (st : SlabState) : Bool := decide (st = .resident ∨ st = .assigned ∨ st = .standin)

/-- DRIFT_SAMPLE_DUE (R53, R92). -/
def execDriftSampleDue (r : RidgeId) (c : SiteId) (e : EngineId) (p : SlabId) (s : State) : Outcome State Fault Refusal := s.runs fun s =>
  let same (o : StoreOp) : Bool := decide (o.kind = .driftSample ∧ o.site = c ∧ o.engine = e ∧ o.slab = p)
  if !s.bit SD_CTL.DRIFT_EN ∨ !(s.slab r c e p).state.sampled ∨ (s.queue r).any same
    ∨ (s.runOf r c e).any (fun x => same x.op) then .next s
  else .next (s.setQueue r (s.queue r ++ [⟨.driftSample, c, e, p, 0, 5, false⟩]))

/-- DRIFT_FIT (R55–R57): `g` are the 64 samples in 1/1,000 µS, four of each level in level order. -/
def execDriftFit (r : RidgeId) (c : SiteId) (e : EngineId) (g : List Nat) (s : State) : Outcome State Fault Refusal := s.runs fun s =>
  if g.length ≠ 64 then .fault .illFormed
  else match s.runOf r c e with
    | none => .next s
    | some o =>
      if o.op.kind ≠ .driftSample then .next s
      else
        let p := o.op.slab
        let t := (s.setRun r c e none).opDone r o.op.commanded true
        if driftOk g then .next (t.modSlab r c e p (fun b => { b with stagedFit := some (driftTrims g), driftLimit := false }))
        else
          let t := (t.modSlab r c e p (fun b => { b with driftLimit := true })).raise (ridgePage r 0) Irq.ridgeStore_DRIFT_LIMIT
          .next (t.queueRefresh r c e p 3)

/-! ## Refresh debt -/

/-- The band whose increment a ridge's slabs accrue (R59, R61): the ridge's, or in Hold that of the base-camp sensors,
never below 1. -/
def Block.debtBand (s : Block) (r : Nat) : Nat :=
  if s.fld PM_DIE_STAT.STATE = 0 then max 1 s.look.baseBand else s.fld (LT_RIDGE_STAT.BAND r)

/-- DEBT_ACCRUAL (R59, R61, R62). -/
def execDebtAccrual (s : State) : Outcome State Fault Refusal := s.runs fun s =>
  let t := { s with store := { s.store with seconds := s.store.seconds + 1 } }
  .next ((List.range 39168).foldl (fun t k =>
    t.addDebt (keyRidge k) (keySite k) (keyEngine k) (keySlab k) (t.fld (SD_BAND_INC.INC (min 4 (t.debtBand (keyRidge k)))))) t)

/-- READ_DEBT_COUNT (R60, R92). -/
def execReadDebtCount (r : RidgeId) (c : SiteId) (e : EngineId) (p : SlabId) (s : State) : Outcome State Fault Refusal := s.runs fun s =>
  let b := s.slab r c e p
  if b.readCount < 2 ^ 24 then .next s
  else .next ((s.setSlab r c e p { b with readCount := b.readCount - 2 ^ 24 }).addDebt r c e p (s.fld SD_RD_INC.RD_INC))

/-- The overdue limit of a band in seconds (R63). -/
def overdueLimit (band : Nat) : Nat := if band ≥ 4 then 3600 else if band = 3 then 21600 else 86400

/-- A due slab that has become overdue (R63). -/
def Block.becomeOverdue (s : Block) (r c e p : Nat) : Block :=
  let t := (s.modSlab r c e p (fun b => { b with overdue := true })).raise (ridgePage r 0) Irq.ridgeStore_REF_OVERDUE
  (t.suspect r c e p).queueRefresh r c e p 3

/-- The slabs of a ridge that have become overdue (R63). -/
def Block.overdueCheck (s : Block) (r : Nat) : Block :=
  let limit := overdueLimit (s.fld (LT_RIDGE_STAT.BAND r))
  let due := s.store.slabs.filter (fun x => decide (keyRidge x.1 = r) && !x.2.overdue
    && decide (x.2.state = .resident ∨ x.2.state = .suspect ∨ x.2.state = .assigned)
    && (match x.2.dueAt with | some d => decide (s.store.seconds - d ≥ limit) | none => false))
  due.foldl (fun t x => t.becomeOverdue r (keySite x.1) (keyEngine x.1) (keySlab x.1)) s

/-- OVERDUE_CHECK (R63). -/
def execOverdueCheck (r : RidgeId) (s : State) : Outcome State Fault Refusal := s.runs fun s => .next (s.overdueCheck r)

/-- Queues due slabs in class 5 and overdue slabs in class 3 (R92). -/
def Block.refreshDue (s : Block) : Block :=
  let due := s.store.slabs.filter (fun x => x.2.dueAt.isSome
    && decide (x.2.state = .resident ∨ x.2.state = .suspect ∨ x.2.state = .assigned))
  due.foldl (fun t x => t.queueRefresh (keyRidge x.1) (keySite x.1) (keyEngine x.1) (keySlab x.1) (if x.2.overdue then 3 else 5)) s

/-- A write of SD_CTL: REFRESH_EN returning to 1 queues refreshes (R92). -/
def Block.sdCtlWrite (s : Block) (req : Requester) (page off : Nat) (v : Word) : Block :=
  let t := s.storeAt req page off v
  if !s.bit SD_CTL.REFRESH_EN && t.bit SD_CTL.REFRESH_EN then t.refreshDue else t

/-- REFRESH_EN (R63, R92). -/
def execRefreshEn (req : Fin 18) (dw : BitVec 26) (v : Word) (s : State) : Outcome State Fault Refusal := s.runs fun s =>
  .next (s.command req dw.toNat v .dieStore [0x40] (fun page off _ t => t.sdCtlWrite req page off v))

/-! ## Refreshes and leases (R64, R66) -/

/-- A refresh ends with nothing left to program (R64). -/
def Block.refreshClean (s : Block) (r c e p : Nat) (commanded : Bool) : Block :=
  let t := (s.countRefresh r c e).modSlab r c e p (fun b => { b with debt := 0, dueAt := none })
  (if (t.slab r c e p).overdue then t.backToResident r c e p else t).opDone r commanded true

/-- REFRESH_SCAN_DONE (R64, R65): `moved` are the cells whose conductance the scan found changed. -/
def execRefreshScanDone (r : RidgeId) (c : SiteId) (e : EngineId) (moved : List (Fin 512 × Fin 544 × Nat)) (s : State) :
    Outcome State Fault Refusal := s.runs fun s =>
  match s.runOf r c e with
  | none => .next s
  | some o =>
    if o.op.kind ≠ .refresh then .next s
    else
      let p := o.op.slab
      let t := (s.moveCells r c e p moved).setRun r c e none
      .next (if (t.scanSlab r c e p).2 = 0 then t.refreshClean r c e p o.op.commanded else t.refreshLoop r o.op)

/-- REFRESH_RESUME (R64, R66): each waiting refresh looks again at slab 8, LEASE_MODE and its slab; one under an
unacknowledged lease goes on in place once its slab is overdue. -/
def execRefreshResume (r : RidgeId) (s : State) : Outcome State Fault Refusal := s.runs fun s =>
  let l := s.waiting r
  let leased (o : StoreOp) : Bool := decide (o.kind = .refreshSlab) && s.bit (SR_LEASE_REQ.VALID r)
    && decide (s.fld (SR_LEASE_REQ.SITE r) = o.site ∧ s.fld (SR_LEASE_REQ.ENGINE r) = o.engine ∧ s.fld (SR_LEASE_REQ.SLAB r) = o.slab)
  .next (l.foldl (fun t o =>
    if o.kind = .refresh then t.refreshLoop r o
    else if leased o && (t.slab r o.site o.engine o.slab).overdue then
      (t.setBit (SR_LEASE_REQ.VALID r) false).setQueue r (t.queue r ++ [o])
    else t.setWaiting r (t.waiting r ++ [o])) (s.setWaiting r []))

/-- LEASE_ACK (R66). -/
def execLeaseAck (req : Fin 18) (dw : BitVec 26) (v : Word) (s : State) : Outcome State Fault Refusal := s.runs fun s =>
  .next (s.command req dw.toNat v .ridgeStore [0x54] (fun page _ _ t =>
    let r := ridgeOfPage page
    let c := t.fld (SR_LEASE_REQ.SITE r)
    let e := t.fld (SR_LEASE_REQ.ENGINE r)
    let p := t.fld (SR_LEASE_REQ.SLAB r)
    if !v.getLsbD 0 ∨ !t.bit (SR_LEASE_REQ.VALID r) ∨ (t.slab r c e p).leased then t
    else (t.modSlab r c e p (fun b => { b with leased := true, state := .outForRefresh })).releaseFor r c e p))

/-- IDLE_STEP_BOUNDARY (R51): a ridge that has issued no pass for 1 ms; none of its engines runs one. -/
def execIdleStepBoundary (r : RidgeId) (s : State) : Outcome State Fault Refusal := s.runs fun s =>
  if s.eng.any (fun x => decide (x.1 / 272 = r) && (x.2.pass.isSome || x.2.qmPass.isSome)) then .next s
  else .next (s.stepBoundary r none [])

/-! ## Erases (R78–R83, R95, R620) -/

/-- ERASE_SCOPE_WRITE (R83). -/
def execEraseScopeWrite (req : Fin 18) (dw : BitVec 26) (v : Word) (s : State) : Outcome State Fault Refusal := s.runs fun s =>
  .next (s.command req dw.toNat v .dieStore [0x6C] (fun page off _ t =>
    let t := t.storeAt req page off v
    if t.store.erase = .done ∨ t.store.erase = .denied ∨ t.store.erase = .inUse then
      { t with store := { t.store with erase := .idle } }
    else t))

/-- Whether the trust block authorises an erase scope (R620). -/
def Block.eraseAllowed (s : Block) (req : Requester) : Bool :=
  let kind := s.fld SD_ERASE_SCOPE.KIND
  let free (r : Nat) : Bool := decide (s.fld (TR_RIDGE_STAT.STATE 16 r) = 0 ∨ s.fld (TR_RIDGE_STAT.STATE 16 r) = 3)
  if kind = 5 then (List.range 16).all free
  else
    let r := s.fld SD_ERASE_SCOPE.RIDGE
    free r || (decide (req.val = r + 1) && s.bit (TR_RIDGE_STAT.VF_TRUST 16 r))

/-- Whether a scope holds a block of the active version that is resident (R79). -/
def Block.eraseInUse (s : Block) (x : SlabSpan) : Bool :=
  s.res.layer.any (fun y => s.entryIn x y.1 y.2 && decide (y.2.state = 2 ∨ y.2.state = 4) && y.2.inVer (s.activeVer (y.1 / 32768)))

/-- ERASE_ARM (R78, R82, R83, R95): a write of 0xA5A5. -/
def execEraseArm (req : Fin 18) (dw : BitVec 26) (v : Word) (s : State) : Outcome State Fault Refusal := s.runs fun s =>
  .next (s.command req dw.toNat v .dieStore [0x70] (fun _ _ _ t =>
    if getBits v 0 16 ≠ 0xA5A5 then t
    else if t.store.erase = .running then t.setBit SD_ERASE_STAT.BUSY_REJECT true
    else
      let ok := t.scopeSpan.isSome && t.eraseAllowed req
      { t with store := { t.store with erase := if ok then .armed else .denied } }))

/-- ERASE_ARM_EXPIRY (R78). -/
def execEraseArmExpiry (s : State) : Outcome State Fault Refusal := s.runs fun s =>
  .next (if s.store.erase = .armed then { s with store := { s.store with erase := .idle } } else s)

/-- ERASE_START (R79–R81, R83): a write of 0x5A5A. -/
def execEraseStart (req : Fin 18) (dw : BitVec 26) (v : Word) (s : State) : Outcome State Fault Refusal := s.runs fun s =>
  .next (s.command req dw.toNat v .dieStore [0x70] (fun _ _ _ t =>
    if getBits v 0 16 ≠ 0x5A5A ∨ t.store.erase ≠ .armed then t
    else match t.scopeSpan with
      | none => { t with store := { t.store with erase := .denied } }
      | some x => if t.eraseInUse x then { t with store := { t.store with erase := .inUse } } else t.eraseRun x))

/-- A ridge whose whole scope was erased leaves UNBOUND_DIRTY (R598). -/
def Block.ridgeCleaned (s : Block) (r : Nat) : Block :=
  if s.fld (TR_RIDGE_STAT.STATE 16 r) = 3 then
    (s.setFld (TR_RIDGE_STAT.STATE 16 r) 0).raise (diePage 8) Irq.trust_BINDING
  else s

/-- The next slab of an old version is erased (R490), or the freeing of the ridge is done. -/
def Block.freeNext (s : Block) (r : Nat) : Block :=
  match SMap.find r s.res.freeing with
  | none => s
  | some [] =>
    let t := { s with res := { s.res with freeing := SMap.del r s.res.freeing } }
    ((t.setFld (RZ_FLIP_STAT.STATE r) 0)).raise (diePage 12) Irq.residency_FREED
  | some (k :: rest) =>
    if s.store.erase = .running then s
    else ({ s with res := { s.res with freeing := SMap.ins r rest s.res.freeing } }).eraseRun ⟨k, 1⟩

/-- The next erase that the residency pipeline waits for starts (R82, R490, R491). -/
def Block.eraseWaiting (s : Block) : Block :=
  match s.store.eraseNext with
  | x :: rest =>
    if s.store.erase = .running then s else ({ s with store := { s.store with eraseNext := rest } }).eraseRun ⟨x.1, x.2⟩
  | [] => (s.res.freeing.map (·.1)).foldl (fun t r => t.freeNext r) s

/-- ERASE_DONE (R73, R83, R490, R598): the last slab in scope is erased. -/
def execEraseDone (s : State) : Outcome State Fault Refusal := s.runs fun s =>
  if s.store.erase ≠ .running ∨ !s.store.eraseLeft.isEmpty then .next s
  else
    let t := { s with store := { s.store with erase := .done } }
    let t := t.setBit SD_STAT.UNSERVABLE false
    let t := match s.fld SD_ERASE_SCOPE.KIND with
      | 4 => t.ridgeCleaned (s.fld SD_ERASE_SCOPE.RIDGE)
      | 5 => (List.range 16).foldl (fun t r => t.ridgeCleaned r) t
      | _ => t
    .next t.eraseWaiting

/-! ## The store record and the cairn store -/

/-- DEBT_CHECKPOINT (R88). -/
def execDebtCheckpoint (s : State) : Outcome State Fault Refusal := s.runs fun s =>
  .next { s with store := { s.store with
    checkpoint := (s.store.slabs.filter (fun x => decide (x.2.debt ≠ 0))).map (fun x => (x.1, x.2.debt)),
    checkpointRest := 0, checkpointTime := s.cairn.time } }

/-- CAIRN_STORE_REFRESH (R89): nothing that a command can read changes but the time of the refresh. -/
def execCairnStoreRefresh (s : State) : Outcome State Fault Refusal := s.runs fun s =>
  .next { s with store := { s.store with cairnRefreshed := s.store.seconds } }

/-! ## SR_CMD (R99) -/

/-- A write of SR_CMD with one OP: rejected by state or a full queue, or queued in its class. -/
def Block.storeCommand (s : Block) (req : Requester) (dw : Nat) (v : Word) (op : Nat) (kind : StoreKind) (cls : Nat)
    (ok : SlabState → Bool) : Block :=
  s.command req dw v .ridgeStore [0x48] (fun page _ _ t =>
    let r := ridgeOfPage page
    let c := getBits v 4 6
    let e := getBits v 10 3
    let p := getBits v 13 4
    let col := getBits v 17 10
    if getBits v 0 4 = 0 ∨ getBits v 0 4 > 6 then t.setFld (SR_CMD_STAT.RESULT r) 3
    else if getBits v 0 4 ≠ op then t
    else if c > 33 ∨ p > 8 ∨ (kind = .replaceColumn ∧ col > 527) ∨ !ok (t.slab r c e p).state then t.setFld (SR_CMD_STAT.RESULT r) 3
    else if (t.queue r).length ≥ 4096 then t.setFld (SR_CMD_STAT.RESULT r) 4
    else (t.enqueue r ⟨kind, c, e, p, if kind = .replaceColumn then col else p, cls, true⟩).setFld (SR_CMD_STAT.RESULT r) 1)

/-- SCAN (R99). -/
def execScan (req : Fin 18) (dw : BitVec 26) (v : Word) (s : State) : Outcome State Fault Refusal := s.runs fun s =>
  .next (s.storeCommand req dw.toNat v 1 .scan 5 (fun st => decide (st = .resident ∨ st = .assigned ∨ st = .suspect ∨ st = .outForRefresh)))

/-- REFRESH (R64, R99). -/
def execRefresh (req : Fin 18) (dw : BitVec 26) (v : Word) (s : State) : Outcome State Fault Refusal := s.runs fun s =>
  .next (s.storeCommand req dw.toNat v 2 .refresh 5 (fun st => decide (st = .resident ∨ st = .assigned ∨ st = .suspect)))

/-- DRIFT_SAMPLE (R53, R99). -/
def execDriftSample (req : Fin 18) (dw : BitVec 26) (v : Word) (s : State) : Outcome State Fault Refusal := s.runs fun s =>
  .next (s.storeCommand req dw.toNat v 3 .driftSample 5 SlabState.sampled)

/-- REPLACE_COLUMN (R71, R99). -/
def execReplaceColumn (req : Fin 18) (dw : BitVec 26) (v : Word) (s : State) : Outcome State Fault Refusal := s.runs fun s =>
  .next (s.storeCommand req dw.toNat v 4 .replaceColumn 2
    (fun st => decide (st = .resident ∨ st = .assigned ∨ st = .suspect ∨ st = .outForRefresh)))

/-- REPLACE_SLAB (R70, R71, R99). -/
def execReplaceSlab (req : Fin 18) (dw : BitVec 26) (v : Word) (s : State) : Outcome State Fault Refusal := s.runs fun s =>
  .next (s.storeCommand req dw.toNat v 5 .replaceSlab 2 (fun st => decide (st = .resident ∨ st = .suspect)))

/-- REVERIFY (R47, R99). -/
def execReverify (req : Fin 18) (dw : BitVec 26) (v : Word) (s : State) : Outcome State Fault Refusal := s.runs fun s =>
  .next (s.storeCommand req dw.toNat v 6 .reverify 1 (fun st => decide (st = .resident ∨ st = .assigned ∨ st = .suspect)))

/-- An UNRESOLVED classification's scan (R567): columns with cells outside their windows are replaced; with none found the
slab's blocks go to valley mode. -/
def Block.unresolvedScan (s : Block) (r c e p : Nat) (cols : List Nat) : Block :=
  let logical := distinct (cols.filterMap (s.slab r c e p).logicalOf)
  if logical.isEmpty then s.valleySlab r c e p
  else logical.foldl (fun t l => t.enqueue r ⟨.replaceColumn, c, e, p, l, 2, false⟩) s

/-- SCAN_DONE (R72, R73, R99, R567): `moved` as in REFRESH_SCAN_DONE. A scan that an UNRESOLVED classification queued is of
class 2. -/
def execScanDone (r : RidgeId) (c : SiteId) (e : EngineId) (moved : List (Fin 512 × Fin 544 × Nat)) (s : State) :
    Outcome State Fault Refusal := s.runs fun s =>
  match s.runOf r c e with
  | none => .next s
  | some o =>
    if o.op.kind ≠ .scan then .next s
    else
      let p := o.op.slab
      let t := (s.moveCells r c e p moved).setRun r c e none
      if o.op.cls = 2 then .next (t.unresolvedScan r c e p (t.scanSlab r c e p).1)
      else .next (t.opDone r o.op.commanded true)

end Sys2Proof.Machine
end

