-- ==== Sys2Proof/Machine/CairnOps.lean ====
section
/-! DEFINITION. The cairn's hut region, its second, its flush and its read-out (R699–R713). -/
namespace Sys2Proof.Machine

/-! ## What a second adds (R702) -/

/-- The histogram bin of a temperature in 1/16 °C (R701). -/
def heatBin (x : Int) : Nat := (max 0 (min 31 (x / 64))).toNat

/-- The latest valid readings: sensors 0–67, then stacks 68–73. -/
def Block.heatSources (s : Block) : List (Nat × Int) :=
  let sensors := (List.range 68).filter (fun k => s.bit (LT_SENS_DATA.VALID k))
  let raw (k : Nat) : Int := let n := s.fld (LT_SENS_DATA.TEMP k); if n ≥ 32768 then (n : Int) - 65536 else n
  sensors.map (fun k => (k, raw k))
    ++ ((List.range 6).filter (fun h => s.bit (LT_STACK_DATA.VALID h))).map (fun h => (68 + h, SMap.get 0 s.look.stackTemp h))

/-- Adds to a saturating count of a table. -/
def bump (bits : Nat) (m : SMap Nat) (k n : Nat) : SMap Nat := SMap.set 0 m k (min (2 ^ bits - 1) (SMap.get 0 m k + n))

/-- The power-state counters that run now: the die's state, and each ridge's (R701). -/
def Block.powerKeys (s : Block) : List Nat :=
  let die := s.fld PM_DIE_STAT.STATE
  (if die ≤ 2 then [die] else [])
    ++ ((List.range 16).filter (fun r => decide (s.ridgeState r ≤ 3))).map (fun r => 3 + 4 * r + s.ridgeState r)

/-- One source's second: its bin and its extremes. -/
def CairnData.heat (d : CairnData) (x : Nat × Int) : CairnData :=
  let old := SMap.get (x.2, x.2) d.extremes x.1
  { d with hist := bump 32 d.hist (x.1 * 32 + heatBin x.2) 1, extremes := SMap.ins x.1 (min old.1 x.2, max old.2 x.2) d.extremes }

/-- The counts that follow their blocks' own counters. -/
def CairnData.counts (d : CairnData) (c : CairnSt) : CairnData :=
  { d with
    fec := c.newFec.foldl (fun m e => bump 64 m e.1 e.2) d.fec
    passes := c.newPasses.foldl (fun m e => bump 64 m e.1 e.2) d.passes
    refreshes := c.newRefreshes.foldl (fun m e => bump 32 m e.1 e.2) d.refreshes
    tally := c.newTally.foldl (fun m e => bump 16 m e.1 e.2) d.tally }

/-- Counts that wait are taken or lost. -/
def CairnSt.taken (c : CairnSt) : CairnSt := { c with newFec := [], newPasses := [], newRefreshes := [], newTally := [] }

/-- A second of calendar time (R702); while the cairn does not record, each update that it would have made is missed (R710). -/
def Block.cairnSecond (s : Block) : Block :=
  let heat := s.heatSources
  let keys := s.powerKeys
  let settled := decide (s.fld PM_DIE_STAT.STATE = 1) && (List.range 16).all (fun r => decide (s.ridgeState r = 3))
  let s := { s with cal := { s.cal with settled := if settled then s.cal.settled + 1 else 0 } }
  let s := { s with cairn := { s.cairn with time := s.cairn.time + 1000 } }
  let c := s.cairn
  if s.cairnOn then
    let d := heat.foldl CairnData.heat c.data
    let d := { d with powerMs := keys.foldl (fun m k => bump 64 m k 1000) d.powerMs }
    { s with cairn := { c.taken with data := d.counts c } }
  else
    let n := heat.length + keys.length + c.newFec.length + c.newPasses.length + c.newRefreshes.length + c.newTally.length
    { s.addReg CAIRN_MISSED n with cairn := { c.taken with missedSince := true } }

/-! ## The hut region and the log area (R701, R706) -/

/-- A field of `size` bytes of a table of counts: the byte at offset `off` of the table. -/
def tableByte (size : Nat) (f : Nat → Nat) (off : Nat) : Nat := f (off / size) / 256 ^ (off % size) % 256

/-- A 16-bit field of a signed number. -/
def word16 (x : Int) : Nat := (x % 65536).toNat

/-- A byte of a snapshot (R701): `seq` and `time` are those of its header. -/
def CairnData.byte (d : CairnData) (seq time off : Nat) : Nat :=
  if off < 0x100 then tableByte 256 (fun _ => Config.cairnLayout % 65536 + seq % 2 ^ 32 * 2 ^ 32 + time % 2 ^ 64 * 2 ^ 64) off
  else if off < 0x2600 then tableByte 4 (SMap.get 0 d.hist) (off - 0x100)
  else if off < 0x2728 then
    tableByte 4 (fun k => let x := SMap.get (0, 0) d.extremes k; word16 x.1 + word16 x.2 * 65536) (off - 0x2600)
  else if off < 0x2800 then 0
  else if off < 0x2858 then tableByte 8 (fun k => let x := SMap.get (0, 0) d.rails k; x.1 % 65536 + x.2 % 65536 * 65536) (off - 0x2800)
  else if off < 0x2900 then 0
  else if off < 0x2950 then tableByte 8 (SMap.get 0 d.fec) (off - 0x2900)
  else if off < 0x2A00 then 0
  else if off < 0x2C20 then tableByte 8 (SMap.get 0 d.powerMs) (off - 0x2A00)
  else if off < 0x3000 then 0
  else if off < 0xB800 then tableByte 8 (SMap.get 0 d.passes) (off - 0x3000)
  else if off < 0xFC00 then tableByte 4 (SMap.get 0 d.refreshes) (off - 0xB800)
  else if off < 0x22E00 then tableByte 2 (SMap.get 0 d.tally) (off - 0xFC00)
  else 0

/-- An event record as one number of LEN × 64 bytes (R704). -/
def CairnRec.value (r : CairnRec) : Nat :=
  (r.time % 2 ^ 64 + r.kind * 2 ^ 64 + r.len * 2 ^ 80 + r.flags * 2 ^ 88 + r.seq % 2 ^ 32 * 2 ^ 96 + r.body * 2 ^ 128) % 2 ^ (512 * r.len)

/-- Byte `off` of records laid one after another. -/
def recordsByte : List CairnRec → Nat → Nat
  | [], _ => 0
  | r :: rest, off => if off < 64 * r.len then r.value / 256 ^ off % 256 else recordsByte rest (off - 64 * r.len)

/-- A byte of the hut region (R701). -/
def Block.hutByte (s : Block) (off : Nat) : Nat :=
  if off < 0x23000 then
    s.cairn.data.byte (s.reg CAIRN_FLUSH_CNT).toNat ((s.cairn.snapshots.head?.map (·.2.1)).getD 0) off
  else recordsByte s.cairn.staging (off - 0x23000)

/-- A byte of the event ring (R706). -/
def ringByte (l : List (Nat × CairnRec)) (off : Nat) : Nat :=
  match l.find? (fun e => decide ((off / 64 + 26624 - e.1) % 26624 < e.2.len)) with
  | some e => e.2.value / 256 ^ ((off / 64 + 26624 - e.1) % 26624 * 64 + off % 64) % 256
  | none => 0

/-- A byte of the log area (R706): a flush of odd sequence number lies in the first snapshot copy. -/
def Block.logByte (s : Block) (a : Nat) : Nat :=
  let copy (odd : Nat) (off : Nat) : Nat :=
    match s.cairn.snapshots.find? (fun x => decide (x.1 % 2 = odd)) with
    | some x => if off < 0x23000 then x.2.2.byte x.1 x.2.1 off else 0
    | none => 0
  if a < 0x228000 then copy 1 (a - 0x200000)
  else if a < 0x250000 then copy 0 (a - 0x228000)
  else ringByte s.cairn.ring (a - 0x250000)

/-- The 2 KiB that a read-out of an address shows, and whether the address is denied (R712). -/
def Block.cairnRead (s : Block) (addr : Nat) : List Byte × Bool :=
  let f (g : Nat → Nat) : List Byte := (List.range 2048).map (fun k => BitVec.ofNat 8 (g k))
  if addr < 0x40000 then (f (fun k => s.hutByte (addr + k)), false)
  else if 0x600000 ≤ addr ∧ addr < 0x7F0000 then (f (fun k => s.logByte (addr - 0x400000 + k)), false)
  else (f (fun _ => 0), true)

/-! ## Flushes (R706–R709) -/

/-- A record is appended to the ring over its oldest units. -/
def Block.ringPut (s : Block) (r : CairnRec) : Block :=
  let tail := s.fld CAIRN_RING.TAIL
  let clash (e : Nat × CairnRec) : Bool :=
    (List.range r.len).any (fun i => decide (((tail + i) % 26624 + 26624 - e.1) % 26624 < e.2.len))
  let t := { s with cairn := { s.cairn with ring := s.cairn.ring.filter (fun e => !clash e) ++ [(tail, r)] } }
  let t := t.setFld CAIRN_RING.TAIL ((tail + r.len) % 26624)
  if tail + r.len ≥ 26624 then t.addSat CAIRN_RING.WRAPS 1 else t

/-- The debt summary (R707): the high 16 bits of each slab's debt; a value v stands for v × 65,536 + 65,535. -/
def Block.debtSummary (s : Block) : Block :=
  let l := (s.store.slabs.map (fun x => (x.1, x.2.debt / 65536 * 65536 + 65535))).filter (fun x => decide (x.2 ≠ 65535))
  { s with store := { s.store with checkpoint := l, checkpointRest := 65535, checkpointTime := s.cairn.time } }

/-- A flush completes (R643, R707): intents and debts are in the store record, staging in the ring, and the snapshot is the
newer copy. -/
def Block.flushed (s : Block) : Block :=
  let t := s.cairn.staging.foldl (fun t r => t.ringPut r) s.debtSummary
  let seq := ((t.reg CAIRN_FLUSH_CNT).toNat + 1) % 2 ^ 32
  let t := t.setReg CAIRN_FLUSH_CNT (BitVec.ofNat 32 seq)
  let t := { t with cairn := { t.cairn with
    staging := [], flush := none, snapshots := ((seq, t.cairn.time, t.cairn.data) :: t.cairn.snapshots).take 2 } }
  let t := (t.setBit CAIRN_STAT.FLUSHING false).raise (diePage 5) Irq.cairn_FLUSH_DONE
  if s.cairn.flush = some 1 then
    { (t.setBit PM_PF_STAT.FLUSH_DONE true) with pow := { t.pow with clean := true } }
  else t.releaseFaultFlush

/-- CLEAR (R713): the snapshot part becomes zero and a record CLEARED is appended. -/
def Block.cairnClear (s : Block) : Block :=
  if s.bit CAIRN_CTL.FREEZE then s
  else { s with cairn := { s.cairn.taken with data := CairnData.empty } }.cairnRecord 11 1 0

/-- A write of CAIRN_CTL (R710, R713, R715). -/
def Block.cairnControl (s : Block) (v : Word) : Block :=
  let t := s.setBit CAIRN_CTL.EN (v.getLsbD 0)
  let t := if v.getLsbD 1 = t.bit CAIRN_CTL.FREEZE then t else t.cairnFreeze (v.getLsbD 1)
  let t := if v.getLsbD 2 then t.cairnClear else t
  if v.getLsbD 3 then t.faultFlush 3 else t

end Sys2Proof.Machine
end

