-- ==== Sys2Proof/Machine/Cairn.lean ====
section
/-! DEFINITION. Commands of the cairn (R699–R716). -/
namespace Sys2Proof.Machine
open Host

/-- CAIRN_SECOND (R699, R702). -/
def execCairnSecond (s : State) : Outcome State Fault Refusal := s.runs fun s => if s.pow.off then .next s else .next s.cairnSecond

/-- RAIL_HOUR (R703): minimum and maximum of each rail in order, 16 bits each. -/
def execRailHour (s : State) : Outcome State Fault Refusal := s.runs fun s =>
  let body := ((List.range 11).map (fun k =>
    let x := SMap.get (0, 0) s.cairn.data.rails k
    (x.1 % 65536 + x.2 % 65536 * 65536) * 2 ^ (32 * k))).sum
  let t := s.cairnRecord 2 1 body
  if s.cairnOn then .next { t with cairn := { t.cairn with data := { t.cairn.data with rails := [] } } } else .next t

/-- CAIRN_TIME_SET: a write of CAIRN_TIME_HI sets the clock (R699, R700), which stays marked unset
while the crystal does not run (R807); the record carries TIME_BACK when it moves backwards. -/
def execCairnTimeSet (req : Fin 18) (dw : BitVec 26) (v : Word) (s : State) : Outcome State Fault Refusal := s.runs fun s =>
  .next (s.command req dw.toNat v .cairn [0x50] (fun _ _ _ t =>
    let old := t.cairn.time
    let new := v.toNat * 2 ^ 32 + ((SMap.find (stageKey CAIRN_TIME_LO req.val) t.staged).getD 0).toNat
    let t := { t.setBit CAIRN_STAT.TIME_SET !t.cairn.crystalStopped with cairn := { t.cairn with time := new } }
    if t.cairnOn then t.cairnPut 10 1 (if new < old then 1 else 0) (old % 2 ^ 64 + new * 2 ^ 64) else t.cairnMiss))

/-- CAIRN_PERIODIC_FLUSH (R708): one that falls in another flush or in a freeze waits. -/
def execCairnPeriodicFlush (s : State) : Outcome State Fault Refusal := s.runs fun s =>
  if s.fld CAIRN_CFG.PERIOD_H = 0 ∨ s.pow.off then .next s
  else if s.cairn.flush.isSome ∨ s.bit CAIRN_CTL.FREEZE then .next { s with cairn := { s.cairn with faultWaits := true } }
  else .next { s.setBit CAIRN_STAT.FLUSHING true with cairn := { s.cairn with flush := some 2 } }

/-- FAULT_FLUSH_SPACING (R708). -/
def execFaultFlushSpacing (s : State) : Outcome State Fault Refusal := s.runs fun s =>
  .next ({ s with cairn := { s.cairn with spacing := false } } : Block).releaseFaultFlush

/-- CAIRN_FLUSH_DONE (R707, R716): `fail`, a row did not verify. -/
def execCairnFlushDone (fail : Bool) (s : State) : Outcome State Fault Refusal := s.runs fun s =>
  if s.cairn.flush.isNone then .next s
  else .next (if fail then s.flushed.raise (diePage 5) Irq.cairn_FLUSH_FAIL else s.flushed)

/-- CAIRN_FREEZE: a write of CAIRN_CTL (R710, R711, R715). -/
def execCairnFreeze (req : Fin 18) (dw : BitVec 26) (v : Word) (s : State) : Outcome State Fault Refusal := s.runs fun s =>
  .next (s.command req dw.toNat v .cairn [0x40] (fun _ _ _ t => t.cairnControl v))

/-- FREEZE_TIMEOUT (R711). -/
def execFreezeTimeout (s : State) : Outcome State Fault Refusal := s.runs fun s =>
  if !s.bit CAIRN_CTL.FREEZE then .next s
  else .next ((s.cairnFreeze false).raise (diePage 5) Irq.cairn_FREEZE_TMO)

/-- CAIRN_READ_ADDR (R712): the copy begins. -/
def execCairnReadAddr (req : Fin 18) (dw : BitVec 26) (v : Word) (s : State) : Outcome State Fault Refusal := s.runs fun s =>
  .next (s.command req dw.toNat v .cairn [0x64] (fun page off _ t =>
    let t := t.storeAt req page off v
    let t := (t.setBit CAIRN_STAT.RD_READY false).setBit CAIRN_STAT.RD_DENIED false
    { t with cairn := { t.cairn with readAddr := some (getBits v 0 24 / 2048 * 2048) } }))

/-- CAIRN_READ_READY (R712). -/
def execCairnReadReady (s : State) : Outcome State Fault Refusal := s.runs fun s =>
  match s.cairn.readAddr with
  | none => .next s
  | some a =>
    let (l, denied) := s.cairnRead a
    let t := { s with cairn := { s.cairn with readAddr := none, win := l } }
    .next ((t.setBit CAIRN_STAT.RD_READY true).setBit CAIRN_STAT.RD_DENIED denied)

/-- CAIRN_CLEAR: a write of CAIRN_CTL with CLEAR = 1 (R713). -/
def execCairnClear (req : Fin 18) (dw : BitVec 26) (v : Word) (s : State) : Outcome State Fault Refusal := s.runs fun s =>
  .next (s.command req dw.toNat v .cairn [0x40] (fun _ _ _ t => if v.getLsbD 2 then t.cairnControl v else t))

/-- CAIRN_FLUSH_REQUEST: a write of CAIRN_CTL with FLUSH = 1 (R715). -/
def execCairnFlushRequest (req : Fin 18) (dw : BitVec 26) (v : Word) (s : State) : Outcome State Fault Refusal := s.runs fun s =>
  .next (s.command req dw.toNat v .cairn [0x40] (fun _ _ _ t => if v.getLsbD 3 then t.cairnControl v else t))

end Sys2Proof.Machine
end

