-- ==== Sys2Proof/Machine/Engine.lean ====
section
/-! DEFINITION. Engine commands of the E slot, the events of the pass and quick-macro queues, check frames, probes and
echoes, and writes of the shadowed parameters (R101–R160, R198, R543, R544). -/
namespace Sys2Proof.Machine
open Host

/-! ## The E slot (R151–R155) -/

/-- An E-slot command: the E-slot rules, the engine faults of R160 (cause, SLAB field) of which the lowest cause is
recorded, then the command for the queue (R108, R235). -/
def Block.engineSlot (s : Block) (r : RidgeId) (c : SiteId) (e : EngineId) (last : Bool) (bad : Bool) (dests : List Dest)
    (slab : Nat) (causes : List (Bool × Nat)) (cmd : Core → EngCmd) : Block :=
  let x := s.coreAt r c
  s.slot r c 3 last (slotOut x 3 true [(bad || x.handler, 4)] dests [] (fun _ =>
    match (causes.filter (·.1)).head? with
    | some (_, cause) => ([⟨5, 0, 3, e.val + (cause + slab * 16) * 256⟩], [])
    | none => ([], [.engine e.val (cmd x)])))

/-- Whether the pass queue, or the quick-macro queue, holds 4 commands (R108). -/
def Block.queueFull (s : Block) (r c e : Nat) (qm : Bool) : Bool :=
  decide ((if qm then (s.engine r c e).qmQueue.length else (s.engine r c e).queue.length) ≥ 4)

/-- Whether a FIRE to a logical slab of the current step's version is forbidden: no physical slab, or the slab that serves
it is in a state of R49 (R155, R486). -/
def Block.fireForbidden (s : Block) (r c e l : Nat) : Bool :=
  let p := s.mapSlab r c e l
  decide (p = 15) || (s.slab r c e (s.serving r c e p)).noFire

/-- Whether a shape, group, slice and SIGNED are a combination of R110. -/
def shapeLegal (shape group slice : Nat) (signed : Bool) : Bool :=
  match shape with
  | 0 => decide (group = 0 ∧ (slice = 0 ∨ slice = 4)) && (!signed || decide (slice = 4))
  | 1 => decide (group ≤ 3 ∧ slice % 2 = 0) && (!signed || decide (slice = 6))
  | 2 => !signed || decide (slice = 7)
  | _ => false

/-- ENGINE_NOP (R262). -/
def execEngineNop (r : RidgeId) (c : SiteId) (last : Bool) (rest : BitVec 36) (s : State) : Outcome State Fault Refusal := s.runs fun s =>
  .next (s.slot r c 3 last (slotOut (s.coreAt r c) 3 true [(decide (rest ≠ 0), 4)] [] [] (fun _ => ([], []))))

/-- A FIRE to the quick macro (R146, R149, R152). -/
def Block.qmFire (s : Block) (r : RidgeId) (c : SiteId) (e : EngineId) (last : Bool) (vreg : BitVec 5) (shape : BitVec 2)
    (group : BitVec 4) (slice : BitVec 3) (signed acc half : Bool) (rsv : BitVec 12) : Block :=
  s.engineSlot r c e last
    (decide (rsv ≠ 0 ∨ shape ≠ 0 ∨ slice ≠ 0) || decide (group.toNat > 7) || !acc) [] 15
    [(s.queueFull r c e true, 3), (!s.bit (ENG_CTL.QM_EN r c e), 4)]
    (fun x => { EngCmd.blank .qmFire with
      data := x.v vreg.toNat, slab := 15, group := group.toNat, signed := signed, acc := true, half := if half then 1 else 0 })

/-- QM_FIRE. -/
def execQmFire (r : RidgeId) (c : SiteId) (e : EngineId) (last : Bool) (vreg : BitVec 5) (shape : BitVec 2)
    (group : BitVec 4) (slice : BitVec 3) (signed acc half : Bool) (rsv : BitVec 12) (s : State) : Outcome State Fault Refusal := s.runs fun s =>
  .next (s.qmFire r c e last vreg shape group slice signed acc half rsv)

/-- FIRE to a slab (R102, R104, R110, R152, R155); SLAB = 15 names the quick macro. -/
def execFire (r : RidgeId) (c : SiteId) (e : EngineId) (last : Bool) (slab : BitVec 4) (vreg : BitVec 5) (shape : BitVec 2)
    (group : BitVec 4) (slice : BitVec 3) (signed acc half : Bool) (rsv : BitVec 12) (s : State) : Outcome State Fault Refusal := s.runs fun s =>
  if slab = 15 then .next (s.qmFire r c e last vreg shape group slice signed acc half rsv)
  else
    let l := slab.toNat
    .next (s.engineSlot r c e last
      (decide (rsv ≠ 0) || half || decide (9 ≤ l) || !shapeLegal shape.toNat group.toNat slice.toNat signed) [] l
      [(decide (l < 8) && s.fireForbidden r c e l, 1), (decide (l = 8), 2), (s.queueFull r c e false, 3)]
      (fun x => { EngCmd.blank .fire with
        data := x.v vreg.toNat, slab := s.mapSlab r c e l, shape := shape.toNat, group := group.toNat, slice := slice.toNat,
        signed := signed, acc := acc }))

/-- PROBE (R136, R152). -/
def execProbe (r : RidgeId) (c : SiteId) (e : EngineId) (last : Bool) (slab : BitVec 4) (rsv : BitVec 29) (s : State) :
    Outcome State Fault Refusal := s.runs fun s =>
  .next (s.engineSlot r c e last (decide (rsv ≠ 0) || decide (slab.toNat ≥ 9)) [] slab.toNat
    [(s.queueFull r c e false, 3)] (fun _ => { EngCmd.blank .probe with slab := slab.toNat }))

/-- ECHO (R138, R152). -/
def execEcho (r : RidgeId) (c : SiteId) (e : EngineId) (last target hist : Bool) (rsv : BitVec 31) (s : State) :
    Outcome State Fault Refusal := s.runs fun s =>
  .next (s.engineSlot r c e last (decide (rsv ≠ 0)) [] 0 [(s.queueFull r c e false, 3)]
    (fun _ => { EngCmd.blank .echo with target := if target then 1 else 0, hist := if hist then 1 else 0 }))

/-- Outputs that a DRAIN to a format may have (R169). -/
def drainLimit (fmt : Nat) : Nat :=
  [512, 512, 256, 128, 256, 256, 128, 512, 512, 480, 480, 512, 512, 512, 480, 160].getD fmt 0

/-- Outputs of a DRAIN of blocks first–last under the block table of a slab, 15 for the quick macro (R153, R168). -/
def Block.drainCount (s : Block) (r c e bp first last : Nat) : Nat :=
  ((List.range (last + 1 - first)).map (fun i =>
    if bp = 15 then 64 else blockOutputs (s.block r c e bp (first + i)))).sum

/-- DRAIN (R122, R151–R153, R166, R169). -/
def execDrain (r : RidgeId) (c : SiteId) (e : EngineId) (last : Bool) (first lastBlk : BitVec 3) (vreg fmt : BitVec 5)
    (slab : BitVec 4) (clr tally : Bool) (rsv : BitVec 11) (s : State) : Outcome State Fault Refusal := s.runs fun s =>
  let l := slab.toNat
  let m := if l < 8 then s.mapSlab r c e l else l
  let bp := if m = 15 then l else m
  let bad := decide (rsv ≠ 0) || decide (lastBlk.toNat < first.toNat) || decide (fmt.toNat ≥ 16) || decide (9 ≤ l ∧ l ≤ 14)
    || (!tally && decide (s.drainCount r c e bp first.toNat lastBlk.toNat > drainLimit fmt.toNat))
  .next (s.engineSlot r c e last bad [.v vreg.toNat] l [(s.queueFull r c e false, 3)]
    (fun x => { EngCmd.blank .drain with
      slab := bp, dscale := x.dscale, first := first.toNat, last := lastBlk.toNat, vreg := vreg.toNat, fmt := fmt.toNat,
      clr := clr, tally := tally }))

/-- CLEAR (R106, R151). -/
def execClear (r : RidgeId) (c : SiteId) (e : EngineId) (last : Bool) (first lastBlk : BitVec 3) (tally : Bool)
    (rsv : BitVec 26) (s : State) : Outcome State Fault Refusal := s.runs fun s =>
  .next (s.engineSlot r c e last (decide (rsv ≠ 0) || decide (lastBlk.toNat < first.toNat)) [] 0
    [(s.queueFull r c e false, 3)]
    (fun _ => { EngCmd.blank .clear with first := first.toNat, last := lastBlk.toNat, tally := tally }))

/-- QLOAD (R145, R149). -/
def execQload (r : RidgeId) (c : SiteId) (e : EngineId) (last : Bool) (vreg qrow : BitVec 5) (rsv : BitVec 23) (s : State) :
    Outcome State Fault Refusal := s.runs fun s =>
  .next (s.engineSlot r c e last (decide (rsv ≠ 0)) [] 0
    [(s.queueFull r c e true, 3), (!s.bit (ENG_CTL.QM_EN r c e), 4)]
    (fun x => { EngCmd.blank .qload with data := x.v vreg.toNat, qrow := qrow.toNat }))

/-! ## The pass queue (R105–R107, R128, R144) -/

/-- Takes the head off the pass queue. -/
def Block.popPass (s : Block) (r c e : Nat) : Block :=
  (s.modEngine r c e (fun x => { x with queue := x.queue.drop 1 })).showDepths r c e

/-- Whether an earlier-issued quick-macro pass has not latched (R147). -/
def EngSt.qmBefore (x : EngSt) (order : Nat) : Bool :=
  x.qmQueue.any (fun q => decide (q.kind = .qmFire ∧ q.order < order)) || x.qmPass.any (fun q => decide (q.order < order))

/-- Whether slab 8 of an engine mirrors a slab, its programming as mirror complete (R52, R131, R140). -/
def Block.mirrors (s : Block) (r c e p : Nat) : Bool :=
  let b := s.slab r c e 8
  decide (b.state = .mirror ∧ b.replaces = p) && !s.screeHeld r c e

/-- Whether every command issued before a DRAIN or CLEAR has latched (R106). -/
def EngSt.latchedBefore (x : EngSt) (order : Nat) : Bool :=
  x.pass.isNone && x.discarded.isEmpty && !(x.qmQueue.any (fun q => decide (q.order < order)))
    && !(x.qmPass.any (fun q => decide (q.order < order)))

/-- An explicit probe at its edge (R136). -/
def Block.explicitProbe (s : Block) (r c e p : Nat) : Block :=
  let t := s.popPass r c e
  if t.probeReady r c e p then t.startProbe r c e p
  else (t.addReg (ENG_PROBE_MISS r c e) 1).raise (engPage r c e) Irq.engine_PROBE_MISS

/-- An explicit echo at its edge (R138, R140); a history entry that is not recorded has no mirror either (R250). -/
def Block.explicitEcho (s : Block) (r c e target hist : Nat) : Block :=
  let t := s.popPass r c e
  match (t.engine r c e).history[hist]? with
  | none => t.raise (engPage r c e) Irq.engine_ECHO_NA
  | some h =>
    if target = 0 then t.modEngine r c e (fun x => { x with pass := some (.echo h h.pslab) })
    else if t.mirrors r c e h.pslab then t.modEngine r c e (fun x => { x with pass := some (.echo h 8) })
    else t.raise (engPage r c e) Irq.engine_ECHO_NA

/-- PASS_START: a pass edge of an engine (R102, R105, R107, R136, R140, R144, R147). -/
def execPassStart (r : RidgeId) (c : SiteId) (e : EngineId) (s : State) : Outcome State Fault Refusal := s.runs fun s =>
  let x := s.engine r c e
  if x.pass.isSome ∨ s.lvActive then .next s
  else match x.discarded with
    | q :: rest => .next (s.setEngine r c e { x with pass := some q, discarded := rest })
    | [] =>
      if !s.queuesRun r c then .next s
      else match x.queue with
        | [] => .next s
        | cmd :: _ =>
          if cmd.kind = .drain ∨ cmd.kind = .clear then .next s
          else if !s.bit (ENG_STAT.BIASED r c e) then .next (s.setBit (ENG_STAT.BIASED r c e) true)
          else match cmd.kind with
            | .probe => .next (s.explicitProbe r c e cmd.slab)
            | .echo => .next (s.explicitEcho r c e cmd.target cmd.hist)
            | _ =>
              if !cmd.acc && x.qmBefore cmd.order then .next s
              else
                .next ((s.popPass r c e).modEngine r c e (fun y =>
                  { y with pass := some (.fire cmd (s.serving r c e cmd.slab)) }))

/-- BIAS_HOLD_EXPIRY (R107): the bank is no longer biased unless a pass is queued or in progress. -/
def execBiasHoldExpiry (r : RidgeId) (c : SiteId) (e : EngineId) (s : State) : Outcome State Fault Refusal := s.runs fun s =>
  let x := s.engine r c e
  let pass (k : EngKind) : Bool := decide (k = .fire ∨ k = .probe ∨ k = .echo)
  if x.pass.isSome || !x.discarded.isEmpty || x.queue.any (fun q => pass q.kind) || decide ((s.coreAt r c).frame ≠ 0) then .next s
  else .next (s.setBit (ENG_STAT.BIASED r c e) false)

/-- PASS_LATCH (R116–R127): `err` is the analogue error of the pass on each physical column, in 1/1,000 level. -/
def execPassLatch (r : RidgeId) (c : SiteId) (e : EngineId) (err : List Int) (s : State) : Outcome State Fault Refusal := s.runs fun s =>
  if err.length ≠ 544 then .fault .illFormed
  else match (s.engine r c e).pass with
    | some (.fire cmd p) => .next (s.latchPass r c e p cmd.slab cmd err)
    | _ => .next s

/-! ## DRAIN and CLEAR (R106, R121, R122) -/

/-- The residue check of the drained accumulators: one RESIDUE_ERR, a count in RI_RESIDUE.LEDGER, and a failed check of
every step whose passes latched into a failing one (R121, R585). -/
def Block.residueCheck (s : Block) (r c e : Nat) (cols : List Nat) : Block :=
  if cols.isEmpty then s
  else
    let x := s.engine r c e
    let steps := ((cols.map (fun j => SMap.get [] x.latched j)).flatten).eraseDups
    let t := (s.raise (engPage r c e) Irq.engine_RESIDUE_ERR).addSat (RI_RESIDUE.LEDGER r) 1
    let t := steps.foldl (fun t sr => t.failedCheck r sr.1 sr.2) t
    let (step, rev) := steps.headD (s.step r, s.rev r)
    t.noteEvent r ⟨c, e, 15, 4, step, rev, 0, [], (t.reg (RI_RESIDUE r)).toNat, 0⟩

/-- DRAIN_EXECUTE (R106, R121, R122): `mismatches` are accumulators whose stored value a fault of the part has changed
since its residue was formed. -/
def execDrainExecute (r : RidgeId) (c : SiteId) (e : EngineId) (mismatches : List (Fin 528)) (s : State) :
    Outcome State Fault Refusal := s.runs fun s =>
  let x := s.engine r c e
  match x.queue with
  | [] => .next s
  | cmd :: rest =>
    if cmd.kind ≠ .drain ∨ !s.queuesRun r c ∨ !x.latchedBefore cmd.order then .next s
    else
      let cols := ledgerColumns cmd.first cmd.last cmd.tally
      let failing := cols.filter (fun j =>
        decide (SMap.get 0 x.residue j ≠ residue7 (SMap.get 0 x.ledger j)) || mismatches.any (fun m => decide (m.val = j)))
      let t := s.residueCheck r c e failing
      let (row, flags) := s.drainRow r c e cmd.slab cmd
      let t := t.modEngine r c e (fun y =>
        let y := { y with queue := rest, drains := y.drains ++ [(cmd.vreg, row, flags)] }
        if cmd.clr then cols.foldl EngSt.zero y else y)
      .next (t.showDepths r c e)

/-- DRAIN_RESULT_WRITE (R122, R183, R819): the oldest DRAIN's row reaches its register, its status bits NSTAT. -/
def execDrainResultWrite (r : RidgeId) (c : SiteId) (e : EngineId) (s : State) : Outcome State Fault Refusal := s.runs fun s =>
  match (s.engine r c e).drains with
  | [] => .next s
  | (v, row, flags) :: rest =>
    let t := s.modEngine r c e (fun y => { y with drains := rest })
    .next ((t.modCore r c (fun x => x.put (.v v) row allBitsRow)).setNstat r c flags)

/-- CLEAR_EXECUTE (R106). -/
def execClearExecute (r : RidgeId) (c : SiteId) (e : EngineId) (s : State) : Outcome State Fault Refusal := s.runs fun s =>
  let x := s.engine r c e
  match x.queue with
  | [] => .next s
  | cmd :: rest =>
    if cmd.kind ≠ .clear ∨ !s.queuesRun r c ∨ !x.latchedBefore cmd.order then .next s
    else
      let cols := ledgerColumns cmd.first cmd.last false ++ (if cmd.tally then ledgerColumns cmd.first cmd.last true else [])
      .next ((s.setEngine r c e (cols.foldl EngSt.zero { x with queue := rest })).showDepths r c e)

/-! ## The quick macro (R145–R149) -/

/-- QM_PASS_START (R146, R147). -/
def execQmPassStart (r : RidgeId) (c : SiteId) (e : EngineId) (s : State) : Outcome State Fault Refusal := s.runs fun s =>
  let x := s.engine r c e
  match x.qmQueue with
  | [] => .next s
  | cmd :: rest =>
    if cmd.kind ≠ .qmFire ∨ x.qmPass.isSome ∨ !s.queuesRun r c
      ∨ x.queue.any (fun q => decide ((q.kind = .drain ∨ q.kind = .clear) ∧ q.order < cmd.order)) then .next s
    else .next ((s.setEngine r c e { x with qmQueue := rest, qmPass := some cmd }).showDepths r c e)

/-- The 256 column sums of a quick-macro pass (R146). -/
def EngSt.qmSums (x : EngSt) (cmd : EngCmd) : List Int :=
  (List.range 64).foldl (fun acc i =>
    let raw := rowBits cmd.data (8 * (64 * cmd.group + i)) 8
    let a : Int := if cmd.signed then signedOf 8 raw else raw
    let w := (SMap.get 0 x.qm i).toNat
    acc.zipWith (fun (n : Int) (j : Nat) => n + a * signedOf 8 (bitsOf w (8 * j) 8)) (List.range 256)) (List.replicate 256 0)

/-- QM_PASS_LATCH (R120, R146). -/
def execQmPassLatch (r : RidgeId) (c : SiteId) (e : EngineId) (s : State) : Outcome State Fault Refusal := s.runs fun s =>
  let x := s.engine r c e
  match x.qmPass with
  | none => .next s
  | some cmd =>
    if s.lvActive then .next s
    else
      let sums := (x.qmSums cmd).zipWith (fun (n : Int) (j : Nat) => (256 * cmd.half + j, n)) (List.range 256)
      let (y, ovf) := { x with qmPass := none }.accumulateAll sums true cmd.step cmd.rev
      let t := s.setEngine r c e y
      .next (if ovf then t.ledgerOvf r c e else t)

/-- QLOAD_EXECUTE (R145, R147). -/
def execQloadExecute (r : RidgeId) (c : SiteId) (e : EngineId) (s : State) : Outcome State Fault Refusal := s.runs fun s =>
  let x := s.engine r c e
  match x.qmQueue with
  | [] => .next s
  | cmd :: rest =>
    if cmd.kind ≠ .qload ∨ x.qmPass.isSome ∨ !s.queuesRun r c then .next s
    else
      let lo := BitVec.ofNat 2048 cmd.data.toNat
      let hi := BitVec.ofNat 2048 (cmd.data.toNat / 2 ^ 2048)
      let qm := SMap.set 0 (SMap.set 0 x.qm (2 * cmd.qrow) lo) (2 * cmd.qrow + 1) hi
      .next ((s.setEngine r c e { x with qmQueue := rest, qm := qm }).showDepths r c e)

/-! ## Frames (R128–R131, R142–R144, R543, R544) -/

/-- Whether a core runs echo frames at 1/4 whatever its setting (R196, R544). -/
def Block.echoForced (s : Block) (r c : Nat) : Bool :=
  decide (s.fld (RI_CHK.CHK_MODE r) = 1) || (List.range 256).any (fun i => s.bit (NW_STAT.ESCALATED r c i))
    || (List.range 8).any (fun e => s.holdsSuspect r c e || !(s.engine r c e).degraded.isEmpty)

/-- N_E; 0 for none (R543, R544). -/
def Block.echoPeriod (s : Block) (r c : Nat) : Nat :=
  if s.echoForced r c then 4
  else match s.fld (RI_CHK.ECHO_FRAC r) with | 0 => 0 | 1 => 256 | 2 => 64 | 3 => 16 | _ => 4

/-- N_P (R543, R544). -/
def Block.probePeriod (s : Block) (r : Nat) : Nat :=
  if s.fld (RI_CHK.CHK_MODE r) = 1 then 16 else 1024 / 2 ^ min 6 (s.fld (RI_CHK.PROBE_FRAC r))

/-- Whether frame f of every 16 runs under frame allowance A (R142). -/
def frameRuns (f A : Nat) : Bool := decide ((f + 1) * A / 16 > f * A / 16)

/-- Biases up the idle banks of a core at the start of a check frame (R129). -/
def Block.biasForCheck (s : Block) (r c : Nat) : Block :=
  (List.range 8).foldl (fun t e =>
    if t.bit (ENG_STAT.BIASED r c e) then t.modEngine r c e (fun x => { x with lateBias := false })
    else (t.setBit (ENG_STAT.BIASED r c e) true).modEngine r c e (fun x => { x with lateBias := true })) s

/-- Begins a frame of a kind on a core; CORE_STAT shows a stall frame of a core that would issue (R254). -/
def Block.beginFrame (s : Block) (r c : Nat) (x : Core) (kind : Nat) : Block :=
  let t := s.setCore r c { x with frame := kind }
  let st := s.fld (CORE_STAT.STATE r c)
  if st = 1 ∨ st = 3 then t.setFld (CORE_STAT.HOLD_CAUSE r c) (if kind = 0 then 0 else 5) else t

/-- FRAME_START (R128, R142–R144, R543): the next frame of a core is a running, stall, probe or echo frame. -/
def execFrameStart (r : RidgeId) (c : SiteId) (s : State) : Outcome State Fault Refusal := s.runs fun s =>
  if s.ridgeState r ≠ 0 then .next s
  else
    let x := s.coreAt r c
    let f := x.frameNo
    let s := if f % 16 = 0 then
        (List.range 8).foldl (fun t e => t.setFld (ENG_STAT.GOV_ALLOW r c e) (s.fld (PM_GOV_RSTAT.A r))) s
      else s
    let x := { x with frameNo := f + 1 }
    let rerun := (List.range 8).any (fun e => (s.engine r c e).pass.isSome || !(s.engine r c e).discarded.isEmpty)
    if x.lvHold && (s.lvActive || rerun) || !frameRuns (f % 16) (s.fld (ENG_STAT.GOV_ALLOW r c 0)) then
      .next (s.beginFrame r c x 1)
    else
      let n := x.ranNo
      let x := { x with ranNo := n + 1, lvHold := false }
      let k := 37 * s.logicalAt r c
      let NE := s.echoPeriod r c
      let NP := s.probePeriod r
      let echo := decide (NE ≠ 0 ∧ (n + k) % NE = 0)
      let probe := decide ((n + k) % NP = NP / 2) || x.probeOwed
      if echo then .next ((s.beginFrame r c { x with probeOwed := probe } 3).biasForCheck r c)
      else if probe then .next ((s.beginFrame r c { x with probeOwed := false } 2).biasForCheck r c)
      else .next (s.beginFrame r c x 0)

/-- PROBE_FRAME: one pass edge of an engine in a probe frame (R129, R130). -/
def execProbeFrame (r : RidgeId) (c : SiteId) (e : EngineId) (edge : Fin 5) (s : State) : Outcome State Fault Refusal := s.runs fun s =>
  let x := s.engine r c e
  if (s.coreAt r c).frame ≠ 2 ∨ x.pass.isSome ∨ s.lvActive ∨ (x.lateBias ∧ edge.val < 2) then .next s
  else match ((List.range 9).map (fun i => (x.lastProbe + 1 + i) % 9)).find? (fun p => s.probeReady r c e p) with
    | some p => .next (s.startProbe r c e p)
    | none => .next (s.addReg (ENG_PROBE_MISS r c e) 1)

/-- The echo of an edge of an echo frame: history entry, and whether on slab 8 (R129, R131). -/
def echoEdge (late : Bool) (edge : Nat) : Option (Nat × Bool) :=
  if late then (match edge with | 2 => some (0, false) | 3 => some (1, false) | 4 => some (0, true) | _ => none)
  else (match edge with | 0 => some (0, false) | 1 => some (1, false) | 2 => some (0, true) | 3 => some (1, true) | _ => none)

/-- ECHO_FRAME: one pass edge of an engine in an echo frame (R129, R131). -/
def execEchoFrame (r : RidgeId) (c : SiteId) (e : EngineId) (edge : Fin 5) (s : State) : Outcome State Fault Refusal := s.runs fun s =>
  let x := s.engine r c e
  if (s.coreAt r c).frame ≠ 3 ∨ x.pass.isSome ∨ s.lvActive then .next s
  else match echoEdge x.lateBias edge.val with
    | none => .next s
    | some (h, mirror) => match x.history[h]? with
      | none => .next s
      | some en =>
        if mirror && !s.mirrors r c e en.pslab then .next s
        else .next (s.setEngine r c e { x with pass := some (.echo en (if mirror then 8 else en.pslab)) })

/-! ## Comparing probes and echoes (R132–R140) -/

/-- Counts the saturated conversions of physical columns of a slab (R116). -/
def Block.countSats (s : Block) (r c e p : Nat) (cols : List Nat) : Block := cols.foldl (fun t col => t.countSat r c e p col) s

/-- The rows that a probe entry drives (R133). -/
def ProbeEntry.rows (en : ProbeEntry) : List Nat :=
  (List.range 32).filterMap (fun i => if en.pattern.getLsbD i then Option.some (32 * en.group + i) else Option.none)

/-- The probe entry of a slab's turn (R134). -/
def Block.dueProbe (s : Block) (r c e p : Nat) : ProbeEntry :=
  let x := s.engine r c e
  SMap.get ProbeEntry.none x.probes (probeIndex p (SMap.get 0 x.turns p))

/-- One probe pass of a slab with its due entry: counted and recorded; answers the mismatching physical columns
(R115, R116, R132, R134, R135, R156). -/
def Block.probeRun (s : Block) (r c e p : Nat) (err : List Int) : Block × List Nat :=
  let x := s.engine r c e
  let turn := SMap.get 0 x.turns p
  let en := s.dueProbe r c e p
  let u := s.columnU r c e p (en.rows.map (fun i => (i, (1 : Int)))) err
  let conv := u.map (fun v => convert v 2 0 0)
  let cols := (List.range 544).filter (fun col => !s.probeSkips r c e p col)
  let bad := cols.filter (fun col => decide ((conv.getD col ⟨0, false, 0⟩).code ≠ en.codes.getD col 0))
  let t := s.setEngine r c e { x with turns := SMap.set 0 x.turns p (1 - turn), probes := SMap.del (probeIndex p turn) x.probes }
  let t := t.countPass r c e p
  let t := (t.wrapReg (ENG_CHK_PASSES r c e) 1).addSat (ENG_PROBE_CNT.PASSES r c e) 1
  let t := t.countSats r c e p (cols.filter (fun col => (conv.getD col ⟨0, false, 0⟩).sat))
  match bad with
  | [] => (t, [])
  | first :: _ =>
    let t := t.addSat (ENG_PROBE_CNT.FAILS r c e) 1
    let t := t.setReg (ENG_PROBE_LAST r c e) (BitVec.ofNat 32 (p + en.kind * 2 ^ 4 + first * 2 ^ 6 + bad.length * 2 ^ 16))
    (t.raise (engPage r c e) Irq.engine_PROBE_FAIL, bad)

/-- PROBE_COMPARE (R115, R116, R132, R134, R135, R156): `err` as in PASS_LATCH. -/
def execProbeCompare (r : RidgeId) (c : SiteId) (e : EngineId) (err : List Int) (s : State) : Outcome State Fault Refusal := s.runs fun s =>
  if err.length ≠ 544 then .fault .illFormed
  else match (s.engine r c e).pass with
    | some (.probe p step rev) =>
      let rows := (s.dueProbe r c e p).rows
      let (t, bad) := (s.modEngine r c e (fun x => { x with pass := none })).probeRun r c e p err
      match bad with
      | [] => .next t
      | first :: _ =>
        .next ((t.failedCheck r step rev).noteEvent r
          ⟨c.val, e.val, p, 2, step, rev, first, rows, (t.reg (ENG_PROBE_LAST r c e)).toNat, 0⟩)
    | _ => .next s

/-- ENG_ECHO_TOL of a shape. -/
def Block.echoTol (s : Block) (r c e shape : Nat) : Nat := getBits (s.reg (ENG_ECHO_TOL r c e)) (8 * shape) 8

/-- One echo of a history entry on a physical slab: counted; answers the logical columns that differ, with the codes of the
echo (R116, R138, R139, R156). -/
def Block.echoRun (s : Block) (r c e p : Nat) (en : HistEntry) (err : List Int) : Block × List (Nat × Nat) :=
  let conv := s.conversions r c e p en.cmd.slab en.cmd err
  let cols := (en.blocks.map (fun b => (List.range 64).map (fun k => 64 * b + k) ++ [512 + 2 * b, 513 + 2 * b])).flatten
  let tol := s.echoTol r c e en.cmd.shape
  let code (l : Nat) : Nat := (conv.getD l ⟨0, false, 0⟩).code
  let far := cols.filter (fun l => decide (code l > en.codes.getD l 0 + tol ∨ en.codes.getD l 0 > code l + tol))
  let t := s.countPass r c e p
  let t := (t.wrapReg (ENG_CHK_PASSES r c e) 1).addSat (ENG_ECHO_CNT.PASSES r c e) 1
  let t := t.countSats r c e p ((cols.filter (fun l => (conv.getD l ⟨0, false, 0⟩).sat)).map (s.slab r c e p).physical)
  let t := if far.isEmpty then t
    else (t.addSat (ENG_ECHO_CNT.MISMATCHES r c e) 1).raise (engPage r c e) Irq.engine_ECHO_MISMATCH
  (t, far.map (fun l => (l, code l)))

/-- ECHO_COMPARE (R116, R138, R139, R156): `err` as in PASS_LATCH. -/
def execEchoCompare (r : RidgeId) (c : SiteId) (e : EngineId) (err : List Int) (s : State) : Outcome State Fault Refusal := s.runs fun s =>
  if err.length ≠ 544 then .fault .illFormed
  else match (s.engine r c e).pass with
    | some (.echo en p) =>
      let (t, far) := (s.modEngine r c e (fun x => { x with pass := none })).echoRun r c e p en err
      if far.isEmpty then .next t
      else
        .next ((t.failedCheck r en.cmd.step en.cmd.rev).noteEvent r
          ⟨c.val, e.val, en.pslab, 3, en.cmd.step, en.cmd.rev, 0, [], far.foldl (fun n x => n * 1024 + 512 + x.2) 0, 0⟩)
    | _ => .next s

/-- PROBE_ENTRY_REFILL (R132, R133, R135): an invalid entry of a slab is filled with its next row or group. -/
def execProbeEntryRefill (r : RidgeId) (c : SiteId) (e : EngineId) (p : SlabId) (sum : Bool) (s : State) :
    Outcome State Fault Refusal := s.runs fun s =>
  let x := s.engine r c e
  let i := probeIndex p (if sum then 1 else 0)
  if (SMap.get ProbeEntry.none x.probes i).kind ≠ 0 ∨ !(s.slab r c e p).state.probed then .next s
  else
    let n := SMap.get 0 x.fills i
    let row := n % 512
    let group := if sum then n % 16 else row / 32
    let pattern : BitVec 32 := if sum then BitVec.allOnes 32 else BitVec.ofNat 32 (2 ^ (row % 32))
    let en : ProbeEntry := ⟨pattern, group, if sum then 2 else 1, n % 65536, []⟩
    let en := { en with codes := s.expectCodes r c e p en.rows }
    .next (s.setEngine r c e { x with fills := SMap.set 0 x.fills i (n + 1), probes := SMap.set ProbeEntry.none x.probes i en })

/-! ## Shadowed parameters (R159, R198) -/

/-- BLOCK_TABLE_WRITE: a write of ENG_BT_DATA or ENG_COL_DATA goes to the shadow copy (R159), while the site is a
migration's source in PREPARING or PAUSED to that of its target as well (R249). -/
def execBlockTableWrite (req : Fin 18) (dw : BitVec 26) (v : Word) (s : State) : Outcome State Fault Refusal := s.runs fun s =>
  .next (s.command req dw.toNat v .engine [0x80, 0x88] (fun page off idx t =>
    let q := (page - 4096) % 1024 - 256
    let r := ridgeOfPage page
    let c := q / 16
    let e := q % 16 - 1
    let key := regKey page off idx
    let old := (SMap.find key (t.engine r c e).shadow).getD (t.reg key)
    let put (u : Block) (site : Nat) : Block :=
      (u.modEngine r site e (fun x => { x with shadow := SMap.ins (regKey (engPage r site e) off idx) (t.written page off old v) x.shadow })).setBit
        (ENG_SHADOW.PENDING r site e) true
    match SMap.find r t.mig with
    | some m => if m.source = c ∧ (m.phase = 1 ∨ m.phase = 3) then put (put t c) m.target else put t c
    | none => put t c))

/-- NORM_WATCH_WRITE: a write of NW_EST, NW_SCALE or NW_STAT goes to a shadow copy of the selected entry (R198); writes of
1 to ESCALATED gather. -/
def execNormWatchWrite (req : Fin 18) (dw : BitVec 26) (v : Word) (s : State) : Outcome State Fault Refusal := s.runs fun s =>
  .next (s.command req dw.toNat v .core [0x308, 0x30C, 0x310] (fun page off idx t =>
    let r := ridgeOfPage page
    let c := ((page - 4096) % 1024 - 256) / 16
    t.modCore r c (fun x =>
      let key := idx * 4 + (off - 0x308) / 4
      let old := (SMap.find key x.nwShadow).getD 0
      { x with nwShadow := SMap.ins key (if off = 0x310 then v ||| (old &&& 0x100) else v) x.nwShadow })))

end Sys2Proof.Machine
end

