-- ==== Sys2Proof/Machine/FabricOps.lean ====
section
/-! DEFINITION. Shared operations of the on-die network's tables, the saddle, and the fabric's ports: route changes, a
split, link states, routing, queues, and membership (R366–R379, R386–R431). -/
namespace Sys2Proof.Machine

/-! ## Route tables (R366–R369) -/

/-- Whether a router works: row index 0 is row −1 (R381). -/
def Block.routerOk (s : Block) (f row col : Nat) : Bool := !(s.reg (NET_HOLE f row)).getLsbD col

/-- The rows of a column that vertical hops through working routers add to those already reached. -/
def spreadColumn (ok : Nat → Bool) (reached : List Nat) : List Nat :=
  let down := (List.range 19).foldl (fun (acc : List Nat) row =>
    if ok row && (reached.contains row || (decide (row > 0) && acc.contains (row - 1))) then acc ++ [row] else acc) []
  (List.range 19).foldl (fun (acc : List Nat) i =>
    let row := 18 - i
    if ok row && (down.contains row || acc.contains (row + 1)) then acc ++ [row] else acc) []

/-- Whether a router reaches every working router of its flank by hops of which all those in the first direction (west, or
east for the mirrored rule) come first (R367). -/
def Block.reachesAll (s : Block) (f : Nat) (mirrored : Bool) (row col : Nat) : Bool :=
  let at' (c : Nat) : Nat := if mirrored then 15 - c else c
  let ok (c r : Nat) : Bool := s.routerOk f r (at' c)
  let start := at' col
  let first := (List.range (start + 1)).foldl (fun (acc : List Nat) i =>
    let c := start - i
    if ok c row && (decide (i = 0) || acc.contains (c + 1)) then acc ++ [c] else acc) []
  let step (acc : List Nat × Bool) (c : Nat) : List Nat × Bool :=
    let seeds := acc.1 ++ (if first.contains c then [row] else [])
    let col := spreadColumn (ok c) seeds
    (col, acc.2 && (List.range 19).all (fun r => !ok c r || col.contains r))
  ((List.range 16).foldl step ([], true)).2

/-- Whether a rule's tables reach every working router of a flank from every working router (R367). -/
def Block.ruleReaches (s : Block) (f : Nat) (mirrored : Bool) : Bool :=
  (List.range 19).all (fun row => (List.range 16).all (fun col => !s.routerOk f row col || s.reachesAll f mirrored row col))

/-- NET_STAT.ROUTE_MODE of a flank's hole map (R367, R368). -/
def Block.routeMode (s : Block) (f : Nat) : Nat :=
  if s.ruleReaches f false then 0 else if s.ruleReaches f true then 1 else 2

/-! ## The split (R378) -/

/-- The die splits (R378). -/
def Block.splitDie (s : Block) : Block :=
  if s.bit SAD_STAT.LOST then s
  else
    let t := [0, 1].foldl (fun t f =>
      ((t.setBit (NET_STAT.SPLIT f) true).setFld (NET_STAT.SEAM_LINKS f) 0).setFld (NET_STAT.SAD_LINKS f) 0) s
    let t := ((t.setFld SAD_STAT.WORKING 0).setBit SAD_STAT.LOST true).setBit FAB_STAT.SPLIT true
    let t := (t.raise (diePage 24) Irq.saddle_SADDLE_LOST).storeRecord 3 0
    t.signature 12 0 0 0 0 0 0 0

/-- The working saddle links counted again (R376, R378, R382, R384). -/
def Block.countSaddle (s : Block) : Block :=
  let n := ((List.range 16).filter (fun k => decide (s.fld (SAD_LINK_STAT.STATE k) = 0))).length
  let t := ((s.setFld SAD_STAT.WORKING n).setFld (NET_STAT.SAD_LINKS 0) n).setFld (NET_STAT.SAD_LINKS 1) n
  if n = 0 then t.splitDie else t

/-- A saddle link retires in both directions (R376). -/
def Block.retireLink (s : Block) (k : Nat) : Block :=
  let t := (s.setFld (SAD_LINK_STAT.STATE k) 1).setFld (SAD_LINK_STAT.STATE (k + 16)) 1
  (t.raise (diePage 24) Irq.saddle_LINK_RETIRED).countSaddle

/-! ## Ports -/

/-- A port beside its registers. -/
def Block.port (s : Block) (p : Nat) : PortSt := SMap.get PortSt.reset s.fab.ports p

/-- Changes a port. -/
def Block.modPort (s : Block) (p : Nat) (f : PortSt → PortSt) : Block :=
  { s with fab := { s.fab with ports := SMap.set PortSt.reset s.fab.ports p (f (s.port p)) } }

/-- The page of a port. -/
def portPage (p : Nat) : Nat := diePage (26 + p)

/-- FP_STAT.STATE. -/
def Block.portState (s : Block) (p : Nat) : Nat := s.fld (FP_STAT.STATE p)

/-- Whether a port is UP. -/
def Block.portUp (s : Block) (p : Nat) : Bool := decide (s.portState p = 8)

/-- The die's tick number (R417). -/
def Block.tickNo (s : Block) : Nat := s.pair FAB_TICK_LO FAB_TICK_HI

/-- Sends a message in the link-management field (R397). -/
def Block.linkMsg (s : Block) (p type a b : Nat) : Block := s.modPort p (fun x => { x with msgs := x.msgs ++ [⟨type, a, b⟩] })

/-- A port enters a state; leaving UP ends its part in traverse mode (R394, R421). -/
def Block.portTo (s : Block) (p st : Nat) : Block :=
  let t := s.setFld (FP_STAT.STATE p) st
  if st = 8 then t else t.setFld (FP_STAT.MODE p) 0

/-- A port starts over from DETECT: width, lanes and key are gone (R394). -/
def Block.portDetect (s : Block) (p : Nat) : Block :=
  let t := ((s.portTo p 1).setFld (FP_STAT.WIDTH p) 0).setFld (FP_STAT.LANES_GOOD p) 0
  t.modPort p (fun x => { x with asked := none, agreed := none, first := none, offered := false, nextKey := none, tickOk := false, phaseOk := false })

/-- The lanes of a link whose good lanes are given: ×8, the lower or upper four, or the first pair (R387); 0 for none. -/
def linkLanes (good : Nat) : Nat :=
  let has (m : Nat) : Bool := decide (good &&& m = m)
  if has 0xFF then 0xFF else if has 0x0F then 0x0F else if has 0xF0 then 0xF0
  else if has 0x03 then 0x03 else if has 0x0C then 0x0C else if has 0x30 then 0x30 else if has 0xC0 then 0xC0 else 0

/-- The WIDTH code of a link's lanes: 3 ×8, 2 ×4, 1 ×2, 0 none (R434). -/
def widthCode (lanes : Nat) : Nat :=
  if lanes = 0xFF then 3 else if lanes = 0x0F ∨ lanes = 0xF0 then 2 else if lanes = 0 then 0 else 1

/-- Whether a pair of lanes is usable: both have signal (R394). -/
def anyPair (lanes : Nat) : Bool := [0x03, 0x0C, 0x30, 0xC0].any (fun m => decide (lanes &&& m = m))

/-! ## The cabling plan (R400–R404) -/

/-- The observed module serial shown in FP_MOD_SN, as four words (R404). -/
def Block.modSerial (s : Block) (p : Nat) : List Word := (List.range 4).map (fun n => s.reg (FP_MOD_SN p n))

/-- Whether a port's observed triple equals a plan entry (R402). -/
def Block.tripleMatches (s : Block) (p entry : Nat) : Bool :=
  decide (s.fld (FP_PEER.COORD p) = s.fld (FAB_PLAN_PEER.COORD entry) ∧ s.fld (FP_PEER.PORT p) = s.fld (FAB_PLAN_PEER.PORT entry))
    && (decide (s.fld (FAB_PLAN_PEER.MODULE entry) ≠ 1)
      || decide (s.modSerial p = (List.range 4).map (fun n => s.reg (FAB_PLAN_SN n entry))))

/-- Whether another port of the group has matched an entry: it is past PLAN_CHECK with that role. -/
def Block.entryTaken (s : Block) (p entry : Nat) : Bool :=
  (List.range 10).any (fun q => decide (q ≠ p ∧ s.fld (FP_STAT.ROLE q) = entry ∧ 7 ≤ s.portState q ∧ s.portState q ≠ 9 ∧ s.portState q ≠ 10))

/-- The plan entry that a port matches (R402). -/
def Block.planMatch (s : Block) (p : Nat) : Option Nat :=
  let g := s.fld (FAB_PLAN_PEER.GROUP p)
  if g = 0 then (if s.tripleMatches p p then some p else none)
  else (List.range 10).find? (fun e =>
    decide (s.fld (FAB_PLAN_PEER.GROUP e) = g) && s.bit (FAB_PLAN_PEER.USE e) && s.tripleMatches p e && !s.entryTaken p e)

/-- PLAN_CHECK (R401–R404): `moduleOk` when the module was read and has an accepted CMIS revision. -/
def Block.planCheck (s : Block) (p : Nat) (moduleOk : Bool) : Block :=
  let ok := decide (s.fld (FAB_PLAN_PEER.MODULE p) = 0) || moduleOk
  match (if ok then s.planMatch p else none) with
  | some e =>
    let t := (s.setFld (FP_STAT.ROLE p) e).setBit (FP_STAT.REMAPPED p) (decide (e ≠ p))
    let t := if e ≠ p then t.cairnRecord 4 1 (p + e * 256) else t
    t.portTo p 7
  | none => (s.portTo p 9).raise (portPage p) Irq.port_PLAN_MISMATCH

/-- The port that holds a logical role (R403). -/
def Block.portOfRole (s : Block) (role : Nat) : Option Nat :=
  (List.range 10).find? (fun p => s.portUp p && decide (s.fld (FP_STAT.ROLE p) = role))

/-- Whether each end that holds a role is UP (R411, R412). -/
def Block.roleUp (s : Block) (role : Nat) : Bool := (s.portOfRole role).isSome

/-! ## Routing and transmit queues (R411–R415, R422, R424) -/

/-- The half of a split die that a port serves (R18, R431). -/
def portHalf (p : Nat) : Nat := if p = 2 ∨ p = 3 ∨ p = 6 ∨ p = 7 ∨ p = 9 then 0 else 1

/-- The roles that a packet may leave by, the first choice first (R411, R412). -/
def Block.routeChoices (s : Block) (p : Packet) : List Nat :=
  let i := p.dst.die + 256 * (p.dst.half % 2)
  if !s.bit (FAB_RT_DATA.VALID i) then []
  else
    let a := s.fld (FAB_RT_DATA.PORT i)
    let b := s.fld (FAB_RT_DATA.ALT i)
    if b = 15 then [a]
    else if p.src.unit < 16 ∧ p.srcCore < 32 ∧ p.srcCore % 2 = 1 then [b, a] else [a, b]

/-- The UP port that a packet takes. -/
def Block.routePort (s : Block) (p : Packet) : Option Nat := (s.routeChoices p).findSome? s.portOfRole

/-- The VC's position among the credits of a frame header. -/
def vcIndex (vc : Nat) : Nat := vc % 4

/-- A list of numbers with `n` added at a position. -/
def addAt (l : List Nat) (i n : Nat) : List Nat := l.modify i (· + n)

/-- Cells of a VC that wait at a port. -/
def PortSt.waiting (x : PortSt) (vc : Nat) : Nat :=
  let of (l : List Cell) : Nat := (l.filter (fun c => c.pkts.any (fun p => decide (p.vc = vc)))).length
  of x.openQ + (x.flows.map (fun e => of e.2)).sum

/-- Reports a lost posted packet as a failed check of its step (R412, R424). -/
def Block.lostPosted (s : Block) (p : Packet) : Block :=
  if p.src.die = s.fld FAB_SELF.COORD ∧ p.src.unit < 16 then s.failedCheck p.src.unit p.step p.rev else s

/-- The cell that carries a packet: a row packet or a short message (R390). -/
def cellOf (p : Packet) (flow : Nat) : Cell :=
  ⟨if p.op = .putReq ∨ p.op = .getData ∨ p.op = .mdisp ∨ p.op = .emit ∨ p.op = .drvBeat ∨ p.op = .batchRow ∨ p.op = .epoch then 1
    else 2, flow, false, [p]⟩

/-- A packet leaves the die, or is forwarded, through a port: into its flow's queue, or the open queue (R411, R412, R422,
R424). A request beyond 1,024 outstanding waits (R414). -/
def Block.toFabric (s : Block) (p : Packet) : Block :=
  let i := p.dst.die + 256 * (p.dst.half % 2)
  match s.routePort p with
  | none =>
    if p.op.asks then (s.takeSent p).reply p .completion 1 0
    else
      let t := (s.takeSent p).addReg (FP_DOWN_DROP (min 9 (s.fld (FAB_RT_DATA.PORT i)))) 1
      if p.op.answers then t else t.lostPosted p
  | some q =>
    let own := decide (p.src.die = s.fld FAB_SELF.COORD)
    if own ∧ p.op.asks ∧ (s.fab.waiting.filter (fun e => decide (e.1 = q))).length ≥ 1024 then s
    else if p.vc ≠ 3 ∧ (s.port q).waiting p.vc ≥ 1024 then ((s.takeSent p).addReg (FP_DOWN_DROP q) 1).lostPosted p
    else
      let role := s.fld (FP_STAT.ROLE q)
      let flow := if s.fld (FP_STAT.MODE q) = 1 then
          (if p.op = .mdisp then p.arg else s.fld (FAB_RT_DATA.FB i) + p.vc) else 0
      let t := s.takeSent p
      let p := if own then { p with gen := s.fld FAB_GEN.GEN } else p
      let t := if own ∧ p.op.asks then { t with fab := { t.fab with waiting := t.fab.waiting ++ [(q, p.src, p.srcCore, p.tag)] } } else t
      let inFlow := decide (flow ≠ 0) && t.bit (FP_FLOW_TX.EN role flow)
        && decide ((SMap.get [] (t.port q).flows flow).length < t.fld (FP_FLOW_TX.DEPTH role flow))
      t.modPort q (fun x =>
        if inFlow then { x with flows := SMap.set [] x.flows flow (SMap.get [] x.flows flow ++ [cellOf p flow]) }
        else { x with openQ := x.openQ ++ [cellOf p 0] })

/-- The order of grant of the VCs at a cell position (R415). -/
def grantOrder (n : Nat) : List Nat :=
  let base := [0, 2, 1, 3]
  let first (v : Nat) : List Nat := v :: base.filter (fun x => decide (x ≠ v))
  match n % 8 with | 4 => first 2 | 5 => first 1 | 6 => first 1 | 7 => first 3 | _ => base

/-- The VC of a cell. -/
def Cell.vc (c : Cell) : Nat := (c.pkts.head?.map (·.vc)).getD 0

/-- The empty cell. -/
def Cell.empty : Cell := ⟨0, 0, false, []⟩

/-- Takes the next open cell of a position: the first VC in order that has a waiting cell and a credit (R414, R415). -/
def PortSt.takeOpen (x : PortSt) (n : Nat) : PortSt × Cell :=
  match (grantOrder n).findSome? (fun vc =>
      if x.credits.getD (vcIndex vc) 0 = 0 then none else x.openQ.find? (fun c => decide (c.vc = vc))) with
  | none => (x, Cell.empty)
  | some c => ({ x with openQ := x.openQ.erase c, credits := x.credits.modify (vcIndex c.vc) (· - 1) }, c)

/-- Takes the head of a flow's queue; with that queue empty, the next open cell (R422). -/
def PortSt.takeFlow (x : PortSt) (flow n : Nat) : PortSt × Cell :=
  match SMap.get [] x.flows flow with
  | c :: rest => ({ x with flows := SMap.set [] x.flows flow rest }, c)
  | [] => x.takeOpen n

/-! ## Schedules (R419–R421, R435) -/

/-- The selection index of an entry of a bank's table: INDEX, DIR, BANK. -/
def schedIndex (bank dir index : Nat) : Nat := index + 4096 * dir + 8192 * bank

/-- A schedule entry: KIND and FLOW of its three cells (R435). -/
def Block.schedEntry (s : Block) (role bank dir index : Nat) : List (Nat × Nat) :=
  let e := s.pair (FP_SCHED_DATA_LO role (schedIndex bank dir index)) (FP_SCHED_DATA_HI role (schedIndex bank dir index))
  [(e % 4, e / 4 % 4096), (e / 2 ^ 14 % 4, e / 2 ^ 16 % 4096), (e / 2 ^ 28 % 4, e / 2 ^ 30 % 4096)]

/-- The entry that a port's active bank gives for a herd slot. -/
def Block.activeEntry (s : Block) (p dir slot : Nat) : Option (List (Nat × Nat)) :=
  (s.port p).active.bind (fun b =>
    let role := s.fld (FP_STAT.ROLE p)
    let len := s.fld (FP_SCHED_LEN.TLEN role (dir + 2 * b.1))
    if len = 0 then none else some (s.schedEntry role b.1 dir ((slot + 2 ^ 64 * len - 125 * b.2) % len)))

/-- Whether a table satisfies R420 and R435: no KIND 3, and an open cell in every cyclic span of 16 entries. -/
def Block.tableOk (s : Block) (role bank dir : Nat) : Bool :=
  let len := s.fld (FP_SCHED_LEN.TLEN role (dir + 2 * bank))
  let kinds := (List.range len).map (fun i => (s.schedEntry role bank dir i).map (·.1))
  let opens := kinds.map (fun l => l.contains 2)
  decide (len ≠ 0) && kinds.all (fun l => !l.contains 3)
    && (List.range len).all (fun i => (List.range 16).any (fun j => opens.getD ((i + j) % len) false))

/-- The depths of a role's enabled flows together. -/
def Block.flowDepths (s : Block) (role : Nat) : Nat :=
  ((List.range 4096).map (fun f => if s.bit (FP_FLOW_TX.EN role f) then s.fld (FP_FLOW_TX.DEPTH role f) else 0)).sum

/-- FP_STAT.MODE at a tick boundary (R421). -/
def Block.showMode (s : Block) (p : Nat) : Block :=
  let x := s.port p
  let on := s.portUp p && x.active.isSome && decide (s.fld (FP_STAT.WIDTH p) = 3) && x.tickOk && x.phaseOk
  s.setFld (FP_STAT.MODE p) (if on then 1 else 0)

/-! ## Membership (R426–R430) -/

/-- Whether a generation is newer than another (R426). -/
def genNewer (a b : Nat) : Bool := let d := (a + 65536 - b % 65536) % 65536; decide (1 ≤ d ∧ d ≤ 32767)

/-- The mask in force. -/
def Block.memberMask (s : Block) : Nat := ((List.range 8).map (fun n => (s.reg (FAB_MEMBER n)).toNat * 2 ^ (32 * n))).sum

/-- Adopts a generation and mask (R427–R429). -/
def Block.adopt (s : Block) (g mask : Nat) : Block :=
  let old := s.fld FAB_GEN.GEN
  let t := (s.setFld FAB_GEN.PREV old).setFld FAB_GEN.GEN g
  let t := (List.range 8).foldl (fun t n => t.setReg (FAB_MEMBER n) (BitVec.ofNat 32 (mask / 2 ^ (32 * n)))) t
  let t := { t with fab := { t.fab with grace := true, unsaved := some (g, mask) } }
  let t := t.raise (diePage 25) Irq.fabric_GEN_CHANGE
  if g % 65536 ≠ 0 ∧ mask.testBit (s.fld FAB_SELF.COORD) then t.setBit FAB_STAT.MEMBER true
  else (t.setBit FAB_STAT.MEMBER false).raise (diePage 25) Irq.fabric_STRAY

/-- Sends GEN_NOTICE on every UP port but one (R427). -/
def Block.noticeAll (s : Block) (but g mask : Nat) : Block :=
  (List.range 10).foldl (fun t p => if p ≠ but ∧ t.portUp p then t.linkMsg p 6 g mask else t) s

/-- Whether a port accepts a cell of a generation from a die (R428). -/
def Block.genAccepted (s : Block) (g die : Nat) : Bool :=
  let own := s.fld FAB_GEN.GEN
  decide (g = own) || genNewer g own
    || (s.fab.grace && decide (g = s.fld FAB_GEN.PREV) && s.memberMask.testBit die)

end Sys2Proof.Machine
end

