-- ==== Sys2Proof/Machine/FabricLink.lean ====
section
/-! DEFINITION. The links of the fabric ports: training, hellos, keys, retrains and width changes, and the port commands
(R386–R410, R610). -/
namespace Sys2Proof.Machine
open Host

/-! ## Training (R393, R394) -/

/-- SIGNAL_DETECT (R393, R394): `lanes` have signal. -/
def execSignalDetect (p : PortId) (lanes : BitVec 8) (s : State) : Outcome State Fault Refusal := s.runs fun s =>
  if !s.dieActive then .next s
  else if !s.bit (FAB_PLAN_PEER.USE p) then .next (s.portTo p 0)
  else if s.portState p > 1 then .next s
  else .next (s.portTo p (if anyPair lanes.toNat then 2 else 1))

/-- PORT_DETECT_RETRY (R393, R394): `noPeer` when no signal has come for 1 s. -/
def execPortDetectRetry (p : PortId) (noPeer : Bool) (s : State) : Outcome State Fault Refusal := s.runs fun s =>
  if !s.dieActive then .next s
  else if !s.bit (FAB_PLAN_PEER.USE p) then .next (s.portTo p 0)
  else if s.portState p > 1 then .next s
  else
    let t := s.portTo p 1
    .next (if noPeer then t.raise (portPage p) Irq.port_TRAIN_FAIL else t)

/-- EQ_DONE (R394). -/
def execEqDone (p : PortId) (s : State) : Outcome State Fault Refusal := s.runs fun s =>
  if s.portState p = 2 then .next (s.portTo p 3) else .next s

/-- Sets a link's lanes and width; a change of width is raised (R387, R434, R436). -/
def Block.setWidth (s : Block) (p good : Nat) : Block :=
  let w := widthCode (linkLanes good)
  let old := s.fld (FP_STAT.WIDTH p)
  let t := (s.setFld (FP_STAT.LANES_GOOD p) good).setFld (FP_STAT.WIDTH p) w
  if old ≠ w then t.raise (portPage p) Irq.port_WIDTH_CHANGE else t

/-- ALIGN_DONE (R387, R394): `lanes` trained in both directions at both ends; `crossed` when the cable reverses lanes. -/
def execAlignDone (p : PortId) (lanes : BitVec 8) (crossed : Bool) (s : State) : Outcome State Fault Refusal := s.runs fun s =>
  if s.portState p ≠ 3 then .next s
  else if crossed then .next (s.raise (portPage p) Irq.port_LANE_ORDER)
  else if linkLanes lanes.toNat = 0 then .next s
  else
    let t := s.setWidth p lanes.toNat
    .next (t.portTo p (if t.bit FAB_CTL.PLAN_LOADED then 5 else 4))

/-- TRAIN_TIMEOUT (R394). -/
def execTrainTimeout (p : PortId) (s : State) : Outcome State Fault Refusal := s.runs fun s =>
  let st := s.portState p
  if st = 2 ∨ st = 3 ∨ st = 5 ∨ st = 6 ∨ st = 7 then .next ((s.portDetect p).raise (portPage p) Irq.port_TRAIN_FAIL)
  else .next s

/-- PLAN_LOADED: a write of FAB_CTL (R394, R437). -/
def execPlanLoaded (req : Fin 18) (dw : BitVec 26) (v : Word) (s : State) : Outcome State Fault Refusal := s.runs fun s =>
  .next (s.command req dw.toNat v .fabric [0x40] (fun page off _ t =>
    let t := t.storeAt req page off v
    if t.bit FAB_CTL.PLAN_LOADED then
      (List.range 10).foldl (fun t p => if t.portState p = 4 then t.portTo p 5 else t) t
    else t))

/-! ## Hellos (R395–R404, R418, R429) -/

/-- Records a hello's peer (R396, R432). -/
def Block.showPeer (s : Block) (p : Nat) (h : Hello) (proto : Nat) : Block :=
  let t := ((s.setFld (FP_PEER.COORD p) h.coord).setFld (FP_PEER.PORT p) h.port).setFld (FP_PEER.PROTO p) proto
  (t.setPair (FP_PEER_SN_LO p) (FP_PEER_SN_HI p) h.serial).setReg (FP_PEER_FW p) (BitVec.ofNat 32 h.fw)

/-- Version choice, then the plan check (R399, R401–R404). -/
def Block.helloCheck (s : Block) (p : Nat) (h : Hello) (serial : BitVec 128) (moduleOk : Bool) : Block :=
  let V := min h.protoMax (s.fld FAB_VERSION.PROTO_MAX)
  if V < h.protoMin ∨ V < s.fld FAB_VERSION.PROTO_MIN then
    ((s.showPeer p h h.protoMax).portTo p 10).raise (portPage p) Irq.port_VERSION
  else
    let t := (s.showPeer p h V).modPort p (fun x => { x with first := some (h.coord, h.port, h.serial), moduleOk := moduleOk })
    let t := (List.range 4).foldl (fun t n => t.setReg (FP_MOD_SN p n) (serial.extractLsb' (32 * n) 32)) t
    t.planCheck p moduleOk

/-- A hello's generation that is old, from a die that is no member, is answered with STRAY_NOTICE (R429). -/
def Block.strayCheck (s : Block) (p : Nat) (h : Hello) : Block :=
  if s.bit FAB_STAT.MEMBER && genNewer (s.fld FAB_GEN.GEN) h.gen && decide (h.coord < 256) && !s.memberMask.testBit h.coord then
    s.linkMsg p 7 (s.fld FAB_GEN.GEN) s.memberMask
  else s

/-- HELLO (R395, R396, R399, R401–R404, R429): `serial` is the module's serial number, and `moduleOk` says that the module
was read and has an accepted CMIS revision. -/
def execHello (p : PortId) (h : Hello) (serial : BitVec 128) (moduleOk : Bool) (s : State) : Outcome State Fault Refusal := s.runs fun s =>
  match s.portState p with
  | 5 => .next ((s.helloCheck p h serial moduleOk).strayCheck p h)
  | 6 => .next (s.helloCheck p h serial moduleOk)
  | 9 => .next (s.helloCheck p h serial moduleOk)
  | 10 => .next (s.helloCheck p h serial moduleOk)
  | 8 =>
    if (s.port p).first ≠ some (h.coord, h.port, h.serial) then .next (s.portTo p 6)
    else .next (((s.setReg (FP_PEER_FW p) (BitVec.ofNat 32 h.fw))).strayCheck p h)
  | _ => .next s

/-! ## Link keys (R408, R610) -/

/-- HELD_AUTH (R409, R610). -/
def Block.holdAuth (s : Block) (p : Nat) : Block := (s.portTo p 11).raise (portPage p) Irq.port_AUTH

/-- KEY_OFFER (R610): whether the chain and the signature of the ephemeral key verify, the switch root that the chain ends at
(none for the Ovesk root), the certified serial and the base-camp SVN. -/
def execKeyOffer (p : PortId) (verified : Bool) (root : Option (BitVec 384)) (serial : BitVec 64) (svn : BitVec 8) (s : State) :
    Outcome State Fault Refusal := s.runs fun s =>
  if s.portState p ≠ 7 ∧ s.portState p ≠ 8 then .next s
  else
    let die := decide (s.fld (FP_PEER.COORD p) < 256)
    let chain := match root with
      | none => die && decide (serial.toNat = s.pair (FP_PEER_SN_LO p) (FP_PEER_SN_HI p))
      | some d => !die && s.tr.roots.contains d.toNat
    if verified && chain && decide (s.fld (TR_LINK_SVN.MIN 16) ≤ svn.toNat) then
      .next (s.modPort p (fun x => { x with offered := true }))
    else .next (s.holdAuth p)

/-- A port sends a request: TYPE 2 RETRAIN_REQ or 3 WIDTH_REQ, with the proposed lanes (R405, R406). -/
def Block.askPeer (s : Block) (p type lanes : Nat) : Block :=
  if !s.portUp p ∨ (s.port p).asked.isSome then s
  else (s.modPort p (fun x => { x with asked := some (type, lanes) })).linkMsg p type (s.fld FAB_SELF.COORD) lanes

/-- A SERDES calibration that waits for a port's UP requests its retrain (R691, R692). -/
def Block.calPortUp (s : Block) (p : Nat) : Block :=
  if s.cal.port ≠ some p ∨ !s.portUp p then s
  else { s.askPeer p 2 0 with cal := { s.cal with port := none } }

/-- KEY_CONFIRM (R408, R610): `tick` is the boundary at which the key takes effect. -/
def execKeyConfirm (p : PortId) (tick : BitVec 64) (ok : Bool) (s : State) : Outcome State Fault Refusal := s.runs fun s =>
  let st := s.portState p
  if (st ≠ 7 ∧ st ≠ 8) ∨ !(s.port p).offered then .next s
  else if !ok then .next (s.holdAuth p)
  else
    let t := s.modPort p (fun x => { x with offered := false, nextKey := some tick.toNat })
    .next (if st = 7 then ((t.portTo p 8).raise (portPage p) Irq.port_UP).calPortUp p else t)

/-- LINK_REKEY (R610): the exchange begins again. -/
def execLinkRekey (p : PortId) (s : State) : Outcome State Fault Refusal := s.runs fun s =>
  if s.portUp p then .next ((s.modPort p (fun x => { x with offered := false })).linkMsg p 9 0 0) else .next s

/-! ## Retrains and width changes (R405–R407) -/

/-- A peer's request (R406, R407): acknowledged, unless this end's own request wins. -/
def Block.peerAsks (s : Block) (p coord type lanes : Nat) : Block :=
  if !s.portUp p then s
  else
    let accept (t : Block) : Block := (t.modPort p (fun x => { x with agreed := some (type, lanes) })).linkMsg p 4 type 0
    match (s.port p).asked with
    | none => accept s
    | some (mine, _) =>
      if s.fld FAB_SELF.COORD < coord then s
      else accept ((s.modPort p (fun x => { x with asked := none })).linkMsg p 5 mine 0)

/-- RETRAIN_REQ (R406, R407). -/
def execRetrainReq (p : PortId) (coord : BitVec 9) (s : State) : Outcome State Fault Refusal := s.runs fun s =>
  .next (s.peerAsks p coord.toNat 2 0)

/-- WIDTH_REQ (R406, R407). -/
def execWidthReq (p : PortId) (coord : BitVec 9) (lanes : BitVec 8) (s : State) : Outcome State Fault Refusal := s.runs fun s =>
  .next (s.peerAsks p coord.toNat 3 lanes.toNat)

/-- REQ_ACK (R406): both ends enter the change at the next tick boundary. -/
def execReqAck (p : PortId) (type : BitVec 8) (s : State) : Outcome State Fault Refusal := s.runs fun s =>
  match (s.port p).asked with
  | none => .next s
  | some (mine, lanes) =>
    if mine ≠ type.toNat then .next s
    else .next (s.modPort p (fun x => { x with asked := none, agreed := some (mine, lanes) }))

/-- REQ_WITHDRAW (R407): the peer's request no longer stands. -/
def execReqWithdraw (p : PortId) (type : BitVec 8) (s : State) : Outcome State Fault Refusal := s.runs fun s =>
  match (s.port p).agreed with
  | none => .next s
  | some (t, _) => if t = type.toNat ∧ s.portUp p then .next (s.modPort p (fun x => { x with agreed := none })) else .next s

/-- ERROR_WINDOW (R405, R409): the end of a port's 1 ms window. -/
def execErrorWindow (p : PortId) (s : State) : Outcome State Fault Refusal := s.runs fun s =>
  let x := s.port p
  let t := s.modPort p (fun x => { x with corrWin := 0, uncorrWin := 0, authWin := 0 })
  .next (if x.corrWin > s.fld (FP_RETRAIN_THRESH.THRESH p) ∨ x.uncorrWin ≥ 4 then t.askPeer p 2 0 else t)

/-- LANE_SIGNAL_LOSS (R405): the port proposes the lanes that are left. -/
def execLaneSignalLoss (p : PortId) (lane : Fin 8) (s : State) : Outcome State Fault Refusal := s.runs fun s =>
  let good := s.fld (FP_STAT.LANES_GOOD p)
  if !good.testBit lane.val then .next s
  else
    let left := good - 2 ^ lane.val
    let t := s.setFld (FP_STAT.LANES_GOOD p) left
    .next (if (linkLanes good).testBit lane.val then t.askPeer p 3 (linkLanes left) else t)

/-- RETRAIN_DONE (R394, R405): EQ and ALIGN are done on `lanes`, and the port goes on from HELLO. -/
def execRetrainDone (p : PortId) (lanes : BitVec 8) (s : State) : Outcome State Fault Refusal := s.runs fun s =>
  if s.portState p ≠ 12 then .next s
  else if linkLanes lanes.toNat = 0 then .next ((s.portDetect p).raise (portPage p) Irq.port_TRAIN_FAIL)
  else .next ((s.setWidth p lanes.toNat).portTo p 5)

/-- WIDTH_CHANGE_DONE (R405): ALIGN is done on the new lanes. -/
def execWidthChangeDone (p : PortId) (lanes : BitVec 8) (s : State) : Outcome State Fault Refusal := s.runs fun s =>
  if s.portState p ≠ 13 then .next s
  else if linkLanes lanes.toNat = 0 then .next ((s.portDetect p).raise (portPage p) Irq.port_TRAIN_FAIL)
  else .next ((s.setWidth p lanes.toNat).portTo p 8)

/-! ## Port commands (R405, R409, R432) -/

/-- A write of FP_CMD with one OP. -/
def Block.portCommand (s : Block) (req : Requester) (dw : Nat) (v : Word) (op : Nat) (f : Nat → Block → Block) : Block :=
  s.command req dw v .port [0x48] (fun page _ _ t => if getBits v 0 4 = op then f (page - 26) t else t)

/-- PORT_RETRAIN (R405). -/
def execPortRetrain (req : Fin 18) (dw : BitVec 26) (v : Word) (s : State) : Outcome State Fault Refusal := s.runs fun s =>
  .next (s.portCommand req dw.toNat v 1 (fun p t => t.askPeer p 2 0))

/-- PORT_RESTORE (R405): a retrain attempt at ×8. -/
def execPortRestore (req : Fin 18) (dw : BitVec 26) (v : Word) (s : State) : Outcome State Fault Refusal := s.runs fun s =>
  .next (s.portCommand req dw.toNat v 2 (fun p t => t.askPeer p 2 0xFF))

/-- PORT_DOWN (R394, R432). -/
def execPortDown (req : Fin 18) (dw : BitVec 26) (v : Word) (s : State) : Outcome State Fault Refusal := s.runs fun s =>
  .next (s.portCommand req dw.toNat v 3 (fun p t => if t.portState p = 0 then t else t.portTo p 14))

/-- PORT_UP (R399, R409, R432): from DOWN, HELD_AUTH or VERSION_HOLD. -/
def execPortUp (req : Fin 18) (dw : BitVec 26) (v : Word) (s : State) : Outcome State Fault Refusal := s.runs fun s =>
  .next (s.portCommand req dw.toNat v 4 (fun p t =>
    let st := t.portState p
    if st = 14 ∨ st = 11 ∨ st = 10 then t.portDetect p else t))

end Sys2Proof.Machine
end

