-- ==== Sys2Proof/Machine/CoreCtl.lean ====
section
/-! DEFINITION. Host writes that start and halt cores, load their instruction memory and open their access windows
(R218, R238–R241, R256, R603, R784, R791). -/
namespace Sys2Proof.Machine
open Host

/-! ## Starting and halting (R240, R241, R603, R784) -/

/-- The core of a site on a core-site page. -/
def siteOfPage (page : Nat) : Nat := ((page - 4096) % 1024 - 256) / 16

/-- SHA-384 over a site's whole instruction memory (R603). -/
def Block.codeDigest (s : Block) (r c : Nat) : Nat :=
  let m := (s.coreAt r c).imem
  digestValue 48 (sha384 ((List.range 32768).map (fun n =>
    let w := (SMap.get 0 m n).toNat
    (List.range 8).map (fun k => w / 256 ^ k % 256))).flatten)

/-- A write of CORE_START performed (R240, R603). -/
def Block.startCore (s : Block) (req r c : Nat) (v : Word) : Block :=
  let st := s.fld (CORE_STAT.STATE r c)
  if getBits v 31 1 = 0 then s
  else if st ≠ 0 ∧ st ≠ 4 then s.raise (sitePage r c 0) Irq.core_START_REJECT
  else if s.bit (TR_RIDGE_STAT.SEAL_CODE 16 r) && !(SMap.get [] s.tr.allow r).contains (s.codeDigest r c) then
    (s.raise (sitePage r c 0) Irq.core_START_REJECT).trustDenied (if req = 17 then 0 else req) r 4
  else
    (s.modCore r c (fun x => { x with
      pc := getBits v 0 12, bundle := Bundle.none, handler := false, wait := none, heldWait := none, heldOn := [],
      haltReq := false })).setFld (CORE_STAT.STATE r c) 1

/-- HALT_REQ: a write of CORE_CTL with HALT_REQ = 1 (R241, R253). -/
def execHaltReq (req : Fin 18) (dw : BitVec 26) (v : Word) (s : State) : Outcome State Fault Refusal := s.runs fun s =>
  .next (s.command req dw.toNat v .core [0x40] (fun page off _ t =>
    let r := ridgeOfPage page
    let c := siteOfPage page
    let t := t.storeAt req page off v
    let st := t.fld (CORE_STAT.STATE r c)
    if getBits v 0 1 = 0 ∨ st = 0 ∨ st = 4 ∨ st = 6 then t
    else ((t.modCore r c (fun x => { x with haltReq := true })).setBit (CORE_CTL.HALT_REQ r c) true).boundary r c))

/-! ## Instruction memory (R238, R791) -/

/-- Whether a site's instruction memory accepts writes now (R238). -/
def Block.imemOpen (s : Block) (r c : Nat) : Bool :=
  decide (s.fld (CORE_STAT.STATE r c) = 0 ∨ s.fld (CORE_STAT.STATE r c) = 4) || (s.coreOf r c).isNone

/-- A word written to instruction memory, or discarded (R238). -/
def Block.writeImem (s : Block) (r c n : Nat) (w : BitVec 64) : Block :=
  if s.imemOpen r c then s.modCore r c (fun x => { x with imem := SMap.set 0 x.imem n w })
  else s.raise (sitePage r c 0) Irq.core_IMEM_WR_REJECT

/-- The offsets of the HI halves of IM_WIN. -/
def imemHi : List Nat := (List.range 256).map (fun k => 0x804 + 8 * k)

/-- IMEM_WORD_WRITE (R780, R791): the HI write commits the word whose LO half the requester staged. -/
def execImemWordWrite (req : Fin 18) (dw : BitVec 26) (v : Word) (s : State) : Outcome State Fault Refusal := s.runs fun s =>
  .next (s.command req dw.toNat v .imem imemHi (fun page off _ t =>
    let r := ridgeOfPage page
    let c := siteOfPage page
    let base := t.fld (IM_BASE.BASE r c)
    let lo := (SMap.find (stageKey (regKey page (off - 4) base) req.val) t.staged).getD 0
    t.writeImem r c (base * 256 + (off - 0x804) / 8) (BitVec.ofNat 64 (lo.toNat + v.toNat * 2 ^ 32))))

/-! ## Access windows (R218, R256) -/

/-- AW_CTL written for a window (R256). -/
def Block.openWindow (s : Block) (r c i : Nat) (v : Word) : Block :=
  let valid := s.bit (AW_CTL.VALID r c i)
  let t := if valid then s
    else (((s.setFld (AW_CTL.KIND r c i) (getBits v 3 2)).setFld (AW_CTL.REMOTE r c i) (getBits v 5 1)).setFld (AW_CTL.WR r c i)
      (getBits v 2 1)).setFld (AW_CTL.RD r c i) (getBits v 1 1)
  if getBits v 0 1 = 0 then t.setBit (AW_CTL.VALID r c i) false
  else
    let kind := t.fld (AW_CTL.KIND r c i)
    let remote := t.bit (AW_CTL.REMOTE r c i)
    if kind = 3 then (t.setBit (AW_CTL.VALID r c i) false).setBit (AW_CTL.DENIED r c i) false
    else if t.windowNeedsGrant r c i remote kind
        && !t.windowGranted r c i remote kind (t.bit (AW_CTL.RD r c i)) (t.bit (AW_CTL.WR r c i)) then
      (t.setBit (AW_CTL.VALID r c i) false).setBit (AW_CTL.DENIED r c i) true
    else
      ((t.setBit (AW_CTL.VALID r c i) true).setBit (AW_CTL.DENIED r c i) false).setFld (AW_CTL.GEN r c i) (t.fld FAB_GEN.GEN)

/-- AW_CTL_WRITE (R218, R256). -/
def execAwCtlWrite (req : Fin 18) (dw : BitVec 26) (v : Word) (s : State) : Outcome State Fault Refusal := s.runs fun s =>
  .next (s.command req dw.toNat v .core [0x90] (fun page _ idx t => t.openWindow (ridgeOfPage page) (siteOfPage page) idx v))

end Sys2Proof.Machine
end

