-- ==== Sys2Proof/Machine/DroverOps.lean ====
section
/-! DEFINITION. Shared operations of the drovers: addresses, the checks of a beat, the bytes that a beat reads and writes,
and the course of a descriptor (R439–R460). -/
namespace Sys2Proof.Machine

/-! ## Addresses (R442, R443) -/

def addrSpace (a : Nat) : Nat := a / 2 ^ 60 % 16
def addrRemote (a : Nat) : Bool := decide (1 ≤ addrSpace a ∧ addrSpace a ≤ 4) && a.testBit 59
def addrDie (a : Nat) : Nat := a / 2 ^ 48 % 256
def addrRidge (a : Nat) : Nat := a / 2 ^ 26 % 16
def addrCore (a : Nat) : Nat := a / 2 ^ 21 % 32
def addrRow (a : Nat) : Nat := a / 2 ^ 9 % 4096
def addrByte (a : Nat) : Nat := a % 512
def addrRegion (a : Nat) : Nat := a % 64
def addrSite (a : Nat) : Nat := a / 2 ^ 20 % 64
def addrBundle (a : Nat) : Nat := a / 2 ^ 6 % 4096
def addrTier (a : Nat) : Nat := a % 2 ^ 38
def addrHost (a : Nat) : Nat := a % 2 ^ 57

/-- Whether the address names a ridge of this die: scratchpad, region or instruction memory. -/
def addrOnRidge (a : Nat) : Bool := decide (2 ≤ addrSpace a ∧ addrSpace a ≤ 4) && !addrRemote a

/-- Whether a transfer's source or destination obeys the rules of its space (R443). -/
def alignOk (a count : Nat) (dst : Bool) : Bool :=
  decide (a % 64 = 0 ∨ addrSpace a = 3) && decide (count % 64 = 0)
    && (match addrSpace a with
      | 2 => decide (addrRow a ≥ 3840) || decide (addrByte a = 0 ∧ count % 512 = 0)
      | 3 => decide (count % 512 = 0)
      | 4 => dst
      | _ => true)

/-- The length of the beat at an offset: to the next 512-byte boundary of the destination (R449). -/
def beatLen (d : Desc) (off : Nat) : Nat :=
  min (d.count - off) (512 - (if addrSpace d.dst = 3 then 0 else (d.dst + off) % 512))

/-- The address of an offset: a region's does not move. -/
def addrAt (a off : Nat) : Nat := if addrSpace a = 3 then a else a + off

/-! ## Checks of a beat (R444, R448) -/

/-- The channel's owner. -/
def Block.chOwner (s : Block) (k ch : Nat) : Nat := s.fld (CH_CFG.OWNER k ch)

/-- Whether a ridge takes a beat now: `none`, or 0 where the beat waits for its wake, or the code TARGET_OFF (R632). -/
def Block.ridgeBars (s : Block) (r : Nat) : Option Nat :=
  match s.ridgeState r with
  | 2 => some 0
  | 3 => some 6
  | 4 => if s.fld (PM_RIDGE_STAT.ENTRY_STEP r) ≥ 3 then some (if s.fld (PM_RIDGE_STAT.TARGET r) = 2 then 0 else 6) else none
  | 5 => some 0
  | _ => none

/-- The code that bars a beat at one of its addresses (R38, R341, R430, R444, R615); `none` where it may issue. -/
def Block.beatBar (s : Block) (k ch a len : Nat) (write : Bool) : Option Nat :=
  let owner := s.chOwner k ch
  let own := s.fld FAB_SELF.COORD
  if addrSpace a ≥ 5 then some 4
  else if addrSpace a = 0 then (if k < 16 then some 4 else none)
  else if addrRemote a then (if s.bit FAB_STAT.MEMBER then none else some 8)
  else if addrSpace a = 1 then
    let u := addrTier a / 512
    let v := (addrTier a + len - 1) / 512
    if s.ownerOf u = some 17 ∨ s.ownerOf v = some 17 then some 4
    else if (s.cacheRefusal own owner u write).isSome ∨ (s.cacheRefusal own owner v write).isSome then some 3
    else none
  else
    let r := addrRidge a
    let row := if addrSpace a = 3 then s.fld ((if write then CR_STAT.TAIL else CR_STAT.HEAD) r (s.siteOf r (addrCore a)) (addrRegion a))
      else addrRow a
    if r ≠ owner ∧ (addrSpace a = 4 ∨ !s.requestGranted own owner 0 r (addrCore a) row 1 write) then some 4
    else if !write ∧ addrSpace a = 2 ∧ s.valleyHidden r (s.siteOf r (addrCore a)) row then some 3
    else none

/-- Counts a refused cache-tier access (R341). -/
def Block.countBar (s : Block) (k ch a : Nat) (write : Bool) : Block :=
  if addrSpace a = 1 ∧ !addrRemote a then
    match s.cacheRefusal (s.fld FAB_SELF.COORD) (s.chOwner k ch) (addrTier a / 512) write with
    | some why => s.cacheRefuse (addrTier a / 512) why
    | none => s
  else s

/-! ## Bytes of a beat -/

/-- The source that a drover is (R330, R548). -/
def Block.droverSource (s : Block) (k : Nat) : Source :=
  if k < 16 then s.sourceOf k else ⟨s.fld FAB_SELF.COORD, 0, droverUnit⟩

/-- Reads the bytes of a beat on this die: the code, and the bytes from byte 0 of a row. -/
def Block.beatRead (s : Block) (a len : Nat) (corrected : Nat) (badWords : List (Fin 64)) (badCodewords : List (Fin 8)) :
    Block × Nat × Row :=
  match addrSpace a with
  | 1 =>
    let u := addrTier a / 512
    let b := addrByte a
    let t := s.unitEcc u corrected badCodewords
    let (v, t) := t.clearUnit u
    let two := decide (b + len > 512)
    let (w, t) := if two then t.clearUnit (u + 1) else (0, t)
    if t.unitBad u || (two && t.unitBad (u + 1)) then (t, 2, 0)
    else (t, 0, (v >>> (8 * b)) ||| (w <<< (8 * (512 - b))))
  | 2 =>
    let r := addrRidge a
    let c := s.siteOf r (addrCore a)
    let (t, v, ue) := s.sharedRead r c (addrRow a) false corrected badWords
    let two := decide (addrByte a + len > 512 ∧ addrRow a < 4095)
    let (t, w, ue') := if two then t.sharedRead r c (addrRow a + 1) false 0 [] else (t, 0, false)
    if ue || ue' then (t, 2, 0) else (t, 0, (v >>> (8 * addrByte a)) ||| (w <<< (8 * (512 - addrByte a))))
  | _ =>
    let r := addrRidge a
    let c := s.siteOf r (addrCore a)
    let g := addrRegion a
    let (t, v, ue) := s.sharedRead r c (s.fld (CR_STAT.HEAD r c g)) false corrected badWords
    let t := (t.setFld (CR_STAT.HEAD r c g) (t.ringRow r c g (t.fld (CR_STAT.HEAD r c g)) 1)).freeRows r c g 1
    if ue then (t, 2, 0) else (t, 0, v)

/-- The mask of the 64-bit words of `len` bytes from a byte. -/
def wordsAt (byte len : Nat) : BitVec 64 := BitVec.ofNat 64 ((2 ^ (len / 8) - 1) * 2 ^ (byte / 8))

/-- The mask of `len` bytes from a byte. -/
def bytesAt (byte len : Nat) : BitVec 512 := BitVec.ofNat 512 ((2 ^ len - 1) * 2 ^ byte)

/-- Writes the bytes of a beat on this die: the code, and whether words were lost in the tarn bank (R335, R443, R451). -/
def Block.beatWrite (s : Block) (a len : Nat) (v : Row) (source : Nat) (withCore : Bool) : Block × Nat × Bool :=
  match addrSpace a with
  | 1 =>
    let (t, met) := s.writeUnit (addrTier a / 512) (v <<< (8 * addrByte a)) (bytesAt (addrByte a) len)
    (t, if met then 2 else 0, false)
  | 2 =>
    let r := addrRidge a
    let (t, lost) := s.sharedWrite r (s.siteOf r (addrCore a)) (addrRow a) (v <<< (8 * addrByte a)) (wordsAt (addrByte a) len) source
      withCore 0 []
    (t, 0, lost)
  | 4 =>
    let r := addrRidge a
    let c := addrSite a
    if s.imemOpen r c then
      ((List.range (len / 8)).foldl (fun t i => t.writeImem r c (addrBundle a * 8 + i) (BitVec.ofNat 64 (rowBits v (64 * i) 64))) s, 0, false)
    else (s.raise (sitePage r c 0) Irq.core_IMEM_WR_REJECT, 11, false)
  | _ =>
    let r := addrRidge a
    (s.produceRow r (s.siteOf r (addrCore a)) (addrRegion a) v source withCore, 0, false)

/-- What a region does with a drover's beat (R321, R326): 0 takes it, 1 waits, 2 ends it with REGION. -/
def Block.regionGate (s : Block) (a : Nat) (write : Bool) : Nat :=
  let r := addrRidge a
  let c := s.siteOf r (addrCore a)
  let g := addrRegion a
  if addrSpace a ≠ 3 ∨ addrRemote a then 0
  else if !s.bit (CR_CTL.EN r c g) then 2
  else
    let ok := if write then !s.regionFull r c g else decide (s.regionAvail r c g ≥ 1)
    if ok then 0
    else if s.bit (if write then CR_CTL.OVF_MODE r c g else CR_CTL.UNF_MODE r c g) then 2 else 1

/-- A refused attempt in FAULT mode sets the region's FAULT (R326). -/
def Block.gateFault (s : Block) (a : Nat) : Block :=
  let r := addrRidge a
  let c := s.siteOf r (addrCore a)
  if s.bit (CR_CTL.EN r c (addrRegion a)) then s.regionFault r c (addrRegion a) else s

/-! ## Channels -/

/-- A drover's number of channels. -/
def droverChannels (k : Nat) : Nat := if k = 16 then 64 else 32

/-- Beats outstanding of a channel and of a drover (R441). -/
def Chan.outstanding (x : Chan) : Nat := (x.descs.map (fun d => d.out.length)).sum
def Block.droverOut (s : Block) (k : Nat) : Nat := (((s.droverAt k).chans.map (·.2)).map Chan.outstanding).sum

/-- Whether every beat of a descriptor has been issued, or none will be. -/
def DescRun.issued (d : DescRun) : Bool := decide (d.next ≥ d.desc.count ∨ d.code ≠ 0)

/-- The descriptor with the next beat of a channel: the first with beats to issue, held by a FENCE behind earlier ones
(R447, R449). -/
def Chan.nextBeat (x : Chan) : Option (Nat × DescRun) :=
  match (List.range x.descs.length).find? (fun i => match x.descs[i]? with | some d => !d.issued | none => false) with
  | none => none
  | some i => match x.descs[i]? with
    | some d => if d.desc.fence ∧ i ≠ 0 then none else some (i, d)
    | none => none

/-- CH_CFG.MAX_OUT in force: 0 acts as 1 (R464). -/
def Block.maxOut (s : Block) (k ch : Nat) : Nat := max 1 (s.fld (CH_CFG.MAX_OUT k ch))

/-- Whether a beat waits for its function to return to D0 (R745). -/
def Block.beatAsleep (s : Block) (k ch : Nat) (d : Desc) : Bool :=
  decide (k = 16 ∧ (addrSpace d.src = 0 ∨ addrSpace d.dst = 0)) && s.hostWaits (s.chOwner k ch)

/-- Whether a channel has a beat ready (R441, R454, R456, R745). -/
def Block.beatReady (s : Block) (k ch : Nat) : Bool :=
  let x := s.chan k ch
  match x.nextBeat with
  | none => false
  | some (_, d) =>
    decide (x.outstanding < s.maxOut k ch) && decide (s.droverOut k < 1024) && !s.beatAsleep k ch d.desc
      && decide (s.regionGate (addrAt d.desc.src d.next) false ≠ 1)
      && (decide (addrSpace d.desc.dst ≠ 3) || decide (s.regionGate (addrAt d.desc.dst d.next) true ≠ 1))
      && !((addrOnRidge d.desc.src && decide (s.ridgeBars (addrRidge d.desc.src) = some 0))
        || (addrOnRidge d.desc.dst && decide (s.ridgeBars (addrRidge d.desc.dst) = some 0)))

/-- CH_STAT.STATE of a channel (R465). -/
def Block.chanState (s : Block) (k ch : Nat) : Nat :=
  let x := s.chan k ch
  let waits := match x.nextBeat with
    | some (_, d) => decide (s.regionGate (addrAt d.desc.src d.next) false = 1)
        || (decide (addrSpace d.desc.dst = 3) && decide (s.regionGate (addrAt d.desc.dst d.next) true = 1))
    | none => false
  if x.current.isNone then 0
  else if (s.droverAt k).draining.any (fun e => decide (e.1 = ch)) then 5
  else if x.descs.any (fun d => decide (d.code = 12)) then 6
  else if x.descs.isEmpty then (if x.fetch.isSome then 1 else 0)
  else if waits then 4
  else if x.preempted then 3 else 2

/-- Shows a channel's state and outstanding beats (R461, R465). -/
def Block.showChan (s : Block) (k ch : Nat) : Block :=
  let x := s.chan k ch
  let t := ((s.setFld (CH_STAT.STATE k ch) (s.chanState k ch)).setFld (CH_STAT.OUT k ch) x.outstanding).setFld (CH_STAT.QDEPTH k ch)
    x.queue.length
  t.setFld (DRV_STAT.OUTSTANDING k) (t.droverOut k)

/-- A descriptor in execution; one that breaks R443 ends with ALIGN before any beat. -/
def startDesc (d : Desc) (serial : Nat) : DescRun :=
  ⟨d, serial, 0, [], [], if alignOk d.src d.count false && alignOk d.dst d.count true then 0 else 5, false⟩

/-- An idle channel starts its next entry (R446). -/
def Block.startEntry (s : Block) (k ch : Nat) : Block :=
  let x := s.chan k ch
  if x.current.isSome then s.showChan k ch
  else match x.queue with
    | [] => s.showChan k ch
    | e :: rest =>
      let y := match e.transfer with
        | some d => { x with queue := rest, current := some e, fetch := none, descs := [startDesc d x.count], count := x.count + 1 }
        | none => { x with queue := rest, current := some e, fetch := some e.chain, descs := [] }
      (s.setChan k ch y).showChan k ch

/-- An entry with no descriptor left ends, and the next one starts (R446, R450, R453). -/
def Block.endEntry (s : Block) (k ch : Nat) : Block :=
  let x := s.chan k ch
  if x.descs.isEmpty ∧ x.fetch.isNone then
    (s.setChan k ch { x with current := none, preempted := false }).startEntry k ch
  else s.showChan k ch

/-- Changes one descriptor of a channel. -/
def Block.modDesc (s : Block) (k ch i : Nat) (f : DescRun → DescRun) : Block :=
  let x := s.chan k ch
  s.setChan k ch { x with descs := x.descs.modify i f }

/-- The first code other than OK ends the issue of a descriptor's beats (R452). -/
def DescRun.fail (d : DescRun) (code : Nat) : DescRun := { d with code := if d.code = 0 then code else d.code }

/-- The tag of a beat's packet: channel, descriptor and beat. -/
def beatTag (ch serial off : Nat) : Nat := (serial * 64 + ch) * 2 ^ 32 + off

/-- Sends a beat to another die (R445): `arg` is 1 for a write, with the length and the OWNER above, `addr` the address at the
target. -/
def Block.sendBeat (s : Block) (k ch : Nat) (e : Submission) (serial off a len : Nat) (write : Bool) (v : Row) : Block :=
  let p := { Packet.blank with
    op := .drvBeat, srcCore := 32, dst := ⟨addrDie a, 0, if addrSpace a = 1 then cacheUnit else addrRidge a⟩, dstCore := addrCore a,
    addr := a, tag := beatTag ch serial off, arg := (if write then 1 else 0) + 2 * len + s.chOwner k ch * 2 ^ 16, data := v, vc := 3, src := s.droverSource k, gen := s.fld FAB_GEN.GEN, step := e.step,
    rev := e.rev, prov := decide (k < 16) && e.pushed && s.isOpen k e.step }
  let t := s.send p
  if p.prov then t.recordOutput k e.step p.dst else t

/-- A provisional beat of a ridge drover to another ridge of the die is recorded at both (R547–R550); answers false where
it is void (R556). -/
def Block.beatCrosses (s : Block) (k : Nat) (e : Submission) (a : Nat) : Block × Bool :=
  if k < 16 ∧ addrOnRidge a ∧ addrRidge a ≠ k then
    let r := addrRidge a
    if s.isVoid r (s.sourceOf k) e.step e.rev then (s.addReg (RI_STALE_DROP r) 1, false)
    else if e.pushed && s.isOpen k e.step then
      ((s.recordOutput k e.step (s.sourceOf r)).recordInput r e.step (s.sourceOf k) e.rev, true)
    else (s, true)
  else (s, true)

/-- Issues a channel's next beat (R444, R449, R452): its code ends the descriptor, or the beat is outstanding with what its
source on this die gave. -/
def Block.issueBeat (s : Block) (k ch : Nat) (corrected : Nat) (badWords : List (Fin 64)) (badCodewords : List (Fin 8)) : Block :=
  let x := s.chan k ch
  match x.nextBeat, x.current with
  | some (i, d), some e =>
    let off := d.next
    let len := beatLen d.desc off
    let src := addrAt d.desc.src off
    let dst := addrAt d.desc.dst off
    let wake (t : Block) (a : Nat) : Block := if addrOnRidge a then t.dozeWake (addrRidge a) else t
    let s := wake (wake s src) dst
    let off6 (a : Nat) : Option Nat := if addrOnRidge a then s.ridgeBars (addrRidge a) else none
    let fail (t : Block) (code : Nat) : Block := (t.modDesc k ch i (fun d => d.fail code)).showChan k ch
    match off6 src, off6 dst with
    | some _, _ => fail s 6
    | _, some _ => fail s 6
    | none, none =>
      match s.beatBar k ch src len false, s.beatBar k ch dst len true with
      | some code, _ => fail (s.countBar k ch src false) code
      | _, some code => fail (s.countBar k ch dst true) code
      | none, none =>
        if s.regionGate src false = 2 then fail (s.gateFault src) 9
        else if addrSpace dst = 3 ∧ s.regionGate dst true = 2 then fail (s.gateFault dst) 9
        else
          let (t, ok) := s.beatCrosses k e src
          if !ok then fail t 3
          else
            let out (t : Block) (v : Option Row) : Block :=
              (t.modDesc k ch i (fun d => { d with next := off + len, out := d.out ++ [(off, v)] })).showChan k ch
            if addrRemote src then out (t.sendBeat k ch e d.serial off src len false 0) none
            else if addrSpace src = 0 then out t none
            else
              let (t, code, v) := t.beatRead src len corrected badWords badCodewords
              if code ≠ 0 then (t.modDesc k ch i (fun d => { d.fail code with next := off + len })).showChan k ch
              else out (if addrRemote dst then t.sendBeat k ch e d.serial off dst len true v else t) (some v)
  | _, _ => s

/-- A beat ends: it is no longer outstanding, and its bytes count when its code is OK (R452, R461). -/
def Block.finishBeat (s : Block) (k ch i off code : Nat) (lost : Bool) : Block :=
  let t := s.modDesc k ch i (fun d =>
    let d := { d with out := d.out.filter (fun e => decide (e.1 ≠ off)), collision := d.collision || lost }
    if code = 0 then { d with done := d.done ++ [(off, beatLen d.desc off)] } else d.fail code)
  (t.setPair (DRV_BEATS_LO k) (DRV_BEATS_HI k) (t.pair (DRV_BEATS_LO k) (DRV_BEATS_HI k) + 1)).showChan k ch

/-- The code of a completion from another die (R223, R448). -/
def remoteCode (status : Nat) : Nat :=
  match status with | 0 => 0 | 1 => 6 | 2 => 8 | 3 => 3 | 4 => 2 | 9 => 9 | 11 => 11 | _ => 10

/-- BYTES_DONE: the longest prefix whose beats all completed (R452). -/
def DescRun.prefix (d : DescRun) : Nat :=
  (List.range (d.done.length + 1)).foldl (fun n _ => match d.done.find? (fun e => decide (e.1 = n)) with
    | some e => n + e.2
    | none => n) 0

/-- Writes STATUS and BYTES_DONE of a descriptor in memory (R447, R450). -/
def Block.writeStatus (s : Block) (k ch : Nat) (d : DescRun) : Block :=
  let v := d.code + 256 + (if d.collision then 512 else 0) + d.prefix * 2 ^ 32
  let a := d.desc.addr + 32
  if d.desc.addr = 0 ∨ addrRemote a then s
  else match addrSpace a with
    | 0 =>
      let owner := s.chOwner k ch
      { s with hostOut := s.hostOut ++ [⟨s.hostFn owner, addrHost a, 8, v⟩] }
    | _ => (s.beatWrite a 8 (BitVec.ofNat 4096 v) (if k < 16 then 48 else 49) false).1

/-- Counts an IRQ descriptor and sets DONE when the count is reached (R458). -/
def Block.coalesce (s : Block) (k ch : Nat) : Block :=
  let x := s.chan k ch
  let n := x.coalesced + 1
  if n ≥ max 1 (s.fld (CH_COAL.COUNT k ch)) then (s.setChan k ch { x with coalesced := 0 }).raise (drvChPage k ch) (ch % 16)
  else s.setChan k ch { x with coalesced := n }

/-- The oldest descriptor of a channel completes (R450, R452). -/
def Block.completeDesc (s : Block) (k ch : Nat) : Block :=
  let x := s.chan k ch
  match x.descs, x.current with
  | d :: rest, some e =>
    if !d.issued ∨ !d.out.isEmpty then s
    else
      let t := s.setChan k ch { x with descs := rest }
      let t := t.writeStatus k ch d
      let t := if d.desc.add then
          t.send { (cellPacket (t.droverSource k) 32 (t.sourceOf (e.cell / 1024 % 16)) (e.cell % 1024) .add 1) with step := e.step, rev := e.rev }
        else t
      let t := if d.desc.irq then t.coalesce k ch else t
      let t := t.setFld (CH_STAT.LAST_CODE k ch) d.code
      let t := t.wrapReg (CH_DONE_CNT k ch) 1
      let t := if d.code = 0 then t
        else
          let t := (t.setFld (CH_ERR.CODE k ch) d.code).addSat (CH_ERR.COUNT k ch) 1
          (t.setPair (CH_ERR_ADDR_LO k ch) (CH_ERR_ADDR_HI k ch) d.desc.addr).raise (drvChPage k ch) (16 + ch % 16)
      t.endEntry k ch
  | _, _ => s

/-- A chain error (R453). -/
def Block.chainError (s : Block) (k ch code : Nat) : Block :=
  let x := s.chan k ch
  let t := s.blkErr (drvCtlPage k) (BitVec.ofNat 32 (ch + code * 256))
  ((t.setChan k ch { x with fetch := none }).raise (drvCtlPage k) 0).endEntry k ch

/-- A channel gives up its current entry: no further beat, and its descriptors end with a code (R457, R459). -/
def Block.abortChan (s : Block) (k ch code : Nat) (abandon : Bool) : Block :=
  let x := s.chan k ch
  let descs := x.descs.map (fun d => { d.fail code with out := if abandon then [] else d.out })
  (s.setChan k ch { x with fetch := none, descs := descs }).endEntry k ch

/-- Every descriptor of a channel that can complete does. -/
def Block.completeAll (s : Block) (k ch : Nat) : Block :=
  (List.range (s.chan k ch).descs.length).foldl (fun t _ => t.completeDesc k ch) s

/-- Whether a channel's descriptors in execution touch a ridge (R459). -/
def Block.chanTouches (s : Block) (k ch r : Nat) : Bool :=
  (s.chan k ch).descs.any (fun d =>
    (addrOnRidge d.desc.src && decide (addrRidge d.desc.src = r)) || (addrOnRidge d.desc.dst && decide (addrRidge d.desc.dst = r)))

/-- Affected channels enter DRAIN (R459, R460). -/
def Block.drainFor (s : Block) (r : Nat) : Block :=
  (List.range 17).foldl (fun t k =>
    let chs := (List.range (droverChannels k)).filter (fun ch => (t.chan k ch).current.isSome && (decide (k = r) || t.chanTouches k ch r))
    if chs.isEmpty then t
    else
      let d := t.droverAt k
      let t := { t with drv := SMap.set Drover.reset t.drv k { d with draining := d.draining ++ chs.map (fun ch => (ch, r)) } }
      chs.foldl (fun t ch => t.showChan k ch) t) s

/-- Channels leave DRAIN for a ridge (R459, R634). -/
def Block.undrain (s : Block) (r : Nat) : Block :=
  (List.range 17).foldl (fun t k =>
    let d := t.droverAt k
    let mine := d.draining.filter (fun e => decide (e.2 = r))
    if mine.isEmpty then t
    else
      let t := { t with drv := SMap.set Drover.reset t.drv k { d with draining := d.draining.filter (fun e => decide (e.2 ≠ r)) } }
      mine.foldl (fun t e => t.showChan k e.1) t) s

/-- The end of the drain window (R459, R460): channels in DRAIN end with DOMAIN_OFF, and the ridge's own drover is left
idle. -/
def Block.drainEnd (s : Block) (r : Nat) : Block :=
  let t := (List.range 17).foldl (fun t k =>
    let mine := (t.droverAt k).draining.filter (fun e => decide (e.2 = r))
    mine.foldl (fun t e =>
      let a := ((t.chan k e.1).descs.head?.map (·.desc.addr)).getD 0
      let lost := decide (k = r) && addrOnRidge a && decide (addrRidge a = r)
      let t := t.raise (drvCtlPage k) 3
      if lost then t else (t.abortChan k e.1 7 true).completeAll k e.1) t) s
  let t := t.undrain r
  let t := { t with drv := SMap.set Drover.reset t.drv r Drover.reset }
  (List.range 32).foldl (fun t ch => t.showChan r ch) t

end Sys2Proof.Machine
end

