-- ==== Sys2Proof/Machine/Sync.lean ====
section
/-! DEFINITION. Sync cells: operations by rotating priority, claims and armed wakes, the waiter table, answers at the
waiting core, hold spans and the sync timeout (R212, R213, R224–R230, R259, R330, R331). -/
namespace Sys2Proof.Machine
open Host

/-! ## Cells -/

/-- The sync cells of a ridge beside their registers. -/
def Block.syncAt (s : Block) (r : Nat) : SyncSt := SMap.get SyncSt.reset s.sync r

/-- Writes them. -/
def Block.setSync (s : Block) (r : Nat) (x : SyncSt) : Block := { s with sync := SMap.set SyncSt.reset s.sync r x }

/-- Sends the answer to an operation (R228): what it is (2 a CLAIM's reply, 3 a WAIT's answer, 4 a full table, 6 a wake),
the value, and the operation, cell and operand that it answers. -/
def Block.cellAnswer (s : Block) (r : Nat) (p : Packet) (what : Nat) (v : BitVec 64) : Block :=
  s.send { Packet.blank with
    op := .syncAnswer, src := s.sourceOf r, srcCore := p.arg, dst := p.src, dstCore := p.srcCore, step := p.step, rev := p.rev,
    gen := p.gen, addr := p.addr, tag := p.tag, arg := what, status := (p.data.setWidth 32 : BitVec 32).toNat,
    data := v.setWidth 4096 }

/-- Whether the condition of a wait holds for a value (R225). -/
def waitHolds (kind : Nat) (C t : BitVec 32) : Bool :=
  if kind = 3 then decide ((C - t).toNat < 2 ^ 31) else if kind = 4 then decide (C = t) else decide (C ≠ t)

/-- Writes a cell: a rise fires its armed wakes, and the waiters whose condition holds are answered (R227, R228). -/
def Block.setCell (s : Block) (r cell : Nat) (v : BitVec 32) : Block :=
  let old := s.reg (SYNC_VAL r cell)
  let t := s.setReg (SYNC_VAL r cell) v
  let x := t.syncAt r
  let armed := SMap.get [] x.armed cell
  let t := if v > old ∧ !armed.isEmpty then
      (armed.foldl (fun t p => t.cellAnswer r p 6 0) ((t.setSync r { x with armed := SMap.del cell x.armed }).setFld
        (SYNC_ATTR.ARMED r cell) 0))
    else t
  let x := t.syncAt r
  let hit (w : Waiter) : Bool := decide (w.cell = cell) && waitHolds w.kind.code v w.value
  let due := x.waiters.filter hit
  let t := t.setSync r { x with waiters := x.waiters.filter (fun w => !hit w) }
  (due.foldl (fun t w => t.cellAnswer r w.who 3 0) t).setReg (SYNC_WAITERS r)
    (BitVec.ofNat 32 (x.waiters.length - due.length))

/-- NONE, and the answer of a CLAIM that finds 8 wakes armed (R227). -/
def claimNone : BitVec 64 := BitVec.allOnes 64
def claimFull : BitVec 64 := BitVec.allOnes 64 - 1

/-- A CLAIM on a cell (R225, R227). -/
def Block.cellClaim (s : Block) (r cell : Nat) (p : Packet) (n : BitVec 32) : Block :=
  let C := s.reg (SYNC_VAL r cell)
  if n = 0 then s.cellAnswer r p 2 (C.setWidth 64)
  else if C ≥ n then (s.setCell r cell (C - n)).cellAnswer r p 2 (C.setWidth 64)
  else
    let x := s.syncAt r
    let armed := SMap.get [] x.armed cell
    if armed.any (fun q => decide (q.src = p.src ∧ q.srcCore = p.srcCore)) then s.cellAnswer r p 2 claimNone
    else if armed.length ≥ 8 then s.cellAnswer r p 2 claimFull
    else
      let t := s.setSync r { x with armed := SMap.set [] x.armed cell (armed ++ [p]) }
      (t.setFld (SYNC_ATTR.ARMED r cell) (armed.length + 1)).cellAnswer r p 2 claimNone

/-- A WAIT at a cell (R228). -/
def Block.cellWait (s : Block) (r cell : Nat) (p : Packet) (kind : CellOpKind) (v : BitVec 32) : Block :=
  if waitHolds kind.code (s.reg (SYNC_VAL r cell)) v then s.cellAnswer r p 3 0
  else
    let x := s.syncAt r
    if x.waiters.length ≥ 256 then s.cellAnswer r p 4 0
    else (s.setSync r { x with waiters := x.waiters ++ [⟨cell, kind, v, p⟩] }).setReg (SYNC_WAITERS r)
      (BitVec.ofNat 32 (x.waiters.length + 1))

/-- One operation applied to a cell (R225). -/
def Block.cellOp (s : Block) (r cell : Nat) (p : Packet) : Block :=
  let v : BitVec 32 := p.data.setWidth 32
  match p.arg with
  | 0 => s.setCell r cell (s.reg (SYNC_VAL r cell) + v)
  | 1 =>
    let t := s.setCell r cell v
    if t.bit (SYNC_ATTR.IRQ r cell) then
      (t.setFld (SYNC_IRQ_LAST.CELL r) cell).raise (ridgePage r 2) Irq.ridgeSync_CELL_IRQ
    else t
  | 2 => s.cellClaim r cell p v
  | 3 => s.cellWait r cell p .waitGe v
  | 4 => s.cellWait r cell p .waitEq v
  | _ => s.cellWait r cell p .waitNe v

/-- The enabled buffer pool that a cell backs: site and pool (R226, R328). -/
def Block.poolOf (s : Block) (r cell : Nat) : Option (Nat × Nat) :=
  ((List.range 34).findSome? (fun c =>
    ((List.range 16).find? (fun p => s.bit (POOL_CTL.EN r c p) && decide (s.fld (POOL_CFG.CELL r c p) = cell))).map (fun p => (c, p))))

/-- LAST of a cell (R331). -/
def Block.lastOf (s : Block) (r cell : Nat) : Nat :=
  match s.poolOf r cell with
  | some (c, p) => s.fld (POOL_RPRI.LAST r c p)
  | none => SMap.get 0 (s.syncAt r).last cell

/-- Records the source that won a contention (R331). -/
def Block.setLast (s : Block) (r cell id : Nat) : Block :=
  match s.poolOf r cell with
  | some (c, p) => s.setFld (POOL_RPRI.LAST r c p) id
  | none => let x := s.syncAt r; s.setSync r { x with last := SMap.set 0 x.last cell id }

/-- The operations that reach a cell in one cycle, applied in increasing order of (ID − LAST − 1) mod 64 (R226, R331). -/
def Block.cellCycle (s : Block) (r cell : Nat) (l : List (Nat × Packet)) : Block :=
  let last := s.lastOf r cell
  let sorted := l.foldr (insertBySlot (fun e => (e.1 + 128 - last - 1) % 64)) []
  let t := match sorted with
    | e :: _ :: _ => s.setLast r cell e.1
    | _ => s
  sorted.foldl (fun t e => t.cellOp r cell e.2) t

/-- Those of the named operations that arrive at a cell now, with their source IDs (R330). -/
def Block.arriveOps (s : Block) (r cell : Nat) (ops : List Packet) : Block × List (Nat × Packet) :=
  ops.foldl (fun acc e =>
    let (t, l) := acc
    if e.op ≠ .syncOp ∨ e.dst.unit ≠ r ∨ e.addr ≠ cell then acc
    else
      let (u, ok) := t.arrive e
      (u, if ok then l ++ [(s.sourceId r e, e)] else l)) (s, [])

/-- SYNC_CELL_OP (R225–R228, R331): `ops` reach the cell in one cycle. -/
def execSyncCellOp (r : RidgeId) (cell : Fin 1024) (ops : List Packet) (s : State) : Outcome State Fault Refusal := s.runs fun s =>
  let (t, l) := s.arriveOps r cell ops
  .next (t.cellCycle r cell l)

/-- A host operation on the selected cell, with the operations that reach it in the same cycle (R259). -/
def Block.hostCellOp (s : Block) (page idx : Nat) (kind : CellOpKind) (v : Word) (ops : List Packet) : Block :=
  let r := ridgeOfPage page
  let (t, l) := s.arriveOps r idx ops
  t.cellCycle r idx (l ++ [(50, cellPacket ⟨s.fld FAB_SELF.COORD, 0, hostUnit⟩ 0 (s.sourceOf r) idx kind v)])

/-- SYNC_VAL_WRITE (R259): SYNC.NOTIFY on the selected cell. -/
def execSyncValWrite (req : Fin 18) (dw : BitVec 26) (v : Word) (ops : List Packet) (s : State) :
    Outcome State Fault Refusal := s.runs fun s =>
  .next (s.command req dw.toNat v .ridgeSync [0x44] (fun page _ idx t => t.hostCellOp page idx .notify v ops))

/-- SYNC_ADD_REG (R259): SYNC.ADD on the selected cell. -/
def execSyncAddReg (req : Fin 18) (dw : BitVec 26) (v : Word) (ops : List Packet) (s : State) :
    Outcome State Fault Refusal := s.runs fun s =>
  .next (s.command req dw.toNat v .ridgeSync [0x48] (fun page _ _ t =>
    t.hostCellOp page (t.fld (SYNC_SEL.CELL (ridgeOfPage page))) .add v ops))

/-! ## Answers at the core (R212, R227, R228) -/

/-- A wake reaches a core (R227). -/
def Block.wakeCore (s : Block) (r c : Nat) : Block := s.setBit (CORE_STAT.WAKE_PEND r c) true

/-- WAKE_DELIVERY (R227). -/
def blkWakeDelivery (p : Packet) (s : Block) : Outcome Block Fault Refusal :=
  if p.op ≠ .syncAnswer ∨ p.arg ≠ 6 ∨ p.dst.unit ≥ 16 ∨ p.dstCore ≥ 32 then .next s
  else
    let (t, ok) := s.arrive p
    .next (if ok then t.wakeCore p.dst.unit (t.siteOf p.dst.unit p.dstCore) else t)
/-- WakeDelivery (R227): the effect of blkWakeDelivery. -/
def execWakeDelivery (p : Packet) (s : State) : Outcome State Fault Refusal :=
  s.runs (blkWakeDelivery p)

/-- The reply of a CLAIM reaches its register (R212). -/
def Block.claimReply (s : Block) (r c rd : Nat) (v : BitVec 64) : Block :=
  let x := s.coreAt r c
  match x.claims.find? (fun e => decide (e.1 = rd)) with
  | none => s
  | some e => s.setCore r c ({ x with claims := x.claims.erase e }.put (.s rd) (v.setWidth 4096) allBitsRow)

/-- Whether an answer is that of the WAIT that a core is in. -/
def Block.waitsFor (s : Block) (r c : Nat) (w : Wait) (p : Packet) : Bool :=
  let (dst, addr) := if w.xw then (let (d, _, a) := s.windowTarget r c w.win w.cell; (d, a)) else (s.sourceOf r, w.cell)
  !w.wake && decide (dst.die = p.src.die ∧ dst.unit = p.src.unit ∧ addr = p.addr ∧ w.kind.code = p.srcCore
    ∧ w.value.toNat = p.status)

/-- The answer of a WAIT reaches its core, at the held WAIT or at the one an exception interrupted (R228). -/
def Block.waitAnswer (s : Block) (r c : Nat) (p : Packet) : Block :=
  let mark (w : Wait) : Wait :=
    if s.waitsFor r c w p then (if p.arg = 4 then { w with resend := true } else { w with answered := true }) else w
  s.modCore r c (fun x => { x with wait := x.wait.map mark, heldWait := x.heldWait.map mark })

/-- SYNC_ANSWER (R227, R228). -/
def blkSyncAnswer (p : Packet) (s : Block) : Outcome Block Fault Refusal :=
  if p.op ≠ .syncAnswer ∨ p.arg = 6 ∨ p.dst.unit ≥ 16 ∨ p.dstCore ≥ 32 then .next s
  else
    let (t, ok) := s.arrive p
    let c := t.siteOf p.dst.unit p.dstCore
    .next (if !ok then t
      else if p.arg = 2 then t.claimReply p.dst.unit c p.tag (p.data.setWidth 64)
      else t.waitAnswer p.dst.unit c p)
/-- SyncAnswer (R227, R228): the effect of blkSyncAnswer. -/
def execSyncAnswer (p : Packet) (s : State) : Outcome State Fault Refusal :=
  s.runs (blkSyncAnswer p)

/-! ## Hold spans (R212–R214, R229, R241) -/

/-- Whether the ending condition of a core's hold holds now. -/
def Block.holdEnds (s : Block) (r c : Nat) : Bool :=
  let x := s.coreAt r c
  match s.fld (CORE_STAT.HOLD_CAUSE r c) with
  | 1 => !x.tagsFull
  | 2 => !x.heldOn.any (fun ch => s.chanFull r ch)
  | 4 => !x.heldOn.any (fun n => x.claims.any (fun e => decide (e.1 = n)))
  | _ => match x.wait with
    | some w => if w.wake then s.bit (CORE_STAT.WAKE_PEND r c) else w.answered
    | none => true

/-- A core leaves its hold (R213, R231, R241). -/
def Block.leaveHold (s : Block) (r c : Nat) : Block :=
  let st := if (s.coreAt r c).handler then 3 else 1
  (((s.modCore r c (fun x => { x with heldOn := [] })).setFld (CORE_STAT.STATE r c) st).setFld (CORE_STAT.HOLD_CAUSE r c)
    0).boundary r c

/-- HOLD_SPAN_END (R212–R214, R228, R231, R241): `stallFrames` are the governor stall frames and check frames that fell
within the span. -/
def execHoldSpanEnd (r : RidgeId) (c : SiteId) (stallFrames : Nat) (s : State) : Outcome State Fault Refusal := s.runs fun s =>
  if s.fld (CORE_STAT.STATE r c) ≠ 2 then .next s
  else
    let x := s.coreAt r c
    let lo := CORE_HOLD_CYCLES_LO r c
    let hi := CORE_HOLD_CYCLES_HI r c
    let t := s.setPair lo hi (s.pair lo hi + 64 * (1 + stallFrames))
    if s.holdEnds r c then
      let t := match x.wait with
        | some w => if w.wake then t.setBit (CORE_STAT.WAKE_PEND r c) false else t
        | none => t
      .next ((t.modCore r c (fun y => { y with wait := none })).leaveHold r c)
    else if x.haltReq || x.excWait.any (fun e => decide (e.1 = 7 ∨ e.1 = 4)) then .next (t.leaveHold r c)
    else match x.wait with
      | some w =>
        if w.resend then
          .next ((t.modCore r c (fun y => { y with wait := some { w with resend := false } })).sendSync r c w.kind w.cell w.xw
            w.win w.value 0)
        else .next t
      | none => .next t

/-- CORE_EXC_INFO of a sync timeout (R818): a cell of the own ridge by its die-wide index. -/
def timeoutInfo (r : Nat) (w : Wait) : Nat :=
  (if w.xw then w.cell + 2 ^ 14 + w.win * 2 ^ 28 else r * 1024 + w.cell) + w.bundle * 2 ^ 16

/-- SYNC_TIMEOUT (R229): the exception is taken at the end of the current hold span. -/
def execSyncTimeout (r : RidgeId) (c : SiteId) (s : State) : Outcome State Fault Refusal := s.runs fun s =>
  let x := s.coreAt r c
  if s.fld (CORE_STAT.STATE r c) ≠ 2 ∨ s.fld (CORE_SYNC_TMO.TMO r c) = 0 then .next s
  else match x.wait with
    | none => .next s
    | some w =>
      if w.wake ∨ w.answered ∨ x.excWait.any (fun e => decide (e.1 = 4)) then .next s
      else .next (s.setCore r c { x with excWait := x.excWait ++ [(4, timeoutInfo r w)] })

end Sys2Proof.Machine
end

