-- ==== Sys2Proof/Machine/ServOps.lean ====
section
/-! DEFINITION. Shared operations of the serving unit and the spoor walker: the serving area, accounts, handles, the prefix
tree, parking, the stream gate and the output rings (R502–R535, R562, R579, R580). -/
namespace Sys2Proof.Machine

/-- Changes the serving unit's data. -/
def Block.modServ (s : Block) (f : ServSt → ServSt) : Block := { s with serv := f s.serv }

/-- A sequence that is not FREE. -/
def Block.seq? (s : Block) (q : Nat) : Option Seq := SMap.find q s.serv.seqs

/-- Writes a sequence. -/
def Block.setSeq (s : Block) (q : Nat) (x : Seq) : Block := s.modServ (fun y => { y with seqs := SMap.ins q x y.seqs })

/-- Changes a sequence. -/
def Block.modSeq (s : Block) (q : Nat) (f : Seq → Seq) : Block :=
  match s.seq? q with
  | some x => s.setSeq q (f x)
  | none => s

/-- Calendar milliseconds, low 32 bits (R514). -/
def Block.nowMs (s : Block) : Nat := s.cairn.time % 2 ^ 32

/-! ## The serving area (R502, R511, R514, R526) -/

/-- Little-endian bytes of a number, as a list of numbers. -/
def leBytes (n v : Nat) : List Nat := (List.range n).map (fun k => v / 256 ^ k % 256)

/-- Writes bytes of the serving area, unit by unit, as requester 16 (R341). -/
def Block.areaWrite (s : Block) (off : Nat) (bytes : List Nat) : Block :=
  let a := s.fld SV_AREA.BASE_G * 4096 + off
  let first := a / 512
  let n := (a + bytes.length + 511) / 512 - first
  (List.range n).foldl (fun t i =>
    let unit := first + i
    let at' (k : Nat) : Option Nat := let pos := unit * 512 + k; if pos < a then none else bytes[pos - a]?
    let v := (List.range 512).foldl (fun acc k => acc + (at' k).getD 0 * 256 ^ k) 0
    let m := (List.range 512).foldl (fun acc k => acc + (if (at' k).isSome then 2 ^ k else 0)) 0
    match t.cacheRefusal (t.fld FAB_SELF.COORD) 16 unit true with
    | some why => t.cacheRefuse unit why
    | none => (t.writeUnit unit (BitVec.ofNat 4096 v) (BitVec.ofNat 512 m)).1) s

/-- The park reason that a sequence's entry shows: HOST before any other (R512). -/
def Seq.reason (x : Seq) : Nat := if x.reasons.contains 4 then 4 else x.reasons.headD 0

/-- Bytes 0–123 of a sequence's entry, the committed fields (R511). -/
def Seq.entry (x : Seq) : List Nat :=
  [x.state + x.reason * 8, x.ridge + (if x.share then 16 else 0) + (if x.logprob then 32 else 0) + x.hint * 64]
    ++ leBytes 2 x.account ++ [x.cls, x.ring] ++ leBytes 2 (x.topk + x.drafts * 2 ^ 9 + min 7 x.com.hold * 2 ^ 13)
    ++ leBytes 8 x.key ++ leBytes 4 x.temp ++ leBytes 4 x.topp ++ leBytes 4 x.promptLen ++ leBytes 4 x.com.next ++ leBytes 4 x.maxLen
    ++ leBytes 4 x.prefilled ++ leBytes 4 x.cached ++ leBytes 4 x.blocks.length ++ leBytes 8 x.addr ++ [x.com.hold]
    ++ List.replicate 7 0 ++ ((x.com.tail).map (leBytes 4)).flatten

/-- Writes a sequence's entry and block list to the serving area. -/
def Block.storeSeq (s : Block) (q : Nat) : Block :=
  match s.seq? q with
  | none => s.areaWrite (q * 256) [0]
  | some x => (s.areaWrite (q * 256) x.entry).areaWrite (0x800000 + q * 8192) ((x.blocks.map (leBytes 4)).flatten)

/-- Bytes of a tree node (R514). -/
def TreeNode.bytes (n : TreeNode) (next : Option Nat) : List Nat :=
  leBytes 16 n.hash ++ leBytes 4 (n.parent.getD 0xFFFFFFFF) ++ leBytes 4 n.handle ++ leBytes 4 n.refs ++ leBytes 4 n.lru
    ++ [n.ridge + 16 + (if n.drop then 32 else 0), 0, 0, 0] ++ leBytes 4 (next.getD 0xFFFFFFFF) ++ List.replicate 24 0
    ++ (n.tokens.map (leBytes 4)).flatten

/-- The bucket of a hash (R514). -/
def bucketOf (hash : Nat) : Nat := hash % 2 ^ 25

/-- Writes a node, or its invalid place, and its bucket to the serving area. -/
def Block.storeNode (s : Block) (i hash : Nat) : Block :=
  let chain := SMap.get [] s.serv.buckets (bucketOf hash)
  let next := (chain.dropWhile (fun j => decide (j ≠ i)))[1]?
  let t := match SMap.find i s.serv.nodes with
    | some n => s.areaWrite (0x1CA00000 + i * 320) (n.bytes next)
    | none => s.areaWrite (0x1CA00000 + i * 320 + 32) [0]
  t.areaWrite (0x14800000 + bucketOf hash * 4) (leBytes 4 (chain.headD 0xFFFFFFFF))

/-! ## Accounts (R522, R523) -/

/-- A register as a signed number. -/
def Block.signed (s : Block) (k : Nat) : Int := (s.reg k).toInt

/-- Charges that wait for their step's commit. -/
def Block.pendingCharge (s : Block) (a : Nat) : Nat := ((s.serv.gate.filter (fun h => decide (h.account = a))).map (·.charge)).sum

/-- The provisional balance of an account. -/
def Block.balance (s : Block) (a : Nat) : Int := s.signed (SV_ACC_BAL a) - (s.pendingCharge a : Int)

/-- Charges an account at once; a disabled one charges nothing new (R523). -/
def Block.chargeNow (s : Block) (a n : Nat) : Block :=
  if !s.bit (SV_ACC_CFG.EN a) then s else s.setReg (SV_ACC_BAL a) (s.reg (SV_ACC_BAL a) - BitVec.ofNat 32 n)

/-! ## Records (R508, R512, R534) -/

/-- Packs a record. -/
def recordOf (seq flags token index word : Nat) : Nat :=
  seq % 2 ^ 16 + flags * 2 ^ 16 + token * 2 ^ 32 + index % 2 ^ 32 * 2 ^ 64 + word * 2 ^ 96

/-- Queues a record for a ring. -/
def Block.putRecord (s : Block) (o : OutRec) : Block := s.modServ (fun y => { y with out := y.out ++ [o] })

/-- Queues an event record: code 1 PARKED, 2 RESUMED, 3 ENDED, 4 REFUSED. -/
def Block.event (s : Block) (seq ring flags index code detail : Nat) (final : Bool) : Block :=
  s.putRecord ⟨seq, ring, recordOf seq (32 + flags) 0xFFFFFFFF index (code + detail * 256), 0, false, final⟩

/-- The last token that a sequence has consumed. -/
def Seq.lastIndex (x : Seq) : Nat := x.com.next - 1

/-- The event that ends a sequence without a releasable final token (R534). -/
def Block.endEvent (s : Block) (q : Nat) (x : Seq) (fin : Nat) : Block := s.event q x.ring (2 + fin * 4) x.lastIndex 3 0 true

/-! ## Handles and the tree (R513–R518, R579) -/

/-- Free handles (SV_KV_FREE). -/
def Block.kvCount (s : Block) : Nat := (s.fld SV_KV_HANDLES.HANDLES - s.serv.kvNext) + s.serv.kvFree.length

/-- The period of an epoch in ticks (R577). -/
def Block.twinPeriod (s : Block) : Nat := max 50 (getBits (s.reg TW_PERIOD) 0 14)

/-- The number of the next epoch to close (R577). -/
def Block.nextEpoch (s : Block) : Nat := (s.pair FAB_TICK_LO FAB_TICK_HI / s.twinPeriod + 1) % 2 ^ 32

/-- Returns a handle to the free list; on an active die it waits for the second epoch closed from now (R517, R579). -/
def Block.kvReturn (s : Block) (h : Nat) : Block :=
  if s.fld TW_CTL.ROLE = 1 then s.modServ (fun y => { y with kvLimbo := y.kvLimbo ++ [(h, (s.nextEpoch + 1) % 2 ^ 32)] })
  else s.modServ (fun y => { y with kvFree := y.kvFree ++ [h] })

/-- Removes a node; its handle returns to the free list (R517, R518). -/
def Block.dropNode (s : Block) (i : Nat) : Block :=
  match SMap.find i s.serv.nodes with
  | none => s
  | some n =>
    let b := bucketOf n.hash
    let t := s.modServ (fun y => { y with
      nodes := SMap.del i y.nodes, buckets := SMap.set [] y.buckets b ((SMap.get [] y.buckets b).filter (fun j => decide (j ≠ i))) })
    (t.kvReturn n.handle).storeNode i n.hash

/-- The order in which evictable nodes go: a DROP hint, then the lowest LRU, keep last (R518). -/
def TreeNode.rank (n : TreeNode) : Nat := (if n.drop then 0 else if n.lru = 0xFFFFFFFF then 2 else 1) * 2 ^ 32 + n.lru

/-- The next node to evict. -/
def Block.evictable (s : Block) : Option Nat :=
  let l := s.serv.nodes.filter (fun n => decide (n.2.refs = 0) && !s.serv.nodes.any (fun m => decide (m.2.parent = some n.1)))
  (l.foldl (fun (best : Option (Nat × TreeNode)) n => match best with
    | some b => if n.2.rank < b.2.rank then some n else best
    | none => some n) none).map (·.1)

/-- Evicts one node. -/
def Block.evictOne (s : Block) : Block :=
  match s.evictable with
  | some i => (s.dropNode i).addReg SP_EVICT 1
  | none => s

/-- Eviction when free handles are short (R518). -/
def Block.evictLow (s : Block) : Block :=
  let low := s.fld SV_KV_LOW.LOW
  if s.kvCount ≥ low then s
  else
    let t := if s.evictable.isNone then s.raise (diePage 13) Irq.serving_KV_LOW else s
    (List.range (low + 1024)).foldl (fun t _ => if t.kvCount ≥ low + 1024 then t else t.evictOne) t

/-- Takes a handle; `none` where none is free after eviction (R512, R517). -/
def Block.kvTake (s : Block) : Block × Option Nat :=
  let s := if s.kvCount = 0 then s.evictOne else s
  if s.serv.kvNext < s.fld SV_KV_HANDLES.HANDLES then
    ((s.modServ (fun y => { y with kvNext := y.kvNext + 1 })).evictLow, some s.serv.kvNext)
  else match s.serv.kvFree with
    | h :: rest => ((s.modServ (fun y => { y with kvFree := rest })).evictLow, some h)
    | [] => (s, none)

/-- Takes handles for a sequence until its list has `n` blocks; `none` where one is missing. -/
def Block.kvFill (s : Block) (q n : Nat) : Option Block :=
  match s.seq? q with
  | none => none
  | some x =>
    (List.range (n - x.blocks.length)).foldl (fun (o : Option Block) _ => o.bind (fun t =>
      match t.kvTake with
      | (u, some h) => some (u.modSeq q (fun y => { y with blocks := y.blocks ++ [h] }))
      | (_, none) => none)) (some s)

/-- The hash of a block (R513): SHA-256 over the parent's hash, the ridge's salt and the 64 tokens. -/
def Block.blockHash (s : Block) (r : Nat) (parent : Option Nat) (tokens : List Nat) : Nat :=
  let salt := s.pair (SP_SALT_LO r) (SP_SALT_HI r)
  digestValue 32 (sha256 (leBytes 16 (parent.getD 0) ++ leBytes 8 salt ++ (tokens.map (leBytes 4)).flatten)) % 2 ^ 128

/-- The nodes of a bucket chain up to the one with a hash, and that node (R515). -/
def Block.findNode (s : Block) (r hash : Nat) : Nat × Option (Nat × TreeNode) :=
  let chain := SMap.get [] s.serv.buckets (bucketOf hash)
  let hit (i : Nat) : Bool := match SMap.find i s.serv.nodes with | some n => decide (n.hash = hash ∧ n.ridge = r) | none => false
  match chain.find? hit with
  | some i => ((chain.takeWhile (fun j => decide (j ≠ i))).length + 1, (SMap.find i s.serv.nodes).map (fun n => (i, n)))
  | none => (chain.length, none)

/-- Counts visits of buckets and nodes. -/
def Block.visits (s : Block) (n : Nat) : Block := s.setPair SP_VISITS_LO SP_VISITS_HI (s.pair SP_VISITS_LO SP_VISITS_HI + n)

/-- A hash that matches with different tokens (R515). -/
def Block.collision (s : Block) : Block := (s.addReg SP_COLL 1).raise (diePage 14) Irq.walker_COLLISION

/-- A committed prefill block is inserted in the tree, or stays private (R516). -/
def Block.treeInsert (s : Block) (p : PrefillRow) : Block :=
  match s.seq? p.seq with
  | none => s
  | some x =>
    if !x.share ∨ p.count ≠ 64 ∨ p.block ≠ x.inTree then s
    else
      let parentHash := (x.node.bind (fun i => SMap.find i s.serv.nodes)).map (·.hash)
      let h := s.blockHash x.ridge parentHash p.tokens
      match (s.findNode x.ridge h).2 with
      | some (i, n) =>
        if n.tokens = p.tokens then
          (s.addReg SP_DUP 1).modSeq p.seq (fun y => { y with inTree := y.inTree + 1, node := some i })
        else s.collision
      | none =>
        let cap := (s.reg SP_NODES).toNat
        let s := if s.serv.nodes.length ≥ cap then s.evictOne else s
        match (List.range cap).find? (fun i => (SMap.find i s.serv.nodes).isNone) with
        | none => s.raise (diePage 14) Irq.walker_NODES_FULL
        | some i =>
          let n : TreeNode := ⟨h, x.node, p.handle, 1, if x.hint = 1 then 0xFFFFFFFF else s.nowMs, x.ridge, decide (x.hint = 2), p.tokens⟩
          let t := s.modServ (fun y => { y with
            nodes := SMap.ins i n y.nodes, buckets := SMap.set [] y.buckets (bucketOf h) (i :: SMap.get [] y.buckets (bucketOf h)) })
          (t.modSeq p.seq (fun y => { y with inTree := y.inTree + 1, node := some i })).storeNode i h

/-- A handle of a finished sequence: its node loses a reference, or it returns to the free list (R517). -/
def Block.releaseHandle (s : Block) (h : Nat) : Block :=
  match s.serv.nodes.find? (fun n => decide (n.2.handle = h)) with
  | none => s.kvReturn h
  | some (i, n) =>
    let t := s.modServ (fun y => { y with nodes := SMap.ins i { n with refs := n.refs - 1 } y.nodes })
    if n.drop ∧ n.refs ≤ 1 then t.dropNode i else t.storeNode i n.hash

/-- A sequence enters DONE: its block list is released in order (R509, R517). -/
def Block.seqDone (s : Block) (q : Nat) : Block :=
  match s.seq? q with
  | none => s
  | some x =>
    if x.state ≠ 5 then s
    else (x.blocks.foldl (fun t h => t.releaseHandle h) (s.setSeq q { x with state := 6, blocks := [], node := none })).storeSeq q

/-! ## Output rings (R531, R534, R535, R580) -/

/-- Free records of a ring. -/
def Block.ringFree (s : Block) (g : Nat) : Nat :=
  if !s.bit (SV_RING_CFG.EN g) then 0
  else 2 ^ s.fld (SV_RING_CFG.LOG2 g) - (s.reg (SV_RING_TAIL g) - s.reg (SV_RING_HEAD g)).toNat

/-- Signals a ring's vector (R535, R753, R755). -/
def Block.signalRing (s : Block) (g : Nat) : Block :=
  let r := g / 16
  let t := s.modServ (fun y => { y with ringPend := SMap.del g y.ringPend })
  if t.vfSignals r then t.signal (r + 1) (g % 16) else t.signal 0 (128 + r)

/-- A write into host memory for a ridge's ring (R445, R505). -/
def Block.hostWrite (s : Block) (r addr len data : Nat) : Block := { s with hostOut := s.hostOut ++ [⟨s.hostFn r, addr, len, data⟩] }

/-- Writes one record to its ring (R534, R535). -/
def Block.writeRecord (s : Block) (o : OutRec) : Block :=
  let g := o.ring
  let tail := (s.reg (SV_RING_TAIL g)).toNat
  let base := s.pair (SV_RING_BASE_LO g) (SV_RING_BASE_HI g)
  let t := s.hostWrite (g / 16) (base + 16 * (tail % 2 ^ s.fld (SV_RING_CFG.LOG2 g))) 16 o.data
  let t := t.wrapReg (SV_RING_TAIL g) 1
  let n := SMap.get 0 t.serv.ringPend g + 1
  let t := t.modServ (fun y => { y with ringPend := SMap.ins g n y.ringPend })
  let t := if n ≥ max 1 (s.fld (SV_RING_CFG.COAL_COUNT g)) then t.signalRing g else t
  if o.final then t.seqDone o.seq else t

/-- Whether a record's epoch has been acknowledged (R580). -/
def Block.epochHeld (s : Block) (o : OutRec) : Bool :=
  decide (o.epoch ≠ 0) && stepBefore (s.reg TW_ACKED).toNat o.epoch

/-- Releases queued records: in order within a ring, while it has room, the record's epoch is acknowledged and its function
is in D0; then the tails are written back (R531, R534, R580, R745). -/
def Block.pumpRings (s : Block) : Block :=
  let old := s
  let (t, _, rings) := s.serv.out.foldl (fun (acc : Block × List Nat × List Nat) o =>
    let (t, stuck, rings) := acc
    if stuck.contains o.ring ∨ t.ringFree o.ring = 0 ∨ t.epochHeld o ∨ t.hostWaits (o.ring / 16) then (t.putRecord o, o.ring :: stuck, rings)
    else (t.writeRecord o, stuck, if rings.contains o.ring then rings else rings ++ [o.ring]))
    (s.modServ (fun y => { y with out := [] }), [], [])
  rings.foldl (fun t g =>
    let wb := old.pair (SV_RING_WB_LO g) (SV_RING_WB_HI g)
    t.hostWrite (g / 16) wb 4 (t.reg (SV_RING_TAIL g)).toNat) t

/-! ## Parking (R512) -/

/-- Parks a sequence for a reason, with its event record. -/
def Block.park (s : Block) (q reason : Nat) : Block :=
  match s.seq? q with
  | none => s
  | some x =>
    let prior := if x.state = 4 then x.prior else x.state
    let x' := { x with state := 4, prior := prior, reasons := if x.reasons.contains reason then x.reasons else x.reasons ++ [reason] }
    ((s.setSeq q x').event q x.ring 0 x.lastIndex 1 reason false).storeSeq q

/-- Whether a park reason of a sequence no longer holds (R512). -/
def Block.reasonOver (s : Block) (x : Seq) (reason : Nat) : Bool :=
  match reason with
  | 1 => s.bit (SV_ACC_CFG.EN x.account) && decide (s.balance x.account ≥ (16 * s.fld (SV_ACC_CFG.RESUME x.account) : Nat))
  | 2 => decide (s.kvCount ≥ s.fld SV_KV_LOW.LOW)
  | 3 => decide (s.ringFree x.ring ≥ 128)
  | _ => false

/-- A parked sequence resumes when no reason is left; while HOST is set nothing else resumes it (R512). -/
def Block.resumeSeq (s : Block) (q : Nat) : Block :=
  match s.seq? q with
  | none => s
  | some x =>
    if x.state ≠ 4 ∨ x.reasons.contains 4 then s
    else
      let left := x.reasons.filter (fun n => !s.reasonOver x n)
      if !left.isEmpty then s.setSeq q { x with reasons := left }
      else
        let dyn (d : SeqDyn) : SeqDyn := { d with parked := false }
        let x' := { x with state := x.prior, reasons := [], com := dyn x.com, prov := dyn x.prov }
        ((s.setSeq q x').event q x.ring 0 x.lastIndex 2 (x.reasons.headD 4) false).storeSeq q

/-- Every parked sequence is looked at again. -/
def Block.resumeAll (s : Block) : Block :=
  (s.serv.seqs.filter (fun x => decide (x.2.state = 4))).foldl (fun t x => t.resumeSeq x.1) s

/-! ## What the registers show (R533, R537, R539) -/

/-- Tokens in the gate: uncommitted, held back, and released but not yet written. -/
def Block.gateHeld (s : Block) : Nat :=
  (s.serv.gate.filter (fun h => !h.dead)).length + ((s.serv.seqs.map (fun x => x.2.back.length)).sum) + (s.serv.out.filter (·.token)).length

/-- Uncommitted emitting steps of a ridge number. -/
def Block.openEmits (s : Block) (r : Nat) : Nat := (s.serv.uncommitted.filter (fun e => decide (e.1.unit = r))).length

/-- Brings the serving and walker pages up to date. -/
def Block.showServ (s : Block) : Block :=
  let held := s.gateHeld
  let t := s.setFld SV_STAT.LIVE s.serv.seqs.length
  let t := if held ≥ 65536 ∧ !t.bit SV_STAT.GATE_FULL then t.raise (diePage 13) Irq.serving_GATE_FULL else t
  let t := (t.setBit SV_STAT.GATE_FULL (decide (held ≥ 65536))).setReg SV_GATE (BitVec.ofNat 32 (min 65536 held))
  let t := (t.setReg SV_KV_FREE (BitVec.ofNat 32 t.kvCount)).setReg SP_USED (BitVec.ofNat 32 t.serv.nodes.length)
  (List.range 16).foldl (fun t r => t.setReg (SV_UNCOMMITTED r) (BitVec.ofNat 32 (min 4 (t.openEmits r)))) t

/-- Ends a serving command: rings are written, parked sequences looked at again, the pages brought up to date. -/
def Block.servEnd (s : Block) : Block := ((s.pumpRings.resumeAll).pumpRings).showServ

/-- A sequence enters STOPPING with an END (R507, R509): its unreleased tokens are discarded, and its final record is
queued. -/
def Block.stopSeq (s : Block) (q fin : Nat) : Block :=
  match s.seq? q with
  | none => s
  | some x =>
    let t := s.modServ (fun y => { y with
      gate := y.gate.map (fun h => if h.seq = q then { h with dead := true } else h), out := y.out.filter (fun o => decide (o.seq ≠ q) || !o.token) })
    let x' := { x with state := 5, reasons := [], prov := x.com, snaps := [], back := [] }
    ((t.setSeq q x').endEvent q x' fin).storeSeq q

end Sys2Proof.Machine
end

