-- ==== Sys2Proof/Machine/TrustOps.lean ====
section
/-! DEFINITION. The mailboxes of the trust block: the blobs and the operations on bindings, keys, grants and switch roots
(R592, R598–R608, R613–R616, R621, R622). -/
namespace Sys2Proof.Machine

/-- Changes the trust block's data. -/
def Block.modTr (s : Block) (f : TrustSt → TrustSt) : Block := { s with tr := f s.tr }

/-! ## Blobs (R621) -/

/-- `n` bytes of the blob of a mailbox from byte `k`, as a little-endian number. -/
def Block.blob (s : Block) (page k n : Nat) : Nat :=
  (List.range n).foldl (fun v i => v + getBits (s.reg (TR_MBOX_DATA page ((k + i) / 4))) (8 * ((k + i) % 4)) 8 * 256 ^ i) 0

/-- SHA-384 of a TENANT_KEY, byte 0 lowest. -/
def tenantDigest (key : Nat) : Nat := digestValue 48 (sha384 (leBytes 97 key))

/-- The TENANT_KEY of a bound ridge. -/
def Block.tenantOf (s : Block) (r : Nat) : Option Nat := if s.bound r then SMap.find r s.tr.tenant else none

/-! ## Bindings (R598–R602) -/

/-- Shows a ridge's binding state and raises BINDING (R598, R623). -/
def Block.bindingTo (s : Block) (r st : Nat) : Block :=
  ((s.setFld (TR_RIDGE_STAT.STATE 16 r) st).raise (diePage 8) Irq.trust_BINDING).raise (trustPage r) Irq.trust_BINDING

/-- Shows SHA-384 of a ridge's TENANT_KEY. -/
def Block.showTenant (s : Block) (r digest : Nat) : Block :=
  (List.range 12).foldl (fun t n => t.setReg (TR_TENANT 16 n r) (BitVec.ofNat 32 (digest / 2 ^ (32 * n)))) s

/-- Draws a fresh XTS key for an owner; the old one is gone (R609). -/
def Block.drawKey (s : Block) (owner : Nat) : Block :=
  s.modTr (fun y => { y with xts := SMap.ins owner (SMap.get 0 y.xts owner + 1) y.xts })

/-- BIND (R599, R600). -/
def Block.bindRun (s : Block) (o : MailboxOp) : Except Nat Block :=
  let f := s.blob o.page
  let r := o.ridge
  let st := s.fld (TR_RIDGE_STAT.STATE 16 r)
  if o.len ≠ 240 ∨ f 0 4 ≠ 0x444E4942 ∨ f 4 1 ≠ 1 ∨ f 5 1 ≠ r ∨ f 6 1 ≥ 4 ∨ f 7 1 ≠ 0 ∨ f 129 15 ≠ 0 then .error 1
  else if o.page < 16 ∧ r ≠ o.page then .error 12
  else if !o.signed then .error 2
  else if f 8 8 ≠ s.serial then .error 3
  else if f 16 8 ≠ s.pair (TR_NONCE_LO 16 r) (TR_NONCE_HI 16 r) then .error 4
  else if st = 3 then .error 6
  else if st ≠ 0 then .error 5
  else
    let t := s.modTr (fun y => { y with
      tenant := SMap.ins r (f 32 97) y.tenant, allow := SMap.set [] y.allow r [], allowSeq := SMap.set 0 y.allowSeq r 0 })
    let t := (t.setFld (TR_RIDGE_STAT.VF_TRUST 16 r) (f 6 1 % 2)).setFld (TR_RIDGE_STAT.SEAL_CODE 16 r) (f 6 1 / 2)
    let t := ((t.setFld (TR_RIDGE_STAT.ALLOW_COUNT 16 r) 0).showTenant r (tenantDigest (f 32 97))).drawKey r
    .ok ((t.setPair (SP_SALT_LO r) (SP_SALT_HI r) (f 24 8)).bindingTo r 1)

/-- Clears a key slot. -/
def Block.dropKey (s : Block) (k : Nat) : Block :=
  (s.modTr (fun y => { y with keys := SMap.del k y.keys })).setReg (TR_KEY_STAT 16 k) 0

/-- Clears a grant entry. -/
def Block.dropGrant (s : Block) (i : Nat) : Block :=
  let t := s.modTr (fun y => { y with grants := SMap.del i y.grants })
  ((t.setReg (TR_GRANT_STAT 16 i) 0).setReg (TR_GRANT_ID_LO 16 i) 0).setReg (TR_GRANT_ID_HI 16 i) 0

/-- Whether a grant's target or grantee is a ridge of this die. -/
def Block.grantNames (s : Block) (r : Nat) (g : Grant) : Bool :=
  decide (g.targetSerial = s.serial ∧ g.targetRidge = r)
    || (decide (g.granteeRidge = r) && (decide (g.granteeCoord = s.fld FAB_SELF.COORD) || decide (g.granteeCoord = 0xFFFF ∧ g.targetSerial = s.serial)))

/-- Clears VALID of every access window of a ridge's cores that `bad` names. -/
def Block.closeWindows (s : Block) (r : Nat) (bad : Block → Nat → Nat → Bool) : Block :=
  (List.range 34).foldl (fun t c => (List.range 16).foldl (fun t i =>
    if t.bit (AW_CTL.VALID r c i) && bad t c i then t.setBit (AW_CTL.VALID r c i) false else t) t) s

/-- Step 4 of R601: scratchpads, instruction memories and sync cells become 0. -/
def Block.scrubCells (s : Block) (r : Nat) : Block :=
  let t := (List.range 34).foldl (fun t c =>
    (t.modSpad r c (fun x => { x with rows := [], bad := [] })).modCore r c (fun x => { x with imem := [] })) s
  (List.range 1024).foldl (fun t n => t.setReg (SYNC_VAL r n) 0) t

/-- Step 5 of R601: prefix-tree nodes, accounts, stop classes and rings. -/
def Block.scrubServing (s : Block) (r : Nat) : Block :=
  let t := (s.serv.nodes.filter (fun n => decide (n.2.ridge = r))).foldl (fun t n => t.dropNode n.1) s
  let t := (List.range 256).foldl (fun t i =>
    let a := r * 256 + i
    (((t.setReg (SV_ACC_CFG a) 0).setReg (SV_ACC_RATE a) 0).setReg (SV_ACC_BURST a) 0).setReg (SV_ACC_BAL a) 0) t
  let t := t.modServ (fun y => { y with
    accRem := y.accRem.filter (fun x => decide (x.1 / 256 ≠ r)), classes := y.classes.filter (fun x => decide (x.1 / 16 ≠ r)) })
  (List.range 16).foldl (fun t i =>
    let g := r * 16 + i
    let t := ((t.setReg (SV_RING_CFG g) 0).setReg (SV_RING_BASE_LO g) 0).setReg (SV_RING_BASE_HI g) 0
    (t.setReg (SV_RING_WB_LO g) 0).setReg (SV_RING_WB_HI g) 0) t

/-- UNBIND (R601): refused, or steps 1–6, after which the ridge is SCRUBBING. -/
def Block.unbindRun (s : Block) (o : MailboxOp) : Except Nat Block :=
  let r := o.ridge
  let running := (List.range 34).any (fun c => decide (s.fld (CORE_STAT.STATE r c) ≠ 0 ∧ s.fld (CORE_STAT.STATE r c) ≠ 4))
  if o.page < 16 ∧ r ≠ o.page then .error 12
  else if s.fld (TR_RIDGE_STAT.STATE 16 r) ≠ 1 then .error 5
  else if running ∨ s.serv.seqs.any (fun x => decide (x.2.ridge = r)) then .error 7
  else
    let t := s.setPair (TR_NONCE_LO 16 r) (TR_NONCE_HI 16 r) (s.pair (TR_NONCE_LO 16 r) (TR_NONCE_HI 16 r) + 1)
    let t := (t.tr.keys.filter (fun k => (BitVec.ofNat 16 k.2.ridges).getLsbD r)).foldl (fun t k => t.dropKey k.1) (t.drawKey r)
    let t := (t.tr.grants.filter (fun g => t.grantNames r g.2)).foldl (fun t g => t.dropGrant g.1) t
    let t := (List.range 64).foldl (fun t i =>
      if t.fld (CT_REG_CTL.OWNER i) = r then t.setBit (CT_REG_CTL.VALID i) false else t) t
    let t := ((t.closeWindows r (fun _ _ _ => true)).scrubCells r).scrubServing r
    let t := (t.res.layer.filter (fun e => decide (e.1 / 32768 = r ∧ e.2.pslab = 15 ∧ e.2.state ≠ 0))).foldl (fun t e => t.dropEntry e.1) t
    .ok (t.bindingTo r 2)

/-- ALLOW (R602). -/
def Block.allowRun (s : Block) (o : MailboxOp) : Except Nat Block :=
  let f := s.blob o.page
  let r := o.ridge
  let n := f 6 1
  if o.len ≠ 512 ∨ f 0 4 ≠ 0x574F4C41 ∨ f 4 1 ≠ 1 ∨ f 5 1 ≠ r ∨ n > 8 ∨ f 7 1 ≠ 0 ∨ f 20 12 ≠ 0 ∨ f (32 + 48 * n) (384 - 48 * n) ≠ 0 then
    .error 1
  else if o.page < 16 ∧ r ≠ o.page then .error 12
  else if !s.bound r then .error 5
  else if !o.signed then .error 2
  else if f 8 8 ≠ s.serial then .error 3
  else if f 16 4 ≤ SMap.get 0 s.tr.allowSeq r then .error 4
  else
    let t := s.modTr (fun y => { y with
      allow := SMap.set [] y.allow r ((List.range n).map (fun k => f (32 + 48 * k) 48)), allowSeq := SMap.set 0 y.allowSeq r (f 16 4) })
    .ok (t.setFld (TR_RIDGE_STAT.ALLOW_COUNT 16 r) n)

/-! ## Parcel keys (R604–R607) -/

/-- Whether a parcel slot, an export or a valley-host entry uses a key slot (R607). -/
def Block.keyInUse (s : Block) (k : Nat) : Bool :=
  s.res.parcels.any (fun p => decide (p.2.keySlot = k)) || s.res.hostTable.any (fun h => decide (h.2.1 = k))
    || (s.res.exporting.isSome && decide (s.fld RZ_X_CMD.KEY_SLOT = k))

/-- Shows a key slot. -/
def Block.showKey (s : Block) (k : Nat) (x : ParcelKey) : Block :=
  s.setReg (TR_KEY_STAT 16 k) (BitVec.ofNat 32 (1 + (if x.used then 2 else 0) + (if x.exportOk then 4 else 0) + x.ridges * 2 ^ 16))

/-- KEY_LOAD (R605–R607). -/
def Block.keyLoadRun (s : Block) (o : MailboxOp) : Except Nat Block :=
  let f := s.blob o.page
  let k := f 5 1
  let ridges := f 8 2
  let named := (List.range 16).filter (fun r => decide (ridges / 2 ^ r % 2 = 1))
  let tenants := named.map s.tenantOf
  let signer := tenants.headD none
  if o.len ≠ 272 ∨ f 0 4 ≠ 0x4C59454B ∨ f 4 1 ≠ 1 ∨ k ≥ 64 ∨ f 6 1 ≥ 2 ∨ f 7 1 ≠ 0 ∨ ridges = 0 ∨ f 10 6 ≠ 0 ∨ f 121 7 ≠ 0 ∨ f 168 8 ≠ 0 then
    .error 1
  else if o.page < 16 ∧ ridges ≠ 2 ^ o.page then .error 12
  else if tenants.any (·.isNone) then .error 5
  else if !o.signed then .error 2
  else if f 16 8 ≠ s.serial then .error 3
  else if !o.unwraps then .error 8
  else if tenants.any (fun t => decide (t ≠ signer)) then .error 9
  else
    let old := SMap.find k s.tr.keys
    if old.any (fun x => decide (some x.signer ≠ signer)) then .error 9
    else if old.isSome ∧ s.keyInUse k then .error 11
    else
      let x : ParcelKey := ⟨ridges, decide (f 6 1 = 1), false, signer.getD 0⟩
      .ok ((s.modTr (fun y => { y with keys := SMap.ins k x y.keys })).showKey k x)

/-- KEY_CLEAR (R607). -/
def Block.keyClearRun (s : Block) (o : MailboxOp) : Except Nat Block :=
  if o.page < 16 ∧ (SMap.find o.slot s.tr.keys).any (fun x => decide (x.ridges ≠ 2 ^ o.page)) then .error 12
  else if s.keyInUse o.slot then .error 11
  else .ok (s.dropKey o.slot)

/-! ## Grants (R613–R616) -/

/-- Shows a grant entry. -/
def Block.showGrant (s : Block) (i : Nat) (g : Grant) : Block :=
  let coord := if g.granteeCoord = 0xFFFF then 256 else g.granteeCoord
  let v := 1 + g.kind * 2 + (if g.rd then 8 else 0) + (if g.wr then 16 else 0) + g.targetRidge * 2 ^ 8 + g.granteeRidge * 2 ^ 12 + coord * 2 ^ 16
  (s.setReg (TR_GRANT_STAT 16 i) (BitVec.ofNat 32 v)).setPair (TR_GRANT_ID_LO 16 i) (TR_GRANT_ID_HI 16 i) g.id

/-- GRANT (R613, R614). -/
def Block.grantRun (s : Block) (o : MailboxOp) : Except Nat Block :=
  let f := s.blob o.page
  let g : Grant := ⟨f 5 1, decide (f 6 1 % 2 = 1), decide (f 6 1 / 2 % 2 = 1), f 7 1, f 8 8, f 16 1, f 20 4, f 24 4, f 28 2, f 30 1,
    f 32 48, f 80 8, f 88 8⟩
  let coreOk := if g.kind = 0 then decide (g.targetCore < 32 ∨ g.targetCore = 255) else decide (g.targetCore = 0)
  if o.len ≠ 192 ∨ f 0 4 ≠ 0x544E5247 ∨ f 4 1 ≠ 1 ∨ g.kind > 2 ∨ f 6 1 ≥ 4 ∨ g.targetRidge ≥ 16 ∨ !coreOk ∨ f 17 3 ≠ 0
      ∨ (g.granteeCoord > 255 ∧ g.granteeCoord ≠ 0xFFFF) ∨ g.granteeRidge ≥ 16 ∨ f 31 1 ≠ 0 then .error 1
  else
    let target := decide (g.targetSerial = s.serial)
    let grantee := decide (g.granteeCoord = s.fld FAB_SELF.COORD ∨ (g.granteeCoord = 0xFFFF ∧ g.targetSerial = s.serial))
    if o.page < 16 ∧ !(target ∧ g.targetRidge = o.page) ∧ !(grantee ∧ g.granteeRidge = o.page) then .error 12
    else if !o.signed then .error 2
    else if !target ∧ !grantee then .error 3
    else if target ∧ !s.bound g.targetRidge then .error 5
    else if grantee ∧ (s.tenantOf g.granteeRidge).map tenantDigest ≠ some g.granteeTenant then .error 9
    else match (List.range 256).find? (fun i => (SMap.find i s.tr.grants).isNone) with
    | none => .error 10
    | some i => .ok ((s.modTr (fun y => { y with grants := SMap.ins i g y.grants })).showGrant i g)

/-- REVOKE (R616): the grant goes, and windows that relied on it close. -/
def Block.revokeRun (s : Block) (o : MailboxOp) : Except Nat Block :=
  match o.revoke with
  | none => .error 1
  | some (id, serial) =>
    let mine := s.tr.grants.filter (fun g => decide (g.2.id = id ∧ g.2.targetSerial = serial))
    if o.page < 16 ∧ mine.any (fun g => decide (g.2.targetRidge ≠ o.page ∧ g.2.granteeRidge ≠ o.page)) then .error 12
    else if !o.signed then .error 2
    else if mine.isEmpty ∧ serial ≠ s.serial then .error 3
    else
      let t := mine.foldl (fun t g => t.dropGrant g.1) s
      .ok ((mine.map (fun g => g.2.granteeRidge)).eraseDups.foldl (fun t r => t.closeWindows r (fun u c i =>
        let kind := u.fld (AW_CTL.KIND r c i)
        let remote := u.bit (AW_CTL.REMOTE r c i)
        let relied := s.windowGranted r c i remote kind (u.bit (AW_CTL.RD r c i)) (u.bit (AW_CTL.WR r c i))
        relied && !u.windowGranted r c i remote kind (u.bit (AW_CTL.RD r c i)) (u.bit (AW_CTL.WR r c i)))) t)

/-! ## Switch roots and the security version (R592, R616, R619) -/

/-- ROOT_ADD (R616): a DER certificate of at most 1 KiB. -/
def Block.rootRun (s : Block) (o : MailboxOp) : Except Nat Block :=
  if o.len = 0 ∨ o.len > 1024 then .error 1
  else if o.page < 16 ∨ (o.func ≠ 0 ∧ o.func ≠ 17) then .error 12
  else if s.tr.roots.length ≥ 4 then .error 10
  else .ok (s.modTr (fun y => { y with roots := y.roots ++ [s.blob o.page 0 o.len] }))

/-- SVN_RAISE (R592): the fused minimum rises to the SVN of the image running. -/
def Block.svnRun (s : Block) (o : MailboxOp) : Except Nat Block :=
  if o.page < 16 ∨ (o.func ≠ 0 ∧ o.func ≠ 17) then .error 12
  else .ok (s.setFld (TR_STAT.MIN_SVN 16) (max (s.fld (TR_STAT.MIN_SVN 16)) (s.fld (TR_STAT.BASE_SVN 16))))

/-! ## Mailboxes (R621, R622) -/

/-- The result of a mailbox command. -/
def Block.mboxRun (s : Block) (o : MailboxOp) : Except Nat Block :=
  match o.op with
  | 1 => s.bindRun o
  | 2 => s.unbindRun o
  | 3 => s.keyLoadRun o
  | 4 => s.keyClearRun o
  | 5 => s.grantRun o
  | 6 => s.revokeRun o
  | 7 => s.allowRun o
  | 8 => s.rootRun o
  | 9 => s.svnRun o
  | _ => .error 1

/-- A mailbox command ends with a RESULT (R622, R623). -/
def Block.mboxEnd (s : Block) (o : MailboxOp) (result : Nat) : Block :=
  let t := ((s.setFld (TR_MBOX_STAT.STATE o.page) 2).setFld (TR_MBOX_STAT.RESULT o.page) result).setFld (TR_MBOX_STAT.OP o.page) o.op
  let t := t.raise (trustPage o.page) Irq.trust_MBOX_DONE
  if result = 0 then t else t.raise (trustPage o.page) Irq.trust_MBOX_FAIL

/-- Runs mailbox commands in order until one takes time: an accepted UNBIND runs until its scrub is done. -/
def Block.mboxNext (s : Block) : List MailboxOp → Block
  | [] => s.modTr (fun y => { y with mbox := [] })
  | o :: rest =>
    match s.mboxRun o with
    | .error code => (s.mboxEnd o code).mboxNext rest
    | .ok t => if o.op = 2 then t.modTr (fun y => { y with mbox := o :: rest }) else (t.mboxEnd o 0).mboxNext rest

/-- A mailbox command arrives: it runs at once, or waits behind the one that runs (R622). -/
def Block.mboxSubmit (s : Block) (o : MailboxOp) : Block :=
  let t := ((s.setFld (TR_MBOX_STAT.STATE o.page) 1).setFld (TR_MBOX_STAT.RESULT o.page) 0).setFld (TR_MBOX_STAT.OP o.page) o.op
  if s.tr.mbox.isEmpty then t.mboxNext [o] else t.modTr (fun y => { y with mbox := y.mbox ++ [o] })

end Sys2Proof.Machine
end

