-- ==== Sys2Proof/Machine/ResetOps.lean ====
section
/-! DEFINITION. What the die loses when its main rails or VDD_BASE go down, and the rail-down orders (R626, R637–R644,
R728, R729). -/
namespace Sys2Proof.Machine

/-! ## What a reset or a power state keeps (R626, R728) -/

/-- Whether the register of a key is kept while the main rails are down: registers of base-camp pages, site maps, trims,
steering entries, the generation and mask, and the salt of a bound ridge. -/
def Block.keptInHold (s : Block) (key : Nat) : Bool :=
  let page := key / regSpan / 4096
  let off := key / regSpan % 4096
  decide (answers page = .baseCamp) || (match pageKind page with
    | .ridgeCore => decide (0x40 ≤ off ∧ off < 0x6C)
    | .engine => decide (off = 0x90 ∨ off = 0x98)
    | .fabric => decide (off = 0x48 ∨ (0x50 ≤ off ∧ off < 0x70))
    | .walker => decide (off = 0x68 ∨ off = 0x6C) && s.bound (key % regSpan)
    | _ => false)

/-- Whether the register of a key is kept over a cold reset: the identity, the boot record's configuration and the firmware
versions, the trust record, steering entries, the cairn store's positions and the salt of a bound ridge. Trims and the site
map come from the fuses. -/
def Block.keptCold (s : Block) (key : Nat) : Bool :=
  let page := key / regSpan / 4096
  let off := key / regSpan % 4096
  match pageKind page with
  | .identity => decide (off < 0x50)
  | .start => decide (off = 0x44 ∨ off = 0x60 ∨ off = 0x64)
  | .cairn => decide (0x58 ≤ off ∧ off < 0x64)
  | .trust => decide (off = 0x40 ∨ (0x50 ≤ off ∧ off < 0x8C ∧ page < 4096))
  | .engine => decide (off = 0x98)
  | .walker => decide (off = 0x68 ∨ off = 0x6C) && s.bound (key % regSpan)
  | _ => false

/-- Keeps the entries of a map of register values whose key passes a test. -/
def keepRegs (m : SMap Word) (span : Nat) (f : Nat → Bool) : SMap Word := m.filter (fun e => f (e.1 / span))

/-- A suspended run of a programming operation (R75, R643). -/
def RunOp.suspend (o : RunOp) : RunOp := if o.op.kind.programs then { o with suspended := true } else o

/-- An interrupted row restarts at read 1 with a fresh budget (R75, R637). -/
def RunOp.restartRow (o : RunOp) : RunOp :=
  if o.op.kind.programs then { o with it := 0, setCount := [], resetCount := [] } else o

/-- Everything in the domains of the main rails goes (R626, R728): what stays is the base camp's, the store record's, the
journal's and the trust block's. -/
def Block.loseMain (s : Block) : Block :=
  let s := s.calAbortAll
  let keep := s.keptInHold
  let t := { s with
    regs := keepRegs s.regs 1 keep, staged := keepRegs s.staged 32 keep, hiLatch := keepRegs s.hiLatch 32 keep,
    frozen := keepRegs s.frozen 1 keep,
    eng := [], core := [], spad := [], sync := [], mig := [], drv := [], cache := CacheSt.reset, net := NetSt.reset,
    serv := ServSt.reset, tw := TwinSt.reset, hp := HostSt.reset,
    store := { s.store with image := [], queues := [], running := s.store.running.map (fun (e : Nat × RunOp) => (e.1, e.2.suspend)) },
    fab := { FabSt.reset with grace := s.fab.grace, unsaved := s.fab.unsaved, saved := s.fab.saved },
    res := { ResSt.reset with journal := s.res.journal, journalActive := s.res.journalActive, freeing := s.res.freeing },
    int := { IntSt.reset with fsQueue := s.int.fsQueue },
    tr := { s.tr with mbox := [] },
    pow := { s.pow with
      wakePending := [], returnOff := [], held := [], heldStarts := [], lvRails := [], resetting := [] } }
  (List.range 16).foldl (fun t r =>
    ((t.setRidgeState r 3).setFld (PM_RIDGE_STAT.ENTRY_STEP r) 0).setFld (PM_RIDGE_STAT.TARGET r) 0) (t.setBit PM_DIE_STAT.LV_HOLD false)

/-- The site map that the fuses hold (R729): each permanent migration moves a logical core to a scree site and retires the
site that it left. -/
def Block.fusedSites (s : Block) : Block :=
  s.boot.fused.foldl (fun t f =>
    let r := f.1 / 32
    f.2.foldl (fun t site =>
      let old := t.siteOf r (f.1 % 32)
      ((t.setSite r (f.1 % 32) site).retireSite r old).setFree r site false) t) s

/-- Everything but what Off keeps goes (R626, R728): the cells, the store record, the cairn store, the trust record, the
fuses and the flash stay. The calendar clock stays when VDD_BASE stayed up. -/
def Block.loseBase (s : Block) (clock : Bool) : Block :=
  let keep := s.keptCold
  let time := s.bit CAIRN_STAT.TIME_SET
  let trip := (s.reg LT_TRIP_INFO, s.reg LT_TRIP_TIME_LO, s.reg LT_TRIP_TIME_HI)
  let t := s.loseMain
  let t := { t with
    regs := keepRegs t.regs 1 keep, staged := [], hiLatch := [], frozen := [],
    store := { t.store with seconds := 0, slabs := t.store.slabs.map (fun (e : Nat × Slab) => (e.1, { e.2 with dueAt := none })) },
    int := IntSt.reset,
    tr := { TrustSt.reset with tenant := s.tr.tenant, allow := s.tr.allow, allowSeq := s.tr.allowSeq },
    fab := { FabSt.reset with saved := s.fab.saved },
    cairn := { CairnSt.reset with
      time := if clock then s.cairn.time else 0, ring := s.cairn.ring, snapshots := s.cairn.snapshots,
      data := match s.cairn.snapshots with | x :: _ => x.2.2 | [] => CairnData.empty },
    look := { LookSt.reset with bandsTaken := false },
    cal := { CalSt.reset with record := s.cal.record },
    mg := MgmtSt.reset,
    boot := { s.boot with rails := [], recovery := false, ucBad := [] },
    pow := { PowSt.reset with off := s.pow.off, clean := s.pow.clean } }
  let t := t.setFld FAB_GEN.GEN s.fab.saved.1
  let t := (List.range 8).foldl (fun t n => t.setReg (FAB_MEMBER n) (BitVec.ofNat 32 (s.fab.saved.2 / 2 ^ (32 * n)))) t
  let t := if clock then
      (((t.setBit CAIRN_STAT.TIME_SET time).setReg LT_TRIP_INFO trip.1).setReg LT_TRIP_TIME_LO trip.2.1).setReg LT_TRIP_TIME_HI trip.2.2
    else t
  let t := [0, 1, 2, 3, 6, 7, 8, 9, 10].foldl (fun t k => (t.setBit (PM_RAIL_STAT.EN k) false).setBit (PM_RAIL_STAT.PG k) false) t
  (t.setFld PM_DIE_STAT.STATE 0).fusedSites

/-! ## Interruptions (R75, R144, R637, R643) -/

/-- Passes started and not latched are discarded, and every core stalls at issue (R144, R637). -/
def Block.cutPasses (s : Block) : Block :=
  { s with
    eng := s.eng.map (fun e => (e.1, match e.2.pass with
      | some p => { e.2 with pass := none, discarded := e.2.discarded ++ [p] }
      | none => e.2)),
    core := s.core.map (fun c => (c.1, { c.2 with lvHold := true })) }

/-- Pulses in progress are cut (R637, R639). -/
def Block.cutPulses (s : Block) : Block :=
  { s with store := { s.store with running := s.store.running.map (fun e => (e.1, e.2.restartRow)) } }

/-- Suspends the running operations of the ridges that a test names (R75, R633). -/
def Block.suspendRuns (s : Block) (f : Nat → Bool) : Block :=
  { s with store := { s.store with running := s.store.running.map (fun e => (e.1, if f (e.1 / 272) then e.2.suspend else e.2)) } }

/-! ## Rail-down orders (R640) -/

/-- The rails that are enabled, in the rail-down order. -/
def Block.railsUp (s : Block) : List Nat := [3, 2, 0, 1, 7, 6, 9, 8, 10].filter (fun k => s.bit (PM_RAIL_STAT.EN k))

/-- What follows the end of a rail-down order (`after`): Hold, a cold start from step 1, or a warm start from step 4. -/
def Block.railsDown (s : Block) : Block :=
  let after := s.pow.after
  let t := { s with pow := { s.pow with railDown := none, after := 0 }, boot := { s.boot with rails := [] } }
  if after = 1 then
    let kind := s.fld BC_STAT.LAST_RESET
    let last := s.fld PM_DIE_STAT.LAST_OFF
    (((t.loseBase true).setFld BC_STAT.LAST_RESET kind).setFld PM_DIE_STAT.LAST_OFF last).setFld BC_STAT.STEP 1
  else
    let t := (t.loseMain).setFld PM_DIE_STAT.STATE 0
    if after = 2 then t.startMain else t

/-- The next rail of the order is turned off; `stuck`, its power-good stays high to the end of the wait, which the normal
order reports (R640). -/
def Block.railStep (s : Block) (stuck : Bool) : Block :=
  match s.pow.railDown with
  | none => s
  | some ([], _) => s.railsDown
  | some (k :: rest, fast) =>
    let t := (s.setBit (PM_RAIL_STAT.EN k) false).setBit (PM_RAIL_STAT.PG k) stuck
    let t := if stuck && !fast then t.railFault else t
    let t := { t with pow := { t.pow with railDown := some (rest, fast) } }
    if rest.isEmpty then t.railsDown else t

/-- Records an off as clean, unless the recovery that an unclean off asks for has not been done (R641, R725). -/
def Block.offClean (s : Block) : Block :=
  if s.fld PM_DIE_STAT.LAST_OFF = 2 ∧ !s.look.bandsTaken then s else s.setFld PM_DIE_STAT.LAST_OFF 1

/-- The normal rail-down order begins (R640). -/
def Block.normalOrder (s : Block) (after : Nat) : Block :=
  let t := (s.setFld PM_DIE_STAT.STATE 3).offClean
  { t with pow := { t.pow with railDown := some (s.railsUp, false), after := after }, boot := { t.boot with rails := [] } }

/-- Starts the flush of an emergency order or a trip (R708). -/
def Block.forceFlush (s : Block) (why : Nat) : Block :=
  if s.cairn.flush = some 1 then s
  else { s.setBit CAIRN_STAT.FLUSHING true with cairn := { s.cairn with flush := some why } }

/-- The emergency order (R640, R641): VPGM leaves at once and the others follow without waiting; the off is unclean unless
a power-fail flush has completed (R644). A cold or warm start that was to follow stays so. -/
def Block.emergency (s : Block) (rail after why : Nat) : Block :=
  if s.pow.off || s.railsUp.isEmpty then s
  else
    let t := s.calAbortAll.cutPasses.setFld PM_DIE_STAT.STATE 3
    let t := { t with pow := { t.pow with railDown := some (s.railsUp, true), after := max after s.pow.after }, boot := { t.boot with rails := [] } }
    let t := t.raise (diePage 2) Irq.power_UNCLEAN
    let t := if s.pow.clean then t.offClean
      else ((t.setFld PM_DIE_STAT.LAST_OFF 2).cairnRecord 6 1 rail).forceFlush why
    t.railStep false

end Sys2Proof.Machine
end

