-- ==== Sys2Proof/Machine/LookOps.lean ====
section
/-! DEFINITION. Lookout converters and temperature readings: conversions and their order, samples, bands, the trip and the
platform's thresholds (R12–R15, R651–R676, R761, R817). -/
namespace Sys2Proof.Machine

/-! ## Platform thresholds (R761) -/

/-- A sensor of the platform's repository is seen at a threshold state; a change is queued as an event, at most 32 of them. -/
def Block.platformLevel (s : Block) (sensor level : Nat) : Block :=
  if SMap.get 0 s.mg.levels sensor = level then s
  else
    let t := { s with mg := { s.mg with levels := SMap.set 0 s.mg.levels sensor level } }
    if t.mg.events.length ≥ 32 then t.addSat MG_EVT.LOST 1
    else
      let t := { t with mg := { t.mg with events := t.mg.events ++ [(sensor, level)] } }
      (t.setFld MG_EVT.QUEUED t.mg.events.length).showAlert

/-- The threshold state of a temperature in 1/16 °C: 90, 100 and 105 °C. -/
def heatLevel (x : Int) : Nat := if x ≥ 1680 then 3 else if x ≥ 1600 then 2 else if x ≥ 1440 then 1 else 0

/-! ## Rail readings (R655, R702) -/

/-- A rail's lookout reading in mV: PM_RAIL_STAT.MV, the hour's extremes, and the platform's thresholds of 93% and 88% of
the setpoint of a rail that is on. -/
def Block.railReading (s : Block) (rail mv : Nat) : Block :=
  let mv := min 4095 mv
  let t := s.setFld (PM_RAIL_STAT.MV rail) mv
  let t := if t.cairnOn then
      let old := SMap.get (mv, mv) t.cairn.data.rails rail
      { t with cairn := { t.cairn with data := { t.cairn.data with
        rails := SMap.ins rail (min old.1 mv, max old.2 mv) t.cairn.data.rails } } }
    else t
  if rail ≠ 4 ∧ rail ≠ 5 ∧ !t.bit (PM_RAIL_STAT.EN rail) then t
  else
    let sp := t.fld (PM_RAIL_STAT.SETPOINT rail)
    t.platformLevel (25 + rail) (if mv * 100 < sp * 88 then 2 else if mv * 100 < sp * 93 then 1 else 0)

/-! ## Readings and bands (R12–R15, R666–R676) -/

/-- A 16-bit signed field's bits. -/
def i16 (x : Int) : Nat := ((max (-32768) (min 32767 x)) % 65536).toNat

/-- The value of a 16-bit signed field. -/
def ofI16 (n : Nat) : Int := if n ≥ 32768 then (n : Int) - 65536 else n

/-- The latest reading of a sensor in 1/16 °C. -/
def Block.temp (s : Block) (k : Nat) : Int := ofI16 (s.fld (LT_SENS_DATA.TEMP k))

/-- The sensors of a group: ridge 0–15, or 16 for S64–S67. -/
def groupSensors (g : Nat) : List Nat := (List.range 4).map (fun k => 4 * g + k)

/-- The readings of a group's valid sensors. -/
def Block.validTemps (s : Block) (g : Nat) : List Int :=
  ((groupSensors g).filter (fun k => s.bit (LT_SENS_DATA.VALID k))).map s.temp

/-- The greatest of some readings. -/
def hottest : List Int → Option Int
  | [] => none
  | x :: rest => some (rest.foldl max x)

/-- The lower bound of a band in 1/16 °C (R12). -/
def bandLow (b : Nat) : Int := [0, 640, 960, 1200, 1440].getD b 0

/-- The band of a temperature (R12). -/
def bandOf (x : Int) : Nat := if x ≥ 1440 then 4 else if x ≥ 1200 then 3 else if x ≥ 960 then 2 else if x ≥ 640 then 1 else 0

/-- The band that follows from the hottest valid reading, with the hysteresis of R14; without a reading 4 (R15). -/
def nextBand (old : Nat) : Option Int → Nat
  | none => 4
  | some x =>
    let up := bandOf x
    if up ≥ old then up
    else (List.range 4).foldl (fun b _ => if b > up ∧ x < bandLow b - 32 then b - 1 else b) old

/-- Whether a group is in fast sampling (R666). -/
def nextFast (old : Bool) (l : List Int) : Bool := if l.any (· ≥ 1360) then true else if l.all (· < 1328) then false else old

/-- The converter of a ridge's sensors, 2 of S64–S67. -/
def groupConv (g : Nat) : Nat := if g = 16 then 2 else g / 8

/-- What LT_RIDGE_STAT shows of a ridge's sensors. -/
def Block.showRidge (s : Block) (r : Nat) : Block :=
  let l := s.validTemps r
  let hot := match hottest l with | some x => (max 0 (min 255 (x / 16))).toNat | none => 0
  (s.setFld (LT_RIDGE_STAT.VALID_SENS r) l.length).setFld (LT_RIDGE_STAT.HOTTEST r) hot

/-- A group's band and sampling rate (R13–R15, R666, R670). `direct`: from the first sample of a start, without hysteresis,
event and record (R817). -/
def Block.evalGroup (s : Block) (g : Nat) (direct : Bool) : Block :=
  let l := s.validTemps g
  let hot := hottest l
  if g = 16 then
    let fast := nextFast s.look.baseFast l
    let t := (groupSensors g).foldl (fun t k => t.setBit (LT_SENS_DATA.FAST k) fast) s
    { t with look := { t.look with baseFast := fast, baseBand := if direct then nextBand 0 hot else nextBand s.look.baseBand hot } }
  else
    let old := s.fld (LT_RIDGE_STAT.BAND g)
    let new := if direct then nextBand 0 hot else nextBand old hot
    let fast := nextFast (s.bit (LT_RIDGE_STAT.FAST g)) l
    let t := ((s.setFld (LT_RIDGE_STAT.BAND g) new).setBit (LT_RIDGE_STAT.FAST g) fast).showRidge g
    let t := (groupSensors g).foldl (fun t k => t.setBit (LT_SENS_DATA.FAST k) fast) t
    let t := if old ≠ new ∧ !direct then
        (t.raise (diePage 4) Irq.thermal_BAND_CHANGE).cairnRecord 3 1 (g + old * 2 ^ 8 + new * 2 ^ 16)
      else t
    let t := if old ≠ new then (t.overdueCheck g).calBandMoved g else t
    if !l.isEmpty then { t with look := { t.look with blind := t.look.blind.filter (fun x => decide (x ≠ g)) } }
    else if t.look.blind.contains g then t
    else
      let u : Block := { t with look := { t.look with blind := t.look.blind ++ [g] } }
      let t := u.raise (diePage 4) Irq.thermal_NO_SENSOR
      if t.fld (LK_STAT.MODE (groupConv g)) = 0 then t.signature 10 0 0 (locRidge g) 0 0 0 0 else t

/-- The platform's temperature thresholds of a group and of the die (R761). -/
def Block.platformHeat (s : Block) (g : Nat) : Block :=
  let t := match hottest (s.validTemps g) with
    | some x => if g = 16 then s else s.platformLevel (2 + g) (heatLevel x)
    | none => s
  let groups := if t.fld PM_DIE_STAT.STATE = 0 then [16] else List.range 17
  match hottest (groups.map t.validTemps).flatten with
  | some x => t.platformLevel 1 (heatLevel x)
  | none => t

/-- The trip (R674, R676): the source and the temperature of the confirming sample. -/
def Block.trip (s : Block) (source : Nat) (x : Int) : Block :=
  if s.bit LT_TRIP_INFO.TRIPPED then s
  else
    let unset := !s.bit CAIRN_STAT.TIME_SET
    let t := ((s.setReg LT_TRIP_INFO 0).setFld LT_TRIP_INFO.SOURCE source).setBit LT_TRIP_INFO.TRIPPED true
    let t := (t.setFld LT_TRIP_INFO.TEMP (i16 x)).setBit LT_TRIP_INFO.TIME_UNSET unset
    let t := t.setPair LT_TRIP_TIME_LO LT_TRIP_TIME_HI s.cairn.time
    let t := (t.setBit MG_ALERT_SRC.TRIP true).showAlert
    let t := (t.cairnRecord 7 1 (t.reg LT_TRIP_INFO).toNat).forceFlush 5
    t.emergency 255 0 5

/-- Counts samples at 105 °C or above of a source; the second in a row trips the die (R674). -/
def Block.tripTest (s : Block) (source : Nat) (x : Int) : Block :=
  if x < 1680 then { s with look := { s.look with hot := SMap.del source s.look.hot } }
  else
    let n := SMap.get 0 s.look.hot source + 1
    let t := { s with look := { s.look with hot := SMap.ins source (min 2 n) s.look.hot } }
    if n ≥ 2 then t.trip source x else t

/-- The neighbours of a sensor (R667). -/
def neighbours (k : Nat) : List Nat :=
  if k ≥ 64 then [64, 65, 66, 67].filter (fun x => decide (x ≠ k))
  else
    (if k % 4 > 0 then [k - 1] else []) ++ (if k % 4 < 3 then [k + 1] else [])
      ++ (if k ≥ 4 then [k - 4] else []) ++ (if k + 4 < 64 then [k + 4] else [])

/-- Inserts into a rising list. -/
def insertInt (x : Int) : List Int → List Int
  | [] => [x]
  | y :: rest => if x ≤ y then x :: y :: rest else y :: insertInt x rest

/-- Twice the median of some readings (R667). -/
def median2 (l : List Int) : Int :=
  let m := l.foldl (fun acc x => insertInt x acc) []
  let n := m.length
  if n % 2 = 1 then 2 * m.getD (n / 2) 0 else m.getD (n / 2 - 1) 0 + m.getD (n / 2) 0

/-- Whether a sample of a sensor is deviant (R668). -/
def Block.deviant (s : Block) (k : Nat) (x : Int) : Bool :=
  let near := ((neighbours k).filter (fun j => s.bit (LT_SENS_DATA.VALID j))).map s.temp
  decide (x < -640 ∨ x > 2400) || (decide (near.length ≥ 2) && decide ((2 * x - median2 near).natAbs > 192))

/-- A sensor has given three deviant samples in a row (R668). -/
def Block.breakSensor (s : Block) (k : Nat) : Block :=
  let t := (s.setBit (LT_SENS_DATA.BROKEN k) true).setBit (LT_SENS_DATA.VALID k) false
  ((t.raise (diePage 4) Irq.thermal_SENSOR_BROKEN).addReg LT_BROKEN_CNT 1).cairnRecord 8 1 k

/-- A sample of a sensor in 1/16 °C, made in SERVICE (R668–R675). A broken sensor's reading is shown and counts for nothing. -/
def Block.sample (s : Block) (k : Nat) (x : Int) : Block :=
  let t := s.setFld (LT_SENS_DATA.TEMP k) (i16 x)
  let t := (t.setFld (LT_SENS_EXT.MIN k) (i16 (min x (ofI16 (t.fld (LT_SENS_EXT.MIN k)))))).setFld (LT_SENS_EXT.MAX k)
    (i16 (max x (ofI16 (t.fld (LT_SENS_EXT.MAX k)))))
  if t.bit (LT_SENS_DATA.BROKEN k) then t
  else
    let direct := !t.look.seen.contains k
    let t : Block := { t.setBit (LT_SENS_DATA.VALID k) true with
      look := { t.look with seen := if direct then t.look.seen ++ [k] else t.look.seen } }
    let dev := t.deviant k x
    let t := t.tripTest k x
    let t := if x ≥ 1600 then t.raise (diePage 4) Irq.thermal_OVER_LIMIT else t
    let n := if dev then min 3 (t.fld (LT_SENS_DATA.DEVIANT k) + 1) else 0
    let t := t.setFld (LT_SENS_DATA.DEVIANT k) n
    let t := if n ≥ 3 then t.breakSensor k else t
    (t.evalGroup (k / 4) direct).platformHeat (k / 4)

/-- The sensors of a converter. -/
def convSensors (n : Nat) : List Nat := if n = 2 then [64, 65, 66, 67] else (List.range 32).map (· + 32 * n)

/-- The groups of a converter's sensors. -/
def convGroups (n : Nat) : List Nat := if n = 2 then [16] else (List.range 8).map (· + 8 * n)

/-- Every sensor of a converter becomes invalid (R661, R662). -/
def Block.invalidate (s : Block) (n : Nat) : Block := (convSensors n).foldl (fun t k => t.setBit (LT_SENS_DATA.VALID k) false) s

/-- Steering of the converters at a start (R660, R661, R817): the flank converters begin in STARTUP, and no source has given
a sample. -/
def Block.startLook (s : Block) : Block :=
  let t := [0, 1].foldl (fun t n =>
    let keep := (SMap.get LookConv.reset t.look.convs n).buffers
    let t := { t with look := { t.look with convs := SMap.ins n { LookConv.reset with buffers := keep } t.look.convs } }
    (t.setFld (LK_STAT.MODE n) 1).invalidate n) s
  { t with look := { t.look with seen := [], bandsTaken := false, hot := [] } }

/-! ## Conversions (R651–R664) -/

/-- A converter. -/
def Block.conv (s : Block) (n : Nat) : LookConv := SMap.get LookConv.reset s.look.convs n

/-- Writes a converter. -/
def Block.setConv (s : Block) (n : Nat) (x : LookConv) : Block :=
  { s with look := { s.look with convs := SMap.set LookConv.reset s.look.convs n x } }

/-- Whether a converter is powered and runs (R651): LK2 always, a flank converter from step 4 of the start to the rail-down
order. -/
def Block.convOn (s : Block) (n : Nat) : Bool :=
  !s.pow.off && (decide (n = 2) || (s.pow.railDown.isNone && (decide (s.fld PM_DIE_STAT.STATE = 1 ∨ s.fld PM_DIE_STAT.STATE = 2)
    || decide (s.fld PM_DIE_STAT.STATE = 3 ∧ s.fld BC_STAT.STEP ≥ 5))))

/-- The divider of an input (R653). -/
def lookDivider (n input : Nat) : Nat := if n ≠ 2 then 1 else if input = 5 ∨ input = 8 then 2 else if input = 6 ∨ input = 7 then 4 else 1

/-- The voltage of a code in mV, rounded to the nearest. -/
def lookMv (n input code : Nat) : Nat := (code * 1200 * lookDivider n input + 2048) / 4096

/-- The rail whose PM_RAIL_STAT.MV an input of the fixed scan supplies (R655). -/
def tapRail (n input : Nat) : Option Nat :=
  if n = 0 then (if 16 ≤ input ∧ input ≤ 22 then some ([0, 1, 2, 6, 7, 8, 9].getD (input - 16) 0) else none)
  else if n = 2 then (match input with | 4 => some 4 | 5 => some 5 | 6 => some 3 | 8 => some 10 | _ => none)
  else none

/-- The converter and input of a rail's designated tap (R655, R659). -/
def railTap (rail : Nat) : Option (Nat × Nat) :=
  match rail with
  | 0 => some (0, 16) | 1 => some (0, 17) | 2 => some (0, 18) | 6 => some (0, 19) | 7 => some (0, 20) | 8 => some (0, 21)
  | 9 => some (0, 22) | 4 => some (2, 4) | 5 => some (2, 5) | 3 => some (2, 6) | 10 => some (2, 8) | _ => none

/-- The work of the fixed scan of a converter (R655). -/
def fixedScan (n : Nat) : List LookKind :=
  (convSensors n).map .diode ++ (if n = 2 then [4, 5, 6, 7, 8] else [16, 17, 18, 19, 20, 21, 22]).map .tap ++ [.check]

/-- Whether the store queue of a flank converter holds a sample: an operation that samples reference cells runs in one of its
ridges (R53, R658). -/
def Block.storeSamples (s : Block) (n : Nat) : Bool :=
  decide (n < 2) && s.store.running.any (fun e => decide (e.2.op.kind = .driftSample ∧ e.1 / 272 / 8 = n))

/-- Whether a conversion is of a diode pair: two conversions (R656). -/
def Block.isPair (s : Block) (n : Nat) : LookKind → Bool
  | .diode _ => true
  | .urgent _ _ pair _ => pair
  | .scan e => decide (getBits (s.reg (LK_SCAN_DATA (n * 64 + e))) 9 2 = 1)
  | _ => false

/-- What LK_STAT shows of a converter (R652, R660). -/
def Block.showConv (s : Block) (n : Nat) : Block :=
  let x := s.conv n
  let fast := (convGroups n).any (fun g => if g = 16 then s.look.baseFast else s.bit (LT_RIDGE_STAT.FAST g))
  let lp := (s.bit (LK_CTL.LP n) && !fast) || (decide (n = 2) && s.dieHold)
  ((s.setBit (LK_STAT.BUSY n) x.running.isSome).setFld (LK_STAT.URG_QUEUED n) x.urgent.length).setBit (LK_STAT.LP_ACTIVE n) lp

/-- The conversion that a free converter starts next (R658). An aborted conversion restarts after the urgent requests. -/
def Block.convNext (s : Block) (n : Nat) : Block :=
  let x := s.conv n
  let soft := s.bit (LK_CTL.EN n)
  let store := soft && s.storeSamples n
  let count := min 7 (x.sinceStore + 1)
  let fresh (k : LookKind) : LookWork := ⟨k, none, false⟩
  let y : LookConv :=
    match x.urgent, x.aborted, x.fixed with
    | u :: rest, _, _ => { x with running := some u, urgent := rest, sinceStore := count }
    | [], some a, _ => { x with running := some a, aborted := none, sinceStore := count }
    | [], none, k :: rest => { x with running := some (fresh k), fixed := rest, sinceStore := count }
    | [], none, [] =>
      if store ∧ x.sinceStore ≥ 7 then { x with running := some (fresh .store), sinceStore := 0 }
      else match x.scans with
        | e :: rest => { x with running := some (fresh (.scan e)), scans := rest, sinceStore := count }
        | [] => if store then { x with running := some (fresh .store), sinceStore := 0 } else { x with running := none }
  (s.setConv n y).showConv n

/-- A converter that is idle starts work. -/
def Block.convKick (s : Block) (n : Nat) : Block := if (s.conv n).running.isNone then s.convNext n else s.showConv n

/-- An entry of a result buffer (R663, R664). -/
def Block.bufferPut (s : Block) (n b entry : Nat) : Block :=
  let i := n * 4 + b
  if b ≥ 4 ∨ !s.bit (LK_BUF_CFG.EN i) then s
  else
    let x := s.conv n
    let l := SMap.get [] x.buffers b
    let lost (t : Block) : Block := (t.addReg (LK_BUF_LOST i) 1).raise (diePage 3) Irq.lookout_BUF_LOST
    let put (l : List Nat) : Block := s.setConv n { x with buffers := SMap.ins b l x.buffers }
    if l.length < 4096 then
      let t := put (l ++ [entry])
      (t.setFld (LK_BUF_TAIL.TAIL i) (t.fld (LK_BUF_TAIL.TAIL i) + 1)).setFld (LK_BUF_TAIL.COUNT i) (l.length + 1)
    else if s.bit (LK_BUF_CFG.FULL_MODE i) then lost s
    else
      let t := put (l.drop 1 ++ [entry])
      lost ((t.setFld (LK_BUF_TAIL.TAIL i) (t.fld (LK_BUF_TAIL.TAIL i) + 1)).setFld (LK_BUF_HEAD.HEAD i) (t.fld (LK_BUF_HEAD.HEAD i) + 1))

/-- The 8 bytes of a buffer entry (R663). -/
def Block.lookEntry (s : Block) (n : Nat) (w : LookWork) (code value input mux kind us : Nat) : Nat :=
  code % 4096 + (if w.restarted then 2 ^ 12 else 0) + s.fld (LK_STAT.LP_ACTIVE n) * 2 ^ 13
    + (if s.fld (LK_STAT.MODE n) = 0 then 0 else 2 ^ 14) + value % 65536 * 2 ^ 16 + input * 2 ^ 32 + mux * 2 ^ 37 + kind * 2 ^ 41
    + us % 65536 * 2 ^ 48

/-- The offset trim of a sensor (R656, R694). -/
def Block.sensorTrim (s : Block) (k : Nat) : Int := ofI16 ((SMap.get 0 s.cal.trims (41000 + k)).toNat % 65536)

/-- The sensor that a converter input and multiplexer position reach. -/
def inputSensor (n input mux : Nat) : Option Nat :=
  if n = 2 then (if input < 4 then some (64 + input) else none)
  else if input < 8 ∧ mux < 4 then some (32 * n + 4 * input + mux) else none

/-- The converter's mode after a part of its fixed scan (R660): STARTUP ends with the first complete one. -/
def Block.scanned (s : Block) (n : Nat) (k : LookKind) : Block :=
  if s.fld (LK_STAT.MODE n) ≠ 1 then s
  else
    let x := s.conv n
    let done := if x.scanned.contains k then x.scanned else x.scanned ++ [k]
    if (fixedScan n).all (fun y => done.contains y) then
      (s.setConv n { x with scanned := [] }).setFld (LK_STAT.MODE n) 0
    else s.setConv n { x with scanned := done }

/-- The bandgap check (R662): `dev` codes from the calibrated expectation. -/
def Block.refCheck (s : Block) (n : Nat) (dev : Int) : Block :=
  let t := s.setFld (LK_STAT.CHECK_DEV n) ((max (-128) (min 127 dev)) % 256).toNat
  let mode := s.fld (LK_STAT.MODE n)
  let x := t.conv n
  if dev.natAbs > 16 then
    let t := t.setConv n { x with goodChecks := 0, scanned := [] }
    if mode = 3 ∨ mode = 2 then t
    else
      let t := ((t.setFld (LK_STAT.MODE n) 3).raise (diePage 3) Irq.lookout_REF_FAULT).invalidate n
      (convGroups n).foldl (fun t g => t.evalGroup g false) t
  else if mode ≠ 3 then t
  else if x.goodChecks ≥ 1 then (t.setConv n { x with goodChecks := 0 }).setFld (LK_STAT.MODE n) 0
  else t.setConv n { x with goodChecks := 1 }

/-- The end of a conversion's work (R656, R659, R661–R663): its code, for a diode pair the temperature that the two codes give
before the sensor's trim, for the check the deviation, and the base-camp time in µs. -/
def Block.convEnd (s : Block) (n : Nat) (w : LookWork) (code : Nat) (value : Int) (us : Nat) : Block :=
  let service := decide (s.fld (LK_STAT.MODE n) = 0)
  match w.kind with
  | .diode k =>
    let x := value + s.sensorTrim k
    let t := if s.bit (LK_CTL.TLOG n) then
        s.bufferPut n 0 (s.lookEntry n w code (i16 x) (if n = 2 then k - 64 else k / 4 % 8) (if n = 2 then 0 else k % 4) 1 us)
      else s
    let t := if service then t.sample k x else t
    t.scanned n (.diode k)
  | .tap input =>
    let t := match tapRail n input with
      | some rail => if service then s.railReading rail (lookMv n input code) else s
      | none => s
    t.scanned n (.tap input)
  | .check => (s.refCheck n value).scanned n .check
  | .store => s
  | .scan e =>
    let v := s.reg (LK_SCAN_DATA (n * 64 + e))
    let input := getBits v 0 5
    let mux := getBits v 5 4
    let pair := getBits v 9 2 = 1
    let x := value + (match inputSensor n input mux with | some k => s.sensorTrim k | none => 0)
    s.bufferPut n (getBits v 20 4) (s.lookEntry n w code (if pair then i16 x else lookMv n input code) input mux (if pair then 1 else 0) us)
  | .urgent input mux pair rail =>
    let x := value + (match inputSensor n input mux with | some k => s.sensorTrim k | none => 0)
    match rail with
    | some r => s.railReading r (lookMv n input code)
    | none =>
      let t := (s.setFld (LK_URG_RESULT.CODE n) code).setFld (LK_URG_RESULT.VALUE n) (if pair then i16 x else lookMv n input code)
      (t.setFld (LK_URG_RESULT.STATUS n) 1).raise (diePage 3) Irq.lookout_URG_DONE

/-- An urgent request (R659, R660): in SERVICE it aborts what runs and runs next; elsewhere, or when four wait, it is
dropped. -/
def Block.urgent (s : Block) (n : Nat) (k : LookKind) (soft : Bool) : Block :=
  let x := s.conv n
  if s.fld (LK_STAT.MODE n) ≠ 0 ∨ x.urgent.length ≥ 4 ∨ !s.convOn n ∨ (soft ∧ !s.bit (LK_CTL.EN n)) then
    let t := if soft then s.setFld (LK_URG_RESULT.STATUS n) 2 else s
    (t.addSat (LK_COUNT.URG_DROP n) 1).raise (diePage 3) Irq.lookout_URG_DROP
  else
    let t := if soft then s.setFld (LK_URG_RESULT.STATUS n) 0 else s
    let x : LookConv := { x with urgent := x.urgent ++ [⟨k, none, false⟩] }
    match x.running with
    | none => (t.setConv n x).convNext n
    | some w => match w.kind with
      | .urgent _ _ _ _ => (t.setConv n x).showConv n
      | _ => ((t.setConv n { x with running := none, aborted := some { w with restarted := true } }).addReg (LK_RESTART n) 1).convNext n

/-- A rail comparator trips: the rail's tap is read at once (R659). -/
def Block.railUrgent (s : Block) (rail : Nat) : Block :=
  match railTap rail with
  | some (n, input) => s.urgent n (.urgent input 0 false (some rail)) false
  | none => s

end Sys2Proof.Machine
end

