-- ==== Sys2Proof/Machine/Calib.lean ====
section
/-! DEFINITION. Commands of calibration (R683–R697). -/
namespace Sys2Proof.Machine
open Host

/-! ## Scopes (R686) -/

/-- The sites of a scope: a site that is mapped to a logical core, or all of them. -/
def Block.calSites (s : Block) (r site : Nat) : Option (List Nat) :=
  if site = 63 then some ((List.range 34).filter (fun c => (s.coreOf r c).isSome))
  else if site < 34 ∧ (s.coreOf r site).isSome then some [site] else none

/-- The members 0 to n − 1 that a field names, 15 for all. -/
def calMembers (field n : Nat) : Option (List Nat) :=
  if field = 15 then some (List.range n) else if field < n then some [field] else none

/-- The engine keys of the scope of CAL_CMD in the order site, engine. -/
def Block.calEngines (s : Block) (v : Word) : Option (List Nat) := do
  let sites ← s.calSites (getBits v 4 4) (getBits v 8 6)
  let engines ← calMembers (getBits v 14 4) 8
  let _ ← calMembers (getBits v 18 4) 9
  some ((sites.map (fun c => engines.map (fun e => engKey (getBits v 4 4) c e))).flatten)

/-- The slab keys of the scope in the order site, engine, slab. -/
def Block.calSlabs (s : Block) (v : Word) : Option (List Nat) := do
  let engines ← s.calEngines v
  let slabs ← calMembers (getBits v 18 4) 9
  some ((engines.map (fun k => slabs.map (fun p => k * 9 + p))).flatten)

/-- The sensors of the scope. -/
def calSensors (unit : Nat) : Option (List Nat) :=
  if unit = 127 then some (List.range 68) else if unit < 68 then some [unit] else none

/-! ## Commands (R683–R686, R689, R692–R695) -/

/-- A write of CAL_CMD with GO = 1 for a target that `mine` accepts: one command at a time. -/
def Block.calCommand (s : Block) (req : Requester) (dw : Nat) (v : Word) (mine : Nat → Bool) (f : Block → Block) : Block :=
  s.command req dw v .calib [0x40] (fun _ _ _ t =>
    if getBits v 31 1 = 0 ∨ !mine (getBits v 0 4) then t
    else if t.calRuns then t.raise (diePage 7) 2
    else f ((t.setFld CAL_STAT.TARGET (getBits v 0 4)).setFld CAL_STAT.UNITS 0))

/-- A command that has been accepted for its units. -/
def Block.calBegin (s : Block) (ids : List Nat) : Block :=
  let t := ((s.setFld CAL_STAT.STATE 1).setFld CAL_STAT.RESULT 0).setFld CAL_STAT.UNITS ids.length
  let t := { t with
    regs := t.regs.filter (fun e => decide (e.1 / regSpan ≠ diePage 7 * 4096 + 0x58)),
    cal := { t.cal with units := ids.map (fun k => ⟨k, none, 0, none, false⟩), port := none } }
  t.setReg CAL_WORST 0

/-- A command over engines: a scope out of range ends with SCOPE, and a ridge that is not up with STATE. -/
def Block.calEngineCommand (s : Block) (v : Word) (scope : Option (List Nat)) (ok : Nat → Bool) (go : Block → Block) : Block :=
  match scope with
  | none => s.calEnd 2
  | some ids => if !s.ridgeUp (getBits v 4 4) ∨ ids.isEmpty ∨ !ids.all ok then s.calEnd 3 else go (s.calBegin ids)

/-- CAL_CONV (R684–R689). -/
def execCalConv (req : Fin 18) (dw : BitVec 26) (v : Word) (s : State) : Outcome State Fault Refusal := s.runs fun s =>
  .next (s.calCommand req dw.toNat v (· = 1) (fun t => t.calEngineCommand v (t.calEngines v) (fun _ => true) id))

/-- CAL_ROWDRV (R684–R689): an engine without a slab in RESIDENT ends the command with STATE. -/
def execCalRowdrv (req : Fin 18) (dw : BitVec 26) (v : Word) (s : State) : Outcome State Fault Refusal := s.runs fun s =>
  .next (s.calCommand req dw.toNat v (· = 2) (fun t => t.calEngineCommand v (t.calEngines v)
    (fun k => (List.range 9).any (fun p => decide ((t.slab (k / 272) (k / 8 % 34) (k % 8) p).state = .resident))) id))

/-- CAL_DRIFT (R53, R685): the slabs in scope that are sampled for drift; a named slab that is not ends with STATE. -/
def execCalDrift (req : Fin 18) (dw : BitVec 26) (v : Word) (s : State) : Outcome State Fault Refusal := s.runs fun s =>
  .next (s.calCommand req dw.toNat v (· = 3) (fun t =>
    let sampled (k : Nat) : Bool := (t.slab (keyRidge k) (keySite k) (keyEngine k) (keySlab k)).state.sampled
    t.calEngineCommand v ((t.calSlabs v).map (fun l => l.filter sampled)) (fun _ => true) id))

/-- CAL_SERDES (R685, R691, R692): a retrain of the port once it is UP. -/
def execCalSerdes (req : Fin 18) (dw : BitVec 26) (v : Word) (s : State) : Outcome State Fault Refusal := s.runs fun s =>
  .next (s.calCommand req dw.toNat v (· = 4) (fun t =>
    let p := getBits v 22 7
    if p ≥ 10 then t.calEnd 2
    else
      let t := t.calBegin ((List.range 8).map (fun n => p * 8 + n))
      ({ t with cal := { t.cal with port := some p } }).calPortUp p))

/-- CAL_SERDES_TIMEOUT (R691): the port has not reached UP within 1 s. -/
def execCalSerdesTimeout (s : State) : Outcome State Fault Refusal := s.runs fun s =>
  if !s.calRuns ∨ s.fld CAL_STAT.TARGET ≠ 4 ∨ s.cal.port.isNone then .next s
  else .next ({ s with cal := { s.cal with units := [] } }.calEnd 3)

/-- CAL_LOOKOUT (R685, R693). -/
def execCalLookout (req : Fin 18) (dw : BitVec 26) (v : Word) (s : State) : Outcome State Fault Refusal := s.runs fun s =>
  .next (s.calCommand req dw.toNat v (· = 5) (fun t =>
    if getBits v 22 7 ≥ 3 then t.calEnd 2 else t.calBegin [getBits v 22 7]))

/-- CAL_SENSOR (R685, R694): in Standby with every ridge Off for CAL_SETTLE seconds. -/
def execCalSensor (req : Fin 18) (dw : BitVec 26) (v : Word) (s : State) : Outcome State Fault Refusal := s.runs fun s =>
  .next (s.calCommand req dw.toNat v (· = 6) (fun t =>
    match calSensors (getBits v 22 7) with
    | none => t.calEnd 2
    | some ids => if t.cal.settled < max 1 (t.fld CAL_SETTLE.S) then t.calEnd 6 else t.calBegin ids))

/-- CAL_RESTORE (R690, R695): the fused trims of the engines in scope take effect at the step boundary. A TARGET that the table
of R685 does not have ends with SCOPE. -/
def execCalRestore (req : Fin 18) (dw : BitVec 26) (v : Word) (s : State) : Outcome State Fault Refusal := s.runs fun s =>
  .next (s.calCommand req dw.toNat v (fun g => decide (g = 0 ∨ g ≥ 7)) (fun t =>
    if getBits v 0 4 ≠ 7 then t.calEnd 2
    else t.calEngineCommand v (t.calEngines v) (fun _ => true) (fun t =>
      t.cal.units.foldl (fun t u => t.setBit (ENG_SHADOW.PENDING (u.id / 272) (u.id / 8 % 34) (u.id % 8)) true)
        { t with cal := { t.cal with units := t.cal.units.map (fun u => { u with staged := some ⟨0, 0, false, [], none, [], true⟩ }) } })))

/-! ## Measurements (R687–R694) -/

/-- CALIBRATION_FRAME (R688, R690): the next frame of a core in scope is a stall frame whose edges calibrate; it does not fall
on a governor stall frame or on a check frame. The band of a unit is fixed at its first. A halted core is not stalled, and a
low-voltage hold discards what the frame measured. -/
def execCalibrationFrame (r : RidgeId) (c : SiteId) (s : State) : Outcome State Fault Refusal := s.runs fun s =>
  let target := s.fld CAL_STAT.TARGET
  let mine (u : CalUnit) : Bool := !u.ended && u.staged.isNone && decide (u.id / 8 = siteKey r c)
  let x := s.coreAt r c
  let n := x.ranNo + 37 * s.logicalAt r c
  let NE := s.echoPeriod r c
  let NP := s.probePeriod r
  let check := decide (NE ≠ 0 ∧ n % NE = 0) || decide (n % NP = NP / 2) || x.probeOwed
  let halted := decide (s.fld (CORE_STAT.STATE r c) = 0 ∨ s.fld (CORE_STAT.STATE r c) = 4)
  if !s.calRuns ∨ (target ≠ 1 ∧ target ≠ 2) ∨ s.ridgeState r > 1 ∨ s.lvActive ∨ !s.cal.units.any mine then .next s
  else if !halted ∧ (check ∨ !frameRuns (x.frameNo % 16) (s.fld (ENG_STAT.GOV_ALLOW r c 0))) then .next s
  else
    let t := if halted then s else s.beginFrame r c { x with frameNo := x.frameNo + 1 } 1
    let band := s.fld (LT_RIDGE_STAT.BAND r)
    .next { t with cal := { t.cal with units := t.cal.units.map (fun u =>
      if mine u then { u with band := some (u.band.getD band), frames := u.frames + 1 } else u) } }

/-- LOOKOUT_TEST_WINDOW (R660, R693): a window begins, or ends. -/
def execLookoutTestWindow (n : Fin 3) (begin' : Bool) (s : State) : Outcome State Fault Refusal := s.runs fun s =>
  let mode := s.fld (LK_STAT.MODE n)
  if begin' then
    if s.calRuns && decide (s.fld CAL_STAT.TARGET = 5) && s.cal.units.any (fun u => !u.ended && decide (u.id = n)) && decide (mode = 0) then
      .next (s.setFld (LK_STAT.MODE n) 2)
    else .next s
  else if mode = 2 then .next (s.setFld (LK_STAT.MODE n) 0) else .next s

/-- A measured engine (R687, R689, R690): its result awaits the step boundary. -/
def Block.stageUnit (s : Block) (n : Nat) (id : Nat) (x : CalResult) (ok : Bool) : Block :=
  let t := (s.modUnit n (fun u => { u with staged := some x })).calShow n x.figure x.figure2 ok
  t.setBit (ENG_SHADOW.PENDING (id / 272) (id / 8 % 34) (id % 8)) true

/-- A CONV unit's result: each converter within its limits takes new trims, and one beyond them that is not yet steered will
be. -/
def Block.convResult (s : Block) (id band : Nat) (l : List (Int × Int × Nat)) (verify : Word) (residual : Nat) : CalResult :=
  let r := id / 272
  let c := id / 8 % 34
  let e := id % 8
  let at' (k : Nat) : Int × Int × Nat := l.getD k (0, 0, 0)
  let good (k : Nat) : Bool := decide ((at' k).1.natAbs ≤ 127 ∧ (at' k).2.1.natAbs ≤ 127 ∧ (at' k).2.2 ≤ 5)
  let ok := (List.range 544).filter good
  let bad := (List.range 544).filter (fun k => !good k)
  let steered (k : Nat) : Bool := (s.bit (ENG_CVSTEER.VALID0 r c e) && decide (s.fld (ENG_CVSTEER.COL0 r c e) = k))
    || (s.bit (ENG_CVSTEER.VALID1 r c e) && decide (s.fld (ENG_CVSTEER.COL1 r c e) = k))
  let word (k : Nat) : Word := BitVec.ofNat 32 (((at' k).1 % 256).toNat * 256 + ((at' k).2.1 % 256).toNat)
  { figure := (ok.map (fun k => (at' k).2.2)).foldl max 0
    figure2 := bad.length
    failed := !bad.isEmpty || decide (residual > 4)
    values := ok.foldl (fun m k => SMap.ins (ENG_TRIM_DATA r c e (band + 8 * k)) (word k) m) []
    verify := if residual ≤ 4 then some verify else none
    cols := bad.filter (fun k => decide (k < 542) && !steered k)
    restore := false }

/-- A ROWDRV unit's result: all sixteen trims, or none. -/
def rowResult (id band : Nat) (l : List (Int × Nat)) : CalResult :=
  let ok := l.all (fun x => decide (x.1.natAbs ≤ 127 ∧ x.2 ≤ 20))
  let key (k : Nat) : Nat := CAL_RD_DATA (id / 272 + id / 8 % 34 * 16 + id % 8 * 1024 + band * 8192 + k * 65536)
  { figure := (l.map (·.2)).foldl max 0
    figure2 := 0
    failed := !ok
    values := if ok then (List.range 16).foldl (fun m k => SMap.ins (key k) (BitVec.ofNat 32 ((l.getD k (0, 0)).1 % 256).toNat) m) [] else []
    verify := none
    cols := []
    restore := false }

/-- The largest deviation of a level's mean from a drift fit, in 1/1,000 µS. -/
def driftFigure (g : List Nat) : Nat :=
  let (a, b, d) := driftFit g
  ((List.range 16).map (fun l =>
    let mean4 : Int := ((List.range 4).map (fun i => ((g.getD (4 * l + i) 0 : Nat) : Int))).sum
    ((mean4 * d - 4 * (a * (levelG l : Nat) + b)).natAbs / (4 * d.natAbs)))).foldl max 0

/-- A unit that commits at once. -/
def Block.unitDone (s : Block) (n figure figure2 : Nat) (ok : Bool) : Block :=
  ((s.calShow n figure figure2 ok).unitEnds n (if ok then 1 else 2)).calFinish

/-- The reference of a sensor calibration in 1/16 °C, doubled (R694). -/
def Block.calReference2 (s : Block) : Int :=
  if s.bit CAL_REF_TEMP.SOURCE then
    median2 ((s.cal.units.filter (fun u => s.bit (LT_SENS_DATA.VALID u.id))).map (fun u => s.temp u.id))
  else 2 * ofI16 (s.fld CAL_REF_TEMP.TEMP)

/-- CAL_UNIT_DONE (R687–R694): the unit at an index of the command has been measured. -/
def execCalUnitDone (n : Fin 4096) (m : CalMeas) (s : State) : Outcome State Fault Refusal := s.runs fun s =>
  let bad := match m with
    | .conv l _ _ => decide (l.length ≠ 544)
    | .rowdrv l => decide (l.length ≠ 16)
    | .drift g => decide (g.length ≠ 64)
    | _ => false
  if bad then .fault .illFormed
  else match s.cal.units[n.val]? with
    | none => .next s
    | some u =>
      if !s.calRuns ∨ u.ended ∨ u.staged.isSome then .next s
      else match s.fld CAL_STAT.TARGET, m with
        | 1, .conv l verify residual =>
          if u.frames < 29 then .next s
          else
            let x := s.convResult u.id (u.band.getD 0) l verify residual
            .next (s.stageUnit n u.id x (!x.failed))
        | 2, .rowdrv l =>
          if u.frames < 52 then .next s
          else
            let x := rowResult u.id (u.band.getD 0) l
            .next (s.stageUnit n u.id x (!x.failed))
        | 3, .drift g =>
          let r := keyRidge u.id
          let c := keySite u.id
          let e := keyEngine u.id
          let p := keySlab u.id
          let t := if driftOk g then s.modSlab r c e p (fun b => { b with stagedFit := some (driftTrims g), driftLimit := false })
            else (((s.modSlab r c e p (fun b => { b with driftLimit := true })).raise (ridgePage r 0) Irq.ridgeStore_DRIFT_LIMIT).queueRefresh r c e p 3)
          .next (t.unitDone n (driftFigure g) 0 (driftOk g))
        | 4, .serdes width height =>
          if s.portState (u.id / 8) ≠ 12 then .next s else .next (s.unitDone n width height (decide (width ≥ 150 ∧ height ≥ 12)))
        | 5, .lookout gnd ref residual =>
          let span : Int := (ref : Int) - gnd
          let ok := decide (gnd ≤ 8 * 256) && decide (residual ≤ 50)
            && decide ((span * 10 - 34133 * 256).natAbs * 100 ≤ 34133 * 256)
          let t := if ok then (s.setTrim (40000 + 2 * u.id) (BitVec.ofInt 32 span)).setTrim (40001 + 2 * u.id) (BitVec.ofNat 32 gnd) else s
          .next (t.unitDone n residual 0 ok)
        | 6, .sensor sum residual =>
          let offset := roundDiv (s.calReference2 * 32 - sum) 64
          let ok := decide (offset.natAbs ≤ 80 ∧ residual ≤ 16)
          let t := if ok then s.setTrim (41000 + u.id) (BitVec.ofNat 32 (i16 offset)) else s
          .next (t.unitDone n residual 0 ok)
        | _, _ => .next s

/-- CAL_RECORD_WRITE (R695). -/
def execCalRecordWrite (s : State) : Outcome State Fault Refusal := s.runs fun s =>
  let record := s.cal.unsaved.foldl (fun m e => match e.2 with
    | some v => SMap.ins e.1 v m
    | none => SMap.del e.1 m) s.cal.record
  .next { s with cal := { s.cal with record := record, unsaved := [] } }

end Sys2Proof.Machine
end

