-- ==== Sys2Proof/Machine/Scalar.lean ====
section
/-! DEFINITION. Scalar slots A and B (R262–R270). -/
namespace Sys2Proof.Machine
open Host

/-- The slot number: 0 A, 1 B. -/
def SOp.k (o : SOp) : Nat := if o.slotB then 1 else 0

/-- op2 (R268). -/
def SOp.op2 (o : SOp) (x : Core) : DWord :=
  if o.src2i then o.imm.getD (o.imm24.signExtend 64) else x.s o.rs2.toNat

/-- The s registers that a two-operand form reads. -/
def SOp.reads (o : SOp) : List Nat := o.rs1.toNat :: (if o.src2i then [] else [o.rs2.toNat])

/-- An s-register result of latency `lat` (R269). -/
def Block.scalarOp (s : Block) (r : RidgeId) (c : SiteId) (o : SOp) (lat : Nat) (f : DWord → DWord → DWord) : Block :=
  let x := s.coreAt r c
  s.slot r c o.k o.last (slotOut x o.k (x.guard o.gp o.gneg) [(decide (o.rsv ≠ 0), 1)] [.s o.rd.toNat] o.reads
    (fun _ => ([], [.result lat (.s o.rd.toNat) ((f (x.s o.rs1.toNat) (o.op2 x)).setWidth 4096) allBitsRow])))

/-- A predicate of all ones or all zeros. -/
def predOf (b : Bool) : Row := if b then allBitsRow else 0

/-- A compare: pd := all ones where the comparison holds, else all zeros (R269). -/
def Block.compareOp (s : Block) (r : RidgeId) (c : SiteId) (o : SOp) (f : DWord → DWord → Bool) : Block :=
  let x := s.coreAt r c
  let pd := o.rd.toNat % 8
  s.slot r c o.k o.last (slotOut x o.k (x.guard o.gp o.gneg) [(decide (o.rsv ≠ 0), 1), (decide (o.rd.toNat ≥ 8), 1)] [.p pd]
    o.reads (fun _ => ([], [.result 1 (.p pd) (predOf (f (x.s o.rs1.toNat) (o.op2 x))) allBitsRow])))

/-- Predicate logic over 512 bits (R269). -/
def Block.predOp (s : Block) (r : RidgeId) (c : SiteId) (o : SOp) (f : BitVec 512 → BitVec 512 → BitVec 512) : Block :=
  let x := s.coreAt r c
  let pd := o.rd.toNat % 8
  s.slot r c o.k o.last (slotOut x o.k (x.guard o.gp o.gneg)
    [(decide (o.rsv ≠ 0), 1), (decide (o.rd.toNat ≥ 8 ∨ o.rs1.toNat ≥ 8 ∨ o.rs2.toNat ≥ 8), 1), (o.src2i, 1)] [.p pd] []
    (fun _ => ([], [.result 1 (.p pd) ((f (x.p o.rs1.toNat) (x.p o.rs2.toNat)).setWidth 4096) allBitsRow])))

/-- A NOP of a slot: illegal with sub-cause 1 when any other bit of the slot is set (R262). -/
def Block.nopSlot (s : Block) (r : RidgeId) (c : SiteId) (k : Nat) (last dirty : Bool) : Block :=
  s.slot r c k last (slotOut (s.coreAt r c) k true [(dirty, 1)] [] [] (fun _ => ([], [])))

/-- nop. -/
def execScalarNop (r : RidgeId) (c : SiteId) (slotB last : Bool) (rest : BitVec 54) (s : State) : Outcome State Fault Refusal := s.runs fun s =>
  .next (s.nopSlot r c (if slotB then 1 else 0) last (decide (rest ≠ 0)))

/-- add (R270: modulo 2⁶⁴). -/
def execAdd (r : RidgeId) (c : SiteId) (o : SOp) (s : State) : Outcome State Fault Refusal := s.runs fun s =>
  .next (s.scalarOp r c o 1 (fun a b => a + b))
/-- sub. -/
def execSub (r : RidgeId) (c : SiteId) (o : SOp) (s : State) : Outcome State Fault Refusal := s.runs fun s =>
  .next (s.scalarOp r c o 1 (fun a b => a - b))
/-- and. -/
def execAnd (r : RidgeId) (c : SiteId) (o : SOp) (s : State) : Outcome State Fault Refusal := s.runs fun s =>
  .next (s.scalarOp r c o 1 (fun a b => a &&& b))
/-- or. -/
def execOr (r : RidgeId) (c : SiteId) (o : SOp) (s : State) : Outcome State Fault Refusal := s.runs fun s =>
  .next (s.scalarOp r c o 1 (fun a b => a ||| b))
/-- xor. -/
def execXor (r : RidgeId) (c : SiteId) (o : SOp) (s : State) : Outcome State Fault Refusal := s.runs fun s =>
  .next (s.scalarOp r c o 1 (fun a b => a ^^^ b))
/-- shl: by op2 mod 64. -/
def execShl (r : RidgeId) (c : SiteId) (o : SOp) (s : State) : Outcome State Fault Refusal := s.runs fun s =>
  .next (s.scalarOp r c o 1 (fun a b => a <<< (b.toNat % 64)))
/-- shr: logical, by op2 mod 64. -/
def execShr (r : RidgeId) (c : SiteId) (o : SOp) (s : State) : Outcome State Fault Refusal := s.runs fun s =>
  .next (s.scalarOp r c o 1 (fun a b => a >>> (b.toNat % 64)))
/-- sra: arithmetic, by op2 mod 64. -/
def execSra (r : RidgeId) (c : SiteId) (o : SOp) (s : State) : Outcome State Fault Refusal := s.runs fun s =>
  .next (s.scalarOp r c o 1 (fun a b => a.sshiftRight (b.toNat % 64)))
/-- mul: the low 64 bits. -/
def execMul (r : RidgeId) (c : SiteId) (o : SOp) (s : State) : Outcome State Fault Refusal := s.runs fun s =>
  .next (s.scalarOp r c o 3 (fun a b => a * b))
/-- mulh: the high 64 bits of the signed product. -/
def execMulh (r : RidgeId) (c : SiteId) (o : SOp) (s : State) : Outcome State Fault Refusal := s.runs fun s =>
  .next (s.scalarOp r c o 3 (fun a b => BitVec.ofInt 64 (a.toInt * b.toInt / 2 ^ 64)))
/-- mulhu: the high 64 bits of the unsigned product. -/
def execMulhu (r : RidgeId) (c : SiteId) (o : SOp) (s : State) : Outcome State Fault Refusal := s.runs fun s =>
  .next (s.scalarOp r c o 3 (fun a b => BitVec.ofNat 64 (a.toNat * b.toNat / 2 ^ 64)))
/-- min, signed. -/
def execMin (r : RidgeId) (c : SiteId) (o : SOp) (s : State) : Outcome State Fault Refusal := s.runs fun s =>
  .next (s.scalarOp r c o 1 (fun a b => if a.slt b then a else b))
/-- max, signed. -/
def execMax (r : RidgeId) (c : SiteId) (o : SOp) (s : State) : Outcome State Fault Refusal := s.runs fun s =>
  .next (s.scalarOp r c o 1 (fun a b => if a.slt b then b else a))
/-- minu. -/
def execMinu (r : RidgeId) (c : SiteId) (o : SOp) (s : State) : Outcome State Fault Refusal := s.runs fun s =>
  .next (s.scalarOp r c o 1 (fun a b => if a.ult b then a else b))
/-- maxu. -/
def execMaxu (r : RidgeId) (c : SiteId) (o : SOp) (s : State) : Outcome State Fault Refusal := s.runs fun s =>
  .next (s.scalarOp r c o 1 (fun a b => if a.ult b then b else a))

/-- li: rd := op2; RS1 is ignored (R269). -/
def execLi (r : RidgeId) (c : SiteId) (o : SOp) (s : State) : Outcome State Fault Refusal := s.runs fun s =>
  let x := s.coreAt r c
  .next (s.slot r c o.k o.last (slotOut x o.k (x.guard o.gp o.gneg) [(decide (o.rsv ≠ 0), 1)] [.s o.rd.toNat]
    (if o.src2i then [] else [o.rs2.toNat])
    (fun _ => ([], [.result 1 (.s o.rd.toNat) ((o.op2 x).setWidth 4096) allBitsRow]))))

/-- ceq. -/
def execCeq (r : RidgeId) (c : SiteId) (o : SOp) (s : State) : Outcome State Fault Refusal := s.runs fun s =>
  .next (s.compareOp r c o (fun a b => decide (a = b)))
/-- cne. -/
def execCne (r : RidgeId) (c : SiteId) (o : SOp) (s : State) : Outcome State Fault Refusal := s.runs fun s =>
  .next (s.compareOp r c o (fun a b => decide (a ≠ b)))
/-- clt, signed. -/
def execClt (r : RidgeId) (c : SiteId) (o : SOp) (s : State) : Outcome State Fault Refusal := s.runs fun s =>
  .next (s.compareOp r c o (fun a b => a.slt b))
/-- cltu. -/
def execCltu (r : RidgeId) (c : SiteId) (o : SOp) (s : State) : Outcome State Fault Refusal := s.runs fun s =>
  .next (s.compareOp r c o (fun a b => a.ult b))
/-- cge, signed. -/
def execCge (r : RidgeId) (c : SiteId) (o : SOp) (s : State) : Outcome State Fault Refusal := s.runs fun s =>
  .next (s.compareOp r c o (fun a b => !a.slt b))
/-- cgeu. -/
def execCgeu (r : RidgeId) (c : SiteId) (o : SOp) (s : State) : Outcome State Fault Refusal := s.runs fun s =>
  .next (s.compareOp r c o (fun a b => !a.ult b))

/-- pand. -/
def execPand (r : RidgeId) (c : SiteId) (o : SOp) (s : State) : Outcome State Fault Refusal := s.runs fun s =>
  .next (s.predOp r c o (fun a b => a &&& b))
/-- por. -/
def execPor (r : RidgeId) (c : SiteId) (o : SOp) (s : State) : Outcome State Fault Refusal := s.runs fun s =>
  .next (s.predOp r c o (fun a b => a ||| b))
/-- pxor. -/
def execPxor (r : RidgeId) (c : SiteId) (o : SOp) (s : State) : Outcome State Fault Refusal := s.runs fun s =>
  .next (s.predOp r c o (fun a b => a ^^^ b))
/-- pandn: ps1 AND NOT ps2. -/
def execPandn (r : RidgeId) (c : SiteId) (o : SOp) (s : State) : Outcome State Fault Refusal := s.runs fun s =>
  .next (s.predOp r c o (fun a b => a &&& ~~~b))

end Sys2Proof.Machine
end

