-- ==== Sys2Proof/Machine/Transcend.lean ====
section
/-! DEFINITION. The elementary functions of the vector unit (R275, R286, R291): each result lies within 1 ulp of the exact
value, and which code within that bound is left open (log entry 13). -/
namespace Sys2Proof.Machine

/-- n/d over 2^e rounded down. -/
def floorScaled (n d : Nat) (e : Int) : Nat :=
  if e ≥ 0 then n / (d * 2 ^ e.toNat) else n * 2 ^ (-e).toNat / d

/-- The code of the largest value not above n/d, the codes of a format taken without a bound. -/
def FFmt.floorCode (f : FFmt) (n d : Nat) : Nat :=
  if n = 0 then 0
  else
    let emin : Int := 1 - (f.bias : Int)
    let e := max (floorLog2 n d) emin
    (e - emin).toNat * 2 ^ f.mbits + floorScaled n d (e - f.mbits)

/-- A code within 1 ulp of an exact value whose rounding down is `c`: c or c + 1, or next to c where c is exact; beyond
range the largest finite value with SAT. -/
def FFmt.near (f : FFmt) (c : Nat) (exact : Bool) (choice : Nat) : Nat × Nat :=
  if c > f.maxCode ∨ (c = f.maxCode ∧ !exact) then (f.maxCode, flagSat)
  else
    let r := if exact then (if choice % 3 = 1 then c + 1 else if choice % 3 = 2 then c - 1 else c) else c + choice % 2
    (min f.maxCode r, 0)

/-- A magnitude n/d within 1 ulp. -/
def FFmt.nearRat (f : FFmt) (n d choice : Nat) : Nat × Nat :=
  let c := f.floorCode n d
  f.near c (n ≠ 0 && c ≤ f.maxCode && (f.decode c).eq (.fin false n d)) choice

/-- Bits of the fixed-point numbers below. -/
def fixBits : Nat := 256
/-- 1 in fixed point. -/
def fixOne : Nat := 2 ^ fixBits

/-- Terms of the exponential series from the k-th: t^k / k! in fixed point, `k` from `n` to the end of the fuel. -/
def expSeries : Nat → Nat → Nat → Nat → Nat
  | 0, _, _, _ => 0
  | fuel + 1, n, t, term => term + expSeries fuel (n + 1) t (term * t / fixOne / (n + 1))

/-- Squares a fixed-point number `n` times. -/
def squareTimes : Nat → Nat → Nat
  | 0, x => x
  | n + 1, x => squareTimes n (x * x / fixOne)

/-- e^(n/d) in fixed point for 0 ≤ n/d < 128. -/
def expFix (n d : Nat) : Nat := squareTimes 10 (expSeries 60 0 (n * fixOne / (d * 2 ^ 10)) fixOne)

/-- exp of a value (R275): beyond range saturates with SAT, a NaN gives NaN with INVALID. -/
def vexp (f : FFmt) (choice : Nat) : FVal → Nat × Nat
  | .nan => (f.nanCode, flagInvalid)
  | .inf neg => if neg then (0, 0) else (f.maxCode, flagSat)
  | .fin neg n d =>
    if n = 0 then f.nearRat 1 1 choice
    else if n ≥ 120 * d then (if neg then (choice % 2, 0) else (f.maxCode, flagSat))
    else if neg then f.near (f.floorCode fixOne (expFix n d)) false choice
    else f.near (f.floorCode (expFix n d) fixOne) false choice

/-- 1/v (R275). -/
def vrcp (f : FFmt) (choice : Nat) : FVal → Nat × Nat
  | .nan => (f.nanCode, flagInvalid)
  | .inf neg => (if neg then 2 ^ (f.ebits + f.mbits) else 0, 0)
  | .fin neg n d =>
    let (c, fl) := if n = 0 then (f.maxCode, flagSat) else f.nearRat d n choice
    ((if neg then 2 ^ (f.ebits + f.mbits) else 0) + c, fl)

/-- The largest code below 2^bits above `acc` for which a monotone test holds. -/
def searchCode (p : Nat → Bool) : Nat → Nat → Nat
  | 0, acc => acc
  | k + 1, acc => if p (acc + 2 ^ k) then searchCode p k (acc + 2 ^ k) else searchCode p k acc

/-- Whether code c's square times n/d is at most 1. -/
def rsqrtBelow (f : FFmt) (n d c : Nat) : Bool :=
  decide (c ≤ f.maxCode) && (match f.decode c with
    | .fin _ m e => decide (m * m * n ≤ e * e * d)
    | _ => false)

/-- 1/√v (R275): a negative input gives NaN with INVALID, ±0 the largest finite value of its sign with SAT. -/
def vrsqrt (f : FFmt) (choice : Nat) : FVal → Nat × Nat
  | .nan => (f.nanCode, flagInvalid)
  | .inf neg => if neg then (f.nanCode, flagInvalid) else (0, 0)
  | .fin neg n d =>
    if n = 0 then ((if neg then 2 ^ (f.ebits + f.mbits) else 0) + f.maxCode, flagSat)
    else if neg then (f.nanCode, flagInvalid)
    else
      let c := searchCode (rsqrtBelow f n d) (f.ebits + f.mbits) 0
      let exact := match f.decode c with
        | .fin _ m e => decide (m * m * n = e * e * d)
        | _ => false
      f.near c exact choice

/-- Terms of atanh: Σ z^(2k+1) / (2k + 1) in fixed point. -/
def atanhSeries : Nat → Nat → Nat → Nat → Nat
  | 0, _, _, _ => 0
  | fuel + 1, k, z2, pw => pw / (2 * k + 1) + atanhSeries fuel (k + 1) z2 (pw * z2 / fixOne)

/-- ln 2 in fixed point. -/
def ln2Fix : Nat := 2 * atanhSeries 100 0 (fixOne / 9) (fixOne / 3)

/-- −ln(n/d) in fixed point, for 0 < n/d ≤ 1. -/
def negLnFix (n d : Nat) : Nat :=
  let e := (-(floorLog2 n d)).toNat
  -- n/d = m × 2^(−e) with 1 ≤ m < 2
  let z := (n * 2 ^ e - d) * fixOne / (n * 2 ^ e + d)
  e * ln2Fix - 2 * atanhSeries 100 0 (z * z / fixOne) z

/-- LOGPROB: ln p within 1 ulp in fp32; p = 0 gives the lowest finite value with SAT (R291). -/
def lnCode (choice : Nat) (p : Nat) : Nat × Nat :=
  match f32 p with
  | .fin _ n d =>
    if n = 0 then (2 ^ 31 + fp32.maxCode, flagSat)
    else if n = d then (0, 0)
    else if n < d then
      let (c, fl) := fp32.near (fp32.floorCode (negLnFix n d) fixOne) false choice
      (2 ^ 31 + c, fl)
    else
      -- a running division may leave p above 1 by its rounding
      fp32.near (fp32.floorCode (negLnFix d n) fixOne) false choice
  | _ => (fp32.nanCode, flagInvalid)

end Sys2Proof.Machine
end

