-- ==== Sys2Proof/Machine/Vector.lean ====
section
/-! DEFINITION. The vector slot: arithmetic, conversions, reductions, ledger-24 combines and norm watch (R271–R281). -/
namespace Sys2Proof.Machine
open Host

/-! ## Results as a row and a mask of the bits written -/

/-- The element mask of a type: the bits of the elements whose predicate bit is 1 (R273). -/
def elemMask (ty : Nat) (p : BitVec 512) : Row :=
  BitVec.ofNat 4096 (packBits (typeWidth ty) ((List.range (typeCount ty)).map (fun i => if p.getLsbD i then 2 ^ typeWidth ty - 1 else 0)))

/-- Values placed at element `start` of a register of a type 0–15: the bits, the bits written, the status bits (R168,
R171, R177, R277). -/
def placeElems (ty start : Nat) (vs : List FVal) : Row × Row × Nat :=
  if ty ≤ 8 then
    let l := vs.map (encodeElem ty)
    let w := typeWidth ty
    (BitVec.ofNat 4096 (packBits w (l.map (·.1)) <<< (w * start)), onesAt (w * start) (w * vs.length),
      l.foldl (fun f x => f ||| x.2) 0)
  else
    let blocks := chunks32 (vs.length / 32) vs
    let w := if ty = 15 then 24 else mxWidth ty
    let coded := blocks.map (fun b =>
      if ty = 15 then let (g, f) := lgEncodeFrom 0 b; (g.exp, g.mant.map (wrapInt 24), f) else mxEncode ty b)
    let at_ := 8 * (480 + start / 32)
    (BitVec.ofNat 4096 (packBits w ((coded.map (fun x => x.2.1)).flatten) <<< (w * start))
        ||| BitVec.ofNat 4096 (packBits 8 (coded.map (·.1)) <<< at_),
      onesAt (w * start) (w * vs.length) ||| onesAt at_ (8 * blocks.length),
      coded.foldl (fun f x => f ||| x.2.2) 0)

/-- A vector-slot operation: encoding checks of every V opcode beside its own, then its result (R262, R272, R273). -/
def Block.vectorOp (s : Block) (r : RidgeId) (c : SiteId) (o : VOp) (accepts : Nat → Bool) (maskable : Bool)
    (checks : List (Bool × Nat)) (dests : List Dest) (reads : List Nat) (run : Core → List Fx) : Block :=
  let x := s.coreAt r c
  let ty := o.type.toNat
  let all := [(decide (o.rsv ≠ 0), 1), (decide (ty ≥ 24), 1), (decide (ty < 24) && !accepts ty, 3),
    (o.men && (decide (ty > 8) || !maskable), 3)] ++ checks
  s.slot r c 2 o.last (slotOut x 2 true all dests reads
    (fun _ => ([], run x ++ (if o.residue then [Fx.residue] else []))))

/-- The latency of an operation that has one for integer and one for floating-point types. -/
def vlat (ty a b : Nat) : Nat := if ty ≤ 3 then a else b

/-- Result codes of types 0–8 written under the element mask, with their status bits. -/
def VOp.write (o : VOp) (x : Core) (lat : Nat) (codes : List Nat) (flags : Nat) : List Fx :=
  let ty := o.type.toNat
  [.result lat (.v o.vd.toNat) (packElems ty codes) (if o.men then elemMask ty (x.p o.mp.toNat) else allBitsRow), .flags lat flags]

/-- An elementwise operation on types 0–8: raw elements of vs1, vs2 and vs3 give a code and status bits. -/
def VOp.elementwise (o : VOp) (lat : Nat) (f : Nat → Nat → Nat → Nat → Nat × Nat) (x : Core) : List Fx :=
  let ty := o.type.toNat
  let a := x.v o.vs1.toNat
  let b := x.v o.vs2.toNat
  let d := x.v o.vs3.toNat
  let l := (List.range (typeCount ty)).map (fun i => f ty (rawElem ty a i) (rawElem ty b i) (rawElem ty d i))
  o.write x lat (l.map (·.1)) (l.foldl (fun n e => n ||| e.2) 0)

/-- Type classes of R272 and R276. -/
def arith (ty : Nat) : Bool := decide (ty ≤ 6)
def ints (ty : Nat) : Bool := decide (ty ≤ 3)
def floats (ty : Nat) : Bool := decide (4 ≤ ty ∧ ty ≤ 6)
def masks (ty : Nat) : Bool := decide (ty ≤ 8)

/-- Arithmetic that wraps on integers and rounds once on floating-point types (R274). -/
def arith2 (fi : Int → Int → Int) (ff : FVal → FVal → FVal) (ty a b _c : Nat) : Nat × Nat :=
  if ty ≤ 3 then (wrapInt (typeWidth ty) (fi (intElem ty a) (intElem ty b)), 0)
  else (typeFmt ty).encode (ff ((typeFmt ty).decode a) ((typeFmt ty).decode b))

/-- The smaller or larger of two values: a NaN operand loses, of equal ones the first stays (R276). -/
def pickVal (big : Bool) (a b : FVal) : FVal :=
  if a.isNan then b else if b.isNan then a else if (if big then a.lt b else b.lt a) then b else a

/-- vadd. -/
def execVadd (r : RidgeId) (c : SiteId) (o : VOp) (s : State) : Outcome State Fault Refusal := s.runs fun s =>
  .next (s.vectorOp r c o arith true [] [.v o.vd.toNat] [] (o.elementwise (vlat o.type.toNat 2 4) (arith2 (· + ·) FVal.add)))
/-- vsub. -/
def execVsub (r : RidgeId) (c : SiteId) (o : VOp) (s : State) : Outcome State Fault Refusal := s.runs fun s =>
  .next (s.vectorOp r c o arith true [] [.v o.vd.toNat] []
    (o.elementwise (vlat o.type.toNat 2 4) (arith2 (· - ·) (fun a b => a.add b.neg))))
/-- vmul. -/
def execVmul (r : RidgeId) (c : SiteId) (o : VOp) (s : State) : Outcome State Fault Refusal := s.runs fun s =>
  .next (s.vectorOp r c o arith true [] [.v o.vd.toNat] [] (o.elementwise 4 (arith2 (· * ·) FVal.mul)))
/-- vfma: rounded once, after the addition (R274). -/
def execVfma (r : RidgeId) (c : SiteId) (o : VOp) (s : State) : Outcome State Fault Refusal := s.runs fun s =>
  .next (s.vectorOp r c o floats true [] [.v o.vd.toNat] [] (o.elementwise 4 (fun ty a b d =>
    let f := typeFmt ty
    f.encode (((f.decode a).mul (f.decode b)).add (f.decode d)))))
/-- vmin. -/
def execVmin (r : RidgeId) (c : SiteId) (o : VOp) (s : State) : Outcome State Fault Refusal := s.runs fun s =>
  .next (s.vectorOp r c o arith true [] [.v o.vd.toNat] []
    (o.elementwise (vlat o.type.toNat 2 4) (arith2 (fun a b => if b < a then b else a) (pickVal false))))
/-- vmax. -/
def execVmax (r : RidgeId) (c : SiteId) (o : VOp) (s : State) : Outcome State Fault Refusal := s.runs fun s =>
  .next (s.vectorOp r c o arith true [] [.v o.vd.toNat] []
    (o.elementwise (vlat o.type.toNat 2 4) (arith2 (fun a b => if a < b then b else a) (pickVal true))))
/-- vand. -/
def execVand (r : RidgeId) (c : SiteId) (o : VOp) (s : State) : Outcome State Fault Refusal := s.runs fun s =>
  .next (s.vectorOp r c o ints true [] [.v o.vd.toNat] [] (o.elementwise 2 (fun _ a b _ => (a &&& b, 0))))
/-- vor. -/
def execVor (r : RidgeId) (c : SiteId) (o : VOp) (s : State) : Outcome State Fault Refusal := s.runs fun s =>
  .next (s.vectorOp r c o ints true [] [.v o.vd.toNat] [] (o.elementwise 2 (fun _ a b _ => (a ||| b, 0))))
/-- vxor. -/
def execVxor (r : RidgeId) (c : SiteId) (o : VOp) (s : State) : Outcome State Fault Refusal := s.runs fun s =>
  .next (s.vectorOp r c o ints true [] [.v o.vd.toNat] [] (o.elementwise 2 (fun _ a b _ => (a ^^^ b, 0))))
/-- vshl: by the element of vs2 modulo the width (R274). -/
def execVshl (r : RidgeId) (c : SiteId) (o : VOp) (s : State) : Outcome State Fault Refusal := s.runs fun s =>
  .next (s.vectorOp r c o ints true [] [.v o.vd.toNat] []
    (o.elementwise 2 (fun ty a b _ => ((a <<< (b % typeWidth ty)) % 2 ^ typeWidth ty, 0))))
/-- vshr: arithmetic for i8, i16 and i32, logical for u8 (R276). -/
def execVshr (r : RidgeId) (c : SiteId) (o : VOp) (s : State) : Outcome State Fault Refusal := s.runs fun s =>
  .next (s.vectorOp r c o ints true [] [.v o.vd.toNat] []
    (o.elementwise 2 (fun ty a b _ => (wrapInt (typeWidth ty) (intElem ty a / (2 ^ (b % typeWidth ty) : Nat)), 0))))
/-- vsel: by the selector predicate (R276). -/
def execVsel (r : RidgeId) (c : SiteId) (o : VOp) (s : State) : Outcome State Fault Refusal := s.runs fun s =>
  .next (s.vectorOp r c o masks false [] [.v o.vd.toNat] [] (fun x =>
    let m := elemMask o.type.toNat (x.p o.mp.toNat)
    [.result 2 (.v o.vd.toNat) (mergeBits (x.v o.vs2.toNat) (x.v o.vs1.toNat) m) allBitsRow]))

/-- A comparison of two values: EQ, NE, LT, LE, GT, GE; a NaN compares false except in NE (R276). -/
def compareVals (cond : Nat) (a b : FVal) : Bool :=
  if a.isNan || b.isNan then decide (cond = 1)
  else match cond with
    | 0 => a.eq b | 1 => !a.eq b | 2 => a.lt b | 3 => !b.lt a | 4 => b.lt a | _ => !a.lt b

/-- vcmp (R276): bits beyond the element count are 0. -/
def execVcmp (r : RidgeId) (c : SiteId) (o : VOp) (s : State) : Outcome State Fault Refusal := s.runs fun s =>
  let ty := o.type.toNat
  let cond := o.imm16.toNat % 8
  .next (s.vectorOp r c o arith true [(decide (cond ≥ 6), 1)] [.p o.pd.toNat] [] (fun x =>
    let n := typeCount ty
    let l := (List.range n).map (fun i =>
      if compareVals cond (elemValue ty (x.v o.vs1.toNat) i) (elemValue ty (x.v o.vs2.toNat) i) then 1 else 0)
    let mask := if o.men then (x.p o.mp.toNat).setWidth 4096 ||| ~~~(onesAt 0 n) else allBitsRow
    [.result (vlat ty 2 4) (.p o.pd.toNat) (BitVec.ofNat 4096 (packBits 1 l)) mask]))

/-- The first scalar source: the long immediate when IMM_USE names the V slot, else s[SS1] (R263; log entry 14). -/
def VOp.scalar1 (o : VOp) (x : Core) : DWord := o.imm.getD (x.s o.ss1.toNat)

/-- The s registers that the first scalar source reads. -/
def VOp.reads1 (o : VOp) : List Nat := if o.imm.isSome then [] else [o.ss1.toNat]

/-- vbcast: the low bits of the scalar in every element. -/
def execVbcast (r : RidgeId) (c : SiteId) (o : VOp) (s : State) : Outcome State Fault Refusal := s.runs fun s =>
  .next (s.vectorOp r c o masks true [] [.v o.vd.toNat] o.reads1 (fun x =>
    o.write x 2 (List.replicate (typeCount o.type.toNat) ((o.scalar1 x).toNat % 2 ^ typeWidth o.type.toNat)) 0))

/-- vperm: by vs2 read as i16, modulo the count. -/
def execVperm (r : RidgeId) (c : SiteId) (o : VOp) (s : State) : Outcome State Fault Refusal := s.runs fun s =>
  let ty := o.type.toNat
  .next (s.vectorOp r c o (fun t => decide (2 ≤ t ∧ t ≤ 6)) true [] [.v o.vd.toNat] [] (fun x =>
    let n := typeCount ty
    o.write x 6 ((List.range n).map (fun i =>
      rawElem ty (x.v o.vs1.toNat) ((intElem 2 (rawElem 2 (x.v o.vs2.toNat) i)) % (n : Int)).toNat)) 0))

/-- A source element of a conversion: a value of types 0–15, or a weight code less its zero levels (R278). -/
def convertSource (ty imm : Nat) (v : Row) (i : Nat) : FVal :=
  if ty ≤ 15 then elemValue ty v i
  else
    let z := imm / 16 % 16
    let n := ty - 15
    let off := if n ≤ 4 then z else 16 * z + imm / 256 % 16
    FVal.ofInt ((rawElem ty v i : Int) - off)

/-- vcvt (R277, R278). -/
def execVcvt (r : RidgeId) (c : SiteId) (o : VOp) (s : State) : Outcome State Fault Refusal := s.runs fun s =>
  let td := o.type.toNat
  let ts := o.type2.toNat
  let imm := o.imm16.toNat
  let nd := typeCount td
  let ns := typeCount ts
  let n := min nd ns
  let start := imm % 16 * n
  let len := min n (max nd ns - start)
  .next (s.vectorOp r c o (fun t => decide (t ≤ 15)) true
    [(decide (ts ≥ 24), 1), (decide (td < 24 ∧ ts < 24 ∧ start ≥ max nd ns), 1),
     (decide (16 ≤ ts ∧ ts < 24 ∧ td ≥ 2 ∧ td ≤ 15), 3)] [.v o.vd.toNat] [] (fun x =>
    let src := x.v o.vs1.toNat
    let (from_, to_) := if nd > ns then (0, start) else (start, 0)
    let vs := (List.range len).map (fun i => convertSource ts imm src (from_ + i))
    let (val, mask, fl) := placeElems td to_ vs
    let mask := if o.men then mask &&& elemMask td (x.p o.mp.toNat) else mask
    [.result 4 (.v o.vd.toNat) val mask, .flags 4 fl]))

/-- vqnt (R281): 128 fp32 elements over the entry's scale, to i8, or to u8 when U8 is 1. -/
def execVqnt (r : RidgeId) (c : SiteId) (o : VOp) (s : State) : Outcome State Fault Refusal := s.runs fun s =>
  let e := o.imm16.toNat % 256
  let scale := f32 (s.reg (NW_SCALE r c e)).toNat
  let ty := if s.bit (NW_STAT.U8 r c e) then 1 else 0
  .next (s.vectorOp r c o (fun t => decide (t = 6)) false [] [.v o.vd.toNat] [] (fun x =>
    let vs := (List.range 128).map (fun i => (elemValue 6 (x.v o.vs1.toNat) i).div scale)
    let (val, mask, fl) := placeElems ty (128 * (o.imm16.toNat / 256 % 4)) vs
    [.result 4 (.v o.vd.toNat) val mask, .flags 4 fl]))

/-- An elementary function of each element (R275). -/
def VOp.elementary (o : VOp) (fn : Nat) (f : FFmt → Nat → FVal → Nat × Nat) (x : Core) : List Fx :=
  o.elementwise 4 (fun ty a _ _ => f (typeFmt ty) (Config.ulpChoice fn ty a) ((typeFmt ty).decode a)) x

/-- vexp. -/
def execVexp (r : RidgeId) (c : SiteId) (o : VOp) (s : State) : Outcome State Fault Refusal := s.runs fun s =>
  .next (s.vectorOp r c o floats true [] [.v o.vd.toNat] [] (o.elementary 0 vexp))
/-- vrsqrt. -/
def execVrsqrt (r : RidgeId) (c : SiteId) (o : VOp) (s : State) : Outcome State Fault Refusal := s.runs fun s =>
  .next (s.vectorOp r c o floats true [] [.v o.vd.toNat] [] (o.elementary 1 vrsqrt))
/-- vrcp. -/
def execVrcp (r : RidgeId) (c : SiteId) (o : VOp) (s : State) : Outcome State Fault Refusal := s.runs fun s =>
  .next (s.vectorOp r c o floats true [] [.v o.vd.toNat] [] (o.elementary 2 vrcp))

/-! ## Reductions (R279) -/

/-- The elements of a register as values. -/
def elems (ty : Nat) (v : Row) : List FVal := (List.range (typeCount ty)).map (elemValue ty v)

/-- An fp32 sum in element order, rounded after each addition. -/
def sumF32 (l : List FVal) : Nat × Nat :=
  match l with
  | [] => (0, 0)
  | v :: rest => rest.foldl (fun acc v => let (c, f) := fp32.encode ((f32 acc.1).add v); (c, acc.2 ||| f)) (fp32.encode v)

/-- vrsum. -/
def execVrsum (r : RidgeId) (c : SiteId) (o : VOp) (s : State) : Outcome State Fault Refusal := s.runs fun s =>
  let ty := o.type.toNat
  .next (s.vectorOp r c o arith false [] [.v o.vd.toNat] [] (fun x =>
    let v := x.v o.vs1.toNat
    let (code, fl) := if ty ≤ 3 then encodeElem 3 (FVal.ofInt (((List.range (typeCount ty)).map (fun i => intElem ty (rawElem ty v i))).sum))
      else sumF32 (elems ty v)
    [.result 6 (.v o.vd.toNat) (BitVec.ofNat 4096 code) allBitsRow, .flags 6 fl]))

/-- The first largest value of a list with its index; NaN elements are skipped. -/
def firstMax : Nat → List FVal → Option (Nat × FVal) → Option (Nat × FVal)
  | _, [], o => o
  | i, v :: rest, o =>
    firstMax (i + 1) rest (if v.isNan then o else match o with
      | none => some (i, v)
      | some (j, m) => if m.lt v then some (i, v) else some (j, m))

/-- vrmax: the maximum, and its index as i32 in bytes 8–11. -/
def execVrmax (r : RidgeId) (c : SiteId) (o : VOp) (s : State) : Outcome State Fault Refusal := s.runs fun s =>
  let ty := o.type.toNat
  .next (s.vectorOp r c o arith false [] [.v o.vd.toNat] [] (fun x =>
    let l := elems ty (x.v o.vs1.toNat)
    let nan := if l.any FVal.isNan then flagInvalid else 0
    let (code, idx, fl) := match firstMax 0 l none with
      | some (i, v) => let (k, f) := encodeElem ty v; (k, i, f)
      | none => ((encodeElem ty .nan).1, 0xFFFFFFFF, flagInvalid)
    [.result 6 (.v o.vd.toNat) (BitVec.ofNat 4096 (code + idx <<< 64)) allBitsRow, .flags 6 (nan ||| fl)]))

/-- vrsq: Σ v², each square exact. -/
def execVrsq (r : RidgeId) (c : SiteId) (o : VOp) (s : State) : Outcome State Fault Refusal := s.runs fun s =>
  .next (s.vectorOp r c o floats false [] [.v o.vd.toNat] [] (fun x =>
    let (code, fl) := sumF32 ((elems o.type.toNat (x.v o.vs1.toNat)).map (fun v => v.mul v))
    [.result 6 (.v o.vd.toNat) (BitVec.ofNat 4096 code) allBitsRow, .flags 6 fl]))

/-- vlcomb (R280): every byte of vd beyond the combined groups is 0. -/
def execVlcomb (r : RidgeId) (c : SiteId) (o : VOp) (s : State) : Outcome State Fault Refusal := s.runs fun s =>
  let n := o.imm16.toNat % 8
  .next (s.vectorOp r c o (fun t => decide (t = 15)) false [(decide (n = 0 ∨ n > 5), 1)] [.v o.vd.toNat] [] (fun x =>
    let (row, fl) := (List.range n).foldl (fun acc g =>
      let (y, f) := (rowGroup (x.v o.vs1.toNat) g).combine (rowGroup (x.v o.vs2.toNat) g)
      (setGroup acc.1 g y, acc.2 ||| f)) ((0 : Row), 0)
    [.result 4 (.v o.vd.toNat) row allBitsRow, .flags 4 fl]))

/-- nwacc (R192, R281). -/
def execNwacc (r : RidgeId) (c : SiteId) (o : VOp) (s : State) : Outcome State Fault Refusal := s.runs fun s =>
  let e := o.imm16.toNat % 256
  .next (s.vectorOp r c o (fun t => decide (t = 6)) false [] [] [] (fun x =>
    [.nwOpen e ((elems 6 (x.v o.vs1.toNat)).foldl NwOpen.push ((SMap.find e x.nwOpen).getD ⟨0, 0⟩))]))

/-- nwend (R193–R196, R281). -/
def execNwend (r : RidgeId) (c : SiteId) (o : VOp) (s : State) : Outcome State Fault Refusal := s.runs fun s =>
  .next (s.vectorOp r c o (fun _ => true) false [] [] [] (fun _ => [.nwEnd (o.imm16.toNat % 256)]))

/-- vnop (R262). -/
def execVnop (r : RidgeId) (c : SiteId) (last : Bool) (rest : BitVec 86) (s : State) : Outcome State Fault Refusal := s.runs fun s =>
  .next (s.nopSlot r c 2 last (decide (rest ≠ 0)))

end Sys2Proof.Machine
end

