-- ==== Sys2Proof/Machine/Memory.lean ====
section
/-! DEFINITION. The memory slot: local rows, moves, remote requests, drover pushes, circular regions (R211, R216–R223,
R295–R301, R320–R327). -/
namespace Sys2Proof.Machine
open Host

/-- The local row of an operation, in 64 bits (R296). -/
def MOp.localRow (o : MOp) (x : Core) : Nat := (x.s o.sa.toNat + o.row.setWidth 64).toNat

/-- The remote offset of a GET or PUT (R296). -/
def MOp.offset (o : MOp) (x : Core) : Nat := (x.s o.sb.toNat + o.imm.getD (o.imm16.setWidth 64)).toNat

/-- A memory-slot operation (R262, R264). -/
def Block.memoryOp (s : Block) (r : RidgeId) (c : SiteId) (o : MOp) (checks : List (Bool × Nat)) (dests : List Dest)
    (reads : List Nat) (run : Core → List SlotExc × List Fx) : Block :=
  let x := s.coreAt r c
  s.slot r c 4 o.last (slotOut x 4 (x.guard o.gp o.gneg) ((decide (o.rsv ≠ 0), 1) :: checks) dests reads (fun _ => run x))

/-- Runs on a local row that is within the scratchpad, or raises SP_BOUNDS (R296, R818). -/
def withRow (row : Nat) (f : Nat → List SlotExc × List Fx) : List SlotExc × List Fx :=
  if row ≥ 4096 then ([⟨2, 0, 4, min row 0xFFFFFFFF⟩], []) else f row

/-- nop (R262). -/
def execMemNop (r : RidgeId) (c : SiteId) (last : Bool) (rest : BitVec 86) (s : State) : Outcome State Fault Refusal := s.runs fun s =>
  .next (s.nopSlot r c 4 last (decide (rest ≠ 0)))

/-- ld: the row reaches vr by LOCAL_ROW_ACCESS (R211, R311). -/
def execLd (r : RidgeId) (c : SiteId) (o : MOp) (s : State) : Outcome State Fault Refusal := s.runs fun s =>
  .next (s.memoryOp r c o [] [.v o.vr.toNat] [o.sa.toNat] (fun x =>
    withRow (o.localRow x) (fun row => ([], [.access (.load row o.vr.toNat)]))))
/-- st: the row is written by LOCAL_ROW_ACCESS (R211, R311). -/
def execSt (r : RidgeId) (c : SiteId) (o : MOp) (s : State) : Outcome State Fault Refusal := s.runs fun s =>
  .next (s.memoryOp r c o [] [] [o.sa.toNat] (fun x =>
    withRow (o.localRow x) (fun row => ([], [.access (.store row (x.v o.vr.toNat))]))))
/-- movv2s. -/
def execMovv2s (r : RidgeId) (c : SiteId) (o : MOp) (s : State) : Outcome State Fault Refusal := s.runs fun s =>
  .next (s.memoryOp r c o [] [.s o.sb.toNat] [] (fun x =>
    ([], [.result 2 (.s o.sb.toNat) (BitVec.ofNat 4096 (rowBits (x.v o.vr.toNat) (64 * (o.imm16.toNat % 64)) 64)) allBitsRow])))
/-- movs2v: the other bytes of vr are kept. -/
def execMovs2v (r : RidgeId) (c : SiteId) (o : MOp) (s : State) : Outcome State Fault Refusal := s.runs fun s =>
  let lo := 64 * (o.imm16.toNat % 64)
  .next (s.memoryOp r c o [] [.v o.vr.toNat] [o.sb.toNat] (fun x =>
    ([], [.result 2 (.v o.vr.toNat) ((x.s o.sb.toNat).setWidth 4096 <<< lo) (onesAt lo 64)])))
/-- movx2s (R298). -/
def execMovx2s (r : RidgeId) (c : SiteId) (o : MOp) (s : State) : Outcome State Fault Refusal := s.runs fun s =>
  let code := o.imm16.toNat % 32
  .next (s.memoryOp r c o [(decide (code ≥ 15), 1)] [.s o.sb.toNat] [] (fun _ =>
    ([], [.result 1 (.s o.sb.toNat) (((s.readSpecial r c code).getD 0).setWidth 4096) allBitsRow])))
/-- movs2x (R205, R298). -/
def execMovs2x (r : RidgeId) (c : SiteId) (o : MOp) (s : State) : Outcome State Fault Refusal := s.runs fun s =>
  let code := o.imm16.toNat % 32
  .next (s.memoryOp r c o [(decide (code ≥ 15), 1), (decide (code < 15) && !specialWritable code, 3)] [] [o.sb.toNat] (fun x =>
    ([], [.special code (x.s o.sb.toNat)])))

/-- The window check of a GET or PUT: a sync window admits neither (R217, R255, R818). -/
def Block.remoteCheck (s : Block) (r : RidgeId) (c : SiteId) (o : MOp) (x : Core) (write : Bool) (op : PktOp) :
    List SlotExc × List Fx :=
  let win := o.win.toNat
  let off := o.offset x
  withRow (o.localRow x) (fun row =>
    if s.windowOk r c win off 1 write && decide (s.fld (AW_CTL.KIND r c win) < 2) then
      ([], [.remote op row win off o.cell.toNat])
    else ([⟨3, 0, 4, windowInfo win off⟩], []))

/-- get (R219). -/
def execGet (r : RidgeId) (c : SiteId) (o : MOp) (s : State) : Outcome State Fault Refusal := s.runs fun s =>
  .next (s.memoryOp r c o [] [] [o.sa.toNat, o.sb.toNat] (fun x => s.remoteCheck r c o x false .getReq))
/-- put (R219, R220). -/
def execPut (r : RidgeId) (c : SiteId) (o : MOp) (s : State) : Outcome State Fault Refusal := s.runs fun s =>
  .next (s.memoryOp r c o [] [] [o.sa.toNat, o.sb.toNat] (fun x => s.remoteCheck r c o x true .putReq))
/-- mdisp (R300). -/
def execMdisp (r : RidgeId) (c : SiteId) (o : MOp) (s : State) : Outcome State Fault Refusal := s.runs fun s =>
  .next (s.memoryOp r c o [] [] [o.sa.toNat, o.sb.toNat] (fun x =>
    withRow (o.localRow x) (fun row =>
      ([], [.mdisp row (o.imm16.toNat % 256) ((x.s o.sb.toNat).toNat % 65536) o.cell.toNat]))))
/-- emit (R301). -/
def execEmit (r : RidgeId) (c : SiteId) (o : MOp) (s : State) : Outcome State Fault Refusal := s.runs fun s =>
  let n := o.imm16.toNat % 64
  .next (s.memoryOp r c o [(decide (n = 0 ∨ n > 32), 1)] [] [o.sa.toNat] (fun x =>
    withRow (o.localRow x) (fun row => ([], [.emit row n o.cell.toNat]))))
/-- drv.push (R216). -/
def execDrvPush (r : RidgeId) (c : SiteId) (o : MOp) (s : State) : Outcome State Fault Refusal := s.runs fun s =>
  let ch := o.ch.toNat
  .next (s.memoryOp r c o [] [] [o.sa.toNat] (fun x =>
    if (s.reg (CORE_DRV r c)).getLsbD ch then ([], [.push ch (x.s o.sa.toNat) o.cell.toNat])
    else ([⟨3, 0, 4, ch + 2 ^ 31⟩], [])))

/-- cr.push (R323). -/
def execCrPush (r : RidgeId) (c : SiteId) (o : MOp) (s : State) : Outcome State Fault Refusal := s.runs fun s =>
  .next (s.memoryOp r c o [] [.s o.sb.toNat] [] (fun x => ([], [.crPush o.cr.toNat (x.v o.vr.toNat) o.sb.toNat])))
/-- cr.pop (R323). -/
def execCrPop (r : RidgeId) (c : SiteId) (o : MOp) (s : State) : Outcome State Fault Refusal := s.runs fun s =>
  .next (s.memoryOp r c o [] [.v o.vr.toNat, .s o.sb.toNat] [] (fun _ => ([], [.crPop o.cr.toNat o.vr.toNat o.sb.toNat])))
/-- cr.peek (R323): the row at head + s[SA] + ROW. -/
def execCrPeek (r : RidgeId) (c : SiteId) (o : MOp) (s : State) : Outcome State Fault Refusal := s.runs fun s =>
  .next (s.memoryOp r c o [] [.v o.vr.toNat, .s o.sb.toNat] [o.sa.toNat] (fun x =>
    ([], [.crPeek o.cr.toNat (o.localRow x) o.vr.toNat o.sb.toNat])))
/-- cr.free (R323): s[SA] + ROW rows. -/
def execCrFree (r : RidgeId) (c : SiteId) (o : MOp) (s : State) : Outcome State Fault Refusal := s.runs fun s =>
  .next (s.memoryOp r c o [] [.s o.sb.toNat] [o.sa.toNat] (fun x => ([], [.crFree o.cr.toNat (o.localRow x) o.sb.toNat])))
/-- cr.stat (R297). -/
def execCrStat (r : RidgeId) (c : SiteId) (o : MOp) (s : State) : Outcome State Fault Refusal := s.runs fun s =>
  let g := o.cr.toNat
  let v := s.fld (CR_STAT.HEAD r c g) + s.fld (CR_STAT.TAIL r c g) * 2 ^ 16 + s.fld (CR_COUNT.COUNT r c g) * 2 ^ 32
    + s.fld (CR_COUNT.FULL r c g) * 2 ^ 48 + s.fld (CR_COUNT.EMPTY r c g) * 2 ^ 49
  .next (s.memoryOp r c o [] [.s o.sb.toNat] [] (fun _ => ([], [.result 1 (.s o.sb.toNat) (BitVec.ofNat 4096 v) allBitsRow])))
/-- nw.rds (R297). -/
def execNwRds (r : RidgeId) (c : SiteId) (o : MOp) (s : State) : Outcome State Fault Refusal := s.runs fun s =>
  .next (s.memoryOp r c o [] [.s o.sb.toNat] [] (fun _ =>
    ([], [.result 1 (.s o.sb.toNat) ((s.reg (NW_SCALE r c (o.imm16.toNat % 256))).setWidth 4096) allBitsRow])))

end Sys2Proof.Machine
end

