-- ==== Sys2Proof/Machine/Control.lean ====
section
/-! DEFINITION. The control slot: branches, loops, halt, eret and the SYNC operations (R210, R225–R229, R302–R307). It is
the bundle's last slot and closes the bundle. -/
namespace Sys2Proof.Machine
open Host

/-- The operand (R303). -/
def COp.operand (o : COp) (x : Core) : DWord := if o.im then o.imm.getD 0 else x.s o.rs.toNat

/-- The s registers that the operand reads. -/
def COp.reads (o : COp) : List Nat := if o.im then [] else [o.rs.toNat]

/-- What the fetch and the header of the bundle raise whatever its slots hold (R237, R261, R266). -/
def headerExcs (badHeader : Bool) (fetch : Fetch) : List SlotExc :=
  (if badHeader then [illegal 1 7] else []) ++ (if fetch = .uncorrectable then [illegal 5 7] else [])

/-- Counts an instruction-memory error found by the fetch (R237, R257). -/
def Block.countFetch (s : Block) (r : RidgeId) (c : SiteId) (f : Fetch) : Block :=
  match f with
  | .clean => s
  | .corrected => s.addSat (CORE_IMEM_ECC.CORRECTED r c) 1
  | .uncorrectable => (s.addSat (CORE_IMEM_ECC.UNCORRECTABLE r c) 1).raise (sitePage r c 0) Irq.core_IMEM_UE

/-- Closes the bundle with the control slot's output. -/
def Block.controlSlot (s : Block) (r : RidgeId) (c : SiteId) (badHeader : Bool) (fetch : Fetch) (out : SlotOut) : Block :=
  let t := if s.issues r c then s.countFetch r c fetch else s
  t.slot r c 5 true { out with excs := headerExcs badHeader fetch ++ out.excs }

/-- A control-slot operation (R262, R264, R303). -/
def Block.controlOp (s : Block) (r : RidgeId) (c : SiteId) (o : COp) (checks : List (Bool × Nat)) (dests : List Dest)
    (reads : List Nat) (run : Core → List SlotExc × List Fx) : Block :=
  let x := s.coreAt r c
  s.controlSlot r c o.badHeader o.fetch (slotOut x 5 (x.guard o.gp o.gneg)
    ([(decide (o.rsv ≠ 0), 1), (o.im && o.imm.isNone, 1)] ++ checks) dests reads (fun _ => run x))

/-- nop (R262). -/
def execCtrlNop (r : RidgeId) (c : SiteId) (rest : BitVec 56) (badHeader : Bool) (fetch : Fetch) (s : State) :
    Outcome State Fault Refusal := s.runs fun s =>
  .next (s.controlSlot r c badHeader fetch (slotOut (s.coreAt r c) 5 true [(decide (rest ≠ 0), 1)] [] [] (fun _ => ([], []))))

/-- br. -/
def execBr (r : RidgeId) (c : SiteId) (o : COp) (s : State) : Outcome State Fault Refusal := s.runs fun s =>
  .next (s.controlOp r c o [] [] [] (fun _ => ([], [.branch o.target.toNat])))
/-- jr. -/
def execJr (r : RidgeId) (c : SiteId) (o : COp) (s : State) : Outcome State Fault Refusal := s.runs fun s =>
  .next (s.controlOp r c o [] [] [o.rs.toNat] (fun x => ([], [.branch ((x.s o.rs.toNat).toNat % 4096)])))
/-- loop (R305). -/
def execLoop (r : RidgeId) (c : SiteId) (o : COp) (s : State) : Outcome State Fault Refusal := s.runs fun s =>
  .next (s.controlOp r c o [(decide (o.target.toNat ≤ (s.coreAt r c).pc), 1)] [] o.reads (fun x =>
    ([], [.loop o.lc.toNat ((o.operand x).setWidth 32) o.target.toNat])))
/-- halt (R241). -/
def execHalt (r : RidgeId) (c : SiteId) (o : COp) (s : State) : Outcome State Fault Refusal := s.runs fun s =>
  .next (s.controlOp r c o [] [] [] (fun _ => ([], [.halt])))
/-- eret (R236, R304). -/
def execEret (r : RidgeId) (c : SiteId) (o : COp) (s : State) : Outcome State Fault Refusal := s.runs fun s =>
  .next (s.controlOp r c o [(!(s.coreAt r c).handler, 1)] [] [] (fun _ => ([], [.eret])))

/-- Runs a SYNC operation on a cell of the core's ridge, or through a window of kind SYNC that admits it (R217, R224,
R303, R818). -/
def Block.syncCheck (s : Block) (r : RidgeId) (c : SiteId) (o : COp) (write : Bool) (fx : List Fx) : List SlotExc × List Fx :=
  let win := o.win.toNat
  if !o.xw || (s.windowOk r c win o.cell.toNat 1 write && decide (s.fld (AW_CTL.KIND r c win) = 2)) then ([], fx)
  else ([⟨3, 0, 5, windowInfo win o.cell.toNat⟩], [])

/-- sync.add. -/
def execSyncAdd (r : RidgeId) (c : SiteId) (o : COp) (s : State) : Outcome State Fault Refusal := s.runs fun s =>
  .next (s.controlOp r c o [] [] o.reads (fun x =>
    s.syncCheck r c o true [.sync .add o.cell.toNat o.xw o.win.toNat ((o.operand x).setWidth 32)]))
/-- sync.notify. -/
def execSyncNotify (r : RidgeId) (c : SiteId) (o : COp) (s : State) : Outcome State Fault Refusal := s.runs fun s =>
  .next (s.controlOp r c o [] [] o.reads (fun x =>
    s.syncCheck r c o true [.sync .notify o.cell.toNat o.xw o.win.toNat ((o.operand x).setWidth 32)]))
/-- sync.claim: the reply reaches s[RD] by SYNC_ANSWER (R212, R227). -/
def execSyncClaim (r : RidgeId) (c : SiteId) (o : COp) (s : State) : Outcome State Fault Refusal := s.runs fun s =>
  .next (s.controlOp r c o [] [.s o.rd.toNat] o.reads (fun x =>
    s.syncCheck r c o false [.claim o.cell.toNat o.xw o.win.toNat ((o.operand x).setWidth 32) o.rd.toNat]))
/-- sync.wait (R212, R228): holds the next bundle. -/
def execSyncWait (r : RidgeId) (c : SiteId) (o : COp) (s : State) : Outcome State Fault Refusal := s.runs fun s =>
  let kind : CellOpKind := match o.cond.toNat with | 0 => .waitGe | 1 => .waitEq | _ => .waitNe
  .next (s.controlOp r c o [(decide (o.cond.toNat = 3), 1)] [] o.reads (fun x =>
    s.syncCheck r c o false
      [.wait ⟨false, kind, o.cell.toNat, o.xw, o.win.toNat, (o.operand x).setWidth 32, x.pc, false, false⟩]))
/-- sync.waitwake (R225). -/
def execSyncWaitwake (r : RidgeId) (c : SiteId) (o : COp) (s : State) : Outcome State Fault Refusal := s.runs fun s =>
  .next (s.controlOp r c o [] [] [] (fun x => ([], [.wait ⟨true, .waitGe, 0, false, 0, 0, x.pc, false, false⟩])))

end Sys2Proof.Machine
end

