-- ==== Sys2Proof/Machine/Remote.lean ====
section
/-! DEFINITION. Remote requests at their target and their answers at the requesting core (R219–R223, R358). -/
namespace Sys2Proof.Machine
open Host

/-- A request of a kind reaches its scratchpad or stack; `corrected` and `badWords`, `badCodewords` are what the code of the
row or unit finds when the request is served at once. -/
def Block.request (s : Block) (p : Packet) (op : PktOp) (busy : Bool) (corrected : Nat) (badWords : List (Fin 64))
    (badCodewords : List (Fin 8)) : Block :=
  if p.op ≠ op then s
  else
    let (t, ok) := s.arrive p
    if !ok then t
    else if p.dst.unit < 16 then t.askRow p (decide (op = .putReq)) busy corrected badWords
    else t.askUnit p (decide (op = .putReq)) busy corrected badCodewords

/-- GET_REQUEST (R219, R310, R335). -/
def blkGetRequest (p : Packet) (busy : Bool) (corrected : Nat) (badWords : List (Fin 64)) (badCodewords : List (Fin 8))
    (s : Block) : Outcome Block Fault Refusal :=
  .next (s.request p .getReq busy corrected badWords badCodewords)
/-- GetRequest (R219, R310, R335): the effect of blkGetRequest. -/
def execGetRequest (p : Packet) (busy : Bool) (corrected : Nat) (badWords : List (Fin 64)) (badCodewords : List (Fin 8))
    (s : State) : Outcome State Fault Refusal :=
  s.runs (blkGetRequest p busy corrected badWords badCodewords)

/-- PUT_REQUEST (R219, R222, R310, R335). -/
def blkPutRequest (p : Packet) (busy : Bool) (corrected : Nat) (badWords : List (Fin 64)) (badCodewords : List (Fin 8))
    (s : Block) : Outcome Block Fault Refusal :=
  .next (s.request p .putReq busy corrected badWords badCodewords)
/-- PutRequest (R219, R222, R310, R335): the effect of blkPutRequest. -/
def execPutRequest (p : Packet) (busy : Bool) (corrected : Nat) (badWords : List (Fin 64)) (badCodewords : List (Fin 8))
    (s : State) : Outcome State Fault Refusal :=
  s.runs (blkPutRequest p busy corrected badWords badCodewords)

/-- A response that no outstanding request awaits: discarded and counted on the core page (R223). -/
def Block.lateResponse (s : Block) (r c : Nat) : Block := s.blkErr (sitePage r c 0) 0

/-- The verdicts of an emit's completion go to bytes 2–3 of each entry of the emit's row (R525). -/
def Block.writeVerdicts (s : Block) (r c row count : Nat) (data : Row) : Block :=
  let old := s.row r c row
  let new := (List.range count).foldl (fun (v : Row) e =>
    mergeBits v (BitVec.ofNat 4096 (rowBits data (16 * e) 16) <<< (128 * e + 16)) (onesAt (128 * e + 16) 16)) old
  s.writeRow r c row new allWords

/-- A completion at the requesting core (R222, R223, R525, R558). -/
def Block.completion (s : Block) (r : Nat) (p : Packet) : Block :=
  let c := s.siteOf r p.dstCore
  match s.tagOf r c p.tag with
  | none => s.lateResponse r c
  | some t =>
    if p.status ≠ 0 then s.failTag r c p.tag p.status
    else
      let u := if t.op = .emit then s.writeVerdicts r c t.row t.count p.data else s
      u.completeTag r c p.tag

/-- GET data at the requesting core (R221): the row is written and the cell added to in one cycle. -/
def Block.getArrives (s : Block) (r : Nat) (p : Packet) (withCore : Bool) (corrected : Nat) (bad : List (Fin 64)) : Block :=
  let c := s.siteOf r p.dstCore
  match s.tagOf r c p.tag with
  | none => s.lateResponse r c
  | some t => (s.sharedWrite r c t.row p.data allWords (s.sourceId r p) withCore corrected bad).1.completeTag r c p.tag

/-- GET_DATA (R221, R316): `withCore` when the core's oldest local access acts in the same cycle. -/
def blkGetData (p : Packet) (withCore : Bool) (corrected : Nat) (bad : List (Fin 64)) (s : Block) :
    Outcome Block Fault Refusal :=
  if p.op ≠ .getData ∨ p.dst.unit ≥ 16 ∨ p.dstCore ≥ 32 then .next s
  else
    let (t, ok) := s.arrive p
    .next (if ok then t.getArrives p.dst.unit p withCore corrected bad else t)
/-- GetData (R221, R316): the effect of blkGetData. -/
def execGetData (p : Packet) (withCore : Bool) (corrected : Nat) (bad : List (Fin 64)) (s : State) :
    Outcome State Fault Refusal :=
  s.runs (blkGetData p withCore corrected bad)

/-- REMOTE_COMPLETION (R222, R223). -/
def blkRemoteCompletion (p : Packet) (s : Block) : Outcome Block Fault Refusal :=
  if p.op ≠ .completion ∨ p.dst.unit ≥ 16 ∨ p.dstCore ≥ 32 then .next s
  else
    let (t, ok) := s.arrive p
    .next (if ok then t.completion p.dst.unit p else t)
/-- RemoteCompletion (R222, R223): the effect of blkRemoteCompletion. -/
def execRemoteCompletion (p : Packet) (s : State) : Outcome State Fault Refusal :=
  s.runs (blkRemoteCompletion p)

/-- REMOTE_TIMEOUT (R223): the request of a tag completes with TIMEOUT. -/
def execRemoteTimeout (r : RidgeId) (c : SiteId) (tag : Fin 64) (s : State) : Outcome State Fault Refusal := s.runs fun s =>
  match SMap.find tag.val (s.coreAt r c).tags with
  | none => .next s
  | some t => .next (s.failTag r c (tag.val + 64 * t.serial) 5)

end Sys2Proof.Machine
end

