-- ==== Sys2Proof/Machine/Drover.lean ====
section
/-! DEFINITION. The commands of the drovers: submissions, descriptor fetch, beats, completion and the drain window
(R439–R460). -/
namespace Sys2Proof.Machine
open Host

/-- The drover and channel of a channel page's offset. -/
def droverOf (page off : Nat) : Nat × Nat := (if page < 4096 then 16 else ridgeOfPage page, channelOf page off)

/-- Runs a write of CH_CTL: its RW fields are stored, then `f` acts on the drover and channel. -/
def Block.chWrite (s : Block) (req : Requester) (dw : Nat) (v : Word) (f : Nat → Nat → Block → Block) : Block :=
  s.command req dw v .drvCh ((List.range 16).map (fun k => 0x11C + 0x40 * k)) (fun page off _ t =>
    f (droverOf page off).1 (droverOf page off).2 (t.storeAt req page off v))

/-- A submission by registers (R446): CH_CELL is its completion cell. -/
def Block.regSubmission (s : Block) (k ch : Nat) : Submission :=
  if s.bit (CH_CTL.MODE k ch) then
    ⟨none, s.pair (CH_DESC_LO k ch) (CH_DESC_HI k ch), s.fld (CH_CELL.CELL k ch), false, 0, 0⟩
  else
    ⟨some ⟨s.pair (CH_SRC_LO k ch) (CH_SRC_HI k ch), s.pair (CH_DST_LO k ch) (CH_DST_HI k ch), (s.reg (CH_COUNT k ch)).toNat, true,
      s.bit (CH_CTL.IRQ k ch), s.bit (CH_CTL.ADD k ch), false, 0, 0⟩, 0, s.fld (CH_CELL.CELL k ch), false, 0, 0⟩

/-- DROVER_GO (R440, R446): GO adds an entry; one that finds the queue full, or a serving-unit channel, is rejected. -/
def execDroverGo (req : Fin 18) (dw : BitVec 26) (v : Word) (s : State) : Outcome State Fault Refusal := s.runs fun s =>
  .next (s.chWrite req dw.toNat v (fun k ch t =>
    if !v.getLsbD 0 then t
    else if (k = 16 ∧ ch ≥ 48) ∨ t.chanFull k ch then t.raise (drvCtlPage k) 1
    else (t.submit k ch (t.regSubmission k ch)).startEntry k ch))

/-- DROVER_STOP (R457): no further beat, the current descriptor ends with ABORTED once its outstanding beats have completed,
and the other entries are discarded. -/
def execDroverStop (req : Fin 18) (dw : BitVec 26) (v : Word) (s : State) : Outcome State Fault Refusal := s.runs fun s =>
  .next (s.chWrite req dw.toNat v (fun k ch t =>
    if !v.getLsbD 5 then t
    else
      let x := t.chan k ch
      (t.setChan k ch { x with queue := [], descs := x.descs.take 1 }).abortChan k ch 12 false))

/-- A descriptor from its 64 bytes, with whether a reserved field is not zero (R447). -/
def readDesc (a : Nat) (b : BitVec 512) : Desc × Bool :=
  let f (lo w : Nat) : Nat := b.toNat / 2 ^ lo % 2 ^ w
  (⟨f 0 64, f 64 64, f 128 32, f 160 1 = 1, f 161 1 = 1, f 162 1 = 1, f 163 1 = 1, f 192 64, a⟩,
    decide (f 164 28 ≠ 0 ∨ f 320 192 ≠ 0))

/-- Whether a chain address may hold a descriptor (R447). -/
def chainPlace (k a : Nat) : Bool :=
  decide (a % 64 = 0) && (match addrSpace a with
    | 0 => decide (k = 16)
    | 1 => true
    | 2 => decide (addrRow a ≥ 3840)
    | _ => false)

/-- A chain error of R447, whose code the spec does not give. -/
def Block.chainBroken (s : Block) (k ch : Nat) : Block := s.tick.chainError k ch (s.freeNat % 256)

/-- A descriptor that has been read (R447, R453). -/
def Block.takeDesc (s : Block) (k ch a : Nat) (b : BitVec 512) : Block :=
  let (d, bad) := readDesc a b
  if bad then s.chainBroken k ch
  else
    let x := s.chan k ch
    (s.setChan k ch { x with
      descs := x.descs ++ [startDesc d x.count], count := x.count + 1, fetch := if d.last then none else some d.next }).showChan k ch

/-- DESCRIPTOR_FETCH (R446, R447, R453): `outside` holds the bytes of a descriptor in host memory or on another die, `none`
where it cannot be read; `corrected`, `badWords` and `badCodewords` are what the code finds of one on this die. -/
def execDescriptorFetch (k : Fin 17) (ch : Fin 64) (outside : Option (BitVec 512)) (corrected : Nat) (badWords : List (Fin 64))
    (badCodewords : List (Fin 8)) (s : State) : Outcome State Fault Refusal := s.runs fun s =>
  let s := s.startEntry k ch
  .next (match (s.chan k ch).fetch with
    | none => s
    | some a =>
      if !chainPlace k.val a then s.chainBroken k ch
      else match s.beatBar k ch a 64 false with
        | some code => (s.countBar k ch a false).chainError k ch code
        | none =>
          if addrSpace a = 0 ∨ addrRemote a then
            match outside with
            | none => s.chainError k ch (if addrRemote a then 6 else 1)
            | some b => s.takeDesc k ch a b
          else
            match (if addrOnRidge a then s.ridgeBars (addrRidge a) else none) with
            | some 0 => s
            | some code => s.chainError k ch code
            | none =>
              let (t, code, v) := s.beatRead a 64 corrected badWords badCodewords
              if code ≠ 0 then t.chainError k ch code else t.takeDesc k ch a (v.setWidth 512))

/-- Whether a channel of the drover exists. -/
def channelExists (k ch : Nat) : Bool := decide (ch < droverChannels k)

/-- The channel that the arbiter grants: the highest PRIO with a beat ready, round-robin from the last grant (R454). -/
def Block.grantChannel (s : Block) (k : Nat) : Option Nat :=
  let n := droverChannels k
  let ready := ((List.range n).map (fun i => ((s.droverAt k).lastGrant + 1 + i) % n)).filter (fun ch => s.beatReady k ch)
  let top := (ready.map (fun ch => s.fld (CH_CFG.PRIO k ch))).foldl max 0
  ready.find? (fun ch => decide (s.fld (CH_CFG.PRIO k ch) = top))

/-- Grants a channel its next beat; the channel that it overtakes enters PREEMPTED (R454). -/
def Block.grantBeat (s : Block) (k ch : Nat) (corrected : Nat) (badWords : List (Fin 64)) (badCodewords : List (Fin 8)) : Block :=
  let old := (s.droverAt k).lastGrant
  let overtaken := decide (old ≠ ch ∧ s.fld (CH_CFG.PRIO k old) < s.fld (CH_CFG.PRIO k ch)) && s.beatReady k old
    && !(s.chan k old).preempted
  let s := if overtaken then
      ((s.setChan k old { s.chan k old with preempted := true }).addReg (DRV_PREEMPT k) 1).showChan k old
    else s
  let s := s.setChan k ch { s.chan k ch with preempted := false }
  let s := { s with drv := SMap.set Drover.reset s.drv k { s.droverAt k with lastGrant := ch } }
  s.issueBeat k ch corrected badWords badCodewords

/-- Every idle channel with an entry starts it (R446). -/
def Block.startAll (s : Block) (k : Nat) : Block :=
  ((s.droverAt k).chans.map (·.1)).foldl (fun t ch => if (t.chan k ch).current.isNone then t.startEntry k ch else t) s

/-- BEAT_GRANT (R444, R449, R454, R456): the operands are what the code of the source's row or unit finds. At the die drover
the waiting rows of a valley stream go on too (R495). -/
def execBeatGrant (k : Fin 17) (corrected : Nat) (badWords : List (Fin 64)) (badCodewords : List (Fin 8)) (s : State) :
    Outcome State Fault Refusal := s.runs fun s =>
  let s := if k.val = 16 then (s.startAll k).pumpStreams else s.startAll k
  .next (match s.grantChannel k with
    | some ch => s.grantBeat k ch corrected badWords badCodewords
    | none => s)

/-- STARVE_GRANT (R455): one beat for a channel that has waited STARVE_US with a beat ready; 0 disables the rule. -/
def execStarveGrant (k : Fin 17) (ch : Fin 64) (corrected : Nat) (badWords : List (Fin 64)) (badCodewords : List (Fin 8))
    (s : State) : Outcome State Fault Refusal := s.runs fun s =>
  if s.fld (DRV_CTL.STARVE_US k) = 0 ∨ !channelExists k ch ∨ !s.beatReady k ch then .next s
  else .next ((s.addReg (DRV_STARVE k) 1).issueBeat k ch corrected badWords badCodewords)

/-- A beat's data reach its destination on this die or in host memory (R443, R445, R449, R451). -/
def Block.landBeat (s : Block) (k ch i off : Nat) (d : DescRun) (v : Row) (withCore : Bool) : Block :=
  let len := beatLen d.desc off
  let a := addrAt d.desc.dst off
  if addrSpace a = 0 then
    let owner := s.chOwner k ch
    { s.finishBeat k ch i off 0 false with
      hostOut := s.hostOut ++ [⟨s.hostFn owner, addrHost a, len, v.toNat % 2 ^ (8 * len)⟩] }
  else
    let first := (d.out.map (·.1)).foldl min off
    if addrSpace a = 3 ∧ (off ≠ first ∨ s.regionGate a true = 1) then
      s.modDesc k ch i (fun d => { d with out := d.out.map (fun e => if e.1 = off then (off, some v) else e) })
    else if addrSpace a = 3 ∧ s.regionGate a true = 2 then (s.gateFault a).finishBeat k ch i off 9 false
    else
      let (t, code, lost) := s.beatWrite a len v (if k < 16 then 48 else 49) withCore
      t.finishBeat k ch i off code lost

/-- A response of another die to a beat (R445): taken off the network; `none` where it has not arrived or answers another
beat. -/
def Block.beatReply (s : Block) (ch : Nat) (d : DescRun) (off : Nat) (reply : Option Packet) : Option (Block × Packet) :=
  match reply with
  | none => none
  | some p =>
    if (p.op = .completion ∨ p.op = .getData) ∧ p.dstCore = 32 ∧ p.tag = beatTag ch d.serial off then
      let (t, ok) := s.arrive p
      if ok then some (t, p) else none
    else none

/-- BEAT_COMPLETE (R445, R448, R449, R452): an outstanding beat goes on. The host's completion (`hostStatus`, 0 successful,
with `hostData`) or another die's `reply` brings its data; then its write completes. -/
def execBeatComplete (k : Fin 17) (ch : Fin 64) (i off : Nat) (hostStatus : Nat) (hostData : Row) (reply : Option Packet)
    (withCore : Bool) (s : State) : Outcome State Fault Refusal := s.runs fun s =>
  match (s.chan k ch).descs[i]?, (s.chan k ch).current with
  | some d, some e =>
    match d.out.find? (fun x => decide (x.1 = off)) with
    | none => .next s
    | some (_, data) =>
      let src := addrAt d.desc.src off
      let dst := addrAt d.desc.dst off
      let got (t : Block) (v : Row) : Block :=
        if addrRemote dst then
          (t.modDesc k ch i (fun d => { d with out := d.out.map (fun x => if x.1 = off then (off, some v) else x) })).sendBeat k ch e
            d.serial off dst (beatLen d.desc off) true v
        else t.landBeat k ch i off d v withCore
      match data with
      | none =>
        if addrSpace src = 0 then
          .next (if hostStatus ≠ 0 then s.finishBeat k ch i off 1 false else got s hostData)
        else match s.beatReply ch d off reply with
          | none => .next s
          | some (t, p) => .next (if p.op = .getData then got t p.data else t.finishBeat k ch i off (remoteCode p.status) false)
      | some v =>
        if addrRemote dst then
          match s.beatReply ch d off reply with
          | none => .next s
          | some (t, p) => .next (t.finishBeat k ch i off (remoteCode p.status) false)
        else .next (s.landBeat k ch i off d v withCore)
  | _, _ => .next s

/-- BEAT_TIMEOUT (R448): 100 µs without completion; a beat that waits for a region is not outstanding for it (R456). -/
def execBeatTimeout (k : Fin 17) (ch : Fin 64) (i off : Nat) (s : State) : Outcome State Fault Refusal := s.runs fun s =>
  match (s.chan k ch).descs[i]? with
  | none => .next s
  | some d =>
    if !d.out.any (fun e => decide (e.1 = off))
      ∨ (addrSpace d.desc.dst = 3 ∧ d.out.any (fun e => decide (e.1 = off) && e.2.isSome)) then .next s
    else .next ((s.finishBeat k ch i off 10 false).raise (drvCtlPage k) 2)

/-- DESCRIPTOR_COMPLETE (R450, R452, R459): a channel in DRAIN whose current descriptor completes leaves it. -/
def execDescriptorComplete (k : Fin 17) (ch : Fin 64) (s : State) : Outcome State Fault Refusal := s.runs fun s =>
  match (s.chan k ch).descs with
  | [] => .next s
  | d :: _ =>
    if !d.issued ∨ !d.out.isEmpty then .next s
    else
      let x := s.droverAt k
      let t := { s with drv := SMap.set Drover.reset s.drv k { x with draining := x.draining.filter (fun e => decide (e.1 ≠ ch.val)) } }
      .next (t.completeDesc k ch)

/-- COALESCE_TIMER (R458): TIME after the first counted descriptor completed. -/
def execCoalesceTimer (k : Fin 17) (ch : Fin 64) (s : State) : Outcome State Fault Refusal := s.runs fun s =>
  let x := s.chan k ch
  if s.fld (CH_COAL.TIME k ch) = 0 ∨ x.coalesced = 0 ∨ !channelExists k ch then .next s
  else .next ((s.setChan k ch { x with coalesced := 0 }).raise (drvChPage k ch) (ch.val % 16))

/-- What a remote drover beat meets at this die (R326, R443, R444, R615): the code of a completion that refuses it. -/
def Block.beatRefused (s : Block) (p : Packet) (len : Nat) (write : Bool) : Option Nat :=
  let owner := p.arg / 2 ^ 16
  let a := p.addr
  if addrSpace a = 1 then
    if (s.cacheRefusal p.src.die owner (addrTier a / 512) write).isSome
      ∨ (s.cacheRefusal p.src.die owner ((addrTier a + len - 1) / 512) write).isSome then some 3 else none
  else
    let r := addrRidge a
    let c := s.siteOf r (addrCore a)
    let row := if addrSpace a = 3 then s.fld ((if write then CR_STAT.TAIL else CR_STAT.HEAD) r c (addrRegion a)) else addrRow a
    if s.net.unreachable.contains (r, if addrSpace a = 4 then addrSite a else c) then some 1
    else if addrSpace a = 4 ∨ !s.requestGranted p.src.die owner 0 r (addrCore a) row 1 write then some 3
    else if !write ∧ addrSpace a = 2 ∧ s.valleyHidden r c row then some 3
    else match s.regionGate (a % 2 ^ 48) write with
      | 0 => none
      | _ => some 3

/-- The address of a beat that has arrived, with its address space and without the die's coordinate. -/
def Packet.beatAddr (p : Packet) : Nat := p.addr % 2 ^ 48 + addrSpace p.addr * 2 ^ 60

/-- What a beat that has arrived does and is answered with: a refusal's code, the status of its write, or the data of its read. -/
def Block.beatServed (t : Block) (p : Packet) (corrected : Nat) (badWords : List (Fin 64)) (badCodewords : List (Fin 8))
    (withCore : Bool) : Block :=
  let write := decide (p.arg % 2 = 1)
  let len := p.arg / 2 % 2 ^ 15
  let a := p.beatAddr
  match t.beatRefused p len write with
  | some code =>
    let t := if addrSpace a = 1 then
        match t.cacheRefusal p.src.die (p.arg / 2 ^ 16) (addrTier a / 512) write with
        | some why => t.cacheRefuse (addrTier a / 512) why
        | none => t
      else if addrSpace a = 3 then t.gateFault a else t
    t.reply p .completion code 0
  | none =>
    if write then
      let x := t.beatWrite a len p.data (t.sourceId (addrRidge a) p) withCore
      x.1.reply p .completion (if x.2.1 = 0 then 0 else 4) 0
    else
      let x := t.beatRead a len corrected badWords badCodewords
      if x.2.1 = 0 then x.1.reply p .getData 0 x.2.2 else x.1.reply p .completion 4 0

/-- DROVER_BEAT_ARRIVAL (R445): the target die performs the beat at its own scratchpad, region or cache tier, and answers
with the data or a completion. -/
def blkDroverBeatArrival (p : Packet) (corrected : Nat) (badWords : List (Fin 64)) (badCodewords : List (Fin 8)) (withCore : Bool)
    (s : Block) : Outcome Block Fault Refusal :=
  if p.op ≠ .drvBeat ∨ addrSpace p.addr = 0 ∨ addrSpace p.addr ≥ 5 then .next s
  else
    let (t, ok) := s.arrive p
    .next (if ok then t.beatServed p corrected badWords badCodewords withCore else t)
/-- DroverBeatArrival (R445): the effect of blkDroverBeatArrival. -/
def execDroverBeatArrival (p : Packet) (corrected : Nat) (badWords : List (Fin 64)) (badCodewords : List (Fin 8)) (withCore : Bool)
    (s : State) : Outcome State Fault Refusal :=
  s.runs (blkDroverBeatArrival p corrected badWords badCodewords withCore)

end Sys2Proof.Machine
end

