-- ==== Sys2Proof/Machine/TwinOps.lean ====
section
/-! DEFINITION. Shared operations of twin operation (R576–R583, R612). -/
namespace Sys2Proof.Machine

/-- Changes the twin's data. -/
def Block.modTw (s : Block) (f : TwinSt → TwinSt) : Block := { s with tw := f s.tw }

/-- The listed registers of a set of cells, by cell. -/
def Block.listed (s : Block) (key : Nat → Nat) (n : Nat) : SMap Word :=
  (List.range n).foldr (fun i m => if s.reg (key i) = regReset (key i) then m else (i, s.reg (key i)) :: m) []

/-- A sequence as committed. -/
def Seq.committed (x : Seq) : Seq := { x with prov := x.com, snaps := [], scheduled := x.prefilled / 64 }

/-- The epoch that closes now (R577). -/
def Block.epochNow (s : Block) (n : Nat) : Epoch where
  num := n
  tenants := s.tr.tenant
  seqs := s.serv.seqs.map (fun x => (x.1, x.2.committed))
  kvNext := s.serv.kvNext
  kvFree := s.serv.kvFree ++ s.serv.kvLimbo.map (·.1)
  nodes := s.serv.nodes
  buckets := s.serv.buckets
  balances := s.listed SV_ACC_BAL 4096
  tails := s.listed SV_RING_TAIL 256
  tokens := s.tw.tokens
  units := (s.tw.dirty.foldl (fun m u => SMap.ins u (SMap.get 0 s.cache.units u) m) [])

/-- An active die closes an epoch at the start of a tick that is a multiple of the period (R577). TW_BYTES is a free
value: the spec gives no encoding of the traffic. -/
def Block.closeEpoch (s : Block) (tick : Nat) : Block :=
  if s.fld TW_CTL.ROLE ≠ 1 ∨ s.fld TW_STAT.STATE = 2 ∨ tick % s.twinPeriod ≠ 0 then s
  else
    let n := tick / s.twinPeriod % 2 ^ 32
    let t := s.modTw (fun y => { y with sent := y.sent ++ [s.epochNow n], tokens := [], dirty := [] })
    let t := ((t.setReg TW_EPOCH (BitVec.ofNat 32 n)).setFld TW_STAT.STATE 1).setReg TW_BYTES (BitVec.ofNat 32 s.freeNat)
    t.tick

/-- Whether a twin accepts the traffic of a ridge: its own ridge is BOUND to the TENANT_KEY that the header names (R612). -/
def Block.twinAccepts (s : Block) (e : Epoch) (r : Nat) : Bool :=
  s.bound r && decide (SMap.find r e.tenants = SMap.find r s.tr.tenant) && (SMap.find r e.tenants).isSome

/-- The ridges that an epoch has traffic for. -/
def Epoch.ridges (e : Epoch) : List Nat :=
  let a : List Nat := e.seqs.map (fun x => x.2.ridge)
  let b : List Nat := e.nodes.map (fun x => x.2.ridge)
  let c : List Nat := e.balances.map (fun x => x.1 / 256)
  let d : List Nat := e.tails.map (fun x => x.1 / 16)
  let f : List Nat := e.tokens.map (fun o => o.ring / 16)
  (a ++ b ++ c ++ d ++ f).eraseDups

/-- An epoch without the traffic of other ridges. -/
def Epoch.keep (e : Epoch) (ok : Nat → Bool) : Epoch :=
  { e with
    seqs := e.seqs.filter (fun x => ok x.2.ridge), nodes := e.nodes.filter (fun x => ok x.2.ridge),
    buckets := (e.buckets.map (fun b => (b.1, b.2.filter (fun i =>
      match SMap.find i e.nodes with | some n => ok n.ridge | none => false)))).filter (fun b => !b.2.isEmpty)
    balances := e.balances.filter (fun x => ok (x.1 / 256)), tails := e.tails.filter (fun x => ok (x.1 / 16)),
    tokens := e.tokens.filter (fun o => ok (o.ring / 16)) }

/-- Writes the units of an epoch at their addresses (R578). -/
def Block.landUnits (s : Block) (l : SMap Row) : Block := l.foldl (fun t u => (t.writeUnit u.1 u.2 allBytes).1) s

/-- Applies an epoch's snapshot (R582). -/
def Block.applyEpoch (s : Block) (e : Epoch) : Block :=
  let t := s.modServ (fun y => { y with
    seqs := e.seqs, kvNext := e.kvNext, kvFree := e.kvFree, kvLimbo := [], nodes := e.nodes, buckets := e.buckets, gate := [], out := [],
    ringPend := [], uncommitted := [], emits := [], voids := [], batches := [] })
  let t := (List.range 4096).foldl (fun t a => t.setReg (SV_ACC_BAL a) (SMap.get 0 e.balances a)) t
  (List.range 256).foldl (fun t g => t.setReg (SV_RING_TAIL g) (SMap.get 0 e.tails g)) t

/-- The rewind record of a sequence (R582). -/
def rewindRecord (q : Nat) (x : Seq) : OutRec := ⟨q, x.ring, recordOf q 0x40 0xFFFFFFFF x.com.next 0, 0, false, false⟩

/-- The records that a resuming die writes first (R582). -/
def Block.resumeRecords (s : Block) (e : Epoch) : List OutRec :=
  if s.bit TW_CTL.MODE then e.seqs.map (fun x => rewindRecord x.1 x.2) else e.tokens.map (fun o => { o with epoch := 0 })

end Sys2Proof.Machine
end

