-- ==== Sys2Proof/Machine/Fabric.lean ====
section
/-! DEFINITION. Frames and cells, the herd tick, traverse schedules, and membership (R388–R391, R408–R430). -/
namespace Sys2Proof.Machine
open Host

/-! ## Receiving (R391, R409, R410, R413, R423, R425, R428) -/

/-- A response that arrives for a request of this die frees its port's transaction (R414). -/
def Block.endWaiting (s : Block) (p : Packet) : Block :=
  if p.op ≠ .completion ∧ p.op ≠ .getData then s
  else match s.fab.waiting.find? (fun e => decide (e.2.1 = p.dst ∧ e.2.2.1 = p.dstCore ∧ e.2.2.2 = p.tag)) with
    | some e => { s with fab := { s.fab with waiting := s.fab.waiting.erase e } }
    | none => s

/-- A packet of an accepted cell goes on into the die, or is forwarded (R330, R413, R431). -/
def Block.takeCellPacket (s : Block) (q : Nat) (p : Packet) : Block :=
  let p := { p with port := q }
  let own := s.fld FAB_SELF.COORD
  if p.dst.die = own ∧ (!s.bit (NET_STAT.SPLIT 0) ∨ p.dst.half = portHalf q) then
    let t := (s.endWaiting p).send p
    if p.src.die = own then { t with fab := { t.fab with crossed := t.fab.crossed ++ [p] } } else t
  else s.toFabric p

/-- A received cell (R391, R413, R423, R428, R429). -/
def Block.takeCell (s : Block) (q : Nat) (c : Cell) : Block :=
  if c.kind = 0 then s
  else
    let s := s.modPort q (fun x => { x with returns := addAt x.returns (vcIndex c.vc) 1 })
    if !s.bit FAB_STAT.MEMBER then s.addReg (FP_GEN_DROP q) 1
    else if c.badOp then s.addReg (FP_BAD_CELL q) 1
    else if c.pkts.any (fun p => !s.genAccepted p.gen p.src.die) then s.addReg (FP_GEN_DROP q) 1
    else c.pkts.foldl (fun t p => t.takeCellPacket q p) s

/-- Cells whose FLOW differs from the receive-table entry (R423). -/
def flowMismatches (entry : List (Nat × Nat)) (cells : List Cell) : Nat :=
  ((entry.zip cells).filter (fun x => decide (x.2.kind ≠ 0 ∧ x.2.flow ≠ (if x.1.1 = 1 then x.1.2 else 0)))).length

/-- A lost traverse frame (R425). -/
def Block.slotLoss (s : Block) (q slot : Nat) : Block :=
  let role := s.fld (FP_STAT.ROLE q)
  let t := (s.addReg (FP_SLOT_LOSS q) 1).raise (portPage q) Irq.port_SLOT_LOSS
  match s.activeEntry q 1 slot with
  | none => t
  | some entry =>
    let t := entry.foldl (fun t e =>
      if e.1 = 1 ∧ t.bit (FP_FLOW_RX.VALID role e.2) then
        t.send { Packet.blank with
          op := .slotLoss, src := ⟨t.fld FAB_SELF.COORD, 0, 0⟩, srcCore := 32, gen := t.fld FAB_GEN.GEN
          dst := ⟨t.fld (FP_FLOW_RX.DIE role e.2), t.fld (FP_FLOW_RX.HALF role e.2), t.fld (FP_FLOW_RX.RIDGE role e.2)⟩,
          arg := e.2, addr := slot }
      else t) t
    if entry.any (fun e => decide (e.1 = 2)) then
      (List.range 16).foldl (fun t r => if t.ridgeState r = 0 then t.failedOldest r else t) t
    else t

/-- Acknowledgement, NAK and credit returns of a frame's header (R389, R410, R414). -/
def PortSt.header (x : PortSt) (f : Frame) : PortSt :=
  let log := if x.log.any (fun e => decide (e.fseq = f.ack)) then (x.log.dropWhile (fun e => decide (e.fseq ≠ f.ack))).drop 1
    else x.log
  { x with log := log, credits := x.credits.zipWith (· + ·) f.credits,
           resend := if f.nak then log.filter (fun e => !e.traverse) else x.resend }

/-- FRAME_RECEIVE (R389, R408–R410, R413, R414, R423, R425, R428): `corrected` symbols and `uncorrectable` codewords of the
bytes that carry the frame, whether its tag verifies, and the herd slot in which the sender sent it. -/
def execFrameReceive (p : PortId) (f : Frame) (corrected uncorrectable : Nat) (tagOk : Bool) (slot : Nat) (s : State) :
    Outcome State Fault Refusal := s.runs fun s =>
  if !s.portUp p then .next s
  else
    let t := (s.addReg (FP_FEC_CORR p) corrected).addReg (FP_FEC_UNCORR p) uncorrectable
    let auth := decide (uncorrectable = 0) && !tagOk
    let t := t.modPort p (fun x => { x with
      corrWin := x.corrWin + corrected, uncorrWin := x.uncorrWin + uncorrectable, authWin := x.authWin + (if auth then 1 else 0) })
    let t := { t with cairn := { t.cairn with newFec := SMap.set 0 t.cairn.newFec p (SMap.get 0 t.cairn.newFec p + corrected) } }
    let t := if auth then t.addReg (FP_AUTH_FAIL p) 1 else t
    let x := t.port p
    if auth ∧ x.authWin ≥ 16 ∧ x.uncorrWin = 0 then
      .next (((t.portTo p 11).raise (portPage p) Irq.port_AUTH).signature 13 0 0
        (location none none none none none none (some p.val) none none) 0 0 0 0)
    else if auth ∨ uncorrectable ≠ 0 then
      if s.fld (FP_STAT.MODE p) = 1 then
        .next ((t.modPort p (fun x => { x with rxSeq := (x.rxSeq + 1) % 65536 })).slotLoss p slot)
      else .next (t.modPort p (fun x => { x with nak := true }))
    else if !f.traverse ∧ f.fseq ≠ (x.rxSeq + 1) % 65536 then .next t
    else
      let t := t.modPort p (fun x => { (x.header f) with rxSeq := f.fseq })
      let t := if f.traverse then
          (match t.activeEntry p 1 slot with
            | some entry => t.addReg (FP_FLOW_MISMATCH p) (flowMismatches entry f.cells)
            | none => t)
        else t
      .next (f.cells.foldl (fun t c => t.takeCell p c) t)

/-! ## Transmitting (R389, R410, R414, R415, R422) -/

/-- The cells of a new frame: three open cells, or those of the schedule entry (R415, R422). -/
def PortSt.compose (x : PortSt) (entry : Option (List (Nat × Nat))) (n : Nat) : PortSt × List Cell :=
  let kinds := entry.getD [(2, 0), (2, 0), (2, 0)]
  (List.range 3).foldl (fun acc i =>
    let (y, c) := match kinds.getD i (0, 0) with
      | (1, flow) => acc.1.takeFlow flow (n + i)
      | (2, _) => acc.1.takeOpen (n + i)
      | _ => (acc.1, Cell.empty)
    (y, acc.2 ++ [c])) (x, [])

/-- FRAME_TRANSMIT (R389, R410, R414, R415, R422, R429): the frame of one 8 ns slot of the tick: a frame sent again, or a new
one, kept among the last 128. -/
def execFrameTransmit (p : PortId) (slot : Fin 125) (s : State) : Outcome State Fault Refusal := s.runs fun s =>
  if !s.portUp p ∨ !s.bit FAB_STAT.MEMBER then .next s
  else
    let x := s.port p
    match x.resend with
    | _ :: rest => .next ((s.modPort p (fun x => { x with resend := rest, nak := false })).addReg (FP_RETRY p) 1)
    | [] =>
      let traverse := decide (s.fld (FP_STAT.MODE p) = 1)
      let entry := if traverse then s.activeEntry p 0 (s.tickNo * 125 + slot.val) else none
      let (y, cells) := x.compose entry (3 * slot.val)
      let seq := (x.txSeq + 1) % 65536
      let f : Frame := ⟨seq, x.rxSeq, x.nak, traverse, x.returns.map (min 4095 ·), cells⟩
      let log := x.log ++ [f]
      .next (s.modPort p (fun _ => { y with
        txSeq := seq, nak := false, returns := x.returns.map (fun n => n - min 4095 n), log := log.drop (log.length - 128) }))

/-- SLOT_LOSS_NOTICE (R425): the ridge reports a failed check of the lowest step that it has not committed. -/
def blkSlotLossNotice (p : Packet) (s : Block) : Outcome Block Fault Refusal :=
  if p.op ≠ .slotLoss ∨ p.dst.unit ≥ 16 then .next s
  else
    let (t, ok) := s.arrive p
    .next (if ok then t.failedOldest p.dst.unit else t)
/-- SlotLossNotice (R425): the effect of blkSlotLossNotice. -/
def execSlotLossNotice (p : Packet) (s : State) : Outcome State Fault Refusal :=
  s.runs (blkSlotLossNotice p)

/-! ## The herd tick (R406, R408, R417–R421) -/

/-- A tick boundary at a port: an agreed change is entered, a new key and an armed bank take effect, and the mode is set. -/
def Block.portTick (s : Block) (p tick : Nat) : Block :=
  let t := s.modPort p (fun x => { x with msgs := [] })
  let x := t.port p
  let t := match x.agreed with
    | some (type, _) =>
      if t.portUp p then (t.modPort p (fun x => { x with agreed := none, asked := none })).portTo p (if type = 2 then 12 else 13)
      else t.modPort p (fun x => { x with agreed := none })
    | none => t
  let t := match x.nextKey with
    | some k => if k ≤ tick then t.modPort p (fun x => { x with key := x.key + 1, nextKey := none }) else t
    | none => t
  let t := match x.armed with
    | some (bank, at') =>
      if at' ≤ tick then
        ((t.modPort p (fun x => { x with armed := none, active := some (bank, at') })).setFld (FP_STAT.ACTIVE_BANK p) bank).raise
          (portPage p) Irq.port_SWAP_DONE
      else t
    | none => t
  t.showMode p

/-- The peer's marker of a port: its tick number, and its arrival in whole slots and residual picoseconds (R418). -/
def Block.marker (s : Block) (p : Nat) (tick delay : Nat) (residual : Int) (own : Nat) : Block :=
  let ok := decide (tick = own)
  let t := (s.setFld (FP_PHASE.DELAY p) delay).setFld (FP_PHASE.RESIDUAL p) ((residual % 65536).toNat)
  let t := t.modPort p (fun x => { x with tickOk := ok, phaseOk := decide (0 ≤ residual ∧ residual ≤ 2000) })
  if ok then t else t.raise (portPage p) Irq.port_TICK_MISMATCH

/-- A new tick begins (R417, R418). -/
def Block.newTick (s : Block) (tick : Nat) (markers : List (PortId × BitVec 64 × BitVec 8 × Int)) : Block :=
  let t := (s.setPair FAB_TICK_LO FAB_TICK_HI tick).closeEpoch tick
  let t := markers.foldl (fun t m => t.marker m.1 m.2.1.toNat m.2.2.1.toNat m.2.2.2 (tick % 2 ^ 64)) t
  (List.range 10).foldl (fun t p => t.portTick p (tick % 2 ^ 64)) t

/-- HERD_SYNC_PULSE (R417, R418): `markers` are the peers' markers, each with its tick number, delay in slots and residual
in picoseconds. -/
def execHerdSyncPulse (markers : List (PortId × BitVec 64 × BitVec 8 × Int)) (s : State) : Outcome State Fault Refusal := s.runs fun s =>
  let tick := s.fab.tickSet.getD (s.tickNo + 1)
  let t := { s with fab := { s.fab with tickSet := none, missing := 0 } }
  .next ((t.setBit FAB_STAT.SYNC_LOST false).newTick tick markers)

/-- HERD_SYNC_MISSING (R418): a pulse is missing; from the third on the die runs its tick from FABREF. -/
def execHerdSyncMissing (markers : List (PortId × BitVec 64 × BitVec 8 × Int)) (s : State) : Outcome State Fault Refusal := s.runs fun s =>
  let n := s.fab.missing + 1
  let t := { s with fab := { s.fab with missing := min 3 n } }
  if n < 3 then .next t
  else
    let t := if t.bit FAB_STAT.SYNC_LOST then t
      else (t.setBit FAB_STAT.SYNC_LOST true).raise (diePage 25) Irq.fabric_SYNC_LOST
    .next (t.newTick (t.tickNo + 1) markers)

/-- TICK_SET_WRITE (R417): the write of FAB_TICK_SET_HI. -/
def execTickSetWrite (req : Fin 18) (dw : BitVec 26) (v : Word) (s : State) : Outcome State Fault Refusal := s.runs fun s =>
  .next (s.command req dw.toNat v .fabric [0xA0] (fun page off _ t =>
    let t := t.storeAt req page off v
    { t with fab := { t.fab with tickSet := some (t.pair FAB_TICK_SET_LO FAB_TICK_SET_HI) } }))

/-! ## Schedules (R419, R420, R432) -/

/-- Arms a bank, or refuses to (R420, R433). -/
def Block.armSwap (s : Block) (p : Nat) : Block :=
  let bank := s.fld (FP_SCHED_SEL.BANK p)
  let tick := s.pair (FP_SWAP_TICK_LO p) (FP_SWAP_TICK_HI p)
  let role := s.fld (FP_STAT.ROLE p)
  if !s.bit (FP_CTL.TRAVERSE_READY p) ∨ tick ≤ s.tickNo ∨ !s.tableOk role bank 0 ∨ !s.tableOk role bank 1
    ∨ s.flowDepths role > 2048 then s.raise (portPage p) Irq.port_SWAP_REJECT
  else
    let t := (s.modPort p (fun x => { x with armed := some (bank, tick) })).linkMsg p 8 bank tick
    match (s.port p).notice with
    | some (_, theirs) => if theirs ≠ tick then t.addReg (FP_FLOW_MISMATCH p) 1 else t
    | none => t

/-- SWAP_ARM (R419, R420): the write of FP_SWAP_TICK_HI. -/
def execSwapArm (req : Fin 18) (dw : BitVec 26) (v : Word) (s : State) : Outcome State Fault Refusal := s.runs fun s =>
  .next (s.command req dw.toNat v .port [0x90] (fun page off _ t => (t.storeAt req page off v).armSwap (page - 26)))

/-- SWAP_NOTICE (R420). -/
def execSwapNotice (p : PortId) (bank : Bool) (tick : BitVec 64) (s : State) : Outcome State Fault Refusal := s.runs fun s =>
  let t := s.modPort p (fun x => { x with notice := some (if bank then 1 else 0, tick.toNat) })
  match (s.port p).armed with
  | some (_, mine) => .next (if mine ≠ tick.toNat then t.addReg (FP_FLOW_MISMATCH p) 1 else t)
  | none => .next t

/-- SCHED_ENTRY_WRITE (R432): the write of FP_SCHED_DATA_HI commits the entry, and the index advances. -/
def execSchedEntryWrite (req : Fin 18) (dw : BitVec 26) (v : Word) (s : State) : Outcome State Fault Refusal := s.runs fun s =>
  .next (s.command req dw.toNat v .port [0x84] (fun page off _ t =>
    let p := page - 26
    let u := t.storeAt req page off v
    u.setFld (FP_SCHED_SEL.INDEX p) (t.fld (FP_SCHED_SEL.INDEX p) + 1)))

/-! ## Membership (R426–R429) -/

/-- The mask that software has written for the next generation. -/
def Block.noticeMask (s : Block) : Nat := ((List.range 8).map (fun n => (s.reg (FAB_NOTICE_MASK n)).toNat * 2 ^ (32 * n))).sum

/-- GEN_CMD (R427): a newer generation is adopted and sent on every UP port. -/
def execGenCmd (req : Fin 18) (dw : BitVec 26) (v : Word) (s : State) : Outcome State Fault Refusal := s.runs fun s =>
  .next (s.command req dw.toNat v .fabric [0x90] (fun _ _ _ t =>
    let g := getBits v 0 16
    if genNewer g (t.fld FAB_GEN.GEN) then (t.adopt g t.noticeMask).noticeAll 10 g t.noticeMask else t))

/-- GEN_NOTICE (R427). -/
def execGenNotice (p : PortId) (g : BitVec 16) (mask : BitVec 256) (s : State) : Outcome State Fault Refusal := s.runs fun s =>
  if s.portState p < 3 ∨ s.portState p = 14 then .next s
  else if genNewer g.toNat (s.fld FAB_GEN.GEN) then .next ((s.adopt g.toNat mask.toNat).noticeAll p g.toNat mask.toNat)
  else if g.toNat = s.fld FAB_GEN.GEN ∧ mask.toNat ≠ s.memberMask then
    .next ((s.raise (diePage 25) Irq.fabric_GEN_CONFLICT).signature 14 0 0
      (location none none none none none none (some p.val) none none) 0 0 0 g.toNat)
  else .next s

/-- STRAY_NOTICE (R429). -/
def execStrayNotice (p : PortId) (g : BitVec 16) (mask : BitVec 256) (s : State) : Outcome State Fault Refusal := s.runs fun s =>
  if s.portState p < 3 ∨ s.portState p = 14 ∨ !genNewer g.toNat (s.fld FAB_GEN.GEN) then .next s
  else .next (s.adopt g.toNat mask.toNat)

/-- GEN_PERSIST (R426): the adopted generation and mask reach the store record. -/
def execGenPersist (s : State) : Outcome State Fault Refusal := s.runs fun s =>
  match s.fab.unsaved with
  | some x => .next { s with fab := { s.fab with saved := x, unsaved := none } }
  | none => .next s

/-- GEN_GRACE_END (R428). -/
def execGenGraceEnd (s : State) : Outcome State Fault Refusal := s.runs fun s => .next { s with fab := { s.fab with grace := false } }

end Sys2Proof.Machine
end

