-- ==== Sys2Proof/Machine/Integrity.lean ====
section
/-! DEFINITION. The integrity unit's commands: step advance, commit, retract and replay, classifications and in-field tests
(R545–R571). -/
namespace Sys2Proof.Machine
open Host

/-! ## Steps (R545, R551, R552) -/

/-- WINDOW in force: 0 acts as 1, above 8 as 8 (R585). -/
def Block.window (s : Block) (r : Nat) : Nat := min 8 (max 1 (s.fld (RI_CTL.WINDOW r)))

/-- Whether a block of the ridge's active version can be placed nowhere (R73): no further step is accepted. -/
def Block.shardLost (s : Block) (r : Nat) : Bool :=
  s.bit SD_STAT.UNSERVABLE
    && s.res.layer.any (fun x => decide (x.1 / 32768 = r ∧ x.2.state = 5) && x.2.inVer (s.activeVer r))

/-- Whether a ridge's step counter advances now (R545, R73, R491, R557, R560). -/
def Block.advances (s : Block) (r : Nat) : Bool :=
  let quorum := s.fld (RI_STEP_CFG.QUORUM r)
  decide (s.ridgeState r = 0 ∧ quorum ≠ 0 ∧ (s.reg (SYNC_VAL r (s.fld (RI_STEP_CFG.CELL r)))).toNat ≥ quorum)
    && !s.isOpen r ((s.step r + 1 + 2 ^ 32 - s.window r) % 2 ^ 32)
    && (s.ri r).replay.isNone && !s.bit (RI_STAT.STUCK r) && !s.rebuilding r && !s.shardLost r

/-- STEP_ADVANCE (R51, R545): `bad` are the valley entries in host memory whose record fails its tag (R495). -/
def execStepAdvance (r : RidgeId) (bad : List Nat) (s : State) : Outcome State Fault Refusal := s.runs fun s =>
  if !s.advances r then .next s
  else
    let cell := s.fld (RI_STEP_CFG.CELL r)
    let go := s.fld (RI_STEP_CFG.GO_CELL r)
    let n := (s.step r + 1) % 2 ^ 32
    let t := s.setCell r cell (s.reg (SYNC_VAL r cell) - BitVec.ofNat 32 (s.fld (RI_STEP_CFG.QUORUM r)))
    let t := t.setReg (RI_STEP r) (BitVec.ofNat 32 n)
    let t := (t.setOpen r ((t.ri r).openSteps ++ [(n, 0)])).stepBoundary r (some n) bad
    .next (t.setCell r go (t.reg (SYNC_VAL r go) + 1))

/-- Whether every engine command issued under a step has latched or executed (R551). -/
def Block.enginesDone (s : Block) (r S : Nat) : Bool :=
  let late (x : EngSt) : Bool :=
    let of (q : EngCmd) : Bool := decide (q.step = S)
    let pass (q : Pass) : Bool := match q with | .fire cmd _ => of cmd | _ => false
    x.queue.any of || x.qmQueue.any of || x.pass.any pass || x.qmPass.any of || x.discarded.any pass
  !s.eng.any (fun x => decide (x.1 / 272 = r) && late x.2)

/-- Whether every remote request, emit and drover descriptor issued under a step has completed (R551). -/
def Block.requestsDone (s : Block) (r S : Nat) : Bool :=
  let of (e : Submission) : Bool := e.pushed && decide (e.step = S)
  !s.core.any (fun x => decide (x.1 / 34 = r) && x.2.tags.any (fun t => decide (t.2.step = S)))
    && !(s.droverAt r).chans.any (fun x => x.2.queue.any of || x.2.current.any of)

/-- Whether a classification holds a step (R551, R559). -/
def Block.classHolds (s : Block) (r S : Nat) : Bool :=
  (s.ri r).classes.any (fun x => decide (x.step = S) && (decide (x.stage ≠ 3) || s.classActing r x))

/-- Whether the oldest uncommitted step S of a ridge commits now (R551). -/
def Block.commits (s : Block) (r S : Nat) : Bool :=
  stepBefore S (s.step r) && s.enginesDone r S && s.requestsDone r S
    && (match (s.ri r).replay with | some p => stepBefore S p.step | none => true)
    && !s.classHolds r S && !s.bit (RI_STAT.STUCK r)
    && (s.ri r).sets.all (fun b => decide (b.step ≠ S) || b.inputs.all (·.committed))

/-- Void entries that stay: the oldest uncommitted step does not lie beyond LAST (R556). -/
def Block.pruneVoids (s : Block) (r : Nat) : Block :=
  match s.oldest r with
  | none => s
  | some o => let x := s.ri r; s.setRi r { x with voids := x.voids.filter (fun v => !stepBefore v.last o) }

/-- STEP_COMMIT (R551). -/
def execStepCommit (r : RidgeId) (s : State) : Outcome State Fault Refusal := s.runs fun s =>
  match (s.ri r).openSteps with
  | [] => .next s
  | (S, _) :: rest =>
    if !s.commits r S then .next s
    else
      let x := s.ri r
      let dsts := ((x.sets.filter (fun b => decide (b.step = S))).map (·.outputs)).flatten.eraseDups
      let t := dsts.foldl (fun t d => t.send (ctlMessage .commitMsg (s.sourceOf r) d S S (s.rev r))) s
      let t := t.setRi r { t.ri r with sets := x.sets.filter (fun b => decide (b.step ≠ S)) }
      .next ((t.setOpen r rest).pruneVoids r)

/-- The first step that has not committed on a ridge. -/
def Block.firstOpen (s : Block) (r : Nat) : Nat := (s.oldest r).getD ((s.step r + 1) % 2 ^ 32)

/-- A COMMIT from a source (R552). -/
def Block.commitFrom (s : Block) (r : Nat) (src : Source) (S rev : Nat) : Block :=
  let x := s.ri r
  let base := s.firstOpen r
  let b := (x.sets.find? (fun b => decide (b.step = S))).getD ⟨S, [], []⟩
  let put (inputs : List InputEntry) : Block :=
    s.setRi r { x with sets := x.sets.filter (fun b' => decide (b'.step ≠ S)) ++ [{ b with inputs := inputs }] }
  let ignore := s.addSat (RI_LATE.COMMIT_IGN r) 1
  if stepBefore S base ∨ (S + 2 ^ 32 - base) % 2 ^ 32 ≥ 16 then ignore
  else match b.inputs.find? (fun e => decide (e.src = src)) with
    | some e =>
      if e.rev = rev then put (b.inputs.map (fun e' => if e'.src = src then { e' with committed := true } else e')) else ignore
    | none => if b.inputs.length ≥ 1024 then ignore else put (b.inputs ++ [⟨src, rev, true⟩])

/-- COMMIT (R552): the message reaches its ridge. -/
def blkCommit (p : Packet) (s : Block) : Outcome Block Fault Refusal :=
  if p.op ≠ .commitMsg ∨ p.dst.unit ≥ 16 then .next s
  else
    let (t, ok) := s.arrive p
    .next (if ok then t.commitFrom p.dst.unit p.src p.step p.rev else t)
/-- Commit (R552): the effect of blkCommit. -/
def execCommit (p : Packet) (s : State) : Outcome State Fault Refusal :=
  s.runs (blkCommit p)

/-! ## Retract and replay (R555–R561) -/

/-- A RETRACT (S, LAST, rev) from a source (R556). -/
def Block.retractFrom (s : Block) (r : Nat) (src : Source) (S last rev : Nat) : Block :=
  let t := s.addSat (RI_RETRACTS.RECEIVED r) 1
  let x := t.ri r
  if x.voids.length ≥ 64 then t.failedOldest r
  else
    let gone := match t.oldest r with | some o => stepBefore last o | none => false
    let t := if gone then t else t.setRi r { x with voids := x.voids ++ [⟨src, S, last, rev⟩] }
    let x := t.ri r
    let stale (e : InputEntry) : Bool := decide (e.src = src) && !revNewer e.rev rev
    let hit (b : StepSets) : Bool := (decide (b.step = S) || stepBefore S b.step) && b.inputs.any stale
    match x.openSteps.find? (fun e => x.sets.any (fun b => decide (b.step = e.1) && hit b)) with
    | some (T, _) => t.retract r T (if src.unit = 16 then 2 else 1)
    | none =>
      t.setRi r { x with sets := x.sets.map (fun b => if hit b then { b with inputs := b.inputs.filter (fun e => !stale e) } else b) }

/-- RETRACT (R556): the message reaches its ridge. -/
def blkRetract (p : Packet) (s : Block) : Outcome Block Fault Refusal :=
  if p.op ≠ .retractMsg ∨ p.dst.unit ≥ 16 then .next s
  else
    let (t, ok) := s.arrive p
    .next (if ok then t.retractFrom p.dst.unit p.src p.step p.arg p.rev else t)
/-- Retract (R556): the effect of blkRetract. -/
def execRetract (p : Packet) (s : State) : Outcome State Fault Refusal :=
  s.runs (blkRetract p)

/-- Steps 2 and 3 of R557: engine commands that have not started go, and channels whose entry was pushed under S or later
abort it (R457). -/
def Block.replayDrain (s : Block) (r S : Nat) : Block :=
  let t := (s.eng.filter (fun x => decide (x.1 / 272 = r))).foldl (fun t x =>
    (t.modEngine r (x.1 / 8 % 34) (x.1 % 8) (fun y => { y with queue := [], qmQueue := [] })).showDepths r (x.1 / 8 % 34) (x.1 % 8)) s
  let from' (e : Submission) : Bool := e.pushed && !stepBefore e.step S
  let t := ((s.droverAt r).chans.filter (fun x => x.2.current.any from')).foldl (fun t x =>
    ((t.setChan r x.1 { t.chan r x.1 with queue := [] }).abortChan r x.1 12 false).completeAll r x.1) t
  t.setRi r { t.ri r with drained := true }

/-- Whether started passes of the ridge have latched (R557). -/
def Block.passesDone (s : Block) (r : Nat) : Bool :=
  !s.eng.any (fun x => decide (x.1 / 272 = r) && (x.2.pass.isSome || x.2.qmPass.isSome || !x.2.discarded.isEmpty))

/-- The replay record (R561). -/
def replayRecord (step rev cause count last : Nat) : Row :=
  BitVec.ofNat 4096 (step % 2 ^ 32 + rev % 256 * 2 ^ 32 + cause % 256 * 2 ^ 40 + count % 2 ^ 16 * 2 ^ 48 + last % 2 ^ 32 * 2 ^ 64)

/-- A started core enters the replay vector (R557); a core that migrates does so on its target. -/
def Block.enterReplay (s : Block) (r c vec : Nat) : Block :=
  let enter (t : Block) : Block := t.modCore r c (fun x => { x with
    pc := vec, bundle := Bundle.none, handler := false, wait := none, heldWait := none, heldOn := [] })
  match s.fld (CORE_STAT.STATE r c) with
  | 1 | 2 | 3 => ((enter s).setFld (CORE_STAT.STATE r c) 1).setFld (CORE_STAT.HOLD_CAUSE r c) 0
  | 5 => match SMap.find r s.mig with
    | some m =>
      if m.source = c ∧ (m.prior = 1 ∨ m.prior = 2 ∨ m.prior = 3) then
        { enter s with mig := SMap.ins r { m with prior := 1, priorHold := 0 } s.mig }
      else s
    | none => s
  | _ => s

/-- Steps 4 and 5 of R557. -/
def Block.replay (s : Block) (r : Nat) (p : Replay) (bad : List Nat) : Block :=
  let count := (((s.ri r).openSteps.find? (fun e => decide (e.1 = p.step))).map (·.2)).getD 0
  let row := replayRecord p.step (s.rev r) p.cause count p.last
  let t := (List.range 32).foldl (fun t k => (t.sharedWrite r (t.siteOf r k) 4094 row allWords 49 false 0 []).1) s
  let t := t.setReg (RI_STEP r) (BitVec.ofNat 32 p.step)
  let t := (List.range 34).foldl (fun t c => t.enterReplay r c (s.fld (RI_REPLAY_VEC.VEC r))) t
  let t := t.setRi r { t.ri r with replay := none, drained := false }
  ((t.setBit (RI_STAT.REPLAYING r) false).addReg (RI_REPLAYS r) 1).streamStep r p.step bad

/-- REPLAY_ENTER (R557–R561): the ridge is drained; once its passes have latched and no classification holds the step, each
core enters the replay vector. `bad` as in STEP_ADVANCE. -/
def execReplayEnter (r : RidgeId) (bad : List Nat) (s : State) : Outcome State Fault Refusal := s.runs fun s =>
  match (s.ri r).replay with
  | none => .next s
  | some p =>
    if s.bit (RI_STAT.STUCK r) then .next s
    else
      let t := if (s.ri r).drained then s else s.replayDrain r p.step
      .next (if t.passesDone r && !t.classHolds r p.step then t.replay r p bad else t)

/-! ## Classifications (R565–R567) -/

/-- The classification of an engine (8 the vector unit) at a stage. -/
def Block.classAt (s : Block) (r c e stage : Nat) : Option Classify :=
  (s.ri r).classes.find? (fun x => decide (x.site = c ∧ x.engine = e ∧ x.stage = stage))

/-- Columns with a cell outside its read window in rows of a slab (R566). -/
def Block.readFails (s : Block) (r c e p : Nat) (rows : List Nat) : List Nat :=
  (List.range 544).filter (fun col => rows.any (fun row =>
    let t := s.cellTarget r c e p row col
    !within ((s.cellRow r c e p row).getD col 0) t.nominal t.read))

/-- Another slab of the engine that a probe frame would probe next (R130). -/
def Block.otherProbe (s : Block) (r c e p : Nat) : Option Nat :=
  ((List.range 8).map (fun i => (p + 1 + i) % 9)).find? (fun q => s.probeReady r c e q)

/-- A probe failure classified (R566): `err` and `err2` are the analogue errors of the two probe passes. -/
def Block.classifyProbe (s : Block) (r : Nat) (x : Classify) (err err2 : List Int) : Block :=
  let c := x.site
  let e := x.engine
  let cells := s.readFails r c e x.slab x.rows
  if !cells.isEmpty then s.endClassify r x .permanentColumn false cells
  else if !s.probeReady r c e x.slab then s
  else
    let (t, bad) := s.probeRun r c e x.slab err
    if bad.contains x.column then
      let (t, bad2) := match t.otherProbe r c e x.slab with | some q => t.probeRun r c e q err2 | none => (t, [])
      t.endClassify r x (if bad2.contains x.column ∧ x.column < 542 then .permanentConverter else .permanentColumn) false [x.column]
    else
      let (cls, again) := t.repeatRule r x .permanentSlab .transient
      t.endClassify r x cls again []

/-- A tally event classified as far as the request for the mirror (R566). -/
def Block.classifyTally (s : Block) (r : Nat) (x : Classify) (err : List Int) : Block :=
  let c := x.site
  let e := x.engine
  let t := s.setBit (ENG_CTL.PH_FREEZE r c e) true
  match (t.engine r c e).history with
  | [] => t.endClassify r x .unresolved false []
  | h :: _ =>
    let (t, far) := t.echoRun r c e h.pslab h err
    if !far.isEmpty then
      let (cls, again) := t.repeatRule r x .permanentSlab .transient
      t.endClassify r x cls again []
    else
      let st := (t.slab r c e 8).state
      if st = .assigned ∨ st = .retired then t.endClassify r x .unresolved false [] else t.mirrorGrant r x

/-- CLASSIFY_START (R565, R566): `moved` are the cells that a verify read of the probed rows finds changed, `err` and `err2`
the analogue errors of the classification's passes. -/
def execClassifyStart (r : RidgeId) (c : SiteId) (e : Fin 9) (moved : List (Fin 512 × Fin 544 × Nat)) (err err2 : List Int)
    (s : State) : Outcome State Fault Refusal := s.runs fun s =>
  if err.length ≠ 544 ∨ err2.length ≠ 544 then .fault .illFormed
  else match s.classAt r c e 0 with
    | none => .next s
    | some x =>
      if e.val < 8 ∧ (s.engine r c e).pass.isSome then .next s
      else match x.kind with
        | 1 => .next (s.classifyTally r x err)
        | 2 => .next ((s.moveCells r c e x.slab (moved.filter (fun m => x.rows.contains m.1.val))).classifyProbe r x err err2)
        | 3 =>
          let (cls, again) := s.repeatRule r x .permanentSlab .transient
          .next (s.endClassify r x cls again [])
        | _ =>
          let (cls, again) := s.repeatRule r x .inputPath .transient
          .next (s.endClassify r x cls again [])

/-- Whether a slab can take replacement columns for these physical columns (R35). -/
def Block.canTake (s : Block) (r c e p : Nat) (cols : List Nat) : Bool :=
  let b := s.slab r c e p
  (cols.foldl (fun (x : Option Slab) col => x.bind (fun y => y.stageColumn ((b.logicalOf col).getD col))) (some b)).isSome

/-- CLASSIFY_MIRROR_READY (R566): the echo on slab 8 and, when it differs nowhere, the SUM probe of slab 8; `err` and `err2`
are their analogue errors. -/
def execClassifyMirrorReady (r : RidgeId) (c : SiteId) (e : EngineId) (err err2 : List Int) (s : State) :
    Outcome State Fault Refusal := s.runs fun s =>
  if err.length ≠ 544 ∨ err2.length ≠ 544 then .fault .illFormed
  else match s.classAt r c e 2 with
    | none => .next s
    | some x =>
      if !s.mirrors r c e x.slab ∨ (s.engine r c e).pass.isSome then .next s
      else match (s.engine r c e).history with
        | [] => .next (s.endClassify r x .unresolved false [])
        | h :: _ =>
          let (t, far) := s.echoRun r c e 8 h err
          if far.isEmpty then
            let t := t.modEngine r c e (fun y => { y with turns := SMap.set 0 y.turns 8 1 })
            if (t.dueProbe r c e 8).kind = 0 then .next s
            else
              let (t, bad) := t.probeRun r c e 8 err2
              if !bad.isEmpty ∧ bad.all (fun col => decide (col < 542)) then .next (t.endClassify r x .permanentConverter false bad)
              else
                let (cls, again) := t.repeatRule r x .inputPath .inputPath
                .next (t.endClassify r x cls again [])
          else
            let cols := far.map (fun y => (t.slab r c e x.slab).physical y.1)
            let few := decide (cols.length ≤ 4) && t.canTake r c e x.slab cols
            .next (t.endClassify r x (if few then .permanentColumn else .permanentSlab) false cols)

/-- CLASSIFY_TIMEOUT (R566). -/
def execClassifyTimeout (r : RidgeId) (c : SiteId) (e : EngineId) (s : State) : Outcome State Fault Refusal := s.runs fun s =>
  match (s.classAt r c e 1).orElse (fun _ => s.classAt r c e 2) with
  | none => .next s
  | some x => .next (s.endClassify r x .unresolved false [])

/-! ## In-field tests (R568–R571) -/

/-- IFT_DUE (R568, R585): engine 8 is the core itself. -/
def execIftDue (r : RidgeId) (c : SiteId) (e : Fin 9) (s : State) : Outcome State Fault Refusal := s.runs fun s =>
  if !s.bit (RI_CTL.IFT_EN r) ∨ s.fld (RI_IFT_CTL.PERIOD_H r) = 0 then .next s else .next (s.iftStart r c e)

/-- IFT_CMD (R568, R585). -/
def execIftCmd (req : Fin 18) (dw : BitVec 26) (v : Word) (s : State) : Outcome State Fault Refusal := s.runs fun s =>
  .next (s.command req dw.toNat v .ridgeInt [0x84] (fun page _ _ t =>
    if getBits v 31 1 = 0 then t
    else t.iftStart (ridgeOfPage page) (getBits v 0 6) (if getBits v 9 1 = 0 then 8 else getBits v 6 3)))

/-- IFT_WAIT_TIMEOUT (R569): no halted boundary within WAIT_S. -/
def execIftWaitTimeout (r : RidgeId) (s : State) : Outcome State Fault Refusal := s.runs fun s =>
  match (s.ri r).ift with
  | some (c, 8) => .next (if s.fld (RI_IFT_STAT.STATE r) = 1 then s.iftMigrate r c else s)
  | _ => .next s

/-- IFT_RETRY (R569): the migration is requested again; a test overdue by 24 h raises a fault signature. -/
def execIftRetry (r : RidgeId) (overdue : Bool) (s : State) : Outcome State Fault Refusal := s.runs fun s =>
  match (s.ri r).ift with
  | some (c, 8) =>
    if (s.fld (RI_IFT_STAT.STATE r) = 1 ∨ s.fld (RI_IFT_STAT.STATE r) = 2) ∧ (SMap.find r.val s.mig).isNone then
      let t := if overdue then s.signature 15 0 0 (s.locSite r c) (s.step r) (s.rev r) 0 0 else s
      .next (t.iftMigrate r c)
    else .next s
  | _ => .next s

/-- CORE_TEST_DONE (R137, R251, R569, R571). -/
def execCoreTestDone (r : RidgeId) (c : SiteId) (pass : Bool) (s : State) : Outcome State Fault Refusal := s.runs fun s =>
  if s.fld (CORE_STAT.STATE r c) ≠ 6 then .next s
  else
    let mine := decide ((s.ri r).ift = some (c.val, 8))
    let t := if mine then s.iftEnd r (if pass then 4 else 5) else s.raise (ridgePage r 3) Irq.ridgeInt_IFT_DONE
    match pass, (s.coreAt r c).testOf with
    | true, some k => .next (t.migRequest r k 3)
    | true, none => .next (t.setFld (CORE_STAT.STATE r c) 0)
    | false, o =>
      let t := (t.retireSite r c).iftFail r (if o.isSome then 4 else 0) (s.locSite r c)
      let t := (List.range 8).foldl (fun t e => t.setReg (ENG_CVSTEER r c e) 0) t
      .next ((t.modCore r c (fun x => { x with testOf := none })).setFld (CORE_STAT.STATE r c) 0)

/-- Mismatching columns of an engine test's pass: pass 0–511 the ROW probe of a row, 512–527 the SUM probe of a group;
`faults` gives the columns' analogue errors in 1/1,000 level. -/
def Block.testPass (s : Block) (r c e p n : Nat) (faults : List (Fin 528 × Fin 544 × Int)) : List Nat :=
  let rows := if n < 512 then [n] else (List.range 32).map (fun i => 32 * (n - 512) + i)
  let mine := faults.filter (fun f => decide (f.1.val = n))
  let err := (List.range 544).map (fun col => ((mine.find? (fun f => decide (f.2.1.val = col))).map (·.2.2)).getD 0)
  let u := s.columnU r c e p (rows.map (fun i => (i, (1 : Int)))) err
  let want := s.expectCodes r c e p rows
  (List.range 544).filter (fun col => !s.probeSkips r c e p col && decide ((convert (u.getD col 0) 2 0 0).code ≠ want.getD col 0))

/-- ENGINE_TEST_SLAB_DONE (R570, R571): ROW probes of all rows, SUM probes of all groups and a scan of the slab under test;
`moved` are the cells that the scan finds changed, `faults` as in testPass. -/
def execEngineTestSlabDone (r : RidgeId) (c : SiteId) (e : EngineId) (moved : List (Fin 512 × Fin 544 × Nat))
    (faults : List (Fin 528 × Fin 544 × Int)) (s : State) : Outcome State Fault Refusal := s.runs fun s =>
  let x := s.ri r
  let p := x.iftSlab
  if x.ift ≠ some (c.val, e.val) ∨ !s.standsFor r c e p ∨ (s.slab r c e p).state ≠ .outForRefresh ∨ s.columnsLeft r c e p
    ∨ (s.acts r).any (fun a => decide (a = .standBack c e p ∨ a = .assign c e p)) then .next s
  else
    let t := s.moveCells r c e p moved
    let bad := distinct (((List.range 528).map (fun n => t.testPass r c e p n faults)).flatten ++ (t.scanSlab r c e p).1)
    let t := (List.range 528).foldl (fun t _ => t.countPass r c e p) t
    let t := (t.wrapReg (ENG_CHK_PASSES r c e) 528).addSat (ENG_PROBE_CNT.PASSES r c e) 528
    let t := t.setRi r { t.ri r with iftSlab := p + 1 }
    if bad.isEmpty then .next (t.atBoundary r (.standBack c e p))
    else
      let few := decide (bad.length ≤ 4) && t.canTake r c e p bad
      let t := (t.setRi r { t.ri r with iftBad := true }).iftFail r (if few then 2 else 3) (s.locSlab r c e p)
      if few then
        let ops := distinct (bad.filterMap (t.slab r c e p).logicalOf)
        .next (if ops.isEmpty then t.atBoundary r (.standBack c e p)
          else ops.foldl (fun t l => t.enqueue r ⟨.replaceColumn, c, e, p, l, 2, false⟩) t)
      else .next (t.replaceOrValley r c e p)

end Sys2Proof.Machine
end

