-- ==== Sys2Proof/Machine/ApertureOps.lean ====
section
/-! DEFINITION. The BAR2 aperture: windows, what an access may reach, and what it does (R333–R335, R341, R496, R617,
R747–R752). -/
namespace Sys2Proof.Machine

/-- Whether function `fn` (0 the physical function, r + 1 virtual function r) exists (R744). -/
def Block.fnExists (s : Block) (fn : Nat) : Bool := decide (fn = 0) || s.vfExists (fn - 1)

/-- Whether a function's BARs decode: the link is up, and the function exists and is in D0 (R745). -/
def Block.decodes (s : Block) (fn : Nat) : Bool := s.bit HP_LINK.UP && s.fnExists fn && !s.hp.d3.contains fn

/-- The window that a BAR2 offset of a function names (R747). -/
def apWindow (fn offset : Nat) : Nat := if fn = 0 then offset / 2 ^ 30 % 64 else 4 * (fn - 1) + offset / 2 ^ 30 % 4

/-- The 64-bit words of a row that byte enables cover wholly. -/
def enabledWords (m : BitVec 512) : BitVec 64 :=
  BitVec.ofNat 64 (((List.range 64).map (fun w => if (List.range 8).all (fun b => m.getLsbD (8 * w + b)) then 2 ^ w else 0)).sum)

/-- Whether byte enables cover whole units of `n` bytes, at least one (R750). -/
def wholeUnits (n : Nat) (m : BitVec 512) : Bool :=
  decide (m ≠ 0) && (List.range (512 / n)).all (fun w =>
    let l := (List.range n).map (fun b => m.getLsbD (n * w + b))
    l.all id || l.all (fun b => !b))

/-- Whether the function is admitted to a bound ridge's contents (R617). -/
def Block.apTrusted (s : Block) (fn r : Nat) : Bool :=
  !s.bound r || (decide (fn = r + 1) && s.bit (TR_RIDGE_STAT.VF_TRUST 16 r))

/-- Whether a unit lies in the serving area (R502). -/
def Block.inServing (s : Block) (unit : Nat) : Bool :=
  let area := s.fld SV_AREA.BASE_G * 8
  decide (area ≤ unit ∧ unit < area + 11534336)

/-- An access that is not performed: the answer carries no data (R751). -/
def Block.apRefuse (s : Block) (q : ApReq) (reason : Nat) : Block := { s.apDrop q.window q.fn reason with answer := [] }

/-- The request that an access puts to a scratchpad or a stack: its tag carries the byte and the length. -/
def Block.apPacket (s : Block) (q : ApReq) (unit core addr : Nat) : Packet :=
  let here := s.fld FAB_SELF.COORD
  { Packet.blank with
    op := if q.write then .putReq else .getReq, src := ⟨here, 0, hostUnit⟩, srcCore := q.window, dst := ⟨here, 0, unit⟩, dstCore := core,
    addr := addr, step := q.fn, tag := q.offset % 512 * 1024 + q.len, data := q.data, vc := 3 }

/-- An access through a window of KIND scratchpad (R749–R752). -/
def Block.apScratch (s : Block) (q : ApReq) (busy : Bool) (corrected : Nat) (bad : List (Fin 64)) : Block :=
  let r := q.offset / 2 ^ 26 % 16
  let k := q.offset / 2 ^ 21 % 32
  let row := q.offset / 2 ^ 9 % 4096
  let c := s.siteOf r k
  let owner := s.fld (HP_AP_CFG.OWNER q.window)
  let formed := if row ≥ 3840 then wholeUnits 8 q.enables else decide (q.enables = BitVec.allOnes 512)
  let st := s.ridgeState r
  let target := s.fld (PM_RIDGE_STAT.TARGET r)
  let gone := decide (st = 4 ∧ s.fld (PM_RIDGE_STAT.ENTRY_STEP r) ≥ 3)
  if (owner < 16 ∧ owner ≠ r) ∨ (q.write ∧ !formed) then s.apRefuse q 3
  else if !q.write ∧ s.valleyHidden r c row then s.apRefuse q 4
  else if !s.apTrusted q.fn r then (s.trustDenied q.fn r 2).apRefuse q 6
  else if st = 3 ∨ (gone ∧ target ≠ 2) ∨ s.net.unreachable.contains (r, c) then s.apRefuse q 7
  else if st = 2 ∨ st = 5 ∨ gone then
    { s.wakeRidge r 5 with hp := { s.hp with held := SMap.set [] s.hp.held r (SMap.get [] s.hp.held r ++ [q]) } }
  else
    let s := if st = 4 ∧ target = 2 then s.wakeRidge r 5 else s.dozeWake r
    let x : SharedReq := ⟨q.write, row, q.data, enabledWords q.enables, 50, s.apPacket q r k row⟩
    if !busy && (s.spadAt r c).queue.isEmpty then s.serveShared r c x false corrected bad else s.askShared r c x

/-- An access through a window of KIND cache tier (R749–R752). -/
def Block.apTier (s : Block) (q : ApReq) (busy : Bool) (corrected : Nat) (bad : List (Fin 8)) : Block :=
  let unit := (s.fld (HP_AP_CFG.BASE_G q.window) * 2 ^ 30 + q.offset % 2 ^ 30) / 512
  let owner := s.fld (HP_AP_CFG.OWNER q.window)
  let region := s.ownerOf unit
  let refused := if owner = 16 then region.isNone else (s.cacheRefusal (s.fld FAB_SELF.COORD) owner unit q.write).isSome
  if unit ≥ cacheUnits ∨ (q.write ∧ !wholeUnits 4 q.enables) then s.apRefuse q 3
  else if region = some 17 ∨ s.inServing unit then s.apRefuse q 4
  else if refused then (s.cacheRefuse unit (if region.isNone then 2 else 3)).apRefuse q 4
  else if region.any (fun o => decide (o < 16) && !s.apTrusted q.fn o) then (s.trustDenied q.fn (region.getD 0) 2).apRefuse q 6
  else
    let h := stackOf unit
    let x : CacheReq := ⟨unit, s.fld FAB_SELF.COORD, owner, q.write, q.data, q.enables, s.apPacket q cacheUnit 0 unit⟩
    if !busy && (s.stackQueue h).isEmpty then s.serveUnit x corrected bad else s.setStackQueue h (s.stackQueue h ++ [x])

/-- An aperture access within one row or unit (R751): `busy`, the shared phase or the stack serves another in this cycle. -/
def Block.apAccess (s : Block) (q : ApReq) (busy : Bool) (corrected : Nat) (badWords : List (Fin 64)) (badCodewords : List (Fin 8)) :
    Block :=
  if !s.bit (HP_AP_CFG.VALID q.window) then s.apRefuse q 1
  else if q.write ∧ !s.bit (HP_AP_CFG.WR q.window) then s.apRefuse q 2
  else if s.bit (HP_AP_CFG.KIND q.window) then s.apTier q busy corrected badCodewords
  else s.apScratch q busy corrected badWords

/-- Accesses that waited for a ridge in Nap go on, behind what its scratchpads already hold (R751). -/
def Block.releaseAperture (s : Block) (r : Nat) : Block :=
  let l := SMap.get [] s.hp.held r
  l.foldl (fun t q => t.apAccess q true 0 [] []) { s with hp := { s.hp with held := SMap.del r s.hp.held } }

end Sys2Proof.Machine
end

