-- ==== Sys2Proof/Machine/HostPort.lean ====
section
/-! DEFINITION. Commands of the PCIe host port: the aperture, its windows, the configuration space, the link and IDE
(R611, R743–R752, R767, R804). -/
namespace Sys2Proof.Machine
open Host

/-! ## The aperture -/

/-- APERTURE_READ (R749–R752): function `fn` reads `len` bytes at a BAR2 offset, all within one row or unit; `busy`, the
target serves another access in this cycle; the other operands are what its code finds. A function whose BARs do not decode
answers nothing. -/
def execApertureRead (fn : Fin 17) (offset : BitVec 36) (len : Fin 513) (busy : Bool) (corrected : Nat) (badWords : List (Fin 64))
    (badCodewords : List (Fin 8)) (s : State) : Outcome State Fault Refusal := s.runs fun s =>
  let a := offset.toNat
  let q : ApReq := ⟨fn, apWindow fn a, a % 2 ^ 30, min len.val (512 - a % 512), false, 0, 0⟩
  .next (if s.decodes fn then s.apAccess q busy corrected badWords badCodewords else { s with answer := [] })

/-- APERTURE_WRITE (R749–R752): the row's data with byte enables, bit n for byte n of the row. -/
def execApertureWrite (fn : Fin 17) (offset : BitVec 36) (data : Row) (enables : BitVec 512) (busy : Bool) (corrected : Nat)
    (badWords : List (Fin 64)) (badCodewords : List (Fin 8)) (s : State) : Outcome State Fault Refusal := s.runs fun s =>
  let a := offset.toNat
  let q : ApReq := ⟨fn, apWindow fn a, a % 2 ^ 30, 512, true, data, enables⟩
  .next (if s.decodes fn then s.apAccess q busy corrected badWords badCodewords else { s with answer := [] })

/-- Stores the configuration of the selected window; an OWNER above 16 leaves VALID at 0 (R766). -/
def Block.storeWindow (s : Block) (v : Word) : Block :=
  let v := v &&& 0x0000FFFF#32
  s.setReg (HP_AP_CFG (s.fld HP_AP_SEL.WINDOW)) (if getBits v 3 5 > 16 then putBits v 0 1 0 else v)

/-- A write of HP_AP_SEL or HP_AP_CFG by virtual function r (R749; log entry 61). -/
def Block.vfWindow (s : Block) (r off : Nat) (v : Word) : Block :=
  let window := if off = 0x48 then getBits v 0 6 else s.fld HP_AP_SEL.WINDOW
  if window / 4 ≠ r then s.countDenied
  else if off = 0x48 then s.setFld HP_AP_SEL.WINDOW window
  else s.storeWindow (putBits v 3 5 r)

/-- Whether a DW address of virtual function r's view is HP_AP_SEL or HP_AP_CFG, with its offset. -/
def vfWindowAt (req : Requester) (dw : Nat) : Option Nat :=
  if 1 ≤ req.val ∧ req.val ≤ 16 ∧ (dw * 4 = 0x409048 ∨ dw * 4 = 0x40904C) then some (dw * 4 % 4096) else none

/-- APERTURE_CFG_WRITE (R749, R766). -/
def execApertureCfgWrite (req : Fin 18) (dw : BitVec 26) (v : Word) (s : State) : Outcome State Fault Refusal := s.runs fun s =>
  match vfWindowAt req dw.toNat with
  | some off => .next (if s.bit HP_LINK.UP then s.vfWindow (req.val - 1) off v else s.addReg PM_OFF_ACCESS 1)
  | none => .next (s.command req dw.toNat v .hostPort [0x4C] (fun _ _ _ t => t.storeWindow v))

/-! ## Functions and the link -/

/-- Whether configuration requests of a function succeed: the link is up, the die has reached Standby and the function
exists (R744, R804). -/
def Block.configured (s : Block) (fn : Nat) : Bool :=
  s.bit HP_LINK.UP && decide (s.fld PM_DIE_STAT.STATE = 1 ∨ s.fld PM_DIE_STAT.STATE = 2) && s.fnExists fn

/-- D3HOT_ENTRY (R745). -/
def execD3hotEntry (fn : Fin 17) (s : State) : Outcome State Fault Refusal := s.runs fun s =>
  if s.configured fn ∧ !s.hp.d3.contains fn.val then .next { s with hp := { s.hp with d3 := s.hp.d3 ++ [fn.val] } } else .next s

/-- D0_RETURN (R745): what waited for the function goes on. -/
def execD0Return (fn : Fin 17) (s : State) : Outcome State Fault Refusal := s.runs fun s =>
  if s.configured fn ∧ s.hp.d3.contains fn.val then
    .next { s with hp := { s.hp with d3 := s.hp.d3.filter (fun f => decide (f ≠ fn.val)) } }.pumpRings
  else .next s

/-- Writes NumVFs and VF Enable (R744): a NumVFs above 16 is none of its values and stores a free one; a virtual function that
no longer exists has no configuration. -/
def Block.writeSriov (s : Block) (numvfs : Nat) (enable : Bool) : Block :=
  let s := if numvfs ≤ 16 then s.setFld HP_VF.NUMVF numvfs else s.tick.setFld HP_VF.NUMVF (s.freeNat % 17)
  let s := s.setBit HP_VF.VF_EN enable
  (List.range 16).foldl (fun t r =>
    if t.vfExists r then t
    else { t.setFld ⟨HP_VF, 16 + r, 1⟩ 0 with hp := { t.hp with d3 := t.hp.d3.filter (fun f => decide (f ≠ r + 1)) } }) s

/-- A configuration request that is answered: its data. -/
def Block.config (s : Block) (fn : Nat) (a : CfgAccess) : Block × List Byte :=
  match a with
  | .readIds => (s, bytesOf 2 Config.vendorId ++ bytesOf 2 (if fn = 0 then 0x2416 else 0x2417))
  | .readClass => (s, bytesOf 3 0x120000)
  | .readSubsystem => (s, bytesOf 4 (if s.bit BC_ID_STAT.FRU_OK then Config.subsystemIds else 0))
  | .readSriov => (s, if fn = 0 then bytesOf 4 (s.fld HP_VF.NUMVF + s.fld HP_VF.VF_EN * 2 ^ 16) else bytesOf 4 0)
  | .writeSriov n b => (if fn = 0 then s.writeSriov n b else s, [])
  | .readMsix =>
    let on := if fn = 0 then s.hp.pfMsix else s.bit ⟨HP_VF, 16 + (fn - 1), 1⟩
    (s, bytesOf 2 ((if fn = 0 then 255 else 111) + if on then 2 ^ 15 else 0))
  | .writeMsix b => (if fn = 0 then { s with hp := { s.hp with pfMsix := b } } else s.setBit ⟨HP_VF, 16 + (fn - 1), 1⟩ b, [])
  | .other => (s.tick, bytesOf 4 s.freeNat)

/-- CONFIG_REQUEST (R743, R744, R755, R804): the answer is a completion status (0 Successful, 1 Unsupported Request, 2
Configuration Request Retry) and the data of a read. -/
def execConfigRequest (fn : Fin 17) (access : Machine.CfgAccess) (s : State) : Outcome State Fault Refusal := s.runs fun s =>
  if !s.bit HP_LINK.UP then .next { s with answer := [] }
  else if !s.configured 0 then .next { s with answer := [2] }
  else if !s.fnExists fn then .next { s with answer := [1] }
  else
    let (t, l) := s.config fn access
    .next { t with answer := [0] ++ l }

/-- Whether the link can train so (R743): no rate outside the table, FLIT mode at 64 GT/s. -/
def linkForm (flit : Bool) (speed width : Nat) : Bool :=
  decide (speed = 1 ∨ speed = 3 ∨ speed = 4 ∨ speed = 5 ∨ speed = 6) && (flit || decide (speed ≠ 6))
    && decide (width = 1 ∨ width = 2 ∨ width = 4 ∨ width = 8 ∨ width = 16)

/-- LINK_CHANGE (R743, R767, R804): the link comes up, with both SerDes rails good, changes, or goes down. -/
def execLinkChange (up flit : Bool) (speed width : Nat) (s : State) : Outcome State Fault Refusal := s.runs fun s =>
  if up ∧ (!linkForm flit speed width ∨ !s.bit (PM_RAIL_STAT.PG 6) ∨ !s.bit (PM_RAIL_STAT.PG 7)) then .next s
  else
    let t := if up then
        (((s.setBit HP_LINK.UP true).setBit HP_LINK.FLIT flit).setFld HP_LINK.SPEED speed).setFld HP_LINK.WIDTH width
      else s.setBit HP_LINK.UP false
    let changed := decide (t.fld HP_LINK.UP ≠ s.fld HP_LINK.UP ∨ t.fld HP_LINK.SPEED ≠ s.fld HP_LINK.SPEED
      ∨ t.fld HP_LINK.WIDTH ≠ s.fld HP_LINK.WIDTH)
    .next (if changed then t.raise (diePage 9) Irq.hostPort_LINK_CHANGE else t)

/-- IDE_KM (R611): inside an open SPDM session, for the link stream 0 or a selective stream. Programmed keys come into use with
K_SET_GO. -/
def execIdeKm (session : Word) (stream : Fin 18) (op : Machine.IdeOp) (s : State) : Outcome State Fault Refusal := s.runs fun s =>
  if !s.tr.sessions.any (fun x => decide (x.id = session.toNat) && x.open') then .next { s with answer := [] }
  else
    let old := SMap.get 0 s.hp.ide stream
    let now := match op with
      | .keyProg => if old = 2 then 2 else 1
      | .setGo => if old = 0 then 0 else 2
      | .setStop => if old = 2 then 1 else old
    let t := { s with hp := { s.hp with ide := SMap.set 0 s.hp.ide stream now } }
    let t := if stream.val = 0 then t.setBit HP_LINK.IDE_LINK (decide (now = 2)) else t
    .next { t with answer := [if op = .keyProg then 3 else 6, 0, BitVec.ofNat 8 stream, 0] }

end Sys2Proof.Machine
end

