-- ==== Sys2Proof/Machine/Emits.lean ====
section
/-! DEFINITION. Emits, their verdicts, and what a commit or a retract of an emitting step does (R510, R523–R527, R531, R532,
R562–R564, R580). -/
namespace Sys2Proof.Machine

/-! ## Stop classes (R526) -/

/-- One byte of a stop class's data. -/
def classByte (data n : Nat) : Nat := data / 256 ^ n % 256

/-- A u32 of it. -/
def classWord (data n : Nat) : Nat := data / 256 ^ n % 2 ^ 32

/-- Whether a token is an EOS token of the class. -/
def isEos (data token : Nat) : Bool := (List.range 4).any (fun k => decide (classWord data (4 * k) = token))

/-- The stop strings of a class. -/
def stopStrings (data : Nat) : List (List Nat) :=
  ((List.range (min 32 (classByte data 17))).map (fun n =>
    let l := classByte data (32 + 68 * n)
    if 1 ≤ l ∧ l ≤ 16 then some ((List.range l).map (fun k => classWord data (36 + 68 * n + 4 * k))) else none)).filterMap id

/-- INCLUDE of a class. -/
def classIncludes (data : Nat) : Bool := decide (classByte data 16 % 2 = 1)

/-- Whether the last generated tokens end with a list. -/
def endsWith (l x : List Nat) : Bool := decide (x.length ≤ l.length) && decide (l.drop (l.length - x.length) = x)

/-- The length of the longest stop string that the generated tokens end with; 0 for none. -/
def matchLength (data : Nat) (gen : List Nat) : Nat :=
  ((stopStrings data).filter (endsWith gen)).foldl (fun m x => max m x.length) 0

/-- The length of the longest suffix that is a proper prefix of a stop string (R527). -/
def holdLength (data : Nat) (gen : List Nat) : Nat :=
  (List.range (min 15 gen.length + 1)).foldl (fun m k =>
    if (stopStrings data).any (fun x => decide (k < x.length) && endsWith gen (x.take k)) then k else m) 0

/-! ## Verdicts (R525) -/

/-- The provisional state of a sequence (R510): an emit makes it stop or park; DECODE comes with the commit of its final
prefill block's step (R509). -/
def Seq.provState (x : Seq) : Nat :=
  if x.state ≥ 5 then x.state
  else if x.prov.fin ≠ 0 then 5
  else if x.state = 4 ∨ x.prov.parked then 4
  else x.state

/-- Whether a batch of ridge r for this step holds the FINAL block of a sequence. -/
def Block.finalBlock (s : Block) (r q step : Nat) : Bool :=
  s.serv.batches.any (fun b => decide (b.ridge = r ∧ b.step = step) && b.prefills.any (fun f => decide (f.seq = q) && f.final))

/-- The state of one emit: the machine, the verdicts so far, the sequence of each entry held, and those that ended. -/
structure EmitRun where
  st : Block
  verdicts : List Nat
  taken : List Nat
  ended : List Nat

/-- An entry with a verdict that holds no token. -/
def EmitRun.answer (x : EmitRun) (v : Nat) : EmitRun := { x with verdicts := x.verdicts ++ [v] }

/-- BAD_ENTRY (R525). -/
def EmitRun.bad (x : EmitRun) : EmitRun :=
  { x with st := (x.st.addReg SV_BAD_ENTRY 1).raise (diePage 13) Irq.serving_BAD_ENTRY, verdicts := x.verdicts ++ [6] }

/-- What an accepted token does to a sequence: its new provisional state, and the tokens withheld by its end (R525–R527);
`low` says that the balance after the charge is 0 or below. -/
def Seq.accept (x : Seq) (data token : Nat) (low : Bool) : SeqDyn × Nat :=
  let gen := x.prov.tail ++ [token]
  let next := x.prov.next + 1
  let keep := !classIncludes data
  let base : SeqDyn := { x.prov with next := next, tail := gen.drop (gen.length - 15), hold := 0 }
  let m := matchLength data gen
  if isEos data token then ({ base with fin := 2 }, if keep then 1 else 0)
  else if m ≠ 0 then ({ base with fin := 1 }, if keep then m else 0)
  else if next - x.promptLen ≥ x.maxLen ∨ next = 131072 then ({ base with fin := 3 }, 0)
  else ({ base with hold := if keep then holdLength data gen else 0, parked := x.prov.parked || low }, 0)

/-- The verdict of a state that an accepted token leaves (R301, R525). -/
def acceptVerdict (d : SeqDyn) (low : Bool) : Nat := if d.fin ≠ 0 then d.fin else if low then 4 else 0

/-- The verdict of entry e of an emit (R525). -/
def EmitRun.entry (p : Packet) (x : EmitRun) (e : Nat) : EmitRun :=
  let s := x.st
  let q := rowBits p.data (128 * e) 16
  let flags := rowBits p.data (128 * e + 16) 16
  let token := rowBits p.data (128 * e + 32) 32
  let index := rowBits p.data (128 * e + 64) 32
  let logprob := rowBits p.data (128 * e + 96) 32
  let r := p.src.unit
  match s.seq? q with
  | none => x.bad
  | some y =>
    if y.ridge ≠ r ∨ index ≠ y.prov.next ∨ token = 0xFFFFFFFF ∨ (x.taken.filter (· = q)).length ≥ y.drafts + 1 then x.bad
    else if x.ended.contains q ∨ !(y.provState = 3 ∨ y.provState = 4 ∨ (y.provState = 2 ∧ s.finalBlock r q p.step)) then x.answer 5
    else
      let charge : Nat := if s.bit (SV_ACC_CFG.EN y.account) then 16 else 0
      let low := decide (s.balance y.account - (charge : Int) ≤ 0)
      let (d, drop) := y.accept (SMap.get 0 s.serv.classes y.cls) token low
      let snap := if y.snaps.any (fun n => decide (n.src = p.src ∧ n.step = p.step)) then y.snaps
        else y.snaps ++ [(⟨p.src, p.step, p.rev, y.prov⟩ : Snap)]
      let h : Held := ⟨q, p.src, p.step, p.rev, ⟨index, token, logprob, decide (flags / 2 % 2 = 1)⟩, d.fin, drop, d.hold,
        y.account, charge, false⟩
      let t := (s.setSeq q { y with prov := d, snaps := snap }).modServ (fun z => { z with gate := z.gate ++ [h] })
      ⟨t, x.verdicts ++ [acceptVerdict d low], x.taken ++ [q], if d.fin ≠ 0 then q :: x.ended else x.ended⟩

/-! ## Commits (R531, R562, R564) -/

/-- The epoch whose acknowledgement a token committed now waits for on a twin-strict active die; 0 for none (R580, R581). -/
def Block.tokenEpoch (s : Block) : Nat :=
  if s.fld TW_CTL.ROLE = 1 ∧ !s.bit TW_CTL.MODE then s.nextEpoch else 0

/-- Queues the record of a token (R534). -/
def Block.tokenRecord (s : Block) (q : Nat) (x : Seq) (flags : Nat) (final : Bool) (t : OutTok) : Block :=
  let lp := if x.logprob then 1 else 0
  let o : OutRec := ⟨q, x.ring, recordOf q (lp + flags + (if t.acc then 128 else 0)) t.token t.index (if x.logprob then t.logprob else 0),
    s.tokenEpoch, true, final⟩
  let u := s.putRecord o
  if s.fld TW_CTL.ROLE = 1 then { u with tw := { u.tw with tokens := u.tw.tokens ++ [o] } } else u

/-- A held token's step has committed: its charge is taken, and the tokens that nothing holds back become records
(R527, R531). -/
def Block.releaseHeld (s : Block) (h : Held) : Block :=
  let s := if h.charge = 0 then s else s.setReg (SV_ACC_BAL h.account) (s.reg (SV_ACC_BAL h.account) - BitVec.ofNat 32 h.charge)
  if h.dead then s
  else match s.seq? h.seq with
  | none => s
  | some x =>
    let all := x.back ++ [h.tok]
    if h.fin = 0 then
      let out := all.take (all.length - h.hold)
      (out.foldl (fun t k => t.tokenRecord h.seq x 0 false k) s).setSeq h.seq { x with back := all.drop (all.length - h.hold) }
    else
      let t := s.setSeq h.seq { x with back := [] }
      let out := all.take (all.length - h.drop)
      if h.drop = 0 then
        match out.getLast? with
        | some last => (out.dropLast.foldl (fun t k => t.tokenRecord h.seq x 0 false k) t).tokenRecord h.seq x (2 + h.fin * 4) true last
        | none => t
      else (out.foldl (fun t k => t.tokenRecord h.seq x 0 false k) t).endEvent h.seq x h.fin

/-- Whether step T is S or comes before it. -/
def upTo (S T : Nat) : Bool := decide (T = S) || stepBefore T S

/-- What a sequence becomes when the steps of a source up to S commit. -/
def Seq.commitTo (x : Seq) (src : Source) (S : Nat) : Seq :=
  let done (n : Snap) : Bool := decide (n.src = src) && upTo S n.step
  let left := x.snaps.filter (fun n => !done n)
  { x with com := match left with | n :: _ => n.old | [] => x.prov, snaps := left }

/-- A sequence whose committed state has changed: it stops, or parks (R509, R512, R525). -/
def Block.settleSeq (s : Block) (q : Nat) : Block :=
  match s.seq? q with
  | none => s
  | some x =>
    if x.com.fin ≠ 0 ∧ x.state < 5 then (s.setSeq q { x with state := 5, reasons := [] }).storeSeq q
    else if x.com.parked ∧ x.state < 4 then s.park q 1
    else s.storeSeq q

/-- A prefill block's step has committed (R509, R516). -/
def Block.commitPrefill (s : Block) (f : PrefillRow) : Block :=
  let t := s.modSeq f.seq (fun x =>
    let y := { x with prefilled := x.prefilled + f.count }
    if !f.final then y
    else if x.state = 2 then { y with state := 3 }
    else if x.state = 4 then { y with prior := 3 }
    else y)
  (t.treeInsert f).storeSeq f.seq

/-- Sends a COMMIT for a batch (R562). -/
def Block.commitBatch (s : Block) (b : Batch) : Block :=
  (b.dsts.map (·.1)).eraseDups.foldl (fun t d => t.send (ctlMessage .commitMsg s.servingSource d b.step 0 b.rev)) s

/-- The batches after the steps of a source up to S have committed: prefill blocks become committed, and a batch that
rests on nothing uncommitted any more is committed (R516, R562). -/
def Block.commitBatches (s : Block) (src : Source) (S : Nat) : Block :=
  let mine (b : Batch) : Bool := decide (b.ridge = src.unit) && upTo S b.step
  let done (d : Source × Nat) : Bool := decide (d.1 = src) && upTo S d.2
  let rows := ((s.serv.batches.filter mine).map (·.prefills)).flatten
  let t := rows.foldl (fun t f => t.commitPrefill f) s
  let next := s.serv.batches.map (fun b =>
    { b with prefills := if mine b then [] else b.prefills, deps := b.deps.filter (fun d => !done d) })
  let due := (s.serv.batches.zip next).filter (fun e => !e.1.deps.isEmpty && e.2.deps.isEmpty && e.2.affected.isEmpty)
  let t := due.foldl (fun t e => t.commitBatch e.2) t
  t.modServ (fun y => { y with
    batches := next.filter (fun b => !(b.deps.isEmpty && b.prefills.isEmpty && b.affected.isEmpty)) })

/-- The steps of a source up to S are committed (R564). -/
def Block.commitStep (s : Block) (src : Source) (S : Nat) : Block :=
  let mine (h : Held) : Bool := decide (h.src = src) && upTo S h.step
  let hit (x : Nat × Seq) : Bool := x.2.snaps.any (fun n => decide (n.src = src) && upTo S n.step)
  let seqs := (s.serv.seqs.filter hit).map (·.1)
  let t := seqs.foldl (fun t q => t.modSeq q (fun x => x.commitTo src S)) s
  let t := (s.serv.gate.filter mine).foldl (fun t h => t.releaseHeld h)
    (t.modServ (fun y => { y with gate := y.gate.filter (fun h => !mine h) }))
  let t := seqs.foldl (fun t q => t.settleSeq q) t
  let t := t.commitBatches src S
  t.modServ (fun y => { y with
    uncommitted := y.uncommitted.filter (fun e => !(decide (e.1 = src) && upTo S e.2)),
    voids := y.voids.filter (fun v => !(decide (v.src = src) && upTo S v.last)) })

/-! ## Emits at the serving unit (R510, R519, R525) -/

/-- The VERDICT fields of an emit's completion, entry e at bits 16e. -/
def verdictRow (l : List Nat) : Row :=
  BitVec.ofNat 4096 (l.zipIdx.foldl (fun v e => v + e.1 % 2 ^ 16 * 2 ^ (16 * e.2)) 0)

/-- An emit is answered (R525). -/
def Block.answerEmit (s : Block) (p : Packet) : Block :=
  let n := min 32 p.arg
  if s.fld (SV_SCHED.MODE p.src.unit) = 0 ∨ s.fld (SV_SCHED.MODE p.src.unit) = 3 then
    s.reply p .completion 0 (verdictRow (List.replicate n 5))
  else
    let x := (List.range n).foldl (fun x e => EmitRun.entry p x e) (⟨s, [], [], []⟩ : EmitRun)
    let key := (p.src, p.step)
    let t := x.st.modServ (fun y => { y with
      uncommitted := if x.taken.isEmpty ∨ y.uncommitted.contains key then y.uncommitted else y.uncommitted ++ [key] })
    let t := t.reply p .completion 0 (verdictRow x.verdicts)
    if p.prov then t else t.commitStep p.src p.step

/-- Whether an emit must wait: it is of a fifth uncommitted step of its ridge (R510). -/
def Block.emitWaits (s : Block) (p : Packet) : Bool :=
  p.prov && !s.serv.uncommitted.contains (p.src, p.step) && decide (s.openEmits p.src.unit ≥ 4)

/-- Whether a packet is void at the serving unit (R556). -/
def Block.servVoid (s : Block) (p : Packet) : Bool :=
  s.serv.voids.any (fun v => decide (v.src = p.src) && (decide (v.step = p.step) || stepBefore v.step p.step)
    && !revNewer p.rev v.rev)

/-- An emit that has arrived. -/
def Block.takeEmit (s : Block) (p : Packet) : Block :=
  if s.servVoid p then s.turnAway p 3
  else if s.emitWaits p then s.modServ (fun y => { y with emits := y.emits ++ [p] })
  else s.answerEmit p

/-- Emits that waited are looked at again, in order of arrival (R510). -/
def Block.pumpEmits (s : Block) : Block :=
  s.serv.emits.foldl (fun t p => t.takeEmit p) (s.modServ (fun y => { y with emits := [] }))

/-! ## Retracts (R532, R563) -/

/-- Whether an entry of a source at a step and revision is hit by a retract. -/
def retracted (src : Source) (S rev : Nat) (src' : Source) (step' rev' : Nat) : Bool :=
  decide (src' = src) && (decide (step' = S) || stepBefore S step') && !revNewer rev' rev

/-- What a sequence becomes: it goes back to before its first retracted step. -/
def Seq.retractTo (x : Seq) (src : Source) (S rev : Nat) : Seq :=
  let kept := x.snaps.takeWhile (fun n => !retracted src S rev n.src n.step n.rev)
  match x.snaps.drop kept.length with
  | [] => x
  | n :: _ => { x with prov := n.old, snaps := kept }

/-- A batch that holds an entry taken from a discarded verdict: the serving unit's revision rises, RETRACT goes to its
destinations, and the entry's sequence is to be rewritten (R563). -/
def Block.retractBatch (s : Block) (seqs : List Nat) (src : Source) (S : Nat) (b : Batch) : Block :=
  let hitDep (o : Option (Source × Nat)) : Bool := o.any (fun d => decide (d.1 = src) && (decide (d.2 = S) || stepBefore S d.2))
  let hit := (b.decodes.filter (fun e => seqs.contains e.seq && hitDep e.dep)).map (·.seq)
  if hit.isEmpty then s.modServ (fun y => { y with batches := y.batches ++ [b] })
  else
    let old := s.serv.rev
    let t := s.modServ (fun y => { y with
      rev := (y.rev + 1) % 256, batches := y.batches ++ [{ b with rev := (old + 1) % 256, affected := (b.affected ++ hit).eraseDups }] })
    (b.dsts.map (·.1)).eraseDups.foldl (fun t d => t.send (ctlMessage .retractMsg s.servingSource d b.step b.step old)) t

/-- A retract of step S of a source at the serving unit (R532, R556, R563). -/
def Block.retractServing (s : Block) (src : Source) (S last rev : Nat) : Block :=
  let first := s.serv.gate.filter (fun h => retracted src S rev h.src h.step h.rev)
  let seqs := ((first.map (·.seq)) ++ ((s.serv.seqs.filter (fun x =>
    x.2.snaps.any (fun n => retracted src S rev n.src n.step n.rev))).map (·.1))).eraseDups
  let gone (h : Held) : Bool := retracted src S rev h.src h.step h.rev || (seqs.contains h.seq && stepBefore S h.step)
  let t := seqs.foldl (fun t q => t.modSeq q (fun x => x.retractTo src S rev)) s
  let t := t.modServ (fun y => { y with
    gate := y.gate.filter (fun h => !gone h),
    voids := y.voids ++ [⟨src, S, last, rev⟩],
    uncommitted := y.uncommitted.filter (fun e => !(decide (e.1 = src) && (decide (e.2 = S) || stepBefore S e.2))) })
  s.serv.batches.foldl (fun t b => t.retractBatch seqs src S b) (t.modServ (fun y => { y with batches := [] }))

end Sys2Proof.Machine
end

