-- ==== Sys2Proof/Machine/Batches.lean ====
section
/-! DEFINITION. Requests, walks and batches of the serving unit (R506–R508, R515, R519–R521, R563). -/
namespace Sys2Proof.Machine

/-! ## Requests (R506–R508) -/

/-- `n` bytes of a submission entry from byte `k`. -/
def reqField (v : BitVec 512) (k n : Nat) : Nat := v.toNat / 256 ^ k % 256 ^ n

/-- Whether the fields that every operation has lie in their ranges: no reserved bit set, and a known OP. -/
def reqFormed (v : BitVec 512) : Bool :=
  let op := reqField v 0 1
  decide (1 ≤ op ∧ op ≤ 6) && decide (reqField v 1 1 < 16) && decide (reqField v 24 2 < 2 ^ 13) && decide (reqField v 26 2 = 0)
    && decide (reqField v 44 20 = 0) && decide (op = 6 ∨ reqField v 2 2 < 32768)

/-- Live sequences of a ridge. -/
def Block.liveOf (s : Block) (r : Nat) : Nat := (s.serv.seqs.filter (fun x => decide (x.2.ridge = r))).length

/-- OPEN (R507, R508): the refusal code, or the state after it. -/
def Block.openRequest (s : Block) (r : Nat) (v : BitVec 512) : Except Nat Block :=
  let q := reqField v 2 2
  let flags := reqField v 1 1
  let account := reqField v 4 2
  let cls := reqField v 6 1
  let ring := reqField v 7 1
  let topk := reqField v 24 2 % 512
  let drafts := reqField v 24 2 / 512
  let len := reqField v 28 4
  let limit := reqField v 32 4
  let addr := reqField v 36 8
  if (s.seq? q).isSome then .error 1
  else if account / 256 ≠ r ∨ cls / 16 ≠ r ∨ ring / 16 ≠ r then .error 2
  else if topk = 0 ∨ topk > 256 ∨ drafts > 8 ∨ len = 0 ∨ len > 131071 ∨ limit = 0 ∨ addr % 64 ≠ 0 ∨ flags / 4 = 3
      ∨ !s.bit (SV_ACC_CFG.EN account) ∨ !s.bit (SV_RING_CFG.EN ring) then .error 3
  else if s.liveOf r ≥ s.fld (SV_QUOTA.SEQS r) then .error 5
  else
    let d : SeqDyn := ⟨len, [], 0, 0, false⟩
    let share := decide (flags % 2 = 1)
    let logprob := decide (flags / 2 % 2 = 1)
    let x : Seq := ⟨1, [], 0, r, share, logprob, flags / 4, account, cls, ring, topk, drafts, reqField v 8 8, reqField v 16 4,
      reqField v 20 4, len, limit, addr, d, d, [], [], 0, 0, 0, [], 0, none, s.serv.opens⟩
    .ok (((s.modServ (fun y => { y with opens := y.opens + 1 })).setSeq q x).storeSeq q)

/-- CANCEL, RELEASE, PARK and RESUME (R507). -/
def Block.seqRequest (s : Block) (r op q : Nat) : Except Nat Block :=
  match s.seq? q with
  | none => .error 4
  | some x =>
    if x.ridge ≠ r then .error 2
    else match op with
    | 2 => if 1 ≤ x.state ∧ x.state ≤ 4 then .ok (s.stopSeq q 4) else .error 4
    | 3 => if x.state = 6 then .ok ((s.modServ (fun y => { y with seqs := SMap.del q y.seqs })).storeSeq q) else .error 4
    | 4 => if x.state = 2 ∨ x.state = 3 then .ok (s.park q 4) else .error 4
    | _ => if x.state = 4 then .ok ((s.setSeq q { x with reasons := x.reasons.filter (· ≠ 4) }).resumeSeq q) else .error 4

/-- SET_STOP (R507, R508, R526); `data` is the class data, `none` where the fetch fails. -/
def Block.stopRequest (s : Block) (r : Nat) (v : BitVec 512) (data : Option (BitVec 32768)) : Except Nat Block :=
  let c := reqField v 6 1
  if c / 16 ≠ r then .error 2
  else if reqField v 36 8 % 64 ≠ 0 then .error 3
  else if s.serv.seqs.any (fun x => decide (x.2.cls = c)) then .error 6
  else match data with
  | none => .error 7
  | some d => .ok ((s.modServ (fun y => { y with classes := SMap.set 0 y.classes c d.toNat })).areaWrite (0x1C900000 + c * 4096)
      (leBytes 4096 d.toNat))

/-- A refused request (R508): counted, raised, and reported on a ring of the ridge that is enabled. -/
def Block.refuseRequest (s : Block) (r n : Nat) (v : BitVec 512) (code : Nat) : Block :=
  let t := (s.addReg SV_REQ_ERR 1).raise (diePage 13) Irq.serving_REQ_REFUSED
  let ring := reqField v 7 1
  if ring / 16 = r ∧ t.bit (SV_RING_CFG.EN ring) then t.event (reqField v 2 2) ring 0 n 4 code false else t

/-- The serving unit acts on a submission entry (R506–R508). -/
def Block.request' (s : Block) (r n : Nat) (v : BitVec 512) (data : Option (BitVec 32768)) : Block :=
  let op := reqField v 0 1
  let result : Except Nat Block :=
    if !reqFormed v then .error 3
    else if op = 1 then s.openRequest r v
    else if op = 6 then s.stopRequest r v data
    else s.seqRequest r op (reqField v 2 2)
  match result with
  | .ok t => t
  | .error code => s.refuseRequest r n v code

/-! ## The walk (R515) -/

/-- The walk from block b on, with the blocks found. -/
def Block.walkFrom (s : Block) (q r : Nat) (tokens : List Nat) (blocks : Nat) (parent : Option (Nat × Nat)) : Nat → Block
  | 0 => s
  | n + 1 =>
    let b := blocks - (n + 1)
    let block := (tokens.drop (64 * b)).take 64
    let h := s.blockHash r (parent.map (·.2)) block
    let (seen, found) := s.findNode r h
    let t := s.visits (seen + 1)
    match found with
    | none => t
    | some (i, node) =>
      if node.tokens ≠ block then t.collision
      else
        let node' := { node with refs := node.refs + 1, lru := if node.lru = 0xFFFFFFFF then node.lru else t.nowMs }
        let t := ((t.modServ (fun y => { y with nodes := SMap.ins i node' y.nodes })).storeNode i h).addReg SP_HITS 1
        let t := t.modSeq q (fun x => { x with
          blocks := x.blocks ++ [node.handle], cached := x.cached + 64, inTree := x.inTree + 1, node := some i })
        t.walkFrom q r tokens blocks (some (i, h)) n

/-- The walk of an opened sequence ends (R515, R523): `tokens` are its prompt. -/
def Block.walk (s : Block) (q : Nat) (x : Seq) (tokens : List Nat) : Block :=
  let blocks := (x.promptLen - 1) / 64
  let t := if s.bit SP_CTL_WALKER.EN then s.walkFrom q x.ridge tokens blocks none blocks else s
  match t.seq? q with
  | none => t
  | some y =>
    let t := t.setSeq q { y with state := 2, prefilled := y.cached, scheduled := y.cached / 64 }
    (t.chargeNow x.account (y.cached * s.fld (SV_ACC_CFG.CACHED_W x.account))).storeSeq q

/-! ## Composition (R519–R521) -/

/-- The sequences of a ridge in a provisional state, in the order in which composition takes them: by CLASS, and within a
class by `key`. -/
def Block.inOrder (s : Block) (r st : Nat) (key : Nat → Nat × Seq → Nat) : List (Nat × Seq) :=
  let l := s.serv.seqs.filter (fun x => decide (x.2.ridge = r ∧ x.2.provState = st))
  ((List.range 4).map (fun c =>
    (l.filter (fun x => decide (s.fld (SV_ACC_CFG.CLASS x.2.account) = c))).foldr (insertBySlot (key c)) [])).flatten

/-- What keeps a sequence out of a batch: a park reason of R512, or the state with its handles. -/
def Block.admitSeq (s : Block) (q : Nat) (x : Seq) (blocks : Nat) : Except Nat Block :=
  if !s.bit (SV_ACC_CFG.EN x.account) ∨ s.balance x.account ≤ 0 then .error 1
  else if s.ringFree x.ring < 64 then .error 3
  else match s.kvFill q (min 2048 blocks) with
  | none => .error 2
  | some t => .ok t

/-- A batch in the making. -/
structure Making where
  st : Block
  decodes : List DecEntry
  prefills : List PrefillRow

/-- The last token that a sequence has, at position INDEX − 1; `given` where it is the prompt's last. -/
def Seq.lastToken (x : Seq) (given : Nat) : Nat := x.prov.tail.getLast?.getD given

/-- A decode entry is taken, or its sequence parks (R520). -/
def Making.decode (limit r : Nat) (given : Nat → List Nat) (m : Making) (e : Nat × Seq) : Making :=
  let (q, x) := e
  if m.decodes.length ≥ limit then m
  else match m.st.admitSeq q x ((x.prov.next + x.drafts) / 64 + 1) with
  | .error reason => { m with st := m.st.park q reason }
  | .ok t =>
    let entry : DecEntry := ⟨q, x.topk + x.drafts * 512, x.prov.next, x.lastToken ((given q).headD 0), x.temp, x.topp, x.key,
      x.snaps.getLast?.map (fun n => (n.src, n.step))⟩
    let k := r * 4 + t.fld (SV_ACC_CFG.CLASS x.account)
    { m with
      st := t.modServ (fun y => { y with lastSeq := SMap.ins k q y.lastSeq }), decodes := m.decodes ++ [entry] }

/-- A prefill block is taken and charged, or its sequence parks (R520, R523). -/
def Making.prefill (limit : Nat) (given : Nat → List Nat) (m : Making) (e : Nat × Seq) : Making :=
  let (q, x) := e
  if m.prefills.length ≥ limit ∨ 64 * x.scheduled ≥ x.promptLen then m
  else match m.st.admitSeq q x (x.scheduled + 1) with
  | .error reason => { m with st := m.st.park q reason }
  | .ok t =>
    let b := x.scheduled
    let count := min 64 (x.promptLen - 64 * b)
    let handle := ((t.seq? q).bind (fun y => y.blocks[b]?)).getD 0
    let tokens := (List.range count).map (fun k => (given q).getD k 0)
    let row : PrefillRow := ⟨q, b, count, handle, decide (64 * (b + 1) ≥ x.promptLen), x.topk + x.drafts * 512, x.temp, x.topp, x.key,
      tokens⟩
    let t := t.chargeNow x.account (count * t.fld (SV_ACC_CFG.PREFILL_W x.account))
    { m with st := t.modSeq q (fun y => { y with scheduled := b + 1 }), prefills := m.prefills ++ [row] }

/-- The valid destinations of a ridge's batches, with core and region (R520). -/
def Block.batchTargets (s : Block) (r : Nat) : List (Source × Nat × Nat) :=
  ((List.range 4).map (fun k =>
    if s.bit (SV_DST.VALID k r) then
      let die := if s.bit (SV_DST.REMOTE k r) then s.fld (SV_DST.DIE k r) else s.fld FAB_SELF.COORD
      let ridge := s.fld (SV_DST.RIDGE k r)
      let half := if s.bit (SV_DST.REMOTE k r) then s.fld (SV_DST.HALF k r) else s.halfOf ridge
      some ((⟨die, half, ridge⟩ : Source), s.fld (SV_DST.CORE k r), s.fld (SV_DST.REGION k r))
    else none)).filterMap id

/-- A row from its bytes, lowest first. -/
def rowOfBytes (l : List Nat) : Row := BitVec.ofNat 4096 (l.foldr (fun b v => b % 256 + 256 * v) 0)

/-- The bytes of a decode entry (R521). -/
def DecEntry.bytes (e : DecEntry) : List Nat :=
  leBytes 2 e.seq ++ leBytes 2 e.spec ++ leBytes 4 e.index ++ leBytes 4 e.last ++ leBytes 4 e.temp ++ leBytes 4 e.topp
    ++ leBytes 8 e.key ++ leBytes 4 0

/-- An unused decode entry. -/
def unusedEntry : List Nat := leBytes 32 0xFFFF

/-- The bytes of a prefill row (R521). -/
def PrefillRow.bytes (f : PrefillRow) : List Nat :=
  leBytes 2 f.seq ++ leBytes 2 f.count ++ leBytes 4 (64 * f.block) ++ leBytes 4 f.handle ++ [if f.final then 1 else 0, 0, 0, 0]
    ++ leBytes 8 f.key ++ leBytes 4 f.temp ++ leBytes 4 f.topp ++ leBytes 2 f.spec ++ List.replicate 30 0
    ++ (f.tokens.map (leBytes 4)).flatten

/-- The rows of a batch: header, decode rows of 16 entries, prefill rows (R520, R521). -/
def Batch.rows (b : Batch) : List Row :=
  let header := rowOfBytes (leBytes 4 b.step ++ leBytes 2 b.decodes.length ++ leBytes 2 b.prefills.length ++ [b.ridge])
  let decRows := (List.range ((b.decodes.length + 15) / 16)).map (fun k =>
    rowOfBytes ((List.range 16).map (fun e => match b.decodes[16 * k + e]? with | some d => d.bytes | none => unusedEntry)).flatten)
  header :: decRows ++ b.prefills.map (fun f => rowOfBytes f.bytes)

/-- Sends the rows of a batch to each of its destinations as REGION pushes (R520, R562). -/
def Block.sendBatch (s : Block) (b : Batch) : Block :=
  let prov := !b.deps.isEmpty
  b.dsts.foldl (fun t d => b.rows.foldl (fun t row => t.send { Packet.blank with
    op := .batchRow, src := s.servingSource, dst := d.1, dstCore := d.2.1, addr := d.2.2, step := b.step, rev := b.rev, prov := prov,
    gen := s.fld FAB_GEN.GEN, data := row, vc := 3 }) t) s

/-- Takes 1 from the ready cell of a ridge as source 51 (R330, R519). -/
def Block.claimReady (s : Block) (r : Nat) : Block :=
  let cell := s.fld (SV_SCHED_CELL.CELL r)
  s.setCell r cell (s.reg (SYNC_VAL r cell) - 1)

/-- Composes and writes a batch of ridge r (R519–R521); `given` is the tokens that the serving unit fetches of a sequence:
its next prefill block, or the last token of its prompt. -/
def Block.compose (s : Block) (r : Nat) (given : Nat → List Nat) : Block :=
  let after (c : Nat) (e : Nat × Seq) : Nat :=
    match SMap.find (r * 4 + c) s.serv.lastSeq with
    | some last => (e.1 + 32768 - last - 1) % 32768
    | none => e.1
  let off := s.serv.seqs.filter (fun x => decide (x.2.ridge = r) && decide (x.2.state = 2 ∨ x.2.state = 3)
    && !s.bit (SV_ACC_CFG.EN x.2.account))
  let t := off.foldl (fun t x => t.park x.1 1) s
  let limit := s.fld (SV_SCHED.BATCH_MAX r)
  let m := (t.inOrder r 3 after).foldl (Making.decode limit r given) ⟨t, [], []⟩
  let m := (m.st.inOrder r 2 (fun _ e => e.2.opened)).foldl (Making.prefill (s.fld (SV_SCHED.PREFILL_BLOCKS r)) given) m
  if m.decodes.isEmpty ∧ m.prefills.isEmpty then m.st
  else
    let t := m.st.claimReady r
    let own := (t.step r + 1) % 2 ^ 32
    let step := match SMap.find r t.serv.nextStep with
      | some n => if stepBefore own n then n else own
      | none => own
    let b : Batch := ⟨r, step, t.serv.rev, t.batchTargets r, ((m.decodes.map (·.dep)).filterMap id).eraseDups, m.decodes, m.prefills, []⟩
    let t := t.modServ (fun y => { y with
      nextStep := SMap.ins r ((step + 1) % 2 ^ 32) y.nextStep,
      batches := if b.deps.isEmpty && b.prefills.isEmpty then y.batches else y.batches ++ [b] })
    t.sendBatch b

/-! ## Amended batches (R563) -/

/-- The state that a step leaves in a sequence, while the step is uncommitted. -/
def Seq.afterStep (x : Seq) (d : Source × Nat) : Option SeqDyn :=
  match x.snaps.dropWhile (fun n => decide ((n.src, n.step) ≠ d)) with
  | [] => none
  | [_] => some x.prov
  | _ :: n :: _ => some n.old

/-- What a replay left of an entry's sequence: `none` while the replay has not answered for it. -/
def Block.replayed (s : Block) (b : Batch) (e : DecEntry) : Option SeqDyn :=
  match s.seq? e.seq, e.dep with
  | some x, some d =>
    if x.state ≥ 5 then some { x.com with fin := max 1 x.com.fin }
    else match x.afterStep d with
    | some y => some y
    | none => if b.deps.contains d then none else some x.com
  | _, _ => some ⟨0, [], 0, 1, false⟩

/-- An affected entry rewritten from the replay's verdicts. -/
def DecEntry.amend (e : DecEntry) (d : SeqDyn) : DecEntry :=
  if d.fin ≠ 0 ∨ d.parked then { e with seq := 0xFFFF }
  else { e with index := d.next, last := d.tail.getLast?.getD e.last }

/-- Writes the amended batch once every affected sequence is answered (R563). -/
def Block.amendBatch (s : Block) (b : Batch) : Block :=
  let hit (e : DecEntry) : Bool := b.affected.contains e.seq
  if b.affected.isEmpty ∨ b.decodes.any (fun e => hit e && (s.replayed b e).isNone) then s
  else
    let entries := b.decodes.map (fun e => if hit e then (match s.replayed b e with | some d => e.amend d | none => e) else e)
    let b' := { b with decodes := entries, affected := [] }
    let rest := s.serv.batches.filter (fun x => decide (x ≠ b))
    let t := (s.modServ (fun y => { y with
      batches := if b'.deps.isEmpty && b'.prefills.isEmpty then rest else rest ++ [b'] })).sendBatch b'
    if b'.deps.isEmpty then t.commitBatch b' else t

end Sys2Proof.Machine
end

