-- ==== Sys2Proof/Machine/Serving.lean ====
section
/-! DEFINITION. The commands of the serving unit and the spoor walker (R502–R540, R562–R564). -/
namespace Sys2Proof.Machine
open Host

/-- A pointer or configuration write that is ignored (R536). -/
def Block.queueErr (s : Block) : Block := (s.addReg SV_REQ_ERR 1).raise (diePage 13) Irq.serving_QUEUE_ERR

/-- SQ_TAIL_WRITE (R506, R536). -/
def execSqTailWrite (req : Fin 18) (dw : BitVec 26) (v : Word) (s : State) : Outcome State Fault Refusal := s.runs fun s =>
  .next (s.command req dw.toNat v .serving [0x70] (fun _ _ r t =>
    if (v - t.reg (SV_SQ_HEAD r)).toNat > 2 ^ t.fld (SV_SQ_CFG.LOG2 r) then t.queueErr else t.setReg (SV_SQ_TAIL r) v))

/-- The entry that a ridge's queue holds next is fetched and acted on (R506); `entry` is `none` where the fetch fails. -/
def Block.fetchRequest (s : Block) (r : Nat) (entry : Option (BitVec 512)) (data : Option (BitVec 32768)) : Block :=
  if !s.bit SV_CTL.EN ∨ !s.bit (SV_SQ_CFG.EN r) ∨ s.reg (SV_SQ_HEAD r) = s.reg (SV_SQ_TAIL r) ∨ s.hostWaits r then s
  else
    let n := (s.reg (SV_SQ_HEAD r)).toNat
    let t := s.wrapReg (SV_SQ_HEAD r) 1
    match entry with
    | none => ((t.addReg SV_REQ_ERR 1).raise (diePage 13) Irq.serving_REQ_REFUSED).servEnd
    | some v => (t.request' r n v data).servEnd

/-- A fetch of an entry with a given OP. -/
def Block.fetchOp (s : Block) (r op : Nat) (v : BitVec 512) (data : Option (BitVec 32768)) : Block :=
  if reqField v 0 1 = op then s.fetchRequest r (some v) data else s

/-- SUBMISSION_FETCH (R506–R508): `entry` is what the queue holds in host memory, `data` what a SET_STOP's ADDR holds. -/
def execSubmissionFetch (r : RidgeId) (entry : Option (BitVec 512)) (data : Option (BitVec 32768)) (s : State) :
    Outcome State Fault Refusal := s.runs fun s =>
  .next (s.fetchRequest r entry data)

/-- OPEN (R507, R508). -/
def execOpenSeq (r : RidgeId) (entry : BitVec 512) (s : State) : Outcome State Fault Refusal := s.runs fun s => .next (s.fetchOp r 1 entry none)

/-- CANCEL (R507). -/
def execCancel (r : RidgeId) (entry : BitVec 512) (s : State) : Outcome State Fault Refusal := s.runs fun s => .next (s.fetchOp r 2 entry none)

/-- RELEASE (R507). -/
def execRelease (r : RidgeId) (entry : BitVec 512) (s : State) : Outcome State Fault Refusal := s.runs fun s => .next (s.fetchOp r 3 entry none)

/-- PARK (R507, R512). -/
def execPark (r : RidgeId) (entry : BitVec 512) (s : State) : Outcome State Fault Refusal := s.runs fun s => .next (s.fetchOp r 4 entry none)

/-- RESUME (R507, R512). -/
def execResume (r : RidgeId) (entry : BitVec 512) (s : State) : Outcome State Fault Refusal := s.runs fun s => .next (s.fetchOp r 5 entry none)

/-- SET_STOP (R507, R508, R526). -/
def execSetStop (r : RidgeId) (entry : BitVec 512) (data : Option (BitVec 32768)) (s : State) : Outcome State Fault Refusal := s.runs fun s =>
  .next (s.fetchOp r 6 entry data)

/-- WALK_DONE (R515, R523): `prompt` is the sequence's prompt, `none` where its fetch fails (R534). -/
def execWalkDone (q : BitVec 15) (prompt : Option (List Word)) (s : State) : Outcome State Fault Refusal := s.runs fun s =>
  match s.seq? q.toNat with
  | none => .next s
  | some x =>
    if x.state ≠ 1 ∨ s.hostWaits x.ridge then .next s
    else match prompt with
    | none => .next (s.stopSeq q.toNat 5).servEnd
    | some l => .next (s.walk q.toNat x (l.map (·.toNat))).servEnd

/-- Whether the serving unit may compose a batch of a ridge now (R519, R533). -/
def Block.composes (s : Block) (r : Nat) : Bool :=
  s.bit SV_CTL.EN && decide (s.fld (SV_SCHED.MODE r) = 1) && decide (s.gateHeld < 65536) && !s.bit PM_PF_STAT.LATCHED
    && s.reg (SYNC_VAL r (s.fld (SV_SCHED_CELL.CELL r))) ≠ 0

/-- BATCH_COMPOSE (R519–R521, R562): `given` lists, for a sequence, the tokens that the serving unit fetches of its prompt:
those of its next prefill block. -/
def execBatchCompose (r : RidgeId) (given : List (BitVec 15 × List Word)) (s : State) : Outcome State Fault Refusal := s.runs fun s =>
  let tokens (q : Nat) : List Nat := ((given.find? (fun e => decide (e.1.toNat = q))).map (fun e => e.2.map (·.toNat))).getD []
  .next (if s.composes r then (s.compose r tokens).servEnd else s)

/-- One millisecond of an account's refill (R522). -/
def Block.refill (s : Block) (a : Nat) : Block :=
  let rem := SMap.get 0 s.serv.accRem a
  let total := rem + s.fld (SV_ACC_RATE.RATE a) * 16
  let bal := min (s.signed (SV_ACC_BAL a) + (total / 1000 : Nat)) ((s.fld (SV_ACC_BURST.BURST a) * 16 : Nat) : Int)
  (s.setReg (SV_ACC_BAL a) (BitVec.ofInt 32 bal)).modServ (fun y => { y with accRem := SMap.set 0 y.accRem a (total % 1000) })

/-- BUDGET_REFILL (R512, R522). -/
def execBudgetRefill (s : State) : Outcome State Fault Refusal := s.runs fun s =>
  .next ((List.range 4096).foldl (fun t a => t.refill a) s).servEnd

/-- EMIT_ARRIVAL (R301, R510, R519, R525). -/
def blkEmitArrival (p : Packet) (s : Block) : Outcome Block Fault Refusal :=
  if p.op ≠ .emit ∨ p.dst.unit ≠ 16 then .next s
  else
    let (t, ok) := s.arrive p
    .next (if ok then (t.takeEmit p).servEnd else t)
/-- EmitArrival (R301, R510, R519, R525): the effect of blkEmitArrival. -/
def execEmitArrival (p : Packet) (s : State) : Outcome State Fault Refusal :=
  s.runs (blkEmitArrival p)

/-- FINAL_COMMIT (R510, R516, R531, R562, R564). -/
def blkFinalCommit (p : Packet) (s : Block) : Outcome Block Fault Refusal :=
  if p.op ≠ .commitMsg ∨ p.dst.unit ≠ 16 then .next s
  else
    let (t, ok) := s.arrive p
    .next (if ok then ((t.commitStep p.src p.step).pumpEmits).servEnd else t)
/-- FinalCommit (R510, R516, R531, R562, R564): the effect of blkFinalCommit. -/
def execFinalCommit (p : Packet) (s : State) : Outcome State Fault Refusal :=
  s.runs (blkFinalCommit p)

/-- SERVING_RETRACT (R510, R532, R563). -/
def blkServingRetract (p : Packet) (s : Block) : Outcome Block Fault Refusal :=
  if p.op ≠ .retractMsg ∨ p.dst.unit ≠ 16 then .next s
  else
    let (t, ok) := s.arrive p
    .next (if ok then ((t.retractServing p.src p.step p.arg p.rev).pumpEmits).servEnd else t)
/-- ServingRetract (R510, R532, R563): the effect of blkServingRetract. -/
def execServingRetract (p : Packet) (s : State) : Outcome State Fault Refusal :=
  s.runs (blkServingRetract p)

/-- AMENDED_BATCH (R563): the batch of a ridge and step. -/
def execAmendedBatch (r : RidgeId) (step : Word) (s : State) : Outcome State Fault Refusal := s.runs fun s =>
  match s.serv.batches.find? (fun b => decide (b.ridge = r.val ∧ b.step = step.toNat)) with
  | none => .next s
  | some b => .next (s.amendBatch b).servEnd

/-- RING_COAL_TIMER (R535). -/
def execRingCoalTimer (g : Fin 256) (s : State) : Outcome State Fault Refusal := s.runs fun s =>
  .next (if SMap.get 0 s.serv.ringPend g.val ≠ 0 ∧ s.fld (SV_RING_CFG.COAL_TIME g) ≠ 0 then s.signalRing g.val else s)

/-- RING_HEAD_WRITE (R512, R534, R536). -/
def execRingHeadWrite (req : Fin 18) (dw : BitVec 26) (v : Word) (s : State) : Outcome State Fault Refusal := s.runs fun s =>
  .next (s.command req dw.toNat v .serving [0x10C] (fun _ _ g t =>
    let old := t.reg (SV_RING_HEAD g)
    if (v - old).toNat > (t.reg (SV_RING_TAIL g) - old).toNat then t.queueErr else (t.setReg (SV_RING_HEAD g) v).servEnd))

/-- EXPERT_MAP_WRITE (R529, R530): a version that is active on any ridge is not written while SV_CTL.EN = 1. -/
def execExpertMapWrite (req : Fin 18) (dw : BitVec 26) (v : Word) (s : State) : Outcome State Fault Refusal := s.runs fun s =>
  .next (s.command req dw.toNat v .serving [0x118, 0x11C, 0x124] (fun page off idx t =>
    let ver := if off = 0x124 then idx / 256 else idx / 32768
    if off ≠ 0x118 ∧ t.bit SV_CTL.EN ∧ (List.range 16).any (fun r => decide (t.activeVer r = ver)) then
      t.raise page Irq.serving_EXP_REJECT
    else t.storeAt req page off v))

/-- Removes every unreferenced node of a ridge and marks the others DROP (R518). -/
def Block.flushTree (s : Block) (r : Nat) : Block :=
  let mine := s.serv.nodes.filter (fun n => decide (n.2.ridge = r))
  let gone := mine.filter (fun n => decide (n.2.refs = 0))
  let t := gone.foldl (fun t n => t.dropNode n.1) s
  let t := (mine.filter (fun n => decide (n.2.refs ≠ 0))).foldl (fun t n =>
    (t.modServ (fun y => { y with nodes := SMap.ins n.1 { n.2 with drop := true } y.nodes })).storeNode n.1 n.2.hash) t
  let t := (t.setFld SP_CMD_STAT.STATE 2).setFld SP_CMD_STAT.REMOVED gone.length
  t.raise (diePage 14) Irq.walker_FLUSH_DONE

/-- SPOOR_FLUSH (R518): a write of SP_CMD with OP = 1. -/
def execSpoorFlush (req : Fin 18) (dw : BitVec 26) (v : Word) (s : State) : Outcome State Fault Refusal := s.runs fun s =>
  .next (s.command req dw.toNat v .walker [0x70] (fun _ _ _ t =>
    if getBits v 0 4 = 1 then (t.flushTree (getBits v 4 4)).servEnd else t))

/-- SV_ACC_BAL_WRITE (R512, R537). -/
def execSvAccBalWrite (req : Fin 18) (dw : BitVec 26) (v : Word) (s : State) : Outcome State Fault Refusal := s.runs fun s =>
  .next (s.command req dw.toNat v .serving [0xF0] (fun _ _ a t => (t.setReg (SV_ACC_BAL a) v).servEnd))

end Sys2Proof.Machine
end

