-- ==== Sys2Proof/Machine/View.lean ====
section
/-! DEFINITION. What a register read returns: the register file's value, the value that a frozen page's snapshot holds
(R772), or a value computed from the part that is its home. -/
namespace Sys2Proof.Machine

/-- BLK_ID of a page (R769, R788). -/
def blkId (page : Nat) : Nat :=
  let ver := 2 ^ 24
  let mk (ty inst : Nat) : Nat := ty + inst * 2 ^ 16 + ver
  let r := ridgeOfPage page
  let q := (page - 4096) % 1024
  match pageKind page with
  | .identity => mk 1 0 | .start => mk 2 0 | .power => mk 3 0 | .lookout => mk 4 0 | .thermal => mk 5 0 | .cairn => mk 6 0
  | .mgmt => mk 7 0 | .calib => mk 8 0 | .trust => mk 9 (if page < 4096 then 16 else r) | .hostPort => mk 0xA 0
  | .dieInt => mk 0xB 0 | .dieStore => mk 0xC 0 | .residency => mk 0xD 0 | .serving => mk 0xE 0 | .walker => mk 0xF 0
  | .cacheTier => mk 0x10 0 | .stack => mk 0x11 (page - 16) | .flank => mk 0x12 (page - 22) | .saddle => mk 0x13 0
  | .fabric => mk 0x14 0 | .port => mk 0x15 (page - 26)
  | .drvCtl => mk 0x16 (if page < 4096 then 16 else r)
  | .drvCh => mk 0x17 (if page < 4096 then 64 + (page - 37) else 4 * r + (q - 6))
  | .ridgeStore => mk 0x20 r | .ridgeCore => mk 0x21 r | .ridgeSync => mk 0x22 r | .ridgeInt => mk 0x23 r
  | .core => mk 0x30 ((q - 256) / 16) | .engine => mk 0x31 ((q - 256) % 16 - 1) | .spad => mk 0x32 ((q - 256) / 16)
  | .imem => mk 0x33 ((q - 256) / 16) | .reserved => 0

/-- BLK_CAP.COUNT of a page (R788). -/
def blkCap (page : Nat) : Nat :=
  match pageKind page with
  | .start => 10 | .power => 16 | .lookout => 3 | .thermal => 68 | .trust => 64 | .hostPort => 64 | .dieInt => 64
  | .residency => 4 | .serving => 4096 | .cacheTier => 64 | .flank => 16 | .saddle => 16 | .fabric => 10 | .port => 8
  | .drvCtl => if page < 4096 then 64 else 32
  | .drvCh => 16 | .ridgeStore => 34 | .ridgeCore => 32 | .ridgeSync => 1024 | .core => 8 | .engine => 9 | .spad => 64
  | .imem => 4096 | _ => 0

/-- BLK_STAT.STATE of a page (R771, R788). -/
def Block.blkState (s : Block) (page : Nat) : Nat :=
  let r := ridgeOfPage page
  match pageKind page with
  | .start => s.fld BC_STAT.STEP
  | .power => s.fld PM_DIE_STAT.STATE
  | .thermal => if s.bit LT_TRIP_INFO.TRIPPED then 7
      else ((List.range 16).map (fun r => s.fld (LT_RIDGE_STAT.BAND r))).foldl max 0
  | .mgmt => s.fld MG_STAT.MODE
  | .calib => s.fld CAL_STAT.STATE
  | .trust => s.fld (TR_MBOX_STAT.STATE (if page < 4096 then 16 else r))
  | .dieInt => s.fld TW_STAT.STATE
  | .dieStore => s.store.erase.code
  | .walker => s.fld SP_CMD_STAT.STATE
  | .stack => s.fld (CT_STAT.BAND (page - 16))
  | .flank => s.fld (NET_STAT.ROUTE_MODE (page - 22))
  | .fabric => s.fld FAB_STAT.MEMBER
  | .port => s.fld (FP_STAT.STATE (page - 26)) % 16
  | .ridgeCore => s.fld (RC_MIG_STAT.STATE r)
  | .ridgeInt => s.fld (RI_IFT_STAT.STATE r)
  | .core => s.fld (CORE_STAT.STATE r (((page - 4096) % 1024 - 256) / 16))
  | _ => 0

/-- Whether the block holds accepted work that it has not finished (BLK_STAT.BUSY, R771). -/
def Block.blkBusy (s : Block) (page : Nat) : Bool :=
  let busyChan (k : Nat) (f : Nat → Bool) : Bool :=
    (SMap.get Drover.reset s.drv k).chans.any (fun x => f x.1 && (x.2.current.isSome || !x.2.queue.isEmpty))
  match pageKind page with
  | .ridgeStore => !(SMap.get [] s.store.queues (ridgeOfPage page)).isEmpty
      || s.store.running.any (fun e => decide (e.1 / (34 * 8) = ridgeOfPage page))
  | .dieStore => decide (s.store.erase = .running)
  | .cairn => s.cairn.flush.isSome || s.cairn.readAddr.isSome
  | .calib => decide (s.fld CAL_STAT.STATE = 1)
  | .ridgeCore => decide (1 ≤ s.fld (RC_MIG_STAT.STATE (ridgeOfPage page)) ∧ s.fld (RC_MIG_STAT.STATE (ridgeOfPage page)) ≤ 3)
  | .walker => decide (s.fld SP_CMD_STAT.STATE = 1)
  | .start => decide (s.fld BC_UPDATE_STAT.STATE = 1) || !s.boot.rails.isEmpty
  | .trust => s.tr.mbox.any (fun m => decide (m.page = if page < 4096 then 16 else ridgeOfPage page))
  | .residency => (List.range 4).any (fun n => decide (s.fld (RZ_P_STAT.STATE n) = 1)) || !s.res.records.isEmpty
  | .serving => decide (s.gateHeld ≠ 0) || !s.serv.out.isEmpty
  | .stack => !(s.stackQueue (page - 16)).isEmpty
  | .drvCtl => busyChan (if page < 4096 then 16 else ridgeOfPage page) (fun _ => true)
  | .drvCh => busyChan (if page < 4096 then 16 else ridgeOfPage page) (fun ch => decide (ch / 16 = channelOf page 0x100 / 16))
  | .ridgeInt => !(SMap.get RidgeInt.reset s.int.ridges (ridgeOfPage page)).classes.isEmpty
      || (SMap.get RidgeInt.reset s.int.ridges (ridgeOfPage page)).replay.isSome
  | .core => decide (s.fld (CORE_STAT.STATE (ridgeOfPage page) (siteOfPage page)) ≠ 0
      ∧ s.fld (CORE_STAT.STATE (ridgeOfPage page) (siteOfPage page)) ≠ 4)
  | .engine =>
    let x := s.engine (ridgeOfPage page) ((page - 4096) % 1024 / 16 - 16) (page % 16 - 1)
    !x.queue.isEmpty || !x.qmQueue.isEmpty || x.pass.isSome || x.qmPass.isSome
  | .spad => !(s.spadAt (ridgeOfPage page) (siteOfPage page)).queue.isEmpty
  | _ => false

/-- The slab that SR_SEL selects. -/
def Block.selSlab (s : Block) (r : Nat) : Slab :=
  let p := s.fld (SR_SEL.SLAB r)
  SMap.get (Slab.new p) s.store.slabs (slabKey r (s.fld (SR_SEL.SITE r)) (s.fld (SR_SEL.ENGINE r)) p)

/-- The registers of a ridge store page that describe slabs and operations (R98). -/
def Block.storeView (s : Block) (r off : Nat) : Option Nat :=
  let b := s.selSlab r
  let q := SMap.get [] s.store.queues r
  let run := s.store.running.filter (fun e => decide (e.1 / (34 * 8) = r))
  match off with
  | 0x44 => some ((run.filter (fun e => !e.2.suspended)).length % 64
      + (if s.store.slabs.any (fun e => decide (e.1 / (34 * 8 * 9) = r ∧ e.2.state = .standin)) then 2 ^ 6 else 0)
      + s.fld (SR_LEASE_REQ.VALID r) * 2 ^ 7 + q.length % 65536 * 2 ^ 8)
  | 0x5C => some (b.state.code + b.replaces * 2 ^ 4 + b.colmap.length * 2 ^ 8 + (if b.driftLimit then 2 ^ 13 else 0)
      + (if b.overdue then 2 ^ 14 else 0))
  | 0x60 => some b.cycles
  | 0x64 => some b.debt
  | 0x68 =>
    let (g, o) := b.stagedFit.getD (b.gain, b.offset)
    some (g % 65536 * 65536 + (o % 65536).toNat)
  | 0x6C => some (match SMap.find (s.fld (SR_SEL.COLMAP_IDX r)) b.colmap with | some l => l + 2 ^ 15 | none => 0)
  | 0x70 => some (b.passes % 2 ^ 32)
  | 0x74 => some (b.passes / 2 ^ 32 % 2 ^ 32)
  | _ => none

/-- The byte window that a register offset shows, as a word of its bytes. -/
def wordAt (l : List Byte) (k : Nat) : Nat := ofBytes ((l.drop k).take 4)

/-- What ENG_SLABMAP shows of slab 8 (R156). -/
def Block.slabMap (s : Block) (r c e : Nat) : Nat :=
  let b := s.slab r c e 8
  let role := match b.state with | .standin => 1 | .mirror => 2 | .assigned => 3 | _ => 0
  role + (if role = 0 then 0 else b.replaces % 8 * 4)

/-- An engine page's register: the role of slab 8, and shadow copies before the values in force (R156, R159). -/
def Block.engineView (s : Block) (r c e off key : Nat) : Option Nat :=
  match off with
  | 0x78 => some (s.slabMap r c e)
  | 0x80 | 0x88 => (SMap.find key (s.engine r c e).shadow).map (·.toNat)
  | _ => none

/-- A core page's register: its site, and norm watch's entries with software's shadow copies (R196, R198, R252). -/
def Block.coreView (s : Block) (r c page off idx : Nat) (stored : Word) : Option Nat :=
  let x := s.coreAt r c
  let copy (k : Nat) : Option Word := SMap.find (idx * 4 + k) x.nwShadow
  match off with
  | 0x78 =>
    let k := s.coreOf r c
    some (c + (k.getD 0) * 2 ^ 8 + (if k.isSome then 2 ^ 13 else 0) + r * 2 ^ 16)
  | 0x308 => (copy 0).map (·.toNat)
  | 0x30C => (copy 1).map (·.toNat)
  | 0x310 =>
    let v := match copy 2 with | some w => s.written page off stored w | none => stored
    some (putBits v 4 2 (SMap.get [] x.nwReplays (s.step r)).length).toNat
  | _ => none

/-- A residency page's register: its status, and the selected layer-map entry (R483, R500). -/
def Block.residencyView (s : Block) (off : Nat) (stored : Word) : Option Nat :=
  if off = 0x44 then
    let queued := distinct ((s.res.records.filter (fun x => decide (x.stage = .queued))).map (fun x =>
      slabKey x.body.ridge x.body.core x.body.engine x.pslab))
    some (getBits stored 0 4 + (if s.res.streams.isEmpty then 0 else 2 ^ 4) + (if s.res.freeing.isEmpty then 0 else 2 ^ 5)
      + min 65535 queued.length * 2 ^ 16)
  else if 0x70 ≤ off ∧ off < 0x90 then
    let x := s.entry (s.fld RZ_LM_SEL.INDEX)
    let v := x.blockId % 2 ^ 32 + x.model % 2 ^ 32 * 2 ^ 32 + (x.state + x.ver * 2 ^ 3 + x.src * 2 ^ 5 + (if x.refetch then 2 ^ 7 else 0)) * 2 ^ 64
      + (x.pslab + x.width * 2 ^ 4) * 2 ^ 72 + x.shape * 2 ^ 80 + x.vslot % 2 ^ 32 * 2 ^ 96 + x.record % 2 ^ 32 * 2 ^ 128
      + x.hostAddr % 2 ^ 64 * 2 ^ 160
    some (v / 2 ^ (8 * (off - 0x70)) % 2 ^ 32)
  else none

/-- Bytes of the selected sequence entry (R511); KEY shows 0 to a requester outside a bound ridge's trust (R617). -/
def Block.seqView (s : Block) (req : Requester) (k : Nat) : Nat :=
  let q := s.fld SV_SEQ_SEL.SEQ
  match s.seq? q with
  | none => 0
  | some x =>
    if 8 ≤ k ∧ k < 16 ∧ s.outsider req x.ridge then 0
    else ofBytes (((x.entry.drop k).take 4).map (BitVec.ofNat 8))

/-- A word of the instruction-memory window (R791). -/
def Block.imemView (s : Block) (r c off : Nat) : Nat :=
  let w := SMap.get 0 (s.coreAt r c).imem (s.fld (IM_BASE.BASE r c) * 256 + (off - 0x800) / 8)
  if off % 8 = 0 then w.toNat % 2 ^ 32 else w.toNat / 2 ^ 32

/-- The current value of a register as a requester sees it, frozen pages apart. -/
def Block.liveWord (s : Block) (req : Requester) (page off : Nat) (row : RegRow) : Word :=
  let key := s.cellKey page off row
  let stored := s.reg key
  let r := ridgeOfPage page
  if off = 0 then BitVec.ofNat 32 (blkId page)
  else if off = 4 then BitVec.ofNat 32 (blkCap page)
  else if off = 0xC then
    BitVec.ofNat 32 (s.blkState page % 16 * 16 + (if s.reg (BLK_ERR_CNT page) ≠ 0 then 2 else 0) + (if s.blkBusy page then 1 else 0))
  else match pageKind page with
  | .cairn =>
    if off = 8 then putBits stored 2 1 (s.fld CAIRN_CTL.FREEZE)
    else if off = 0x4C then BitVec.ofNat 32 s.cairn.time
    else if off = 0x50 then BitVec.ofNat 32 (s.cairn.time / 2 ^ 32)
    else if 0x800 ≤ off then BitVec.ofNat 32 (wordAt s.cairn.win (off - 0x800)) else stored
  | .lookout =>
    if 0x800 ≤ off then
      let n := min 2 (s.fld LK_SEL.CONV)
      let l := SMap.get [] (SMap.get LookConv.reset s.look.convs n).buffers (s.fld LK_BUF_SEL.BUF)
      BitVec.ofNat 32 (l.getD ((off - 0x800) / 8) 0 / 2 ^ (32 * ((off - 0x800) / 4 % 2)))
    else stored
  | .ridgeStore => match s.storeView r off with | some n => BitVec.ofNat 32 n | none => stored
  | .dieStore => if off = 0x74 then putBits stored 0 3 s.store.erase.code else stored
  | .dieInt =>
    if 0x400 ≤ off then
      match s.int.fsQueue with
      | [] => 0
      | (g, _) :: _ =>
        let outside := decide (g.location.getLsbD 40) && s.outsider req (g.location.toNat % 16)
        BitVec.ofNat 32 (wordAt (s.sigBytes (if outside then s.shownSignature g else g)) (off - 0x400))
    else stored
  | .engine => match s.engineView r ((page - 4096) % 1024 / 16 - 16) (page % 16 - 1) off key with
    | some n => BitVec.ofNat 32 n
    | none => stored
  | .core => match s.coreView r (siteOfPage page) page off (key % regSpan) stored with
    | some n => BitVec.ofNat 32 n
    | none => stored
  | .residency => match s.residencyView off stored with | some n => BitVec.ofNat 32 n | none => stored
  | .serving => if 0xA0 ≤ off ∧ off ≤ 0xDC then BitVec.ofNat 32 (s.seqView req (off - 0xA0)) else stored
  | .imem => if 0x800 ≤ off then BitVec.ofNat 32 (s.imemView r (siteOfPage page) off) else stored
  | _ => stored

/-- What a read of a register by a requester returns: 0 for a reserved offset, a write-only register or a bound ridge's
hidden state, the snapshot while the page is frozen (R772), else the live value. -/
def Block.readWord (s : Block) (req : Requester) (page off : Nat) : Word :=
  match regRow (pageKind page) off with
  | none => 0
  | some row =>
    if (s.protectedRead req page off).isSome then 0
    else if row.fields.all (fun f => decide (f.acc = .wo ∨ f.acc = .w1s)) then 0
    else
      let key := s.cellKey page off row
      if s.bit (BLK_CTL.FREEZE page) ∧ off ≥ 0x1C ∧ row.fields.any (fun f => decide (f.acc = .ro)) then
        (SMap.find key s.frozen).getD (s.liveWord req page off row)
      else s.liveWord req page off row

/-- The snapshot that setting FREEZE takes: every read-only register of the page at 0x01C and above, with every listed
cell behind a selection (R772). -/
def Block.snapshot (s : Block) (page : Nat) : SMap Word :=
  let rows := rowsHeader.filter (fun r => decide (r.off ≥ 0x1C)) ++ pageRows (pageKind page)
  let ro := rows.filter (fun r => r.fields.any (fun f => decide (f.acc = .ro)))
  let cells := s.regs.filter (fun e => decide (e.1 / regSpan / 4096 = page) && ro.any (fun r => decide (r.off = e.1 / regSpan % 4096)))
  let now := (ro.map (fun r => (List.range r.count).map (fun n => (s.cellKey page (r.off + 4 * n) r, s.liveWord 17 page (r.off + 4 * n) r)))).flatten
  (cells ++ now).foldl (fun m e => SMap.ins e.1 e.2 m) (s.frozen.filter (fun e => decide (e.1 / regSpan / 4096 ≠ page)))

end Sys2Proof.Machine
end

