-- ==== Sys2Proof/Machine/RegWrite.lean ====
section
/-! DEFINITION. Register reads, plain register writes with what follows from them, FREEZE, and writes of the cabling plan (R8,
R404, R536, R617, R748, R749, R764, R772, R778, R781). -/
namespace Sys2Proof.Machine
open Host

/-- Whether a write of a queue's or a ring's configuration is ignored for its LOG2 (R536). -/
def Block.badQueueCfg (s : Block) (page off : Nat) (v : Word) : Bool :=
  decide (page = 13) && v.getLsbD 0
    && ((decide (off = 0x6C) && !s.bit (SV_SQ_CFG.EN (s.fld SV_RSEL.RIDGE)) && decide (getBits v 1 5 < 4 ∨ getBits v 1 5 > 12))
      || (decide (off = 0x108) && !s.bit (SV_RING_CFG.EN (s.fld SV_RING_SEL.RING)) && decide (getBits v 1 5 < 6 ∨ getBits v 1 5 > 16)))

/-- A plain write with what follows from it: the alert (R764), or an ignored configuration (R536). -/
def Block.regWrite (s : Block) (req : Requester) (page off : Nat) (v : Word) : Block :=
  if s.badQueueCfg page off v ∧ (s.refusal req page off v).isNone then s.queueErr
  else
    let t := s.plainWrite req page off v
    if pageKind page = .mgmt then t.showAlert else t

/-- REGISTER_WRITE (R8, R748, R749, R778): a write with partial byte enables (`full` false) is discarded. -/
def execRegisterWrite (req : Fin 18) (dw : BitVec 26) (full : Bool) (v : Word) (s : State) : Outcome State Fault Refusal := s.runs fun s =>
  if full ∧ vfWindowAt req dw.toNat = some 0x48 ∧ s.bit HP_LINK.UP then .next (s.vfWindow (req.val - 1) 0x48 v)
  else
    let (t, p) := s.reach req dw.toNat true
    match p with
    | none => .next t
    | some (page, off) => .next (if full then t.regWrite req page off v else t)

/-- PLAN_ENTRY_WRITE (R404, R437): a port in PLAN_MISMATCH whose entry is written checks what it has observed again. -/
def execPlanEntryWrite (req : Fin 18) (dw : BitVec 26) (v : Word) (s : State) : Outcome State Fault Refusal := s.runs fun s =>
  .next (s.command req dw.toNat v .fabric [0xAC, 0xB0, 0xB4, 0xB8, 0xBC] (fun page off _ t =>
    let p := t.fld FAB_PLAN_SEL.PORT
    let t := t.storeAt req page off v
    if p ≤ 9 ∧ t.portState p = 9 then t.planCheck p (t.port p).moduleOk else t))

/-- A register read that reached its page (R617, R781). -/
def Block.readRegister (s : Block) (req : Requester) (page off : Nat) : Block :=
  let t := match s.protectedRead req page off with
    | some r => s.trustDenied (if req.val = 17 then 0 else req.val) r 1
    | none => s
  match regRow (pageKind page) off with
  | none => { t with answer := bytesOf 4 0 }
  | some row =>
    let key := s.cellKey page off row
    let roPair := row.fields.all (fun f => decide (f.acc = .ro))
    if row.pair = 1 ∧ roPair then
      let hiKey := key + 4 * regSpan
      { t with answer := bytesOf 4 (s.readWord req page off).toNat,
               hiLatch := SMap.ins (stageKey hiKey req.val) (s.readWord req page (off + 4)) t.hiLatch }
    else if row.pair = 2 ∧ roPair ∧ (SMap.find (stageKey key req.val) t.hiLatch).isSome then
      { t with answer := bytesOf 4 ((SMap.find (stageKey key req.val) t.hiLatch).getD 0).toNat,
               hiLatch := SMap.del (stageKey key req.val) t.hiLatch }
    else { t with answer := bytesOf 4 (s.readWord req page off).toNat }

/-- RO_PAIR_LO_READ (R617, R748, R772, R778, R781): a read of any register; the answer is its four bytes. A LO half of a read-only pair
latches the HI half for the requester, whose next read of it answers the latched value. -/
def execRoPairLoRead (req : Fin 18) (dw : BitVec 26) (s : State) : Outcome State Fault Refusal := s.runs fun s =>
  let (t, p) := s.reach req dw.toNat false
  match p with
  | none =>
    let off := match place req dw.toNat with | .at page _ => !s.pageUp page | _ => false
    .next { t with answer := bytesOf 4 (if off then 0xFFFFFFFF else 0) }
  | some (page, off) => .next (t.readRegister req page off)

/-- BLK_FREEZE (R772); on the cairn page the bit is CAIRN_CTL.FREEZE (R710). -/
def execBlkFreeze (req : Fin 18) (dw : BitVec 26) (freeze : Bool) (s : State) : Outcome State Fault Refusal := s.runs fun s =>
  .next (s.ctlWrite req dw.toNat (fun page t =>
    if page = diePage 5 then t.cairnFreeze freeze
    else if freeze then
      (if t.bit (BLK_CTL.FREEZE page) then t else { t.setBit (BLK_CTL.FREEZE page) true with frozen := t.snapshot page })
    else { t.setBit (BLK_CTL.FREEZE page) false with
           frozen := t.frozen.filter (fun e => decide (e.1 / regSpan / 4096 ≠ page)) }))

end Sys2Proof.Machine
end

