-- ==== Sys2Proof/Machine/Delivery.lean ====
section
/-! DEFINITION. A packet of any kind at its destination interface (R358, R360). -/
namespace Sys2Proof.Machine
open Host

/-- What the command that takes a packet of its kind does with it; a drover takes the answer of a beat when the beat completes,
and a twin an acknowledgement with its own command. -/
def Block.deliver (s : Block) (p : Packet) (busy withCore : Bool) (corrected : Nat) (badWords : List (Fin 64))
    (badCodewords : List (Fin 8)) : Outcome Block Fault Refusal :=
  match p.op with
  | .getReq => blkGetRequest p busy corrected badWords badCodewords s
  | .putReq => blkPutRequest p busy corrected badWords badCodewords s
  | .completion => blkRemoteCompletion p s
  | .getData => blkGetData p withCore corrected badWords s
  | .mdisp => blkMdispArrival p withCore s
  | .batchRow => blkRegionArrival p withCore s
  | .syncOp =>
    if p.dst.unit ≥ 16 then .next s
    else
      let (t, l) := s.arriveOps p.dst.unit p.addr [p]
      .next (t.cellCycle p.dst.unit p.addr l)
  | .syncAnswer => if p.arg = 6 then blkWakeDelivery p s else blkSyncAnswer p s
  | .commitMsg => if p.dst.unit = 16 then blkFinalCommit p s else blkCommit p s
  | .retractMsg => if p.dst.unit = 16 then blkServingRetract p s else blkRetract p s
  | .slotLoss => blkSlotLossNotice p s
  | .emit => blkEmitArrival p s
  | .drvBeat => blkDroverBeatArrival p corrected badWords badCodewords withCore s
  | .epoch => .next s

/-- PACKET_DELIVERY (R360): a packet of this die reaches its interface; one for another die, or for the other half across a
split, goes to the fabric ports (R411, R431). -/
def execPacketDelivery (p : Packet) (busy withCore : Bool) (corrected : Nat) (badWords : List (Fin 64)) (badCodewords : List (Fin 8))
    (s : State) : Outcome State Fault Refusal := s.runs fun s =>
  let cut := s.bit (NET_STAT.SPLIT 0) && !s.fab.crossed.contains p && decide (flankOf p.src p.addr ≠ flankOf p.dst p.addr)
    && s.bit (NET_CTL.SPLIT_FABRIC_EN (flankOf p.src p.addr))
  if !s.isSent p then .next s
  else if p.dst.die ≠ s.fld FAB_SELF.COORD ∨ cut then .next (s.toFabric p)
  else s.deliver p busy withCore corrected badWords badCodewords

end Sys2Proof.Machine
end

