-- ==== Sys2Proof/Machine/Lookout.lean ====
section
/-! DEFINITION. Commands of the lookout converters and of thermal control (R651–R682). -/
namespace Sys2Proof.Machine
open Host

/-! ## Conversions (R655–R664) -/

/-- CONVERSION_DONE (R656, R658): the first conversion of a diode pair is followed by the second; after any other the
converter starts the next. `code` is the trimmed code; `value` the temperature of a diode pair before the sensor's trim, in
1/16 °C, or the deviation of a bandgap check in codes; `us` the base-camp time in µs. -/
def execConversionDone (n : Fin 3) (code : BitVec 12) (value : Int) (us : BitVec 16) (s : State) : Outcome State Fault Refusal := s.runs fun s =>
  if !s.convOn n then .next s
  else
    let x := s.conv n
    match x.running with
    | none => .next s
    | some w =>
      if s.isPair n w.kind && w.first.isNone then .next (s.setConv n { x with running := some { w with first := some code.toNat } })
      else .next (((s.setConv n { x with running := none }).convEnd n w code.toNat value us.toNat).convKick n)

/-- A due conversion that has not started within its period (R658). -/
def Block.overrun (s : Block) (n : Nat) : Block := (s.addSat (LK_COUNT.OVERRUN n) 1).raise (diePage 3) Irq.lookout_OVERRUN

/-- FIXED_SCAN_DUE (R655, R658). -/
def execFixedScanDue (n : Fin 3) (k : LookKind) (s : State) : Outcome State Fault Refusal := s.runs fun s =>
  if !s.convOn n ∨ !(fixedScan n).contains k then .next s
  else
    let x := s.conv n
    if x.fixed.contains k then .next (s.overrun n)
    else .next ((s.setConv n { x with fixed := x.fixed ++ [k] }).convKick n)

/-- Puts an entry in its place among the due ones, lowest first (R658). -/
def insertNat (x : Nat) : List Nat → List Nat
  | [] => [x]
  | y :: rest => if x < y then x :: y :: rest else y :: insertNat x rest

/-- SCAN_ENTRY_DUE (R657, R658, R679). -/
def execScanEntryDue (n : Fin 3) (e : Fin 64) (s : State) : Outcome State Fault Refusal := s.runs fun s =>
  let v := s.reg (LK_SCAN_DATA (n.val * 64 + e.val))
  if !s.convOn n ∨ !s.bit (LK_CTL.EN n) ∨ getBits v 31 1 = 0 ∨ getBits v 9 2 ≥ 2 then .next s
  else
    let x := s.conv n
    if x.scans.contains e.val then .next (s.overrun n)
    else .next ((s.setConv n { x with scans := insertNat e.val x.scans }).convKick n)

/-- URGENT_REQUEST: a write of LK_URG_CMD (R659, R660, R678). A request of a reserved kind shows DROPPED. -/
def execUrgentRequest (req : Fin 18) (dw : BitVec 26) (v : Word) (s : State) : Outcome State Fault Refusal := s.runs fun s =>
  .next (s.command req dw.toNat v .lookout [0x54] (fun _ _ n t =>
    if getBits v 31 1 = 0 then t
    else if getBits v 9 2 ≥ 2 then t.setFld (LK_URG_RESULT.STATUS n) 2
    else t.urgent n (.urgent (getBits v 0 5) (getBits v 5 4) (decide (getBits v 9 2 = 1)) none) true))

/-! ## Result buffers (R664, R678) -/

/-- LK_BUF_HEAD_WRITE (R678): entries up to the value are freed; a value outside HEAD to TAIL is ignored. -/
def execLkBufHeadWrite (req : Fin 18) (dw : BitVec 26) (v : Word) (s : State) : Outcome State Fault Refusal := s.runs fun s =>
  .next (s.command req dw.toNat v .lookout [0x6C] (fun _ _ i t =>
    let new := getBits v 0 12
    let n := (new + 4096 - t.fld (LK_BUF_HEAD.HEAD i)) % 4096
    let x := t.conv (i / 4)
    let l := SMap.get [] x.buffers (i % 4)
    if n > l.length then t
    else
      let t := t.setConv (i / 4) { x with buffers := SMap.set [] x.buffers (i % 4) (l.drop n) }
      (t.setFld (LK_BUF_HEAD.HEAD i) new).setFld (LK_BUF_TAIL.COUNT i) (l.length - n)))

/-- LK_BUF_ENABLE: a write of LK_BUF_CFG with EN = 1 empties the buffer (R678); one with EN = 0 only stores. -/
def execLkBufEnable (req : Fin 18) (dw : BitVec 26) (v : Word) (s : State) : Outcome State Fault Refusal := s.runs fun s =>
  .next (s.command req dw.toNat v .lookout [0x68] (fun page off i t =>
    let t := t.storeAt req page off v
    if getBits v 0 1 = 0 then t
    else
      let x := t.conv (i / 4)
      let t := t.setConv (i / 4) { x with buffers := SMap.set [] x.buffers (i % 4) [] }
      (t.setFld (LK_BUF_HEAD.HEAD i) (t.fld (LK_BUF_TAIL.TAIL i))).setFld (LK_BUF_TAIL.COUNT i) 0))

/-! ## Thermal control (R665–R677) -/

/-- One ridge at a tick of 1 ms: its THERM falls in band 4, rises when it is cool and has held for 10 ms, or holds (R671). -/
def Block.thermTick (s : Block) (r : Nat) : Block :=
  let th := s.fld (PM_GOV_RCFG.THERM r)
  let age := min 10 (SMap.get 10 s.look.thermAge r + 1)
  let new :=
    if s.fld (LT_RIDGE_STAT.BAND r) = 4 then (if th > s.fld LT_THROT_CFG.FLOOR then th - 1 else th)
    else match hottest (s.validTemps r) with
      | some x => if x ≤ 1392 ∧ th < 16 ∧ age ≥ 10 then th + 1 else th
      | none => th
  let t := { s with look := { s.look with thermAge := SMap.set 10 s.look.thermAge r (if new = th then age else 0) } }
  if new = th then t
  else ((t.setFld (PM_GOV_RCFG.THERM r) new).setFld (LT_RIDGE_STAT.THERM r) new).raise (diePage 4) Irq.thermal_THROTTLE

/-- THERMAL_TICK (R671): every ridge, while the flank converters run. -/
def execThermalTick (s : State) : Outcome State Fault Refusal := s.runs fun s =>
  if !s.convOn 0 then .next s else .next ((List.range 16).foldl (fun t r => t.thermTick r) s)

/-- TRIP_CLEAR (R677): THERMTRIP_N is asserted while TRIPPED is 1. -/
def execTripClear (req : Fin 18) (dw : BitVec 26) (v : Word) (s : State) : Outcome State Fault Refusal := s.runs fun s =>
  .next (s.command req dw.toNat v .thermal [0x74] (fun _ _ _ t =>
    if getBits v 0 1 = 0 then t
    else if (t.validTemps 16).any (fun x => decide (x ≥ 1440)) then t.setBit LT_TRIP_INFO.CLR_REJECT true
    else (t.setBit LT_TRIP_INFO.TRIPPED false).setBit LT_TRIP_INFO.CLR_REJECT false))

/-- SENSOR_CLEAR (R668): a broken sensor counts again from its next sample. -/
def execSensorClear (req : Fin 18) (dw : BitVec 26) (v : Word) (s : State) : Outcome State Fault Refusal := s.runs fun s =>
  .next (s.command req dw.toNat v .thermal [0x4C] (fun _ _ _ t =>
    let k := getBits v 0 7
    if k ≥ 68 ∨ !t.bit (LT_SENS_DATA.BROKEN k) then t
    else
      let t := (t.setBit (LT_SENS_DATA.BROKEN k) false).setFld (LT_SENS_DATA.DEVIANT k) 0
      { t with look := { t.look with hot := SMap.del k t.look.hot } }))

/-- STACK_TEMP_REPORT (R339, R665, R674, R676, R817): a stack's temperature in 1/16 °C. -/
def execStackTempReport (h : StackId) (x : Int) (s : State) : Outcome State Fault Refusal := s.runs fun s =>
  if !s.convOn 0 then .next s
  else
    let direct := !s.look.seen.contains (68 + h.val)
    let band := nextBand (if direct then 0 else s.fld (LT_STACK_DATA.BAND h)) (some x)
    let t := (s.setFld (LT_STACK_DATA.TEMP h) (max 0 (min 255 (x / 16))).toNat).setBit (LT_STACK_DATA.VALID h) true
    let t := (t.setFld (LT_STACK_DATA.BAND h) band).setFld (CT_STAT.BAND h) band
    let t := { t with look := { t.look with
      stackTemp := SMap.ins h x t.look.stackTemp
      seen := if direct then t.look.seen ++ [68 + h.val] else t.look.seen } }
    .next ((t.tripTest (68 + h.val) x).platformLevel (18 + h.val) (heatLevel x))

end Sys2Proof.Machine
end

