-- ==== Sys2Proof/Machine/Spdm.lean ====
section
/-! DEFINITION. The SPDM responder (R595–R597). A request's answer is the header of the DMTF message (log entry 60) and what
the spec gives of its contents. -/
namespace Sys2Proof.Machine
open Host

/-- Answers a request with a response code, its two parameters and contents; version 1.2. -/
def Block.spdm (s : Block) (code p1 p2 : Nat) (body : List Byte) : Block :=
  { s with answer := [0x12, BitVec.ofNat 8 code, BitVec.ofNat 8 p1, BitVec.ofNat 8 p2] ++ body }

/-- ERROR with an error code. -/
def Block.spdmError (s : Block) (code : Nat) : Block := s.spdm 0x7F code 0 []

/-- GET_VERSION: version 1.2 only (R595). -/
def blkGetVersion (s : Block) : Outcome Block Fault Refusal := .next { s with answer := [0x10, 0x04, 0, 0, 0, 1, 0, 0x12] }
/-- GetVersion (R595): the effect of blkGetVersion. -/
def execGetVersion (s : State) : Outcome State Fault Refusal :=
  s.runs blkGetVersion

/-- GET_CAPABILITIES (R595). -/
def blkGetCapabilities (s : Block) : Outcome Block Fault Refusal := .next (s.spdm 0x61 0 0 [])
/-- GetCapabilities (R595): the effect of blkGetCapabilities. -/
def execGetCapabilities (s : State) : Outcome State Fault Refusal :=
  s.runs blkGetCapabilities

/-- NEGOTIATE_ALGORITHMS (R595): `offered` says that the request offers ECDSA P-384, SHA-384, secp384r1 and AES-256-GCM. -/
def blkNegotiateAlgorithms (offered : Bool) (s : Block) : Outcome Block Fault Refusal :=
  .next (if offered then s.spdm 0x63 0 0 [] else s.spdmError 1)
/-- NegotiateAlgorithms (R595): the effect of blkNegotiateAlgorithms. -/
def execNegotiateAlgorithms (offered : Bool) (s : State) : Outcome State Fault Refusal :=
  s.runs (blkNegotiateAlgorithms offered)

/-- GET_DIGESTS: slots 0 and 1 hold chains (R596). -/
def blkGetDigests (s : Block) : Outcome Block Fault Refusal := .next (s.spdm 0x01 0 3 [])
/-- GetDigests (R596): the effect of blkGetDigests. -/
def execGetDigests (s : State) : Outcome State Fault Refusal :=
  s.runs blkGetDigests

/-- GET_CERTIFICATE (R596). -/
def blkGetCertificate (slot : Fin 8) (s : Block) : Outcome Block Fault Refusal :=
  .next (if slot.val ≤ 1 then s.spdm 0x02 slot 0 [] else s.spdmError 1)
/-- GetCertificate (R596): the effect of blkGetCertificate. -/
def execGetCertificate (slot : Fin 8) (s : State) : Outcome State Fault Refusal :=
  s.runs (blkGetCertificate slot)

/-- CHALLENGE: Alias signs the response (R596). -/
def blkChallenge (slot : Fin 8) (s : Block) : Outcome Block Fault Refusal :=
  .next (if slot.val ≤ 1 then s.spdm 0x03 slot 3 [] else s.spdmError 1)
/-- Challenge (R596): the effect of blkChallenge. -/
def execChallenge (slot : Fin 8) (s : State) : Outcome State Fault Refusal :=
  s.runs (blkChallenge slot)

/-- What a measurement block measures (R597); `none` where the table has no block. -/
def Block.measured (s : Block) (i : Nat) : Option (List Nat) :=
  if i = 1 ∨ i = 4 then some []
  else if i = 2 then some [(s.reg BC_FW_ACTIVE).toNat, s.fld (TR_STAT.BASE_SVN 16)]
  else if i = 3 then some [s.fld (TR_STAT.LIFECYCLE 16), s.fld (TR_STAT.MIN_SVN 16), s.fld (TR_STAT.STORE_DEBUG 16)]
  else if 6 ≤ i ∧ i ≤ 15 then some [SMap.get 0 s.boot.serdesVersion (i - 6)]
  else if 16 ≤ i ∧ i ≤ 31 then some [SMap.get 0 s.boot.ucVersion (i - 16)]
  else if 32 ≤ i ∧ i ≤ 47 then
    let r := i - 32
    let slots := (s.tr.keys.filter (fun k => (BitVec.ofNat 16 k.2.ridges).getLsbD r)).map (·.1)
    some ([s.fld (TR_RIDGE_STAT.STATE 16 r), (s.tenantOf r).getD 0, s.fld (TR_RIDGE_STAT.VF_TRUST 16 r),
      s.fld (TR_RIDGE_STAT.SEAL_CODE 16 r), s.pair (SP_SALT_LO r) (SP_SALT_HI r)] ++ SMap.get [] s.tr.allow r ++ slots)
  else if i = 48 then some s.tr.roots
  else none

/-- GET_MEASUREMENTS (R597): the SHA-384 digest of one block. -/
def blkGetMeasurements (index : BitVec 8) (s : Block) : Outcome Block Fault Refusal :=
  match s.measured index.toNat with
  | some l => .next (s.spdm 0x60 1 0 (bytesOf 48 (Config.measurement index.toNat l)))
  | none => .next (s.spdmError 1)
/-- GetMeasurements (R597): the effect of blkGetMeasurements. -/
def execGetMeasurements (index : BitVec 8) (s : State) : Outcome State Fault Refusal :=
  s.runs (blkGetMeasurements index)

/-- Changes the SPDM sessions. -/
def Block.setSessions (s : Block) (l : List Session) : Block := s.modTr (fun y => { y with sessions := l })

/-- KEY_EXCHANGE (R595): a ninth session is refused with ERROR Busy. -/
def blkKeyExchange (id : Word) (s : Block) : Outcome Block Fault Refusal :=
  .next (if s.tr.sessions.length ≥ 8 then s.spdmError 3
    else (s.setSessions (s.tr.sessions.filter (fun x => decide (x.id ≠ id.toNat)) ++ [⟨id.toNat, false, 0⟩])).spdm 0x64 0 0 [])
/-- KeyExchange (R595): the effect of blkKeyExchange. -/
def execKeyExchange (id : Word) (s : State) : Outcome State Fault Refusal :=
  s.runs (blkKeyExchange id)

/-- The session with an identifier. -/
def Block.session (s : Block) (id : Word) : Option Session := s.tr.sessions.find? (fun x => decide (x.id = id.toNat))

/-- FINISH (R595): `ok` says that the requester's verify data are right; otherwise the session ends. -/
def blkFinish (id : Word) (ok : Bool) (s : Block) : Outcome Block Fault Refusal :=
  match s.session id with
  | none => .next (s.spdmError 2)
  | some _ =>
    if ok then
      .next ((s.setSessions (s.tr.sessions.map (fun x => if x.id = id.toNat then { x with open' := true } else x))).spdm 0x65 0 0 [])
    else .next ((s.setSessions (s.tr.sessions.filter (fun x => decide (x.id ≠ id.toNat)))).spdmError 6)
/-- Finish (R595): the effect of blkFinish. -/
def execFinish (id : Word) (ok : Bool) (s : State) : Outcome State Fault Refusal :=
  s.runs (blkFinish id ok)

/-- HEARTBEAT (R595). -/
def blkHeartbeat (id : Word) (s : Block) : Outcome Block Fault Refusal :=
  .next (if (s.session id).any (·.open') then s.spdm 0x68 0 0 [] else s.spdmError 2)
/-- Heartbeat (R595): the effect of blkHeartbeat. -/
def execHeartbeat (id : Word) (s : State) : Outcome State Fault Refusal :=
  s.runs (blkHeartbeat id)

/-- KEY_UPDATE (R595): the session's keys are updated. -/
def blkKeyUpdate (id : Word) (s : Block) : Outcome Block Fault Refusal :=
  .next (if (s.session id).any (·.open') then
      (s.setSessions (s.tr.sessions.map (fun x => if x.id = id.toNat then { x with updates := x.updates + 1 } else x))).spdm 0x69 0 0 []
    else s.spdmError 2)
/-- KeyUpdate (R595): the effect of blkKeyUpdate. -/
def execKeyUpdate (id : Word) (s : State) : Outcome State Fault Refusal :=
  s.runs (blkKeyUpdate id)

/-- END_SESSION (R595). -/
def blkEndSession (id : Word) (s : Block) : Outcome Block Fault Refusal :=
  .next (if (s.session id).any (·.open') then
      (s.setSessions (s.tr.sessions.filter (fun x => decide (x.id ≠ id.toNat)))).spdm 0x6C 0 0 []
    else s.spdmError 2)
/-- EndSession (R595): the effect of blkEndSession. -/
def execEndSession (id : Word) (s : State) : Outcome State Fault Refusal :=
  s.runs (blkEndSession id)

/-- SPDM_UNSUPPORTED (R595): ERROR UnsupportedRequest. -/
def blkSpdmUnsupported (s : Block) : Outcome Block Fault Refusal := .next (s.spdmError 7)
/-- SpdmUnsupported (R595): the effect of blkSpdmUnsupported. -/
def execSpdmUnsupported (s : State) : Outcome State Fault Refusal :=
  s.runs blkSpdmUnsupported

end Sys2Proof.Machine
end

