-- ==== Sys2Proof/Machine/PowerOps.lean ====
section
/-! DEFINITION. Entry of a ridge to Nap and Off, its abandonment and its wake, ridge resets, and the current governor
(R630–R636, R645–R647, R728, R730). -/
namespace Sys2Proof.Machine

/-! ## Entry (R633–R636) -/

/-- Whether every core of a ridge is halted (R242). -/
def Block.coresHalted (s : Block) (r : Nat) : Bool :=
  (List.range 34).all (fun c => decide (s.fld (CORE_STAT.STATE r c) = 0 ∨ s.fld (CORE_STAT.STATE r c) = 4 ∨ s.fld (CORE_STAT.STATE r c) = 6))

/-- An accepted request to enter Nap (2) or Off (3): step 1, its abort point, and the drain window (R459, R633). -/
def Block.entryStart (s : Block) (r target : Nat) : Block :=
  let t := ((s.setRidgeState r 4).setFld (PM_RIDGE_STAT.TARGET r) target).setFld (PM_RIDGE_STAT.ENTRY_STEP r) 2
  (t.calAbort r).drainFor r

/-- Whether a request to enter Nap or Off is accepted: the die is Active, the ridge in Run or Doze, its cores halted. -/
def Block.entryAllowed (s : Block) (r : Nat) : Bool := s.dieActive && s.ridgeUp r && s.coresHalted r

/-- Held packets, aperture accesses and writes of CORE_START are performed once the ridge is in Run (R632, R751, R784). -/
def Block.releaseRidge (s : Block) (r : Nat) : Block :=
  let starts := s.pow.heldStarts.filter (fun e => decide (e.2.1 = r))
  let t := s.sendFirst (SMap.get [] s.pow.held r)
  let t := { t with pow := { t.pow with
    held := SMap.del r t.pow.held, heldStarts := t.pow.heldStarts.filter (fun e => decide (e.2.1 ≠ r)) } }
  starts.foldl (fun t e => t.startCore e.1 r e.2.2.1 e.2.2.2) (t.releaseAperture r)

/-- Whether a wake event waits for the next abort point. -/
def Block.wakes (s : Block) (r : Nat) : Bool := s.pow.wakePending.contains r

/-- Forgets that a wake event waits. -/
def Block.dropWake (s : Block) (r : Nat) : Block :=
  { s with pow := { s.pow with wakePending := s.pow.wakePending.filter (fun x => decide (x ≠ r)) } }

/-- The ridge returns to Run from an entry, its completed steps reversed (R634). -/
def Block.leaveEntry (s : Block) (r : Nat) : Block :=
  let t := ((s.dropWake r).setFld (PM_RIDGE_STAT.ENTRY_STEP r) 0).setFld (PM_RIDGE_STAT.TARGET r) 0
  ((t.setRidgeState r 0).undrain r).releaseRidge r

/-- Entry is abandoned (R634). -/
def Block.abandonEntry (s : Block) (r : Nat) : Block :=
  ((s.leaveEntry r).addSat (PM_RIDGE_STAT.ABORTS r) 1).raise (diePage 2) Irq.power_ENTRY_ABORT

/-- A wake event during the drain window abandons entry at once (R633). -/
def Block.windowAbort (s : Block) (r : Nat) : Block :=
  if s.ridgeState r = 4 ∧ s.fld (PM_RIDGE_STAT.ENTRY_STEP r) = 2 ∧ s.wakes r ∧ !s.pow.resetting.contains r then s.abandonEntry r else s

/-! ## Wake (R630, R318, R230) -/

/-- The rows and the instruction memory of a site that were not retained become 0 (R317, R318). -/
def Block.zeroSite (s : Block) (r c : Nat) (fromOff : Bool) : Block :=
  let keep := !fromOff || s.bit (SP_CTL.RETAIN_OFF r c)
  let t := s.modSpad r c (fun x => { x with
    rows := if keep then x.rows.filter (fun e => decide (e.1 < 512)) else [],
    bad := if keep then x.bad.filter (fun k => decide (k / 64 < 512)) else [], queue := [] })
  let t := t.setFld (SP_STAT.SHARED_DEPTH r c) 0
  if keep then t else t.modCore r c (fun x => { x with imem := [] })

/-- Register files, ledgers, queues and histories of a site are gone (R242); instruction memory stays. -/
def Block.clearSite (s : Block) (r c : Nat) : Block :=
  let x := s.coreAt r c
  let t := s.setCore r c { Core.reset with imem := x.imem, held := x.held, testOf := x.testOf }
  let t := (t.setFld (CORE_STAT.OUTSTANDING r c) 0).setFld (CORE_STAT.HOLD_CAUSE r c) 0
  (List.range 8).foldl (fun t e =>
    let y := t.engine r c e
    let t := t.setEngine r c e { EngSt.reset with
      probes := y.probes, turns := y.turns, fills := y.fills, lastProbe := y.lastProbe, shadow := y.shadow, trimBand := y.trimBand,
      degraded := y.degraded }
    (t.setBit (ENG_STAT.BIASED r c e) false).showDepths r c e) t

/-- A ridge reaches Run from Nap or Off (R630): rows that were not retained are 0, and a new pass epoch begins. -/
def Block.ridgeWakes (s : Block) (r : Nat) : Block :=
  let fromOff := decide (s.fld (PM_RIDGE_STAT.TARGET r) ≠ 2)
  let t := (List.range 34).foldl (fun t c => (t.zeroSite r c fromOff).clearSite r c) s
  let t := if fromOff then
      (List.range 1024).foldl (fun t n => (t.setReg (SYNC_VAL r n) 0).setFld (SYNC_ATTR.ARMED r n) 0)
        (({ t with sync := SMap.del r t.sync }).setReg (SYNC_WAITERS r) 0)
    else t
  let t := t.setRi r { t.ri r with drained := false }
  ((t.setRidgeState r 0).setFld (PM_RIDGE_STAT.TARGET r) 0).releaseRidge r

/-! ## Resets of status (R728, R732, R774) -/

/-- A word with its status fields at their reset value; RW and RWL fields stay (R732). -/
def statusReset (fields : List FieldRow) (old reset : Word) : Word :=
  fields.foldl (fun cur f => match f.acc with
    | .ro => putBits cur f.lo f.w (getBits reset f.lo f.w)
    | .w1c => putBits cur f.lo f.w (getBits reset f.lo f.w)
    | _ => cur) old

/-- Returns the status fields and counters of a page to their reset values, but those at offsets that `keep` names. -/
def Block.resetStatus (s : Block) (page : Nat) (keep : Nat → Bool) : Block :=
  let l := s.regs.filter (fun e => decide (e.1 / regSpan / 4096 = page))
  l.foldl (fun t e =>
    let off := e.1 / regSpan % 4096
    if keep off then t
    else match regRow (pageKind page) off with
      | some row => t.setReg e.1 (statusReset row.fields e.2 (regReset e.1))
      | none => t) s

/-- Offsets of an engine page whose contents every reset but a cold one keeps: trims and steering entries. -/
def engineKeeps (off : Nat) : Bool := decide (off = 0x90 ∨ off = 0x98)

/-! ## Ridge reset (R728, R730) -/

/-- The ridge's state as the ridge column of R728 leaves it. -/
def Block.resetRidgeState (s : Block) (r : Nat) : Block :=
  let step := (s.oldest r).map (fun S => (S + 2 ^ 32 - 1) % 2 ^ 32)
  let next := step.getD (s.step r)
  let rev := s.rev r
  let t := (List.range 34).foldl (fun t c =>
    let t := (t.zeroSite r c false).clearSite r c
    let t := t.modSpad r c (fun x => { Spad.reset with rows := x.rows, bad := x.bad })
    (List.range 11).foldl (fun t p => t.resetStatus (sitePage r c p) (fun off => decide (1 ≤ p ∧ p ≤ 8) && engineKeeps off))
      (t.modCore r c (fun x => { x with held := [], testOf := none }))) s
  let norm := t.regs.filter (fun e => pageKind (e.1 / regSpan / 4096) = .core ∧ ridgeOfPage (e.1 / regSpan / 4096) = r
    ∧ 0x308 ≤ e.1 / regSpan % 4096 ∧ e.1 / regSpan % 4096 ≤ 0x310)
  let t := norm.foldl (fun t e => t.setReg e.1 (regReset e.1)) t
  let t := (List.range 8).foldl (fun t p =>
    if p = 4 then t else t.resetStatus (ridgePage r p) (fun off => decide (p = 1 ∧ 0x40 ≤ off ∧ off < 0x6C))) t
  let t := (List.range 1024).foldl (fun t n => (t.setReg (SYNC_VAL r n) 0).setFld (SYNC_ATTR.ARMED r n) 0) t
  let t := { t with
    sync := SMap.del r t.sync, drv := SMap.del r t.drv, mig := SMap.del r t.mig }
  let t := (t.setRi r RidgeInt.reset).setReg (RI_STEP r) (BitVec.ofNat 32 next)
  (t.setFld (RI_STAT.REV r) rev).setReg (RI_OLDEST r) (BitVec.ofNat 32 next)

/-- A ridge reset begins (R730): it retracts from the oldest uncommitted step, halts the cores and runs the steps of an entry
without an abort point. A ridge in Nap or Off is reset without waking. -/
def Block.resetRidge (s : Block) (r : Nat) : Block :=
  let s := if s.ridgeState r = 4 then s.abandonEntry r else s
  let t := match s.oldest r with
    | some S => s.sendRetracts r S
    | none => s
  let t := t.setRi r { t.ri r with sets := [], voids := [], replay := none }
  let t := if 1 ≤ s.fld (RC_MIG_STAT.STATE r) ∧ s.fld (RC_MIG_STAT.STATE r) ≤ 3 then t.migFail r 7 else t
  let t := (t.calAbort r).haltCores r
  if s.dieActive ∧ s.ridgeUp r then
    let t := { t with pow := { t.pow with resetting := t.pow.resetting.filter (fun x => decide (x ≠ r)) ++ [r] } }
    t.entryStart r 0
  else t.resetRidgeState r

/-- The end of a ridge reset: suspended operations resume at the head of their class, and the ridge is in Run. -/
def Block.resetRidgeDone (s : Block) (r : Nat) : Block :=
  let t := { s with pow := { s.pow with resetting := s.pow.resetting.filter (fun x => decide (x ≠ r)) } }
  (t.resetRidgeState r).leaveEntry r

/-! ## The current governor (R645–R647, R672) -/

/-- A ridge's cap in µW: CAP × THERM / 16. -/
def Block.govCap (s : Block) (r : Nat) : Nat := s.fld (PM_GOV_RCFG.CAP r) * s.fld (PM_GOV_RCFG.THERM r) * 1000000 / 16

/-- The shares of the ridges in Run or Doze of a budget of `d` W: in proportion to WEIGHT, cut at the cap, and what a cap
cuts divided once more among the others. Ridge and µW. -/
def Block.govShares (s : Block) (d : Nat) : List (Nat × Nat) :=
  let w (r : Nat) : Nat := s.fld (PM_GOV_RCFG.WEIGHT r)
  let up := (List.range 16).filter (fun r => s.ridgeUp r && decide (w r ≠ 0))
  let total := (up.map w).sum
  let first := up.map (fun r => (r, d * 1000000 * w r / total))
  let cut := (first.map (fun x => x.2 - s.govCap x.1)).sum
  let free := first.filter (fun x => decide (x.2 ≤ s.govCap x.1))
  let rest := (free.map (fun x => w x.1)).sum
  first.map (fun x =>
    if x.2 ≤ s.govCap x.1 then (x.1, min (s.govCap x.1) (x.2 + cut * w x.1 / rest)) else (x.1, s.govCap x.1))

/-- The frame allowance of each core of a ridge with a budget in µW, within THERM (R647, R672). F / 40 ns is FRAME × 250 µW. -/
def Block.govAllow (s : Block) (r budget : Nat) : Nat :=
  let n := ((List.range 34).filter (fun c => decide (s.fld (CORE_STAT.STATE r c) ≠ 0 ∧ s.fld (CORE_STAT.STATE r c) ≠ 4))).length
  let f := max 1 (s.fld PM_GOV_CFG.FRAME) * 250
  min (s.fld (PM_GOV_RCFG.THERM r)) (if n = 0 then 16 else min 16 (16 * budget / (n * f)))

/-- An interval of the governor: the energy of the interval before it in nJ, and its measured uncontrolled draw in W. -/
def Block.governor (s : Block) (uncontrolled energy : Nat) : Block :=
  let S := (energy :: s.pow.energy).take 1000000
  let old := if S.length = 1000000 then S.getLastD 0 else 0
  let excess := if energy > 900000 then s.pow.excess + 1 else 0
  let third := (900000000000 + old - S.sum) / 1000
  let limit := min third (if excess ≥ 10000 then 900 else 1000)
  let t := { s with pow := { s.pow with energy := S, excess := excess } }
  let t := ((t.setFld PM_GOV_STAT.LIMIT limit).setFld PM_GOV_STAT.STRETCH (min 100 (excess / 100))).setFld PM_GOV_E1S.S (S.sum / 1000000)
  let t := if excess ≥ 10000 ∧ s.pow.excess < 10000 then t.raise (diePage 2) Irq.power_GOV_LIMIT else t
  let shares := t.govShares (limit - uncontrolled - t.fld PM_GOV_CFG.GUARD)
  (List.range 16).foldl (fun t r =>
    if !t.ridgeUp r then t
    else
      let b := ((shares.find? (fun x => decide (x.1 = r))).map (·.2)).getD 0
      (t.setFld (PM_GOV_RSTAT.BUDGET r) (min 1023 (b / 1000000))).setFld (PM_GOV_RSTAT.A r) (t.govAllow r b)) t

end Sys2Proof.Machine
end

