-- ==== Sys2Proof/Machine/Residency.lean ====
section
/-! DEFINITION. The commands of model residency: parcels, records, version flips, rebuild mode, exports and the layer-map
journal (R467–R501). -/
namespace Sys2Proof.Machine
open Host

/-! ## Parcels (R467, R472, R473, R479) -/

/-- Writes a slot's parcel. -/
def Block.setParcel (s : Block) (n : Nat) (p : Parcel) : Block := { s with res := { s.res with parcels := SMap.ins n p s.res.parcels } }

/-- A parcel that has not been fetched. -/
def Parcel.start : Parcel := ⟨false, 0, 0, 0, 0, 0, 0, false, none, 128⟩

/-- PARCEL_GO (R472, R479): a slot that is RUNNING ignores it. -/
def execParcelGo (req : Fin 18) (dw : BitVec 26) (v : Word) (s : State) : Outcome State Fault Refusal := s.runs fun s =>
  .next (s.command req dw.toNat v .residency [0x58] (fun _ _ n t =>
    if !v.getLsbD 0 ∨ t.fld (RZ_P_STAT.STATE n) = 1 then t
    else
      let t := ((t.setReg (RZ_P_STAT n) 1).setReg (RZ_P_OK n) 0).setReg (RZ_P_FAIL n) 0
      ((t.setReg (RZ_P_FIRST_ERR n) 0).setParcel n Parcel.start).showSlots))

/-- Ends every record from `i` on with a code. -/
def Block.endRest (s : Block) (n i count code : Nat) : Block :=
  if count = 0 then s.slotDone n
  else
    let t := s.addReg (RZ_P_FAIL n) (count - 1)
    let t := if s.reg (RZ_P_FAIL n) = 0 then (t.setFld (RZ_P_FIRST_ERR.RECORD n) i).setFld (RZ_P_FIRST_ERR.CODE n) code else t
    ((t.addReg (RZ_P_FAIL n) 1).raise (diePage 12) Irq.residency_PARCEL_FAIL).slotDone n

/-- The fetch of a parcel ends: its slab is complete and the records not yet decrypted end with TRUNCATED (R476, R479). -/
def Block.endFetch (s : Block) (n : Nat) (p : Parcel) : Block :=
  let t := (s.setParcel n { p with stopped := true, next := p.records }).closeNaming n
  t.endRest n p.next (p.records - p.next) 10

/-- PARCEL_STOP (R479). -/
def execParcelStop (req : Fin 18) (dw : BitVec 26) (v : Word) (s : State) : Outcome State Fault Refusal := s.runs fun s =>
  .next (s.command req dw.toNat v .residency [0x58] (fun _ _ n t =>
    match SMap.find n t.res.parcels with
    | some p =>
      if !v.getLsbD 1 ∨ t.fld (RZ_P_STAT.STATE n) ≠ 1 then t
      else if p.accepted then t.endFetch n p
      else
        let t := { t with res := { t.res with parcels := SMap.del n t.res.parcels } }
        ((t.setFld (RZ_P_STAT.STATE n) 2).showSlots).raise (diePage 12) Irq.residency_PARCEL_DONE
    | none => t))

/-- Refuses a whole parcel (R473). -/
def Block.refuseParcel (s : Block) (n code : Nat) : Block :=
  let t := { s with res := { s.res with parcels := SMap.del n s.res.parcels } }
  (((t.setFld (RZ_P_STAT.STATE n) 3).setFld (RZ_P_STAT.PCODE n) code).showSlots).raise (diePage 12) Irq.residency_PARCEL_FAIL

/-- The parcel code of a header, 0 for an accepted one (R467, R473). -/
def Block.headerCode (s : Block) (h : BitVec 1024) : Nat :=
  let f (lo w : Nat) : Nat := h.toNat / 2 ^ lo % 2 ^ w
  if f 0 32 ≠ 0x4C504B47 ∨ f 32 16 ≠ 1 ∨ f 50 14 ≠ 0 ∨ f 96 32 = 0 ∨ f 96 32 > 262144 ∨ f 136 24 ≠ 0 ∨ f 328 696 ≠ 0 then 1
  else if f 49 1 = 1 ∧ (f 256 64 ≠ s.serial ∨ f 320 8 ≠ s.fld FAB_SELF.COORD) then 2
  else if f 128 8 ≥ 64 ∨ (SMap.find (f 128 8) s.tr.keys).isNone then 3
  else 0

/-- PARCEL_HEADER (R467, R473): `code` is the code with which the drover ended the header's descriptor. -/
def execParcelHeader (n : Fin 4) (code : Nat) (h : BitVec 1024) (s : State) : Outcome State Fault Refusal := s.runs fun s =>
  match SMap.find n.val s.res.parcels with
  | none => .next s
  | some p =>
    let space := addrSpace (s.pair (RZ_P_ADDR_LO n) (RZ_P_ADDR_HI n))
    if p.accepted then .next s
    else if code ≠ 0 ∨ space > 1 then .next (s.refuseParcel n 4)
    else
      let pc := s.headerCode h
      let f (lo w : Nat) : Nat := h.toNat / 2 ^ lo % 2 ^ w
      if pc ≠ 0 then .next (s.refuseParcel n pc)
      else .next (s.setParcel n { p with
        accepted := true, ver := f 48 1, model := f 64 32, records := f 96 32, keySlot := f 128 8, nonce := f 160 96 })

/-! ## Records (R468–R470, R474, R475, R480, R481, R486, R487) -/

/-- A record's fields from its descriptor, column parameters and weight data. -/
def parseRecord (d : BitVec 512) (params : BitVec 2048) (data : Nat) : BlockRecord :=
  let f (lo w : Nat) : Nat := d.toNat / 2 ^ lo % 2 ^ w
  let g (lo : Nat) : Nat := params.toNat / 2 ^ lo % 65536
  let width := f 56 4
  { blockId := f 0 32, ridge := f 32 4, engine := f 36 3, core := f 40 5, slab := f 48 3, block := f 51 3, width := width,
    shape := f 60 2, src := f 62 2, zeroHi := f 64 4, zeroLo := f 68 4, stepE := f 72 3, guardX := f 75 4, guardQ := f 80 8,
    badReserved := decide (f 39 1 ≠ 0 ∨ f 45 3 ≠ 0 ∨ f 54 2 ≠ 0 ∨ f 79 1 ≠ 0 ∨ f 88 40 ≠ 0 ∨ f 160 352 ≠ 0),
    tallyCentre := [f 128 16, f 144 16], columns := (List.range 64).map (fun i => (g (32 * i), g (32 * i + 16))),
    codes := if width = 0 ∨ width > 8 then [] else (List.range (512 * rowCodes width)).map (fun i => data / 2 ^ (width * i) % 2 ^ width) }

/-- The host-table entry for a parcel's header: the one that holds it, or a free one (R492, R493). -/
def Block.hostEntry (s : Block) (p : Parcel) : Option Nat :=
  match s.res.hostTable.find? (fun x => decide (x.2 = (p.keySlot, p.nonce))) with
  | some x => some x.1
  | none => (List.range 64).find? (fun n => (SMap.find n s.res.hostTable).isNone)

/-- Whether the records of a physical slab are still being named by the slot's parcel (R476). -/
def Block.building (s : Block) (n r k e p : Nat) : Bool :=
  s.res.records.any (fun x => x.on r k e p && decide (x.stage = .unpacked ∧ x.slot = n))

/-- Whether the slab is queued, programming or awaiting commit (R480). -/
def Block.slabBusy (s : Block) (n r k e p : Nat) : Bool :=
  s.res.records.any (fun x => x.on r k e p && !decide (x.stage = .unpacked ∧ x.slot = n))

/-- Whether a record needs a physical slab of its own version that is not yet assigned (R486, R487). -/
def Block.needsSlab (s : Block) (n : Nat) (v : Nat) (b : BlockRecord) : Bool :=
  let pv := s.pslabOf b.ridge b.core b.engine b.slab v
  let po := s.pslabOf b.ridge b.core b.engine b.slab (1 - v)
  decide (pv = 15) || (decide (pv = po ∧ v ≠ s.activeVer b.ridge) && !s.rebuilding b.ridge && !s.building n b.ridge b.core b.engine pv)

/-- The first record code of R480 that applies, 0 for none. -/
def Block.placement (s : Block) (n : Nat) (p : Parcel) (b : BlockRecord) : Nat :=
  let r := b.ridge
  let v := p.ver
  let pos := position r b.core b.engine b.slab b.block
  let pv := s.pslabOf r b.core b.engine b.slab v
  let old := s.entryOf pos v
  let ridges := ((SMap.find p.keySlot s.tr.keys).map (·.ridges)).getD 0
  let refetch := (s.entry (entryA pos)).refetch || (s.entry (entryB pos)).refetch
  if b.width > 8 ∨ b.shape = 3 ∨ b.badReserved ∨ b.src = 3 ∨ (b.src ≠ 0 ∧ !zeroLevelsFit b.width b.zeroHi b.zeroLo) then 2
  else if ridges / 2 ^ r % 2 = 0 then 3
  else if !s.rebuilding r && (match old with | some i => decide ((s.entry i).blockId ≠ b.blockId) | none => false) then 4
  else if (pv ≠ 15 ∧ s.slabBusy n r b.core b.engine pv) ∨ ((s.fld (RZ_FLIP_STAT.STATE r) = 2 ∨ (SMap.find r s.res.freeing).isSome)
    ∧ v ≠ s.activeVer r) then 5
  else if b.src = 0 ∧ s.needsSlab n v b ∧ (s.freeSlab r b.core b.engine b.slab).isNone then 6
  else if b.src ≠ 0 ∧ b.width ≠ 0 ∧ (!s.valleyFits r b.core b.engine b.width b.zeroHi b.zeroLo
    ∨ (b.src = 1 ∧ s.freeValleySlot.isNone) ∨ (b.src = 2 ∧ (s.hostEntry p).isNone)) then 7
  else if !s.rebuilding r ∧ !refetch ∧ v = s.activeVer r ∧ pv ≠ 15 ∧ (b.src = 0 ∨ b.width = 0)
    ∧ !s.building n r b.core b.engine pv then 8
  else 0

/-- The old entries of a shared logical slab stay with the other version; the version's own copies take the new slab
(R487). -/
def Block.carryOver (s : Block) (r k e l v p q : Nat) : Block :=
  let t := (s.copySlot r k e p q).setPslab r k e l v q
  (List.range 8).foldl (fun t b =>
    let pos := position r k e l b
    match t.entryOf pos v with
    | none => t
    | some i =>
      let x := t.entry i
      if x.ver ≠ 3 then t
      else
        let t := (t.setEntry i LayerEntry.none).putEntry pos { x with ver := 2 ^ (1 - v) }
        let y := if x.pslab = 15 then { x with ver := 2 ^ v } else { x with ver := 2 ^ v, pslab := q, state := 1 }
        let t := t.putEntry pos y
        if y.state = 3 then t.setFld SD_VALLEY.VALLEY_USED (t.fld SD_VALLEY.VALLEY_USED + 1) else t) t

/-- The physical slab that a record is written to, assigned where needed, and the VER of its entry (R487). -/
def Block.targetSlab (s : Block) (n v : Nat) (b : BlockRecord) : Block × Nat × Nat :=
  let r := b.ridge
  let k := b.core
  let e := b.engine
  let l := b.slab
  let pv := s.pslabOf r k e l v
  let po := s.pslabOf r k e l (1 - v)
  if !s.needsSlab n v b then (s, pv, if pv = po then 3 else 2 ^ v)
  else
    let q := (s.freeSlab r k e l).getD l
    let t := s.blankSlot r k e q
    if pv ≠ 15 then (t.carryOver r k e l v pv q, q, 2 ^ v)
    else if po = 15 then ((t.setPslab r k e l v q).setPslab r k e l (1 - v) q, q, 3)
    else (t.setPslab r k e l v q, q, 2 ^ v)

/-- A version's, or both versions', entry of a position gives way to a new one. -/
def Block.replaceEntry (s : Block) (pos : Nat) (x : LayerEntry) : Block :=
  let t := if x.ver % 2 = 1 then s.leaveVersion pos 0 else s
  let t := if x.ver / 2 = 1 then t.leaveVersion pos 1 else t
  t.putEntry pos x

/-- A record for a slab is unpacked into its image slot (R163, R475, R480, R481). -/
def Block.unpackSlab (s : Block) (n i : Nat) (p : Parcel) (b : BlockRecord) : Block :=
  let (t, q, ver) := s.targetSlab n p.ver b
  let pos := position b.ridge b.core b.engine b.slab b.block
  let key := slabKey b.ridge (t.siteOf b.ridge b.core) b.engine q
  let again := (t.entry (entryA pos)).refetch || (t.entry (entryB pos)).refetch
  let t := if p.naming = some key then t else t.closeNaming n
  let t := match SMap.find n t.res.parcels with
    | some y => t.setParcel n { y with naming := some key }
    | none => t
  let t := t.writeCodes b.ridge b.core b.engine q b.block b.width b.codes
  let t := if b.width = 0 then t
    else t.replaceEntry pos ⟨b.blockId, p.model, 1, ver, 0, again, q, b.width, b.shape, 0, 0, 0⟩
  { t with res := { t.res with records := t.res.records ++ [⟨n, i, p.ver, p.model, q, false, .unpacked, b⟩] } }

/-- A record for valley mode, or a removal of a block that has no physical slab, waits for the step boundary (R478, R481,
R492, R493). -/
def Block.unpackValley (s : Block) (n i : Nat) (p : Parcel) (b : BlockRecord) : Block :=
  let pos := position b.ridge b.core b.engine b.slab b.block
  let pv := s.pslabOf b.ridge b.core b.engine b.slab p.ver
  let po := s.pslabOf b.ridge b.core b.engine b.slab (1 - p.ver)
  let none2 := decide (pv = po) && (s.entryOf pos 0).isNone && (s.entryOf pos 1).isNone
  let ver := if none2 then 3 else 2 ^ p.ver
  let slot := (s.freeValleySlot).getD 0
  let host := (s.hostEntry p).getD 0
  let start := s.pair (RZ_P_ADDR_LO n) (RZ_P_ADDR_HI n)
  let t := if b.width = 0 then s
    else
      let x : LayerEntry := ⟨b.blockId, p.model, 1, ver, b.src, false, 15, b.width, b.shape, if b.src = 1 then slot else host,
        if b.src = 2 then i else 0, if b.src = 2 then (start + (p.pos - recordBytes b.width)) % 2 ^ 64 else 0⟩
      let t := s.replaceEntry pos x
      let e := if ver = 2 then entryB pos else entryA pos
      if b.src = 1 then { t with res := { t.res with valley := SMap.ins slot b.codes t.res.valley } }
      else { t with res := { t.res with hostTable := SMap.ins host (p.keySlot, p.nonce) t.res.hostTable,
                                        hostCodes := SMap.ins e b.codes t.res.hostCodes } }
  let x : PendRec := ⟨n, i, p.ver, p.model, 15, false, .committing, b⟩
  let t := { t.showValley with res := { t.showValley.res with records := t.res.records ++ [x] } }
  t.commitRecord x

/-- Whether a record waits in the unpack stage: for the erase of a ridge in REBUILD (R491), or for a migration of its core
(R249). -/
def Block.unpackWaits (s : Block) (b : BlockRecord) : Bool :=
  (s.rebuilding b.ridge && (s.store.eraseLeft.any (fun k => decide (keyRidge k = b.ridge))
      || s.store.eraseNext.any (fun x => decide (keyRidge x.1 = b.ridge))))
    || (match SMap.find b.ridge s.mig with | some m => decide (m.logical = b.core) | none => false)

/-- RECORD_DECRYPT (R468–R470, R474, R480): the next record of a slot. `tagOk` is the outcome of its tag; the rest is its
plaintext: descriptor, column parameters and weight data. -/
def execRecordDecrypt (n : Fin 4) (tagOk : Bool) (d : BitVec 512) (params : BitVec 2048) (data : Nat) (s : State) :
    Outcome State Fault Refusal := s.runs fun s =>
  match SMap.find n.val s.res.parcels with
  | none => .next s
  | some p =>
    let b := parseRecord d params data
    let i := p.next
    if !p.accepted ∨ p.stopped ∨ i ≥ p.records ∨ !s.bit RZ_CTL.EN then .next s
    else
      let pos := p.pos + recordBytes (min 8 b.width)
      if pos > (s.reg (RZ_P_LEN n)).toNat * 64 then .next (s.endFetch n p)
      else
        let used := ((SMap.find p.keySlot s.tr.keys).map (·.used)).getD false
        if !tagOk ∧ i = 0 ∧ !used then .next (s.refuseParcel n 3)
        else if tagOk && s.unpackWaits b then .next s
        else
          let q := { p with next := i + 1, pos := pos }
          let t := s.setParcel n q
          let t := if !tagOk then t.endRecord n i 1
            else
              let t := match SMap.find p.keySlot t.tr.keys with
                | some k => { t with tr := { t.tr with keys := SMap.ins p.keySlot { k with used := true } t.tr.keys } }
                | none => t
              let code := t.placement n q b
              if code ≠ 0 then t.endRecord n i code
              else if b.width = 0 ∧ t.pslabOf b.ridge b.core b.engine b.slab p.ver = 15 then t.unpackValley n i q b
              else if b.src = 0 ∨ b.width = 0 then t.unpackSlab n i q b
              else t.unpackValley n i q b
          .next (if i + 1 = p.records then t.closeNaming n else t)

/-- Whether a probe pass over rows of a slab gives the expected codes (R132, R133). -/
def Block.probePasses (s : Block) (r c e p : Nat) (rows : List Nat) (err : List Int) : Bool :=
  let u := s.columnU r c e p (rows.map (fun i => (i, (1 : Int)))) err
  let codes := u.map (fun v => (convert v 2 0 0).code)
  let want := s.expectCodes r c e p rows
  (List.range 544).all (fun col => s.probeSkips r c e p col || decide (codes.getD col 0 = want.getD col 0))

/-- RECORD_PROBE_DONE (R474, R477–R479): a ROW and a SUM probe pass of a programmed slab; `rowErr` and `sumErr` as `err` in
PASS_LATCH. -/
def execRecordProbeDone (r : RidgeId) (c : SiteId) (e : EngineId) (p : SlabId) (rowErr sumErr : List Int) (s : State) :
    Outcome State Fault Refusal := s.runs fun s =>
  if rowErr.length ≠ 544 ∨ sumErr.length ≠ 544 then .fault .illFormed
  else
    let k := s.imageCore r c
    let l := (s.recordsOn r k e p).filter (fun x => decide (x.stage = .probing))
    if l.isEmpty then .next s
    else
      let x := s.engine r c e
      let a := SMap.get 0 x.fills (probeIndex p 0)
      let b := SMap.get 0 x.fills (probeIndex p 1)
      let rows := (List.range 32).map (fun j => b % 16 * 32 + j)
      let good := s.probePasses r c e p [a % 512] rowErr && s.probePasses r c e p rows sumErr
      let t := s.setEngine r c e { x with fills := SMap.set 0 (SMap.set 0 x.fills (probeIndex p 0) (a + 1)) (probeIndex p 1) (b + 1) }
      let t := ((t.countPass r c e p).countPass r c e p).addSat (ENG_PROBE_CNT.PASSES r c e) 2
      let t := t.wrapReg (ENG_CHK_PASSES r c e) 2
      .next (if good then l.foldl (fun t y => t.commitRecord y) t else t.loadFailed r k e p)

/-! ## Versions (R488–R490) -/

/-- FLIP_ARM (R488, R489). -/
def execFlipArm (req : Fin 18) (dw : BitVec 26) (v : Word) (s : State) : Outcome State Fault Refusal := s.runs fun s =>
  .next (s.command req dw.toNat v .residency [0xA0] (fun page off r t =>
    let t := t.storeAt req page off v
    if !v.getLsbD 0 ∨ t.fld (RZ_FLIP_STAT.STATE r) = 1 ∨ t.fld (RZ_FLIP_STAT.STATE r) = 2 ∨ t.rebuilding r then t
    else t.setFld (RZ_FLIP_STAT.STATE r) 1))

/-- The old version's slab of a logical slab gives way to the new one's (R490): the map, the entries, and the slab left. -/
def Block.mergeSlab (s : Block) (r k e l old : Nat) : Block :=
  let p := s.pslabOf r k e l (1 - old)
  if s.pslabOf r k e l old = p then s
  else
    (List.range 8).foldl (fun t b =>
      let pos := position r k e l b
      match t.entryOf pos (1 - old) with
      | some i => (t.setEntry i LayerEntry.none).putEntry pos { t.entry i with ver := 3 }
      | none => t) (s.setPslab r k e l old p)

/-- OLD_VERSION_FREE (R490): every step of the ridge older than FLIP_STEP has committed. -/
def execOldVersionFree (r : RidgeId) (s : State) : Outcome State Fault Refusal := s.runs fun s =>
  let step := s.fld (RZ_FLIP_STEP.STEP r)
  if s.fld (RZ_FLIP_STAT.STATE r) ≠ 2 ∨ (SMap.find r.val s.res.freeing).isSome
    ∨ (s.ri r).openSteps.any (fun x => stepBefore x.1 step) then .next s
  else
    let old := 1 - s.activeVer r
    let only := s.res.layer.filter (fun x => decide (x.1 / 32768 = r.val ∧ x.2.ver = 2 ^ old))
    let t := only.foldl (fun t x => t.dropEntry x.1) s
    let slabs := ((List.range 256).map (fun ke => (List.range 8).map (fun l => (ke / 8, ke % 8, l)))).flatten
    let before := slabs.map (fun x => (x, t.pslabOf r x.1 x.2.1 x.2.2 old))
    let t := slabs.foldl (fun t x => t.mergeSlab r x.1 x.2.1 x.2.2 old) t
    let t := t.journalNow
    let left := (before.filter (fun x => decide (x.2 ≠ 15) && !(t.mapped r x.1.1 x.1.2.1).contains x.2)).map (fun x =>
      slabKey r (t.siteOf r x.1.1) x.1.2.1 x.2)
    .next (({ t with res := { t.res with freeing := SMap.ins r.val (distinct left) t.res.freeing } }).freeNext r)

/-! ## Rebuild mode (R491, R499) -/

/-- A ridge enters REBUILD. -/
def Block.enterRebuild (s : Block) (r : Nat) : Block :=
  let t := (s.res.layer.filter (fun x => decide (x.1 / 32768 = r))).foldl (fun t x => t.dropEntry x.1) s
  let t := (List.range 2048).foldl (fun t i => t.setReg (RZ_VM_DATA (r + 16 * i)) 0xFF) t
  let t := (t.setFld (RZ_FLIP_STAT.ACTIVE r) 0).setFld (RZ_FLIP_STAT.STATE r) 0
  let t := { t with
    res := { t.res with freeing := SMap.del r t.res.freeing, mailbox := distinct (t.res.mailbox ++ (List.range 34).map (siteKey r)) },
    store := { t.store with eraseNext := t.store.eraseNext ++ [(slabKey r 0 0 0, 2448)] } }
  t.eraseWaiting

/-- Whether records of a ridge are in the pipeline. -/
def Block.recordsLeft (s : Block) (r : Nat) : Bool := s.res.records.any (fun x => decide (x.body.ridge = r))

/-- A REBUILD bit clears and the ridge serves again; a completed rebuild clears UNSERVABLE (R491, R499). -/
def Block.leaveRebuild (s : Block) (r : Nat) : Block :=
  let t := { s with res := { s.res with heldExit := s.res.heldExit.filter (· ≠ r) } }
  (t.setFld ⟨RZ_MODE, r, 1⟩ 0).setBit SD_STAT.UNSERVABLE false

/-- A write of RZ_MODE (R491): new bits enter REBUILD; a clear is held until the ridge's records have ended. -/
def Block.modeWrite (s : Block) (v : Word) : Block :=
  (List.range 16).foldl (fun t r =>
    if v.getLsbD r && !t.rebuilding r then (t.setFld ⟨RZ_MODE, r, 1⟩ 1).enterRebuild r
    else if !v.getLsbD r && t.rebuilding r then
      (if t.recordsLeft r then { t with res := { t.res with heldExit := distinct (t.res.heldExit ++ [r]) } } else t.leaveRebuild r)
    else t) s

/-- REBUILD_ENTER (R489, R491): a write of RZ_MODE. -/
def execRebuildEnter (req : Fin 18) (dw : BitVec 26) (v : Word) (s : State) : Outcome State Fault Refusal := s.runs fun s =>
  .next (s.command req dw.toNat v .residency [0xA8] (fun _ _ _ t => t.modeWrite v))

/-- REBUILD_EXIT (R491). -/
def execRebuildExit (r : RidgeId) (s : State) : Outcome State Fault Refusal := s.runs fun s =>
  .next (if s.res.heldExit.contains r.val && !s.recordsLeft r then s.leaveRebuild r else s)

/-! ## Exports (R498, R608) and the journal (R485) -/

/-- The blocks that an export takes: the active version of every ridge. -/
def Block.exported (s : Block) : List (Nat × LayerEntry) :=
  s.res.layer.filter (fun x => decide (x.2.state = 2 ∨ x.2.state = 3 ∨ x.2.state = 4) && x.2.inVer (s.activeVer (x.1 / 32768)))

/-- Whether a key slot may export the die (R608). -/
def Block.exportOk (s : Block) (slot : Nat) : Bool :=
  match SMap.find slot s.tr.keys with
  | none => false
  | some k => k.exportOk && (s.res.layer.filter (fun x => decide (x.2.state = 2 ∨ x.2.state = 3 ∨ x.2.state = 4))).all
      (fun x => decide (k.ridges / 2 ^ (x.1 / 32768) % 2 = 1))

/-- EXPORT_GO (R498, R608). -/
def execExportGo (req : Fin 18) (dw : BitVec 26) (v : Word) (s : State) : Outcome State Fault Refusal := s.runs fun s =>
  .next (s.command req dw.toNat v .residency [0xC0] (fun _ _ _ t =>
    if !v.getLsbD 0 ∨ t.res.exporting.isSome then t
    else if !t.exportOk (getBits v 8 8) then
      (t.setFld RZ_X_STAT.STATE 3).trustDenied (if req.val = 17 then 0 else req.val) 0 5
    else ({ t with res := { t.res with exporting := some (getBits v 8 8) } }).setReg RZ_X_STAT 1))

/-- EXPORT_STOP (R498): the export ends; the state that RZ_X_STAT then shows is open among those that are not RUNNING. -/
def execExportStop (req : Fin 18) (dw : BitVec 26) (v : Word) (s : State) : Outcome State Fault Refusal := s.runs fun s =>
  .next (s.command req dw.toNat v .residency [0xC0] (fun _ _ _ t =>
    if !v.getLsbD 1 ∨ t.res.exporting.isNone then t
    else
      let st := [0, 2, 3].getD (t.freeNat % 3) 0
      ((({ t with res := { t.res with exporting := none } }).tick).setFld RZ_X_STAT.STATE st).raise (diePage 12)
        Irq.residency_EXPORT_DONE))

/-- EXPORT_DONE (R498): the four parcels have been written. -/
def execExportDone (s : State) : Outcome State Fault Refusal := s.runs fun s =>
  if s.res.exporting.isNone then .next s
  else
    let t := { s with res := { s.res with exporting := none } }
    .next (((t.setFld RZ_X_STAT.STATE 2).setFld RZ_X_STAT.RECORDS s.exported.length).raise (diePage 12) Irq.residency_EXPORT_DONE)

/-- LAYER_MAP_JOURNAL (R485). -/
def execLayerMapJournal (s : State) : Outcome State Fault Refusal := s.runs fun s =>
  .next s.journalNow

end Sys2Proof.Machine
end

