-- ==== Sys2Proof/Machine/StartOps.lean ====
section
/-! DEFINITION. Start-up: image slots and the boot ROM, failed starts, unclean-off recovery, the image rebuild, parameter
cells, the probe sweep and layer-map recovery (R41, R75, R88, R717–R726). -/
namespace Sys2Proof.Machine

/-! ## Image slots and the boot ROM (R592, R717–R721) -/

/-- The image of a slot: 0 A, 1 B. -/
def BootSt.slot (b : BootSt) (n : Nat) : FwImage := if n = 0 then b.slotA else b.slotB

/-- Writes a slot. -/
def BootSt.setSlot (b : BootSt) (n : Nat) (x : FwImage) : BootSt := if n = 0 then { b with slotA := x } else { b with slotB := x }

/-- Changes the start-up state. -/
def Block.modBoot (s : Block) (f : BootSt → BootSt) : Block := { s with boot := f s.boot }

/-- Whether the boot ROM accepts a slot: its signature, and its SVN against the fused minimum (R592, R719). -/
def Block.slotOk (s : Block) (n : Nat) : Bool :=
  (s.boot.slot n).ok && decide ((s.boot.slot n).svn ≥ s.fld (TR_STAT.MIN_SVN 16))

/-- The slot that runs, and the other one. -/
def Block.running (s : Block) : Nat := s.fld BC_STAT.SLOT
def Block.otherSlot (s : Block) : Nat := 1 - s.running

/-- BC_FW_OTHER: the version in the other slot, 0 when it does not verify (R740). -/
def Block.showOther (s : Block) : Block :=
  s.setReg BC_FW_OTHER (if s.slotOk s.otherSlot then BitVec.ofNat 32 (s.boot.slot s.otherSlot).fw else 0)

/-- The firmware of a slot runs. -/
def Block.runSlot (s : Block) (n : Nat) : Block :=
  let x := s.boot.slot n
  let t := (s.setFld BC_STAT.SLOT n).setBit BC_STAT.TRIAL (s.boot.trial && decide (n = s.boot.active))
  ((t.setReg BC_FW_ACTIVE (BitVec.ofNat 32 x.fw)).setFld (TR_STAT.BASE_SVN 16) x.svn).showOther

/-- A start ends at a step: START_FAIL, which is an alert source (R719, R768). -/
def Block.startFail (s : Block) (step : Nat) : Block :=
  let t := (s.setFld BC_STAT.FAIL_STEP step).raise (diePage 1) Irq.start_START_FAIL
  (t.setBit MG_ALERT_SRC.START_FAIL true).showAlert

/-- A start that fails in steps 4 to 6 ends with the normal rail-down order, Hold and RAIL_FAULT (R719). -/
def Block.startFails (s : Block) (step : Nat) : Block := ((s.startFail step).railFault).normalOrder 0

/-- The boot ROM at step 2: a trial's TRIES rises and its third start boots the other slot (R721); slot ACTIVE runs when it
verifies, else the other; with neither the die is in ROM recovery (R720). -/
def Block.bootRom (s : Block) : Block :=
  let tries := if s.boot.trial then s.boot.tries + 1 else s.boot.tries
  let back := s.boot.trial && decide (tries ≥ 3)
  let t := s.modBoot (fun b => if back then { b with trial := false, tries := 0, active := 1 - b.active } else { b with tries := tries })
  let t := t.modBoot (fun b => { b with recovery := false })
  let a := t.boot.active
  if t.slotOk a ∨ t.slotOk (1 - a) then
    let t := t.runSlot (if t.slotOk a then a else 1 - a)
    if back then t.raise (diePage 1) Irq.start_REVERTED else t
  else (t.modBoot (fun b => { b with recovery := true })).startFail 2

/-! ## Debt at a start (R88) -/

/-- Each slab's debt from its checkpoint and the calendar time elapsed at a band; with the clock unset every slab is treated
as due. -/
def Block.restoreDebts (s : Block) (band : Nat) : Block :=
  let elapsed := (s.cairn.time - s.store.checkpointTime) / 1000 * s.fld (SD_BAND_INC.INC band)
  (List.range 39168).foldl (fun t k =>
    let r := keyRidge k
    let c := keySite k
    let e := keyEngine k
    let p := keySlab k
    let n := if s.bit CAIRN_STAT.TIME_SET then SMap.get s.store.checkpointRest s.store.checkpoint k + elapsed else 0xFFFFFFFF
    (t.modSlab r c e p (fun b => { b with debt := 0, dueAt := none })).addDebt r c e p n) s

/-- Steps 1 to 3 of a start: the boot ROM, then firmware in Hold (R88, R719). -/
def Block.boot123 (s : Block) : Block :=
  let t := (s.setFld PM_DIE_STAT.STATE 0).setFld BC_STAT.FAIL_STEP 0
  let t := t.bootRom
  if t.boot.recovery then t.setFld BC_STAT.STEP 2
  else
    let t := t.setFld BC_STAT.STEP 3
    if t.fld PM_DIE_STAT.LAST_OFF = 2 then t else t.restoreDebts 0

/-! ## Unclean-off recovery (R75, R725) -/

/-- Asks for a re-fetch of a slab's blocks once the layer map is recovered (R485). -/
def Block.wantRefetch (s : Block) (k : Nat) : Block := s.modBoot (fun b => { b with refetch := distinct (b.refetch ++ [k]) })

/-- An open intent settled by the unclean-off column of R75. -/
def Block.settleIntent (s : Block) (i : Intent) : Block :=
  let r := i.ridge
  let c := i.site
  let e := i.engine
  let p := i.slab
  match i.kind with
  | .load | .migrate => s.slabTo r c e p .empty
  | .standin | .mirror | .testStandin => s.modSlab r c e 8 (fun b => { b with state := .free, replaces := 0 })
  | .refreshSlab =>
    if i.standin = 8 then s.enqueue r ⟨.refreshSlab, c, e, p, p, 2, false⟩
    else (s.modSlab r c e p (fun b => { b with state := .suspect, leased := false })).wantRefetch (slabKey r c e p)
  | .replaceColumn =>
    let l := (s.slab r c e p).stagedMap.map (·.2)
    l.foldl (fun t x => t.enqueue r ⟨.replaceColumn, c, e, p, x, 2, false⟩) (s.modSlab r c e p (fun b => { b with stagedMap := [] }))
  | .replaceSlab =>
    let q := (s.slab r c e 8).replaces
    (s.modSlab r c e 8 (fun b => { b with state := .free, replaces := 0 })).enqueue r ⟨.replaceSlab, c, e, q, q, 2, false⟩
  | .reverify => s.enqueue r ⟨.reverify, c, e, p, p, 1, false⟩
  | _ => s

/-- The hut contents of every ridge are discarded (R319). -/
def Block.discardHuts (s : Block) : Block :=
  (List.range 544).foldl (fun t k =>
    let r := k / 34
    let c := k % 34
    ((t.modSpad r c (fun x => { x with rows := [], bad := [] })).setBit (SP_STAT.HUT_DISCARDED r c) true).raise (sitePage r c 9)
      Irq.spad_HUT_DISCARDED) s

/-- Unclean-off recovery (R725). -/
def Block.uncleanRecovery (s : Block) : Block :=
  let l := s.store.intents
  let t := (s.setFld SD_STAT.OPEN_INTENTS l.length).setBit SD_STAT.UNCLEAN_START true
  let t := { t with store := { t.store with intents := [], running := [], boundary := [], waiting := [] } }
  let t := l.foldl (fun t i => t.settleIntent i) t
  (t.discardHuts).restoreDebts 4

/-- An interrupted erase resumes (R75, R725). -/
def Block.resumeErase (s : Block) : Block :=
  s.store.eraseLeft.foldl (fun t k =>
    let r := keyRidge k
    let c := keySite k
    let e := keyEngine k
    let o : StoreOp := ⟨.erase, c, e, keySlab k, 0, 2, false⟩
    if (t.queue r).contains o ∨ (t.runOf r c e).any (fun x => decide (x.op = o)) then t else t.enqueue r o) s

/-! ## The image rebuild (R41) -/

/-- Whether a conductance lies in the read window of some tally code (R29, R31). -/
def tallyRead (g : Nat) : Bool := (List.range 61).any (fun t => within g (tallyG t) 200)

/-- The levels of a row's data columns as a verify read of a slab finds them; none where a cell in service lies outside every
read window. -/
def verifiedRow (b : Slab) (g : List Nat) : Option (BitVec 2048) :=
  let data := (List.range 512).map (fun l => readLevel (g.getD (b.physical l) 0))
  let tally := (List.range 16).all (fun j => tallyRead (g.getD (b.physical (512 + j)) 0))
  let refs := b.unassigned.all (fun k => b.defective.contains k || (readLevel (g.getD (528 + k) 0)).isSome)
  if tally && refs && data.all (·.isSome) then
    some ((List.range 512).foldl (fun v l => putLevel v l ((data.getD l none).getD 0)) 0)
  else none

/-- Rebuilds an image slot from a physical slab, or sets the slab to SUSPECT (R41). -/
def Block.rebuildSlot (s : Block) (r c e p slot : Nat) : Block :=
  let rows := (List.range 512).map (fun row => verifiedRow (s.slab r c e p) (s.cellRow r c e p row))
  if rows.all (·.isSome) then
    (List.range 512).foldl (fun t row => t.setImageRow r (s.imageCore r c) e slot row ((rows.getD row none).getD 0)) s
  else (s.slabTo r c e p .suspect).wantRefetch (slabKey r c e p)

/-- The slab that a slab's content is rebuilt into, if the image must hold it (R41). -/
def Slab.rebuilds (b : Slab) (p : Nat) : Option Nat :=
  if p < 8 then (if b.state = .resident ∨ b.state = .suspect then some p else none)
  else if b.state = .assigned ∨ b.state = .standin ∨ ((b.state = .resident ∨ b.state = .suspect)) then some b.replaces else none

/-- The weight-image rebuild of step 7. -/
def Block.rebuildImage (s : Block) : Block :=
  s.store.slabs.foldl (fun t x => match x.2.rebuilds (keySlab x.1) with
    | some slot => t.rebuildSlot (keyRidge x.1) (keySite x.1) (keyEngine x.1) (keySlab x.1) slot
    | none => t) { s with store := { s.store with image := [] } }

/-- Store settlement once the bands are taken (R41, R725, R817): every ridge without a valid sensor takes band 4. -/
def Block.settle (s : Block) : Block :=
  let t := (List.range 17).foldl (fun t g => if (t.validTemps g).isEmpty then t.evalGroup g true else t) s
  let t := if t.fld PM_DIE_STAT.LAST_OFF = 2 then t.uncleanRecovery else t
  let t := { t with look := { t.look with bandsTaken := true } }
  let t := t.resumeErase.rebuildImage
  if t.bit SD_CTL.REFRESH_EN then t.refreshDue else t

/-! ## Parameter cells (R722, R726) -/

/-- The parameter set of a slab as the engine's registers and the layer map give it. -/
def Block.paramSet (s : Block) (r c e p : Nat) : ParamSet :=
  let k := s.imageCore r c
  let mine (x : Nat × LayerEntry) : Bool := decide (x.1 / 128 = (r * 32 + k) * 8 + e ∧ x.2.state ≠ 0 ∧ x.2.state ≠ 1)
    && decide (x.2.pslab = p ∨ (x.2.pslab = 15 ∧ (if s.pslabOf r k e (entrySlab x.1) (s.activeVer r) = 15 then 8
      else s.pslabOf r k e (entrySlab x.1) (s.activeVer r)) = p))
  { blocks := (List.range 8).map (fun b => (b, s.reg (ENG_BT_DATA r c e (p + 16 * b))))
    columns := (List.range 528).map (fun l => (l, s.reg (ENG_COL_DATA r c e (p + 16 * l))))
    tags := (s.res.layer.filter mine).map (fun x => (x.1, x.2.blockId)) }

/-- A set whose programming an unclean off cut: it fails its verify, its blocks are loaded with SHAPE 3 and it names none
(R726). -/
def ParamSet.cut (x : ParamSet) : ParamSet := { x with blocks := x.blocks.map (fun b => (b.1, putBits b.2 26 2 3)), tags := [] }

/-- Programs the parameter cells of an engine's slabs 0–8 (R722). -/
def Block.programParams (s : Block) (r c e : Nat) (cut : Bool) : Block :=
  s.modBoot (fun b => { b with params := (List.range 9).foldl (fun m p =>
    let x := s.paramSet r c e p
    SMap.ins (slabKey r c e p) (if cut then x.cut else x) m) b.params })

/-- Every engine's block tables and column parameters from its parameter cells (R722). -/
def Block.loadParams (s : Block) : Block :=
  s.boot.params.foldl (fun t x =>
    let r := keyRidge x.1
    let c := keySite x.1
    let e := keyEngine x.1
    let p := keySlab x.1
    let t := x.2.blocks.foldl (fun t b => t.setReg (ENG_BT_DATA r c e (p + 16 * b.1)) b.2) t
    x.2.columns.foldl (fun t b => t.setReg (ENG_COL_DATA r c e (p + 16 * b.1)) b.2) t) s

/-- The calibration record replaces the fused trims (R695); a newer value that awaits its write stays. -/
def Block.loadTrims (s : Block) : Block :=
  (s.cal.record.filter (fun e => (SMap.find e.1 s.cal.unsaved).isNone)).foldl (fun t e =>
    if e.1 < 50000 then { t with cal := { t.cal with trims := SMap.set 0 t.cal.trims e.1 e.2 } } else t.setReg e.1 e.2) s

/-- Steps 8 and 9 as far as the probe sweep (R719): microcode is loaded and its ridges wake; one that does not verify stays
Off. -/
def Block.startMicrocode (s : Block) : Block :=
  let x := s.boot.slot s.running
  let good := (List.range 16).filter (fun r => !x.ucBad.contains r)
  let t := s.modBoot (fun b => { b with
    ucBad := x.ucBad, ucVersion := good.map (fun r => (r, x.uc)), serdesVersion := (List.range 10).map (fun p => (p, x.serdes)) })
  let t := if x.ucBad.isEmpty then t else t.raise (diePage 1) Irq.start_UC_FAIL
  let t := good.foldl (fun t r => if t.ridgeState r = 2 ∨ t.ridgeState r = 3 then t.setRidgeState r 5 else t) t
  (t.loadTrims.loadParams).setFld BC_STAT.STEP 9

/-! ## The probe sweep (R724) -/

/-- The 528 probes of a slab counted (R116, R156). -/
def Block.sweepSlab (s : Block) (r c e p : Nat) : Block :=
  let lo := ENG_PASSES_LO r c e
  let hi := ENG_PASSES_HI r c e
  let t := s.setPair lo hi (s.pair lo hi + 528)
  let n := if s.bit SD_CTL.RD_DEBT_EN then 528 else 0
  let t := t.modSlab r c e p (fun b => { b with passes := b.passes + 528, readCount := b.readCount + n })
  let t := (t.wrapReg (ENG_CHK_PASSES r c e) 528).addSat (ENG_PROBE_CNT.PASSES r c e) 528
  { t with cairn := { t.cairn with newPasses := SMap.set 0 t.cairn.newPasses (engKey r c e) (SMap.get 0 t.cairn.newPasses (engKey r c e) + 528) } }

/-- A failing probe is counted and starts a classification that belongs to no step (R566, R724). -/
def Block.sweepFail (s : Block) (x : SweepFail) : Block :=
  let r := keyRidge x.slab
  let c := keySite x.slab
  let e := keyEngine x.slab
  let p := keySlab x.slab
  if r > 15 ∨ !(s.slab r c e p).state.probed then s
  else
    let last := BitVec.ofNat 32 (p + (if x.sum then 2 else 1) * 2 ^ 4 + x.column % 1024 * 2 ^ 6 + x.count % 1024 * 2 ^ 16)
    let t := ((s.addSat (ENG_PROBE_CNT.FAILS r c e) 1).setReg (ENG_PROBE_LAST r c e) last).raise (engPage r c e) Irq.engine_PROBE_FAIL
    let rows := if x.sum then (List.range 32).map (fun j => 32 * (x.index % 16) + j) else [x.index % 512]
    t.noteEvent r ⟨c, e, p, 2, t.step r, t.rev r, x.column, rows, last.toNat, 0⟩

/-- The sweep of step 9 with one drift fit for each serving slab (R55, R719, R724). -/
def Block.sweep (s : Block) (failures : List SweepFail) : Block :=
  let slabs := s.store.slabs.filter (fun x => !s.boot.ucBad.contains (keyRidge x.1))
  let t := (slabs.filter (fun x => x.2.state.probed)).foldl (fun t x =>
    t.sweepSlab (keyRidge x.1) (keySite x.1) (keyEngine x.1) (keySlab x.1)) s
  let t := failures.foldl (fun t x => t.sweepFail x) t
  (slabs.filter (fun x => x.2.state.sampled)).foldl (fun t x =>
    let r := keyRidge x.1
    t.setQueue r (t.queue r ++ [⟨.driftSample, keySite x.1, keyEngine x.1, keySlab x.1, 0, 5, false⟩])) t

/-! ## Layer-map recovery (R723) -/

/-- Whether the parameter cells of an entry's position name its BLOCK_ID. -/
def Block.tagged (s : Block) (i : Nat) (x : LayerEntry) : Bool :=
  let r := i / 32768
  let c := s.siteOf r (i / 1024 % 32)
  (List.range 9).any (fun p =>
    decide (SMap.find i (SMap.get ParamSet.blank s.boot.params (slabKey r c (i / 128 % 8) p)).tags = some x.blockId))

/-- An entry as the table of R723 recovers it: the first condition that applies to its state; a slab whose blocks this start
must re-fetch gives REFETCH as well (R485). -/
def Block.recoverEntry (s : Block) (i : Nat) (x : LayerEntry) : LayerEntry :=
  let r := i / 32768
  let c := s.siteOf r (i / 1024 % 32)
  let e := i / 128 % 8
  let p := s.serving r c e x.pslab
  let st := (s.slab r c e p).state
  let x := if x.pslab ≠ 15 ∧ s.boot.refetch.contains (slabKey r c e p) then { x with refetch := true } else x
  if x.state = 1 ∨ (x.pslab ≠ 15 ∧ (st = .empty ∨ st = .erasing ∨ st = .retired)) then { x with state := 0, refetch := true }
  else if !s.tagged i x then { x with refetch := true }
  else if x.pslab ≠ 15 ∧ st = .suspect ∧ x.state = 2 then { x with state := 4 }
  else x

/-- A recovered entry enters the layer map and the version map; the codes of a valley slot, which the stacks held, are open. -/
def Block.placeEntry (s : Block) (i : Nat) (x : LayerEntry) : Block :=
  let y := s.recoverEntry i x
  let r := i / 32768
  let k := i / 1024 % 32
  let e := i / 128 % 8
  let t := { s with res := { s.res with layer := SMap.set LayerEntry.none s.res.layer i y } }
  let t := if y.state = 0 ∨ y.pslab = 15 then t
    else [0, 1].foldl (fun t v => if y.inVer v then t.setPslab r k e (entrySlab i) v y.pslab else t) t
  if y.state ≠ 3 then t
  else
    let t := t.setFld SD_VALLEY.VALLEY_USED (t.fld SD_VALLEY.VALLEY_USED + 1)
    if y.src ≠ 1 then t
    else
      let codes := (List.range (512 * rowCodes y.width)).map (fun n => Config.freeValue (t.freeCtr + n) % 2 ^ y.width)
      { t with freeCtr := t.freeCtr + 512 * rowCodes y.width, res := { t.res with valley := SMap.ins y.vslot codes t.res.valley } }

/-- Layer-map recovery: the journal's entries, the version maps and the ridges' active versions; a freeing that had begun
goes on (R490, R723). -/
def Block.recoverMap (s : Block) : Block :=
  let t := (List.range 16).foldl (fun t r => t.setFld (RZ_FLIP_STAT.ACTIVE r) (SMap.get 0 s.res.journalActive r)) s
  let t := t.res.journal.foldl (fun t x => t.placeEntry x.1 x.2) { t with res := { t.res with layer := [] } }
  let t := { t with res := { t.res with mailbox := distinct ((t.res.layer.filter (fun (x : Nat × LayerEntry) => decide (x.2.state = 3))).map
    (fun (x : Nat × LayerEntry) => siteKey (x.1 / 32768) (t.siteOf (x.1 / 32768) (x.1 / 1024 % 32)))) } }
  let t := if t.res.layer.any (fun x => x.2.refetch) then t.raise (diePage 12) Irq.residency_REFETCH else t
  ((t.modBoot (fun b => { b with refetch := [] })).showValley).eraseWaiting

end Sys2Proof.Machine
end

