-- ==== Sys2Proof/Machine/Power.lean ====
section
/-! DEFINITION. Commands of the power manager: die and ridge states, entry and wake, supply events, the power-fail
sequence and the governor (R624–R650, R801). -/
namespace Sys2Proof.Machine
open Host

/-! ## Die states (R627) -/

/-- A power command that is ignored (R627, R633). -/
def Block.rejectPower (s : Block) : Block := s.raise (diePage 2) Irq.power_CMD_REJECT

/-- The die reaches Active: in a start that has not reached step 9 microcode is loaded (R719); ridges whose wake waited begin
to wake, and ports in use begin to train (R394, R627, R632). -/
def Block.becomeActive (s : Block) : Block :=
  let t := s.unsettle.setFld PM_DIE_STAT.STATE 2
  let t := if s.fld BC_STAT.STEP ≥ 9 ∨ s.bit BC_STAT.SERVING then t else t.startMicrocode
  let t := t.pow.wakePending.foldl (fun t r => if t.ridgeState r = 2 ∨ t.ridgeState r = 3 then (t.dropWake r).setRidgeState r 5 else t) t
  (List.range 10).foldl (fun t p => if t.bit (FAB_PLAN_PEER.USE p) && decide (t.portState p = 0) then t.portDetect p else t) t

/-- Whether the die is in Standby. -/
def Block.dieStandby (s : Block) : Bool := decide (s.fld PM_DIE_STAT.STATE = 1)

/-- PM_DIE_CMD writes: `f` is the effect of the operation `op` where `ok` allows it (R627). -/
def Block.dieCommand (s : Block) (req : Requester) (dw : Nat) (v : Word) (op : Nat) (ok : Block → Bool) (f : Block → Block) : Block :=
  s.command req dw v .power [0x40] (fun _ _ _ t =>
    if getBits v 0 3 ≠ op then t else if ok t then f t else t.rejectPower)

/-- DIE_ACTIVE (R627): from Standby. -/
def execDieActive (req : Fin 18) (dw : BitVec 26) (v : Word) (s : State) : Outcome State Fault Refusal := s.runs fun s =>
  .next (s.dieCommand req dw.toNat v 1 Block.dieStandby Block.becomeActive)

/-- DIE_STANDBY (R626, R627): from Active when every ridge is Off; the fabric ports go to OFF. -/
def execDieStandby (req : Fin 18) (dw : BitVec 26) (v : Word) (s : State) : Outcome State Fault Refusal := s.runs fun s =>
  .next (s.dieCommand req dw.toNat v 2
    (fun t => t.dieActive && (List.range 16).all (fun r => decide (t.ridgeState r = 3)))
    (fun t => (List.range 10).foldl (fun t p => t.portTo p 0) (t.setFld PM_DIE_STAT.STATE 1)))

/-- DIE_HOLD (R627, R640): from Standby, the normal rail-down order. -/
def execDieHold (req : Fin 18) (dw : BitVec 26) (v : Word) (s : State) : Outcome State Fault Refusal := s.runs fun s =>
  .next (s.dieCommand req dw.toNat v 3 Block.dieStandby (fun t => t.normalOrder 0))

/-! ## Ridge states (R630–R636) -/

/-- A wake event at a ridge, which ends a drain window at once (R632, R633). -/
def Block.wakeAt (s : Block) (r cause : Nat) : Block := (s.wakeRidge r cause).windowAbort r

/-- PM_RIDGE_CMD writes: the ridge of PM_RSEL and the effect of the operation `op`. -/
def Block.ridgeCommand (s : Block) (req : Requester) (dw : Nat) (v : Word) (op : Nat) (f : Nat → Block → Block) : Block :=
  s.command req dw v .power [0x50] (fun _ _ r t => if getBits v 0 2 = op then f r t else t)

/-- RIDGE_RUN (R632). -/
def execRidgeRun (req : Fin 18) (dw : BitVec 26) (v : Word) (s : State) : Outcome State Fault Refusal := s.runs fun s =>
  .next (s.ridgeCommand req dw.toNat v 1 (fun r t => t.wakeAt r 3))

/-- RIDGE_NAP (R633): refused unless every core of the ridge is halted. -/
def execRidgeNap (req : Fin 18) (dw : BitVec 26) (v : Word) (s : State) : Outcome State Fault Refusal := s.runs fun s =>
  .next (s.ridgeCommand req dw.toNat v 2 (fun r t => if t.entryAllowed r then t.entryStart r 2 else t.rejectPower))

/-- RIDGE_OFF (R631, R633): refused unless every core of the ridge is halted. -/
def execRidgeOff (req : Fin 18) (dw : BitVec 26) (v : Word) (s : State) : Outcome State Fault Refusal := s.runs fun s =>
  .next (s.ridgeCommand req dw.toNat v 3 (fun r t => if t.entryAllowed r then t.entryStart r 3 else t.rejectPower))

/-- DOORBELL (R627, R632): it takes the die from Standby to Active, and wakes the ridge. -/
def execDoorbell (req : Fin 18) (dw : BitVec 26) (v : Word) (s : State) : Outcome State Fault Refusal := s.runs fun s =>
  .next (s.command req dw.toNat v .power [0x60] (fun _ _ r t =>
    let t := t.wakeAt r 3
    if t.dieStandby then t.becomeActive else t))

/-- CORE_START (R240, R632, R784): a write to a ridge that is not up is held and wakes it. -/
def execCoreStart (req : Fin 18) (dw : BitVec 26) (v : Word) (s : State) : Outcome State Fault Refusal := s.runs fun s =>
  match place req dw.toNat with
  | .at page off =>
    if pageKind page = .core ∧ off = 0x48 then
      let r := ridgeOfPage page
      let c := siteOfPage page
      if s.ridgeUp r then .next ((s.dozeWake r).startCore req.val r c v)
      else if !s.dieActive then .next (s.addReg PM_OFF_ACCESS 1)
      else .next ({ s with pow := { s.pow with heldStarts := s.pow.heldStarts ++ [(req.val, r, c, v)] } }.wakeAt r 4)
    else .next s
  | .denied => .next s.countDenied
  | .unmapped => .next (s.countUnmapped req dw.toNat true)

/-- RIDGE_TIMER_EXPIRY (R632, R648): the timer counts in Nap and Off. -/
def execRidgeTimerExpiry (r : RidgeId) (s : State) : Outcome State Fault Refusal := s.runs fun s =>
  if s.reg (PM_RIDGE_TIMER r) = 0 ∨ (s.ridgeState r ≠ 2 ∧ s.ridgeState r ≠ 3) then .next s
  else .next ((s.setReg (PM_RIDGE_TIMER r) 0).wakeAt r 1)

/-- Whether a store operation that is queued, waiting or running counts as outstanding (R631): a scan and a drift sample
program nothing. -/
def StoreKind.outstanding (k : StoreKind) : Bool := decide (k ≠ .scan ∧ k ≠ .driftSample)

/-- The conditions of R631 for Doze. -/
def Block.idle (s : Block) (r : Nat) : Bool :=
  (List.range 34).all (fun c =>
    decide (s.fld (CORE_STAT.STATE r c) = 0 ∨ s.fld (CORE_STAT.STATE r c) = 4) && (s.coreAt r c).tags.isEmpty
    && (List.range 8).all (fun e => (s.engine r c e).queue.isEmpty && (s.engine r c e).qmQueue.isEmpty))
  && (List.range 32).all (fun ch => (s.chan r ch).current.isNone)
  && !(s.queue r).any (fun o => o.kind.outstanding) && (s.waiting r).isEmpty
  && !(s.runsOf r).any (fun x => x.2.op.kind.outstanding)

/-- DOZE_ENTRY (R62, R631, R632): an idle ridge enters Doze, and one that was woken for the store returns to Off. -/
def execDozeEntry (r : RidgeId) (s : State) : Outcome State Fault Refusal := s.runs fun s =>
  if s.ridgeState r ≠ 0 ∨ !s.idle r then .next s
  else if s.pow.returnOff.contains r.val then
    .next ({ s with pow := { s.pow with returnOff := s.pow.returnOff.filter (fun x => decide (x ≠ r.val)) } }.entryStart r 3)
  else .next (s.setRidgeState r 1)

/-- AUTO_NAP (R631). -/
def execAutoNap (r : RidgeId) (s : State) : Outcome State Fault Refusal := s.runs fun s =>
  if s.ridgeState r ≠ 1 ∨ !s.bit (PM_RIDGE_CFG.AUTO_NAP r) ∨ !s.coresHalted r then .next s else .next (s.entryStart r 2)

/-- Whether the ridge is at a step of its entry and no low-voltage hold pauses it (R636). -/
def Block.entryAt (s : Block) (r step : Nat) : Bool :=
  decide (s.ridgeState r = 4 ∧ s.fld (PM_RIDGE_STAT.ENTRY_STEP r) = step) && !s.lvActive

/-- Whether a wake event abandons the entry here; a reset has no abort point (R634, R730). -/
def Block.abandons (s : Block) (r : Nat) : Bool := s.wakes r && !s.pow.resetting.contains r

/-- DRAIN_WINDOW_END (R459, R460, R633): steps 2 and 3. -/
def execDrainWindowEnd (r : RidgeId) (s : State) : Outcome State Fault Refusal := s.runs fun s =>
  if !s.entryAt r 2 then .next s
  else if s.abandons r then .next (s.abandonEntry r)
  else .next ((s.drainEnd r).setFld (PM_RIDGE_STAT.ENTRY_STEP r) 4)

/-- ENTRY_SUSPEND_DONE (R633, R634): programming has suspended after its row, and abort point A2 is reached. -/
def execEntrySuspendDone (r : RidgeId) (s : State) : Outcome State Fault Refusal := s.runs fun s =>
  if !s.entryAt r 4 then .next s
  else
    let t := s.suspendRuns (fun x => decide (x = r.val))
    if t.pow.resetting.contains r.val then .next (t.resetRidgeDone r)
    else if t.abandons r then .next (t.abandonEntry r)
    else .next (t.setFld (PM_RIDGE_STAT.ENTRY_STEP r) 5)

/-- ENTRY_FRAME_GATE (R633–R635): abort point A3, then Nap or Off is reached. -/
def execEntryFrameGate (r : RidgeId) (s : State) : Outcome State Fault Refusal := s.runs fun s =>
  if !s.entryAt r 5 then .next s
  else if s.abandons r then .next (s.abandonEntry r)
  else .next ((s.setRidgeState r (s.fld (PM_RIDGE_STAT.TARGET r))).setFld (PM_RIDGE_STAT.ENTRY_STEP r) 0)

/-- RIDGE_WAKE_DONE (R630). -/
def execRidgeWakeDone (r : RidgeId) (s : State) : Outcome State Fault Refusal := s.runs fun s =>
  if s.ridgeState r ≠ 5 ∨ !s.dieActive then .next s else .next (s.ridgeWakes r)

/-! ## Wakes of the die (R627, R628) -/

/-- An address match in Hold (R628): the front end keeps a private write of up to 64 bytes that follows it, and the die wakes. -/
def Block.i3cMatch (s : Block) (data : List Byte) : Block :=
  if !s.dieHold then s
  else ({ s with mg := { s.mg with wake := data.take 64 } }.setBit PM_WAKE_CAUSE.I3C true).startMain

/-- I3C_ADDRESS_MATCH (R627, R628). -/
def execI3cAddressMatch (data : List Byte) (s : State) : Outcome State Fault Refusal := s.runs fun s => .next (s.i3cMatch data)

/-- HOLD_WAKE_TIMER (R627). -/
def execHoldWakeTimer (s : State) : Outcome State Fault Refusal := s.runs fun s =>
  if !s.dieHold then .next s else .next (s.setBit PM_WAKE_CAUSE.TIMER true).startMain

/-! ## Supply events (R637–R644, R801) -/

/-- RAIL_WARNING (R637): rail 0, 1 or 2 falls below its warning level. -/
def execRailWarning (rail : Fin 3) (s : State) : Outcome State Fault Refusal := s.runs fun s =>
  if !s.bit (PM_RAIL_STAT.EN rail) ∨ s.bit (PM_RAIL_STAT.WARN rail) then .next s
  else
    let t := (((s.setBit (PM_RAIL_STAT.WARN rail) true).cutPasses).cutPulses).railUrgent rail
    let t := if s.pow.lvRails.isEmpty then (t.setBit PM_DIE_STAT.LV_HOLD true).raise (diePage 2) Irq.power_LV_HOLD else t
    .next { t with pow := { t.pow with lvRails := t.pow.lvRails ++ [rail.val] } }

/-- LV_HOLD_END (R638): `us` is how long the hold lasted. The record names the rail that began it. -/
def execLvHoldEnd (us : Nat) (s : State) : Outcome State Fault Refusal := s.runs fun s =>
  match s.pow.lvRails with
  | [] => .next s
  | first :: _ =>
    let t := s.pow.lvRails.foldl (fun t k => t.setBit (PM_RAIL_STAT.WARN k) false) s
    let t := { t with pow := { t.pow with lvRails := [] } }.setBit PM_DIE_STAT.LV_HOLD false
    let t := (t.addSat PM_LV_CNT.HOLDS 1).setFld PM_LV_CNT.LONGEST_US (max (t.fld PM_LV_CNT.LONGEST_US) (min 65535 us))
    .next (t.cairnRecord 5 1 (first + us % 2 ^ 32 * 2 ^ 32))

/-- OTHER_RAIL_DIP (R639): VPGM (3), VDD_BASE (4) or a SerDes rail (6, 7) falls below its warning level (level 1), below 88%
(level 2) or recovers (level 0). -/
def execOtherRailDip (rail : Fin 8) (level : Fin 3) (s : State) : Outcome State Fault Refusal := s.runs fun s =>
  if rail.val ≠ 3 ∧ rail.val ≠ 4 ∧ rail.val ≠ 6 ∧ rail.val ≠ 7 ∨ s.pow.off ∨ (rail.val ≠ 4 ∧ !s.bit (PM_RAIL_STAT.EN rail)) then .next s
  else
    let t := (s.setBit (PM_RAIL_STAT.WARN rail) (decide (level.val ≠ 0))).setBit (PM_RAIL_STAT.BELOW_RESET rail) (decide (level.val = 2))
    let t := if level.val = 0 then t else t.railUrgent rail
    if level.val = 0 then .next t
    else if rail.val = 3 then .next t.cutPulses
    else if rail.val = 4 then .next t
    else if level.val = 2 then
      .next ((List.range 10).foldl (fun t p => if t.portState p = 0 then t else t.portDetect p) t.railFault)
    else .next t.railFault

/-- RAIL_RESET_LEVEL (R640): rail 0–3 falls below its reset level. -/
def execRailResetLevel (rail : Fin 4) (s : State) : Outcome State Fault Refusal := s.runs fun s =>
  if !s.bit (PM_RAIL_STAT.EN rail) then .next s
  else .next (((s.setBit (PM_RAIL_STAT.BELOW_RESET rail) true).railUrgent rail).emergency rail 0 4)

/-- POWER_GOOD_FALL (R640, R801): a power-good falls while its enable is 1. -/
def execPowerGoodFall (rail : Fin 11) (s : State) : Outcome State Fault Refusal := s.runs fun s =>
  if !s.bit (PM_RAIL_STAT.EN rail) ∨ !s.bit (PM_RAIL_STAT.PG rail) ∨ rail.val = 4 ∨ rail.val = 5 then .next s
  else .next ((s.setBit (PM_RAIL_STAT.PG rail) false).emergency rail 0 4)

/-- RAIL_DOWN_STEP (R640): `stuck`, the power-good of the rail just turned off is still high at the end of the wait. -/
def execRailDownStep (stuck : Bool) (s : State) : Outcome State Fault Refusal := s.runs fun s => .next (s.railStep stuck)

/-- PWR_FAIL (R643, R709, R711): latched, programming suspends, no pass starts, cores stall, and the flush of a power-fail
starts in place of any other. -/
def execPwrFail (s : State) : Outcome State Fault Refusal := s.runs fun s =>
  if s.pow.off ∨ s.bit PM_PF_STAT.LATCHED then .next s
  else
    let t := if s.bit CAIRN_CTL.FREEZE then
        (s.setBit CAIRN_CTL.FREEZE false).cairnPut 11 1 0 ((s.reg CAIRN_MISSED).toNat * 2 ^ 32)
      else s
    let t := (t.setBit PM_PF_STAT.LATCHED true).setBit PM_DIE_STAT.PF_LATCHED true
    let t := (t.addSat PM_PF_STAT.COUNT 1).raise (diePage 2) Irq.power_PWR_FAIL
    let t := (t.cutPasses.cutPulses).suspendRuns (fun _ => true)
    .next { t.setBit CAIRN_STAT.FLUSHING true with cairn := { t.cairn with flush := some 1 } }

/-- PF_RAIL_DOWN (R643): 5 µs after the flush has completed. -/
def execPfRailDown (s : State) : Outcome State Fault Refusal := s.runs fun s =>
  if !s.bit PM_PF_STAT.LATCHED ∨ !s.bit PM_PF_STAT.FLUSH_DONE ∨ s.pow.railDown.isSome then .next s
  else .next (s.normalOrder s.pow.after)

/-- VDD_BASE_LOSS (R642): the die state Off. The off is unclean unless a power-fail flush had completed. -/
def execVddBaseLoss (s : State) : Outcome State Fault Refusal := s.runs fun s =>
  if s.pow.off then .next s
  else
    let last := if s.pow.clean then s.offClean.fld PM_DIE_STAT.LAST_OFF else 2
    let t := (s.loseBase false).setFld PM_DIE_STAT.LAST_OFF last
    .next { t with pow := { t.pow with off := true } }

/-! ## The current governor (R645–R647) -/

/-- GOVERNOR_INTERVAL (R645–R647): the measured uncontrolled draw of the interval before, in W, and its energy in nJ. -/
def execGovernorInterval (uncontrolled energy : Nat) (s : State) : Outcome State Fault Refusal := s.runs fun s =>
  if !s.dieActive then .next s else .next (s.governor uncontrolled energy)

end Sys2Proof.Machine
end

