-- ==== Sys2Proof/Machine/Start.lean ====
section
/-! DEFINITION. Commands of start-up, reset and live update (R719–R739, R746, R760, R797–R801, R817). -/
namespace Sys2Proof.Machine
open Host

/-! ## The start (R719–R725) -/

/-- VDD_BASE_RISE (R592, R719–R721): from the state Off, or at the end of a commanded cold reset. -/
def execVddBaseRise (s : State) : Outcome State Fault Refusal := s.runs fun s =>
  if s.pow.off then
    .next (({ s with pow := { s.pow with off := false } }.setFld BC_STAT.LAST_RESET 0).boot123)
  else if s.fld BC_STAT.STEP = 1 then .next s.boot123 else .next s

/-- RAIL_POWER_GOOD (R719, R798, R799, R801): `vin` is VIN_PGM in mV as LK2 input 7 reads it. A power-good of a rail that is
not enabled raises RAIL_FAULT. -/
def execRailPowerGood (rail : Fin 11) (vin : Nat) (s : State) : Outcome State Fault Refusal := s.runs fun s =>
  if rail.val = 4 ∨ rail.val = 5 ∨ s.pow.off then .next s
  else if !s.bit (PM_RAIL_STAT.EN rail) then .next s.railFault
  else match s.boot.rails with
    | [] => .next s
    | k :: rest =>
      if k ≠ rail.val then .next s
      else
        let t := (s.setBit (PM_RAIL_STAT.PG rail) true).modBoot (fun b => { b with rails := rest })
        match rest with
        | [] => .next (t.setFld BC_STAT.STEP 5).startLook
        | next :: _ => .next (if next = 3 ∧ vin < 3135 then t.startFails 4 else t.nextRail)

/-- POWER_GOOD_TIMEOUT (R719). -/
def execPowerGoodTimeout (s : State) : Outcome State Fault Refusal := s.runs fun s =>
  if s.fld BC_STAT.STEP ≠ 4 ∨ s.boot.rails.isEmpty then .next s else .next (s.startFails 4)

/-- Region 63 of the cache tier covers the weight image and the valley area for owner 17 (R341, R719). -/
def Block.imageRegion (s : Block) : Block :=
  let base := s.fld SD_IMAGE_BASE.BASE_4G * 1048576
  let t := (s.setFld (CT_REG_BASE.BASE_G 63) base).setFld (CT_REG_LIMIT.LIMIT_G 63) (base + 1114111)
  (t.setBit (CT_REG_CTL.VALID 63) true).setFld (CT_REG_CTL.OWNER 63) 17

/-- HBM_TRAINING_DONE (R609, R719): whether the FRU EEPROM and the power modules answered, and the stacks that were read as
12-high at 36 GB and that trained. -/
def execHbmTrainingDone (fru pmod : Bool) (hbm trained : BitVec 6) (s : State) : Outcome State Fault Refusal := s.runs fun s =>
  if s.fld BC_STAT.STEP ≠ 5 ∨ s.fld PM_DIE_STAT.STATE ≠ 3 then .next s
  else
    let t := ((s.setBit BC_ID_STAT.FRU_OK fru).setBit BC_ID_STAT.PMOD_OK pmod).setFld BC_ID_STAT.HBM_OK hbm.toNat
    if hbm ≠ 63 then .next (t.startFails 5)
    else if trained ≠ 63 then .next (t.startFails 6)
    else
      let t := (List.range 18).foldl (fun t o => t.drawKey o) t
      .next ((List.range 16).foldl (fun t r => t.setRidgeState r 0) (t.imageRegion.setFld BC_STAT.STEP 7))

/-- Whether step 7 is in progress. -/
def Block.settling (s : Block) : Bool := decide (s.fld BC_STAT.STEP = 7 ∧ s.fld PM_DIE_STAT.STATE = 3)

/-- BAND_INIT (R41, R75, R725, R817): the bands are taken and the store is settled; `moved` are the cells whose conductance the
rebuild's verify reads find changed. -/
def execBandInit (moved : List (Fin 39168 × Fin 512 × Fin 544 × Nat)) (s : State) : Outcome State Fault Refusal := s.runs fun s =>
  if !s.settling ∨ s.look.bandsTaken then .next s
  else
    let t := moved.foldl (fun t m =>
      t.moveCells (keyRidge m.1) (keySite m.1) (keyEngine m.1) (keySlab m.1) [(m.2.1, m.2.2.1, m.2.2.2)]) s
    .next t.settle

/-- STORE_SETTLEMENT_DONE (R719): the die is in Standby; with AUTO_START = 1 it goes on to Active. -/
def execStoreSettlementDone (s : State) : Outcome State Fault Refusal := s.runs fun s =>
  if !s.settling ∨ !s.look.bandsTaken then .next s
  else
    let t := (List.range 16).foldl (fun t r => t.setRidgeState r 3) s
    let t := (t.setFld PM_DIE_STAT.STATE 1).setFld BC_STAT.STEP 8
    .next (if t.bit BC_CFG.AUTO_START then t.becomeActive else t)

/-- PROBE_SWEEP_DONE (R724): the failing probes of the sweep. -/
def execProbeSweepDone (failures : List SweepFail) (s : State) : Outcome State Fault Refusal := s.runs fun s =>
  if s.fld BC_STAT.STEP ≠ 9 ∨ !s.dieActive then .next s else .next ((s.sweep failures).setFld BC_STAT.STEP 10)

/-- START_DONE (R719, R723). -/
def execStartDone (s : State) : Outcome State Fault Refusal := s.runs fun s =>
  if s.fld BC_STAT.STEP ≠ 10 ∨ s.bit BC_STAT.SERVING ∨ !s.dieActive then .next s
  else .next ((s.recoverMap.setBit BC_STAT.SERVING true).raise (diePage 1) Irq.start_START_DONE)

/-- PARAM_CELL_PROGRAM (R722, R726): `cut`, an unclean off ends it before its verify. -/
def execParamCellProgram (r : RidgeId) (c : SiteId) (e : EngineId) (cut : Bool) (s : State) : Outcome State Fault Refusal := s.runs fun s =>
  if !s.ridgeUp r then .next s else .next (s.programParams r c e cut)

/-- SETPOINT_STEP (R797): VDD_CORE moves by 5 mV towards the fused setpoint, once its power-good is up. -/
def execSetpointStep (s : State) : Outcome State Fault Refusal := s.runs fun s =>
  let now := s.fld (PM_RAIL_STAT.SETPOINT 0)
  if !s.bit (PM_RAIL_STAT.PG 0) ∨ !s.bit (PM_RAIL_STAT.EN 0) ∨ now = s.boot.setpoint then .next s
  else .next (s.setFld (PM_RAIL_STAT.SETPOINT 0)
    (if now < s.boot.setpoint then min s.boot.setpoint (now + 5) else max s.boot.setpoint (now - 5)))

/-! ## Clocks (R805, R807) -/

/-- FABREF_LOSS (R805): the emergency order, while rails 0–2 are enabled. -/
def execFabrefLoss (s : State) : Outcome State Fault Refusal := s.runs fun s =>
  if s.bit (PM_RAIL_STAT.EN 0) && s.bit (PM_RAIL_STAT.EN 1) && s.bit (PM_RAIL_STAT.EN 2) then .next (s.emergency 255 0 4) else .next s

/-- CRYSTAL_STOP (R807): timestamps carry TIME_UNSET from here on. -/
def execCrystalStop (s : State) : Outcome State Fault Refusal := s.runs fun s =>
  if s.pow.off then .next s
  else .next { s.setBit CAIRN_STAT.TIME_SET false with cairn := { s.cairn with crystalStopped := true } }

/-- CRYSTAL_RESTART (R807): timestamps carry TIME_UNSET until software sets the calendar clock. -/
def execCrystalRestart (s : State) : Outcome State Fault Refusal := s.runs fun s =>
  .next { s with cairn := { s.cairn with crystalStopped := false } }

/-! ## Resets of the die and of ridges (R727–R730) -/

/-- A write of BC_RESET with one OP and the key (R740). -/
def Block.resetCommand (s : Block) (req : Requester) (dw : Nat) (v : Word) (op : Nat) (f : Block → Block) : Block :=
  s.command req dw v .start [0x48] (fun _ _ _ t => if getBits v 8 8 ≠ 0xC3 ∨ getBits v 0 3 ≠ op then t else f t)

/-- RESET_COLD (R727): the cairn flush, the normal rail-down order, then the start from step 1. -/
def execResetCold (req : Fin 18) (dw : BitVec 26) (v : Word) (s : State) : Outcome State Fault Refusal := s.runs fun s =>
  .next (s.resetCommand req dw.toNat v 1 (fun t => (((t.forceFlush 3).flushed).normalOrder 1).setFld BC_STAT.LAST_RESET 1))

/-- A die warm reset (R727). -/
def Block.resetWarm (s : Block) : Block := (s.normalOrder 2).setFld BC_STAT.LAST_RESET 3

/-- RESET_WARM (R727). -/
def execResetWarm (req : Fin 18) (dw : BitVec 26) (v : Word) (s : State) : Outcome State Fault Refusal := s.runs fun s =>
  .next (s.resetCommand req dw.toNat v 2 Block.resetWarm)

/-- RESET_RIDGE (R730): the ridges of RIDGES. -/
def execResetRidge (req : Fin 18) (dw : BitVec 26) (v : Word) (s : State) : Outcome State Fault Refusal := s.runs fun s =>
  .next (s.resetCommand req dw.toNat v 3 (fun t =>
    (List.range 16).foldl (fun t r => if v.getLsbD (16 + r) then t.resetRidge r else t) t))

/-- Outstanding HOST beats of the die drover whose requester a test names end with BUS_ERR (R452, R727, R746). -/
def Block.endHostBeats (s : Block) (f : Nat → Bool) : Block :=
  let host (d : DescRun) (off : Nat) : Bool :=
    decide (addrSpace (addrAt d.desc.src off) = 0) || decide (addrSpace (addrAt d.desc.dst off) = 0)
  ((s.droverAt 16).chans).foldl (fun t x =>
    if !f x.1 then t
    else
      let y := t.chan 16 x.1
      let descs := y.descs.map (fun d =>
        let lost := d.out.filter (fun o => host d o.1)
        if lost.isEmpty then d else { d.fail 2 with out := d.out.filter (fun o => !host d o.1) })
      (((t.setChan 16 x.1 { y with descs := descs }).completeAll 16 x.1).endEntry 16 x.1)) s

/-- The host port's page returns to its reset values (R727, R746). -/
def Block.hostPage (s : Block) : Block :=
  { s with regs := s.regs.filter (fun e => decide (e.1 / regSpan / 4096 ≠ diePage 9)),
           staged := s.staged.filter (fun e => decide (e.1 / 32 / regSpan / 4096 ≠ diePage 9)) }

/-- PERST (R727): a die warm reset, or with PERST_SCOPE = 1 the host port alone. In Hold, and while the rails go down, the
host port is not powered. -/
def execPerst (s : State) : Outcome State Fault Refusal := s.runs fun s =>
  if s.pow.off ∨ s.fld PM_DIE_STAT.STATE = 0 ∨ s.pow.railDown.isSome then .next s
  else if !s.bit BC_CFG.PERST_SCOPE then .next s.resetWarm
  else .next { (s.endHostBeats (fun _ => true)).hostPage with hp := HostSt.reset }

/-- WATCHDOG_EXPIRY (R727): the emergency order, then a cold start. -/
def execWatchdogExpiry (s : State) : Outcome State Fault Refusal := s.runs fun s =>
  if s.pow.off ∨ s.boot.recovery then .next s
  else if s.railsUp.isEmpty then .next (((s.loseBase true).setFld BC_STAT.LAST_RESET 2).setFld BC_STAT.STEP 1)
  else .next ((s.setFld BC_STAT.LAST_RESET 2).emergency 255 1 4)

/-- FLR_VF (R746): ridge r is reset, with VF r's configuration space, MSI-X table and aperture windows. -/
def execFlrVf (r : RidgeId) (s : State) : Outcome State Fault Refusal := s.runs fun s =>
  if !s.bit HP_VF.VF_EN ∨ s.fld HP_VF.NUMVF ≤ r.val then .next s
  else
    let t := s.setFld ⟨HP_VF, 16 + r.val, 1⟩ 0
    let t := [0, 1, 2, 3].foldl (fun t k => t.setReg (HP_AP_CFG (4 * r.val + k)) (regReset (HP_AP_CFG 0))) t
    let fn := r.val + 1
    let t := { t with hp := { t.hp with
      d3 := t.hp.d3.filter (fun f => decide (f ≠ fn)),
      held := (t.hp.held.map (fun (e : Nat × List ApReq) => (e.1, e.2.filter (fun (q : ApReq) => decide (q.fn ≠ fn))))).filter (fun e => !e.2.isEmpty) } }
    .next (t.resetRidge r)

/-- FLR_PF (R746). -/
def execFlrPf (s : State) : Outcome State Fault Refusal := s.runs fun s =>
  if !s.bit HP_LINK.UP then .next s
  else
    let link := s.reg HP_LINK
    let t := (s.endHostBeats (fun _ => true)).hostPage.setReg HP_LINK link
    .next { t with hp := { t.hp with d3 := [], held := [], pfMsix := false } }

/-! ## Core and block resets (R731, R732) -/

/-- A core reset (R731): the tags of outstanding requests stay, marked as issued under an older revision. -/
def Block.resetCore (s : Block) (r c : Nat) : Block :=
  let s := s.haltCore r c
  let x := s.coreAt r c
  let old := (s.rev r + 255) % 256
  let t := (s.clearSite r c).modCore r c (fun y => { y with
    tags := x.tags.map (fun e => (e.1, { e.2 with rev := old })), requests := x.requests, frameNo := x.frameNo, ranNo := x.ranNo,
    nwShadow := x.nwShadow, nwDone := x.nwDone, nwReplays := x.nwReplays, topk := [] })
  let t := t.resetStatus (sitePage r c 0) (fun off => decide (0x300 ≤ off ∧ off ≤ 0x318))
  let t := t.showTags r c
  if (t.oldest r).isSome then t.failedOldest r else t

/-- A write of BLK_CTL with SOFT_RESET = 1 that reached its page. -/
def Block.softReset (s : Block) (req : Requester) (dw : Nat) (v : Word) (f : Nat → Block → Block) : Block :=
  s.ctlWrite req dw (fun page t => if v.getLsbD 1 then f page t else t)

/-- CORE_SOFT_RESET (R731). -/
def execCoreSoftReset (req : Fin 18) (dw : BitVec 26) (v : Word) (s : State) : Outcome State Fault Refusal := s.runs fun s =>
  .next (s.softReset req dw.toNat v (fun page t =>
    if pageKind page = .core then t.resetCore (ridgeOfPage page) (siteOfPage page) else t))

/-- Whether SOFT_RESET of a page is ignored (R732). -/
def noSoftReset (page : Nat) : Bool :=
  decide (answers page = .baseCamp) || decide (pageKind page = .trust ∨ pageKind page = .dieStore ∨ pageKind page = .residency
    ∨ pageKind page = .core)

/-- Offsets that hold durable state, or a copy of state that a block reset keeps (R728, R732). -/
def blockKeeps (kind : PageKind) (off : Nat) : Bool :=
  match kind with
  | .engine => decide (off = 0x44 ∨ off = 0x78 ∨ off = 0x90 ∨ off = 0x94 ∨ off = 0x98)
  | .ridgeCore => decide (0x40 ≤ off ∧ off < 0x70)
  | .ridgeSync => decide (0x44 ≤ off ∧ off < 0x54)
  | .fabric => decide (off = 0x48 ∨ (0x50 ≤ off ∧ off < 0x70))
  | .ridgeStore => decide (0x44 = off ∨ 0x5C ≤ off)
  | .ridgeInt => decide (0x40 ≤ off ∧ off < 0x60)
  | .serving => decide (0x40 ≤ off)
  | .walker => decide (0x40 ≤ off)
  | .cacheTier => decide (off = 0x44 ∨ off = 0x48 ∨ off = 0x4C)
  | .drvCtl => decide (off = 0x44)
  | .drvCh => decide (0x40 ≤ off)
  | .port => decide (0x40 ≤ off ∧ off < 0x48)
  | .spad => decide (0x5C ≤ off ∧ off < 0x68)
  | _ => false

/-- A drover channel stops (R457). -/
def Block.stopChannel (s : Block) (k ch : Nat) : Block :=
  let x := s.chan k ch
  if x.current.isNone ∧ x.queue.isEmpty then s
  else (s.setChan k ch { x with queue := [], descs := x.descs.take 1 }).abortChan k ch 12 false

/-- A block reset (R732). -/
def Block.resetBlock (s : Block) (page : Nat) : Block :=
  let kind := pageKind page
  let r := ridgeOfPage page
  let k := if page < 4096 then 16 else r
  let clear (t : Block) : Block := t.resetStatus page (blockKeeps kind)
  match kind with
  | .drvCtl => clear ((List.range (droverChannels k)).foldl (fun t ch => t.stopChannel k ch) s)
  | .drvCh => clear ((List.range 16).foldl (fun t i => t.stopChannel k (channelOf page (0x100 + 0x40 * i))) s)
  | .port => if s.portState (page - 26) = 0 then clear s else (clear (s.portTo (page - 26) 14)).portDetect (page - 26)
  | .stack =>
    if (List.range 64).any (fun i => s.bit (CT_REG_CTL.VALID i)) then s.addReg (BLK_ERR_CNT page) 1 else clear s
  | .ridgeStore => clear (s.suspendRuns (fun x => decide (x = r)))
  | .spad =>
    let c := siteOfPage page
    (clear s).setFld (SP_STAT.SHARED_DEPTH r c) (s.fld (SP_STAT.SHARED_DEPTH r c))
  | _ => clear s

/-- BLOCK_SOFT_RESET (R732). -/
def execBlockSoftReset (req : Fin 18) (dw : BitVec 26) (v : Word) (s : State) : Outcome State Fault Refusal := s.runs fun s =>
  .next (s.softReset req dw.toNat v (fun page t => if noSoftReset page then t else t.resetBlock page))

/-! ## Live update (R733–R738, R760) -/

/-- An update command ends with a result (R734, R740, R742). -/
def Block.updateEnd (s : Block) (result : Nat) : Block :=
  let t := (s.setFld BC_UPDATE_STAT.STATE 2).setFld BC_UPDATE_STAT.RESULT result
  let t := t.raise (diePage 1) Irq.start_UPDATE_DONE
  if result = 0 then t else t.raise (diePage 1) Irq.start_UPDATE_FAIL

/-- A write of BC_UPDATE_CMD with one OP. -/
def Block.updateCommand (s : Block) (req : Requester) (dw : Nat) (v : Word) (op : Nat) (f : Block → Block) : Block :=
  s.command req dw v .start [0x58] (fun _ _ _ t => if getBits v 0 3 = op then f t else t)

/-- An image written to a slot and verified: 0 OK, 1 SIGNATURE, 2 SVN or 5 FLASH (R734). -/
def Block.stageInto (s : Block) (n : Nat) (img : FwImage) (flashOk : Bool) : Block × Nat :=
  let x := if flashOk then img else { img with ok := false }
  let t := (s.modBoot (fun b => b.setSlot n x))
  (t.showOther, if !flashOk then 5 else if !x.ok then 1 else if !t.slotOk n then 2 else 0)

/-- STAGE (R734). -/
def Block.stage (s : Block) (img : FwImage) (flashOk : Bool) : Block :=
  let (t, result) := s.stageInto s.otherSlot img flashOk
  (t.setBit BC_UPDATE_STAT.STAGED (decide (result = 0))).updateEnd result

/-- FW_STAGE (R734): the image that the aperture buffer holds, and whether the flash took it. -/
def execFwStage (req : Fin 18) (dw : BitVec 26) (v : Word) (img : FwImage) (flashOk : Bool) (s : State) : Outcome State Fault Refusal := s.runs fun s =>
  .next (s.updateCommand req dw.toNat v 1 (fun t => t.stage img flashOk))

/-- The boot ROM is re-entered on another slot without a reset: measurement 2 changes and every SPDM session ends (R734). -/
def Block.switchTo (s : Block) (slot : Nat) (trial : Bool) : Block :=
  let t := s.modBoot (fun b => { b with active := slot, trial := trial, tries := 0 })
  ((t.modTr (fun y => { y with sessions := [] })).setBit BC_UPDATE_STAT.STAGED false).bootRom

/-- SWITCH (R734): only after a successful STAGE. -/
def Block.switch (s : Block) : Block :=
  if !s.bit BC_UPDATE_STAT.STAGED then s.updateEnd 3 else (s.switchTo s.otherSlot true).updateEnd 0

/-- FW_SWITCH (R734, R735). -/
def execFwSwitch (req : Fin 18) (dw : BitVec 26) (v : Word) (s : State) : Outcome State Fault Refusal := s.runs fun s =>
  .next (s.updateCommand req dw.toNat v 2 Block.switch)

/-- FW_CONFIRM (R736): outside a trial the command ends with STATE. -/
def execFwConfirm (req : Fin 18) (dw : BitVec 26) (v : Word) (s : State) : Outcome State Fault Refusal := s.runs fun s =>
  .next (s.updateCommand req dw.toNat v 3 (fun t =>
    if !t.boot.trial then t.updateEnd 3
    else ((t.modBoot (fun b => { b with trial := false, tries := 0 })).setBit BC_STAT.TRIAL false).updateEnd 0))

/-- The trial image gives way to the other slot (R736). -/
def Block.revert (s : Block) : Block := (s.switchTo (1 - s.boot.active) false).raise (diePage 1) Irq.start_REVERTED

/-- FW_REVERT (R736): outside a trial the command ends with STATE. -/
def execFwRevert (req : Fin 18) (dw : BitVec 26) (v : Word) (s : State) : Outcome State Fault Refusal := s.runs fun s =>
  .next (s.updateCommand req dw.toNat v 4 (fun t => if !t.boot.trial then t.updateEnd 3 else t.revert.updateEnd 0))

/-- TRIAL_TIMEOUT (R736). -/
def execTrialTimeout (s : State) : Outcome State Fault Refusal := s.runs fun s =>
  if !s.boot.trial ∨ !s.bit BC_STAT.TRIAL ∨ s.pow.off then .next s else .next s.revert

/-- Whether a ridge accepts UC_LOAD (R737). -/
def Block.ucReady (s : Block) (r : Nat) : Bool :=
  s.coresHalted r && (s.ri r).openSteps.isEmpty && (s.runsOf r).isEmpty

/-- UC_LOAD (R737): every ridge named that accepts it loads the running image's microcode; one that does not gives STATE, and
one whose microcode does not verify SIGNATURE and UC_FAIL. -/
def Block.ucLoad (s : Block) (mask : Nat) : Block :=
  let named := (List.range 16).filter (fun r => mask.testBit r)
  let x := s.boot.slot s.running
  let ready := named.filter s.ucReady
  let good := ready.filter (fun r => !x.ucBad.contains r)
  let t := s.modBoot (fun b => { b with ucVersion := good.foldl (fun m r => SMap.ins r x.uc m) b.ucVersion })
  if ready.length < named.length then t.updateEnd 3
  else if good.length < ready.length then (t.raise (diePage 1) Irq.start_UC_FAIL).updateEnd 1 else t.updateEnd 0

/-- UC_LOAD (R737). -/
def execUcLoad (req : Fin 18) (dw : BitVec 26) (v : Word) (s : State) : Outcome State Fault Refusal := s.runs fun s =>
  .next (s.updateCommand req dw.toNat v 5 (fun t => t.ucLoad (getBits v 16 16)))

/-- SERDES_LOAD (R738): a port that is off keeps its state and takes the firmware alone. -/
def execSerdesLoad (req : Fin 18) (dw : BitVec 26) (v : Word) (s : State) : Outcome State Fault Refusal := s.runs fun s =>
  .next (s.updateCommand req dw.toNat v 6 (fun t =>
    let p := getBits v 3 4
    if p > 9 then t.updateEnd 3
    else
      let x := t.boot.slot t.running
      let load (u : Block) : Block := u.modBoot (fun b => { b with serdesVersion := SMap.ins p x.serdes b.serdesVersion })
      if t.portState p = 0 then (load t).updateEnd 0 else ((load (t.portTo p 14)).portDetect p).updateEnd 0))

/-- PLDM_FW_UPDATE (R720, R760): in ROM recovery the image goes to slot A, which a successful transfer boots in trial; else it
is written as STAGE does. -/
def execPldmFwUpdate (img : FwImage) (flashOk : Bool) (s : State) : Outcome State Fault Refusal := s.runs fun s =>
  if s.pow.off then .next s
  else if s.boot.recovery then
    let (t, result) := s.stageInto 0 img flashOk
    if result ≠ 0 then .next t
    else
      let t := (t.modBoot (fun b => { b with active := 0, trial := true, tries := 0 })).bootRom
      .next (if t.boot.recovery then t else (t.setFld BC_STAT.STEP 3).setFld BC_STAT.FAIL_STEP 0)
  else .next (s.stage img flashOk)

/-- ACTIVATE_FIRMWARE (R760): acts as SWITCH. -/
def execActivateFirmware (s : State) : Outcome State Fault Refusal := s.runs fun s =>
  if s.pow.off ∨ s.boot.recovery then .next s else .next s.switch

end Sys2Proof.Machine
end

