-- ==== Sys2Proof/Machine/Twin.lean ====
section
/-! DEFINITION. The commands of the fault-signature queue and of twin operation (R575–R583, R587, R588, R612). -/
namespace Sys2Proof.Machine
open Host

/-- Removes the oldest fault signature (R575). -/
def Block.popSignature (s : Block) : Block :=
  let t := { s with int := { s.int with fsQueue := s.int.fsQueue.drop 1 } }
  (t.setFld FS_STAT.COUNT t.int.fsQueue.length).showAlert

/-- FS_POP (R575, R771): any write, while the management port does not own the queue. -/
def execFsPop (req : Fin 18) (dw : BitVec 26) (v : Word) (s : State) : Outcome State Fault Refusal := s.runs fun s =>
  .next (s.command req dw.toNat v .dieInt [0x44] (fun _ _ _ t => if t.bit MG_CFG.FS_OWNER then t else t.popSignature))

/-- EPOCH_ARRIVAL (R578, R612): epoch traffic of the active die `src`; `whole` when the epoch arrived wholly. A partial
epoch is discarded. -/
def execEpochArrival (src : Machine.Source) (e : Machine.Epoch) (whole : Bool) (s : State) : Outcome State Fault Refusal := s.runs fun s =>
  if s.fld TW_CTL.ROLE ≠ 2 then .next s
  else
    let t := s.landUnits e.units
    let t := if e.ridges.all (s.twinAccepts e) then t else t.raise (diePage 10) Irq.dieInt_TW_EPOCH_FAIL
    if !whole then .next t
    else
      let held := s.tw.held ++ [e.keep (s.twinAccepts e)]
      let t := t.modTw (fun y => { y with held := held.drop (held.length - 2) })
      let t := (t.setReg TW_EPOCH (BitVec.ofNat 32 e.num)).setFld TW_STAT.HELD (min 2 held.length)
      .next (t.send { Packet.blank with op := .epoch, src := s.servingSource, dst := src, step := e.num, arg := 1 })

/-- EPOCH_ACK (R579, R580): the twin has acknowledged epoch n. -/
def execEpochAck (n : Word) (s : State) : Outcome State Fault Refusal := s.runs fun s =>
  if s.fld TW_CTL.ROLE ≠ 1 ∨ !stepBefore (s.reg TW_ACKED).toNat n.toNat then .next s
  else
    let t := s.setReg TW_ACKED n
    let held (e : Nat × Nat) : Bool := stepBefore n.toNat e.2
    let t := t.modServ (fun y => { y with
      kvFree := y.kvFree ++ (y.kvLimbo.filter (fun e => !held e)).map (·.1), kvLimbo := y.kvLimbo.filter held })
    let t := t.modTw (fun y => { y with sent := y.sent.filter (fun e => stepBefore n.toNat e.num) })
    let t := if t.tw.sent.isEmpty ∧ t.fld TW_STAT.STATE = 1 then t.setFld TW_STAT.STATE 0 else t
    .next t.servEnd

/-- TW_ACK_LATE (R580). -/
def execTwAckLate (s : State) : Outcome State Fault Refusal := s.runs fun s =>
  .next (if s.fld TW_CTL.ROLE = 1 ∧ !s.tw.sent.isEmpty then s.raise (diePage 10) Irq.dieInt_TW_ACK_LATE else s)

/-- A write of TW_CMD with an OP. -/
def Block.twinCommand (s : Block) (req : Requester) (dw : Nat) (v : Word) (op : Nat) (f : Block → Block) : Block :=
  s.command req dw v .dieInt [0x64] (fun _ _ _ t => if getBits v 0 4 = op then f t else t)

/-- TWIN_RESUME (R582): a write of TW_CMD with OP = 1. -/
def execTwinResume (req : Fin 18) (dw : BitVec 26) (v : Word) (s : State) : Outcome State Fault Refusal := s.runs fun s =>
  .next (s.twinCommand req dw.toNat v 1 (fun t =>
    match t.tw.held.find? (fun e => decide (e.num = (t.reg TW_RESUME_EPOCH).toNat)) with
    | none => t.raise (diePage 10) Irq.dieInt_TW_EPOCH_FAIL
    | some e =>
      let u := t.applyEpoch e
      let u := u.modServ (fun y => { y with out := t.resumeRecords e })
      let u := (u.modTw (fun _ => TwinSt.reset)).setFld TW_CTL.ROLE 1
      let u := (u.setReg TW_EPOCH (BitVec.ofNat 32 e.num)).setReg TW_ACKED (BitVec.ofNat 32 e.num)
      let u := (u.setFld TW_STAT.STATE 3).setFld TW_STAT.HELD 0
      (u.servEnd).raise (diePage 10) Irq.dieInt_TW_RESUMED))

/-- TWIN_RESYNC (R583): a write of TW_CMD with OP = 2 on an active die. -/
def execTwinResync (req : Fin 18) (dw : BitVec 26) (v : Word) (s : State) : Outcome State Fault Refusal := s.runs fun s =>
  .next (s.twinCommand req dw.toNat v 2 (fun t => if t.fld TW_CTL.ROLE = 1 then t.setFld TW_STAT.STATE 2 else t))

/-- RESYNC_DONE (R583): every granule is copied, and epochs continue. -/
def execResyncDone (s : State) : Outcome State Fault Refusal := s.runs fun s =>
  .next (if s.fld TW_STAT.STATE = 2 then (s.setFld TW_STAT.STATE 0).modTw (fun y => { y with dirty := [] }) else s)

end Sys2Proof.Machine
end

