-- ==== Sys2Proof/Machine/Mgmt.lean ====
section
/-! DEFINITION. Commands of the management port: CCCs, MCTP messages, PLDM and the vendor-defined messages (R756–R764). -/
namespace Sys2Proof.Machine
open Host

/-! ## Arrival at the port (R628, R756–R758) -/

/-- Changes the management port's data. -/
def Block.modMg (s : Block) (f : MgmtSt → MgmtSt) : Block := { s with mg := f s.mg }

/-- Whether the port takes part in a broadcast CCC (R758): the base camp runs. -/
def Block.mgmtRuns (s : Block) : Bool := !s.pow.off && !s.dieHold

/-- A direct CCC or a message that matches an address of the port (R628, R757): in Hold it wakes the die, and the base camp
answers the retry; it shows I²C as the mode while no dynamic address is assigned. `none` in Off, where nothing answers. -/
def Block.mgmtTakes (s : Block) (data : List Byte) : Option Block :=
  if s.pow.off then none
  else
    let t := (s.i3cMatch data).modMg (fun m => { m with wake := [] })
    some (if t.bit MG_STAT.DYN_VALID then t else t.setFld MG_STAT.MODE 1)

/-- A direct CCC: NACK, with no answer, in Off. -/
def Block.directCcc (s : Block) (f : Block → Block) : Block :=
  match s.mgmtTakes [] with
  | some t => f t
  | none => { s with answer := [] }

/-- A direct CCC to the dynamic address. -/
def Block.dynamicCcc (s : Block) (f : Block → Block) : Block :=
  if s.bit MG_STAT.DYN_VALID then s.directCcc f else { s with answer := [] }

/-- A CCC that has a broadcast and a direct form. -/
def Block.eitherCcc (s : Block) (direct : Bool) (f : Block → Block) : Block :=
  if direct then s.dynamicCcc f else if s.mgmtRuns then f s else s

/-- A message to the port; ROM recovery takes nothing but a firmware update (R720). -/
def Block.message (s : Block) (f : Block → Block) : Block :=
  match s.mgmtTakes [] with
  | some t => if t.boot.recovery then { t with answer := [] } else f t
  | none => { s with answer := [] }

/-- Assigns the dynamic address (R757). -/
def Block.assign (s : Block) (a : BitVec 7) : Block :=
  ((s.setBit MG_STAT.DYN_VALID true).setFld MG_STAT.DYN_ADDR a.toNat).setFld MG_STAT.MODE 2

/-! ## CCCs (R756, R757) -/

/-- ENTDAA (R756–R758): a target that has a dynamic address takes no part. -/
def execEntdaa (addr : BitVec 7) (s : State) : Outcome State Fault Refusal := s.runs fun s =>
  .next (if s.mgmtRuns ∧ !s.bit MG_STAT.DYN_VALID then s.assign addr else s)

/-- SETDASA, by the static address (R756, R757). -/
def execSetdasa (addr : BitVec 7) (s : State) : Outcome State Fault Refusal := s.runs fun s =>
  .next (s.directCcc (fun t => if t.bit MG_STAT.DYN_VALID then t else t.assign addr))

/-- SETNEWDA (R756). -/
def execSetnewda (addr : BitVec 7) (s : State) : Outcome State Fault Refusal := s.runs fun s => .next (s.dynamicCcc (fun t => t.assign addr))

/-- RSTDAA (R757): a broadcast that returns the port to I²C. -/
def execRstdaa (s : State) : Outcome State Fault Refusal := s.runs fun s =>
  .next (if s.mgmtRuns then ((s.setBit MG_STAT.DYN_VALID false).setFld MG_STAT.DYN_ADDR 0).setFld MG_STAT.MODE 1 else s)

/-- ENEC (R756, R764): bit 0 of the events byte enables IBIs. -/
def execEnec (direct : Bool) (events : Byte) (s : State) : Outcome State Fault Refusal := s.runs fun s =>
  .next (s.eitherCcc direct (fun t => if events.getLsbD 0 then t.setBit MG_STAT.IBI_EN true else t))

/-- DISEC (R756, R764). -/
def execDisec (direct : Bool) (events : Byte) (s : State) : Outcome State Fault Refusal := s.runs fun s =>
  .next (s.eitherCcc direct (fun t => if events.getLsbD 0 then t.setBit MG_STAT.IBI_EN false else t))

/-- A number's `n` bytes, highest first, as I3C sends them. -/
def highFirst (n v : Nat) : List Byte := (bytesOf n v).reverse

/-- The Provisioned ID (R756): manufacturer ID, part ID 0x2416, and the low 12 bits of the serial as instance. -/
def Block.provisionedId (s : Block) : Nat :=
  Config.mipiId % 2 ^ 15 * 2 ^ 33 + 0x2416 * 2 ^ 16 + s.pair ID_SERIAL_LO ID_SERIAL_HI % 2 ^ 12

/-- GETPID (R756). -/
def execGetpid (s : State) : Outcome State Fault Refusal := s.runs fun s =>
  .next (s.dynamicCcc (fun t => { t with answer := highFirst 6 t.provisionedId }))

/-- GETBCR (R756). -/
def execGetbcr (s : State) : Outcome State Fault Refusal := s.runs fun s =>
  .next (s.dynamicCcc (fun t => { t with answer := bytesOf 1 (Config.i3cRegister 0) }))

/-- GETDCR (R756). -/
def execGetdcr (s : State) : Outcome State Fault Refusal := s.runs fun s =>
  .next (s.dynamicCcc (fun t => { t with answer := bytesOf 1 (Config.i3cRegister 1) }))

/-- GETSTATUS (R756): two bytes that I3C lays out and the spec does not give. -/
def execGetstatus (s : State) : Outcome State Fault Refusal := s.runs fun s =>
  .next (s.dynamicCcc (fun t => { t.tick with answer := highFirst 2 t.freeNat }))

/-- GETMWL (R756). -/
def execGetmwl (s : State) : Outcome State Fault Refusal := s.runs fun s =>
  .next (s.dynamicCcc (fun t => { t with answer := highFirst 2 (Config.i3cLength 0) }))

/-- GETMRL (R756). -/
def execGetmrl (s : State) : Outcome State Fault Refusal := s.runs fun s =>
  .next (s.dynamicCcc (fun t => { t with answer := highFirst 2 (Config.i3cLength 1) }))

/-- RSTACT (R756): the defining byte is the target reset action. -/
def execRstact (direct : Bool) (action : Byte) (s : State) : Outcome State Fault Refusal := s.runs fun s =>
  .next (s.eitherCcc direct (fun t => t.modMg (fun m => { m with rstact := action.toNat })))

/-- CCC_UNSUPPORTED (R756): NACK. -/
def execCccUnsupported (s : State) : Outcome State Fault Refusal := s.runs fun s => .next (s.directCcc (fun t => { t with answer := [] }))

/-! ## Answers of messages (R759–R763) -/

/-- Set Endpoint ID (R759): the null and broadcast IDs are no endpoint's. -/
def Block.setEndpoint (s : Block) (eid : Nat) : Block :=
  if eid = 0 ∨ eid = 255 then { s with answer := [2] }
  else { s.setFld MG_STAT.EID eid with answer := [0, 0, BitVec.ofNat 8 eid, 0] }

/-- PollForPlatformEventMessage (R761): the oldest event leaves the queue; an empty queue answers the completion code alone. -/
def Block.pollEvent (s : Block) : Block :=
  match s.mg.events with
  | [] => { s with answer := [0] }
  | (sensor, level) :: rest =>
    let t := (s.modMg (fun m => { m with events := rest })).setFld MG_EVT.QUEUED rest.length
    { t.showAlert with answer := [0] ++ bytesOf 2 sensor ++ bytesOf 1 level }

/-- The bytes of the oldest fault signature, none where the queue is empty (R617, R762). -/
def Block.oldestSignature (s : Block) : List Byte :=
  match s.int.fsQueue with
  | [] => []
  | (g, _) :: _ => s.sigBytes (s.shownSignature g)

/-- FS_POP over the port (R763): completion code 0, or ERROR_NOT_READY while the port does not own the queue. -/
def Block.mgmtPop (s : Block) : Block :=
  if s.bit MG_CFG.FS_OWNER then { s.popSignature with answer := [0] } else { s with answer := [4] }

/-- IDENTITY's response (R762). -/
def Block.identityBytes (s : Block) : List Byte :=
  bytesOf 8 (s.pair ID_SERIAL_LO ID_SERIAL_HI) ++ bytesOf 1 (s.fld ID_REV.STEPPING) ++ bytesOf 2 (s.fld FAB_SELF.COORD)
    ++ bytesOf 4 (s.reg BC_FW_ACTIVE).toNat ++ bytesOf 4 (s.reg BC_FW_OTHER).toNat

/-- STATE's response (R762). -/
def Block.stateBytes (s : Block) : List Byte :=
  bytesOf 4 (s.reg PM_DIE_STAT).toNat ++ bytesOf 4 (s.reg BC_STAT).toNat ++ bytesOf 4 (s.reg LT_TRIP_INFO).toNat

/-- The reading of a sensor of the Type 2 repository (R758, R761); `none` while its domain is not powered or no valid sensor
gives it. -/
def Block.platformReading (s : Block) (id : Nat) : Option Int :=
  let up := decide (s.fld PM_DIE_STAT.STATE = 1 ∨ s.fld PM_DIE_STAT.STATE = 2)
  let celsius (l : List Int) : Option Int := (hottest l).map (fun x => x / 16)
  if id = 1 then celsius (if up then ((List.range 17).map s.validTemps).flatten else s.validTemps 16)
  else if 2 ≤ id ∧ id ≤ 17 then (if up then celsius (s.validTemps (id - 2)) else none)
  else if 18 ≤ id ∧ id ≤ 23 then
    (if up ∧ s.bit (LT_STACK_DATA.VALID (id - 18)) then some (SMap.get 0 s.look.stackTemp (id - 18) / 16) else none)
  else if id = 24 then (if up then some ((s.fld PM_GOV_E1S.S / 1000 : Nat) : Int) else none)
  else if 25 ≤ id ∧ id ≤ 35 then
    (if id = 29 ∨ id = 30 ∨ s.bit (PM_RAIL_STAT.EN (id - 25)) then some (s.fld (PM_RAIL_STAT.MV (id - 25)) : Int) else none)
  else if id = 36 then
    (if up then some ((((List.range 16).map (fun r => s.fld (LT_RIDGE_STAT.THERM r))).foldl min 16 : Nat) : Int) else none)
  else none

/-- The state of a state sensor (R761). -/
def Block.platformState (s : Block) (id : Nat) : Option Nat :=
  if id = 64 then some (s.fld PM_DIE_STAT.STATE)
  else if id = 65 then some (s.fld LT_TRIP_INFO.TRIPPED)
  else if id = 66 then some (s.fld BC_STAT.SERVING) else none

/-- GetSensorReading and GetStateSensorReadings (R758, R761): completion code, operational state (0 enabled, 2 unavailable),
threshold state, and the reading as 32 bits. -/
def Block.sensorAnswer (s : Block) (id : Nat) (stateSensor : Bool) : Block :=
  if stateSensor then
    match s.platformState id with
    | some n => { s with answer := [0, 0, BitVec.ofNat 8 n] }
    | none => { s with answer := [0x80] }
  else if id = 0 ∨ id > 36 then { s with answer := [0x80] }
  else match s.platformReading id with
    | some x => { s with answer := [0, 0] ++ bytesOf 1 (SMap.get 0 s.mg.levels id) ++ bytesOf 4 (x % 2 ^ 32).toNat }
    | none => { s with answer := [0, 2] }

/-! ## Commands of their own (R759–R763) -/

/-- SET_ENDPOINT_ID (R759). -/
def execSetEndpointId (eid : Byte) (s : State) : Outcome State Fault Refusal := s.runs fun s => .next (s.message (fun t => t.setEndpoint eid.toNat))

/-- POLL_FOR_PLATFORM_EVENT_MESSAGE (R761). -/
def execPollForPlatformEventMessage (s : State) : Outcome State Fault Refusal := s.runs fun s => .next (s.message Block.pollEvent)

/-- FS_FETCH (R762, R763). -/
def execFsFetch (s : State) : Outcome State Fault Refusal := s.runs fun s => .next (s.message (fun t => { t with answer := t.oldestSignature }))

/-- FS_POP of the management port (R762, R763). -/
def execMgFsPop (s : State) : Outcome State Fault Refusal := s.runs fun s => .next (s.message Block.mgmtPop)

/-- CAIRN_READ (R712, R762), through a buffer of its own. -/
def execCairnRead (addr : BitVec 24) (s : State) : Outcome State Fault Refusal := s.runs fun s =>
  .next (s.message (fun t => { t with answer := (t.cairnRead (addr.toNat / 2048 * 2048)).1 }))

/-- IDENTITY (R762). -/
def execIdentity (s : State) : Outcome State Fault Refusal := s.runs fun s => .next (s.message (fun t => { t with answer := t.identityBytes }))

/-- STATE (R762). -/
def execMgState (s : State) : Outcome State Fault Refusal := s.runs fun s => .next (s.message (fun t => { t with answer := t.stateBytes }))

/-! ## MCTP (R759, R760) -/

/-- Byte n of a message. -/
def byteAt (l : List Byte) (n : Nat) : Nat := (l.getD n 0).toNat

/-- An answer whose contents a DMTF specification gives and this one does not: one free byte stands for it. -/
def Block.dmtfAnswer (s : Block) : Block := { s.tick with answer := bytesOf 1 s.freeNat }

/-- What a command gives in its next state. -/
def outcomeState (s : Block) (o : Outcome Block Fault Refusal) : Block :=
  match o with
  | .next t => t
  | _ => s

/-- An SPDM message (R595, R596): version, request code, two parameters and what follows. `verdict` is what the checks of its
offered algorithms or verify data find. -/
def Block.spdmMessage (s : Block) (id : Word) (verdict : Bool) (m : List Byte) : Block :=
  outcomeState s (match byteAt m 1 with
    | 0x84 => blkGetVersion s
    | 0xE1 => blkGetCapabilities s
    | 0xE3 => blkNegotiateAlgorithms verdict s
    | 0x81 => blkGetDigests s
    | 0x82 => blkGetCertificate (Fin.ofNat 8 (byteAt m 2)) s
    | 0x83 => blkChallenge (Fin.ofNat 8 (byteAt m 2)) s
    | 0xE0 => blkGetMeasurements (BitVec.ofNat 8 (byteAt m 3)) s
    | 0xE4 => blkKeyExchange id s
    | 0xE5 => blkFinish id verdict s
    | 0xE8 => blkHeartbeat id s
    | 0xE9 => blkKeyUpdate id s
    | 0xEC => blkEndSession id s
    | _ => blkSpdmUnsupported s)

/-- A PLDM message (R760, R761): its type and command are bytes 2 and 3. -/
def Block.pldmMessage (s : Block) (m : List Byte) : Block :=
  let type := byteAt m 2 % 64
  let cmd := byteAt m 3
  if type ≠ 0 ∧ type ≠ 2 ∧ type ≠ 5 then { s with answer := [0x20] }
  else if type = 2 ∧ cmd = 0x0B then s.pollEvent
  else if type = 2 ∧ (cmd = 0x11 ∨ cmd = 0x21) then s.sensorAnswer (byteAt m 4 + 256 * byteAt m 5) (cmd = 0x21)
  else if type = 5 ∧ cmd = 0x1A then { s.switch with answer := [0] }
  else s.dmtfAnswer

/-- A vendor-defined message (R762): its command is byte 3. -/
def Block.vendorMessage (s : Block) (m : List Byte) : Block :=
  match byteAt m 3 with
  | 1 => { s with answer := s.oldestSignature }
  | 2 => s.mgmtPop
  | 3 => { s with answer := (s.cairnRead (ofBytes (m.drop 4) % 2 ^ 24 / 2048 * 2048)).1 }
  | 4 => { s with answer := s.identityBytes }
  | 5 => { s with answer := s.stateBytes }
  | _ => s.dmtfAnswer

/-- A message that is discarded and counted (R759). -/
def Block.mctpDrop (s : Block) : Block := { s.addReg MG_DROP 1 with answer := [] }

/-- A whole MCTP message (R720, R759): its type is byte 0. A secured message names its session in bytes 1–4 and carries, once
decrypted, the message from byte 5 on; one that does not authenticate is not acted on. -/
def Block.mctpWhole (s : Block) (session : Word) (verdict : Bool) (m : List Byte) : Block :=
  let type := byteAt m 0 % 128
  if s.boot.recovery then
    (if type = 1 ∧ byteAt m 2 % 64 = 5 then s.dmtfAnswer else s.mctpDrop)
  else match type with
  | 0 => if byteAt m 2 = 1 then s.setEndpoint (byteAt m 4) else s.dmtfAnswer
  | 1 => s.pldmMessage m
  | 5 => s.spdmMessage session verdict (m.drop 1)
  | 6 =>
    let id := BitVec.ofNat 32 (ofBytes ((m.drop 1).take 4))
    if !verdict ∧ byteAt m 7 ≠ 0xE5 then { s with answer := [] } else s.spdmMessage id verdict (m.drop 6)
  | 0x7E => if byteAt m 1 * 256 + byteAt m 2 = Config.vendorId then s.vendorMessage m else s.mctpDrop
  | _ => s.mctpDrop

/-- MCTP_MESSAGE (R759): a packet of a message, of at most 64 bytes. `src` and `tag` tell messages apart, `som` and `eom` mark
the first and the last packet; `session` and `verdict` are for SPDM. -/
def execMctpMessage (src : Byte) (tag : BitVec 4) (som eom : Bool) (body : List Byte) (session : Word) (verdict : Bool) (s : State) :
    Outcome State Fault Refusal := s.runs fun s =>
  .next (match s.mgmtTakes body with
    | none => { s with answer := [] }
    | some t =>
      let mine (p : MctpPart) : Bool := decide (p.src = src.toNat ∧ p.tag = tag.toNat)
      let others := t.mg.parts.filter (fun p => !mine p)
      let before := ((t.mg.parts.find? mine).map (·.body)).getD []
      if body.length > 64 ∨ (!som ∧ !t.mg.parts.any mine) then { t with answer := [] }
      else if som ∧ eom then (t.modMg (fun m => { m with parts := others })).mctpWhole session verdict body
      else if som then
        if others.length ≥ 4 then t.mctpDrop
        else { t.modMg (fun m => { m with parts := others ++ [⟨src.toNat, tag.toNat, body⟩] }) with answer := [] }
      else if eom then (t.modMg (fun m => { m with parts := others })).mctpWhole session verdict (before ++ body)
      else { t.modMg (fun m => { m with parts := others ++ [⟨src.toNat, tag.toNat, before ++ body⟩] }) with answer := [] })

end Sys2Proof.Machine
end

