-- ==== Sys2Proof/Machine/Network.lean ====
section
/-! DEFINITION. Route changes of the on-die network and the crossing of the saddle (R366–R378). -/
namespace Sys2Proof.Machine
open Host

/-- ROUTE_CHANGE (R367–R369): the base camp holds injection at the flanks named. `holes` are the new rows of the hole map
(flank, row index, register value), `seams` the failed seam routers, and `unreachable` the sites that neither rule
reaches. -/
def execRouteChange (west east : Bool) (holes : List (Fin 2 × Fin 19 × Word)) (seams : List (Fin 16))
    (unreachable : List (RidgeId × SiteId)) (s : State) : Outcome State Fault Refusal := s.runs fun s =>
  if s.net.change.isSome then .next s
  else
    let c : RouteChange := ⟨west, east, holes.map (fun h => (h.1.val, h.2.1.val, h.2.2)), seams.map (·.val),
      unreachable.map (fun x => (x.1.val, x.2.val))⟩
    .next { s with net := { s.net with change := some c } }

/-- Sites that no rule reaches are retired (R368). -/
def Block.retireUnreachable (s : Block) (f : Nat) (l : List (Nat × Nat)) : Block :=
  let mine := l.filter (fun x => decide (x.1 / 8 = f))
  let t := mine.foldl (fun t x => t.retireSite x.1 x.2) s
  let t := { t with net := { t.net with unreachable := (t.net.unreachable ++ mine).eraseDups } }
  (t.raise (diePage (22 + f)) Irq.flank_UNREACH).signature 11 0 0 (location none none none none none none none none (some f)) 0 0 0 0

/-- New tables on one flank (R367–R369): the hole map, the rule that reaches every router, and the counters. -/
def Block.installRoutes (s : Block) (f : Nat) (c : RouteChange) (us : Nat) : Block :=
  let t := c.holes.foldl (fun t h => if h.1 = f then t.setReg (NET_HOLE f h.2.1) h.2.2 else t) s
  let t := t.setFld (NET_STAT.SEAM_LINKS f) (if t.bit (NET_STAT.SPLIT f) then 0 else 16 - c.seams.eraseDups.length)
  let mode := t.routeMode f
  let t := t.setFld (NET_STAT.ROUTE_MODE f) mode
  let t := if mode = 2 then t.retireUnreachable f c.unreachable else t
  let t := t.setFld (NET_ROUTE_GEN.GEN f) (t.fld (NET_ROUTE_GEN.GEN f) + 1)
  let t := t.setFld (NET_ROUTE_GEN.HOLD_US_MAX f) (min 65535 (max us (t.fld (NET_ROUTE_GEN.HOLD_US_MAX f))))
  t.raise (diePage (22 + f)) Irq.flank_ROUTE_CHANGE

/-- ROUTE_DRAINED (R369): the buffers of the held flanks are empty; `us` is how long injection was held. -/
def execRouteDrained (us : Nat) (s : State) : Outcome State Fault Refusal := s.runs fun s =>
  match s.net.change with
  | none => .next s
  | some c =>
    let t := { s with net := { s.net with change := none } }
    let t := if c.west then t.installRoutes 0 c us else t
    let t := if c.east then t.installRoutes 1 c us else t
    .next (if c.seams.eraseDups.length ≥ 16 then t.splitDie else t)

/-- A lane that reaches the error threshold moves to a free spare, or its link retires (R374, R376). -/
def Block.laneFails (s : Block) (k dir lane : Nat) : Block :=
  let i := k + 16 * dir
  let used := s.fld (SAD_LINK_STAT.SPARES_USED i)
  if used ≥ 32 then s.retireLink k
  else
    let t := s.setFld (SAD_LINK_STAT.SPARES_USED i) (used + 1)
    let t := (t.setFld (SAD_LANE_LAST.LANE i) lane).setFld (SAD_LANE_LAST.SPARE i) used
    t.raise (diePage 24) Irq.saddle_LANE_REPAIRED

/-- SADDLE_FLIT_RECEIVE (R373–R376): `lanes` are the lanes corrected in the flit, each with its corrected errors within the
last 1 ms; `bad` says that the flit is uncorrectable, and `again` that the link had another such flit within 1 ms. -/
def execSaddleFlitReceive (link : Fin 16) (dir : Fin 2) (lanes : List (Fin 2408 × Nat)) (bad again : Bool) (s : State) :
    Outcome State Fault Refusal := s.runs fun s =>
  let i := link.val + 16 * dir.val
  if s.fld (SAD_LINK_STAT.STATE i) ≠ 0 then .next s
  else if bad then
    let t := (s.addSat (SAD_LINK_STAT.REPLAYS i) 1).raise (diePage 24) Irq.saddle_REPLAY
    .next (if again then t.retireLink link else t)
  else
    let t := s.addReg (SAD_CORR i) lanes.length
    let thresh := max 1 (s.fld SAD_CTL.LANE_THRESH)
    .next (lanes.foldl (fun t l =>
      if l.2 ≥ thresh ∧ t.fld (SAD_LINK_STAT.STATE i) = 0 then t.laneFails link dir l.1 else t) t)

/-- SADDLE_RESEND (R375): the sender repeats flits that are still on their way; no packet changes. -/
def execSaddleResend (_link : Fin 16) (_dir : Fin 2) (s : State) : Outcome State Fault Refusal := s.runs fun s => .next s

end Sys2Proof.Machine
end

