-- ==== Sys2Proof/Machine/Sampling.lean ====
section
/-! DEFINITION. Top-k units and sampling (R282–R294). -/
namespace Sys2Proof.Machine
open Host

/-! ## Lists -/

/-- Whether a list entry stays before a new one: a larger value, or an equal one of no higher index (R282). -/
def TkEntry.before (a b : TkEntry) : Bool :=
  (f32 b.value).lt (f32 a.value) || ((f32 b.value).eq (f32 a.value) && decide (a.index ≤ b.index))

/-- Inserts an entry in the order of R282. -/
def insertEntry (e : TkEntry) : List TkEntry → List TkEntry
  | [] => [e]
  | a :: rest => if a.before e then a :: insertEntry e rest else e :: a :: rest

/-- Merges records into a unit's list, keeping the best K (R283, R285): NaN values are skipped with INVALID, an infinity
enters as the largest finite value of its sign. -/
def TopK.merge (t : TopK) (l : List (Nat × FVal)) : TopK × Nat :=
  let start := t.list.map (fun e => { e with p := 0 })
  let (list, fl) := l.foldl (fun acc iv =>
    if iv.2.isNan then (acc.1, acc.2 ||| flagInvalid)
    else ((insertEntry ⟨iv.1 % 2 ^ 32, (fp32.encode iv.2).1, 0⟩ acc.1).take t.k, acc.2)) (start, 0)
  ({ t with list := list, pValid := false }, fl)

/-- The records of a row in tk.out layout; an index of 0xFFFF_FFFF is skipped (R283). -/
def tkRecords (v : Row) : List (Nat × FVal) :=
  ((List.range 64).map (fun i => (rowBits v (64 * i) 32, f32 (rowBits v (64 * i + 32) 32)))).filter (fun e => decide (e.1 ≠ 0xFFFFFFFF))

/-- tk.out's row: 64 records from position `pos` (R283); `stale` gives the p shown of a position without a valid one. -/
def TopK.out (t : TopK) (pos : Nat) (useP : Bool) (stale : Nat → Nat) : Row :=
  BitVec.ofNat 4096 (packBits 64 ((List.range 64).map (fun n => match t.list[pos + n]? with
    | none => 0xFFFFFFFF
    | some e => e.index + (if useP then (if t.pValid then e.p else stale (pos + n)) else e.value) % 2 ^ 32 * 2 ^ 32)))

/-- p by temperature (R286), with the status bits. -/
def TopK.norm (t : TopK) (T : Nat) : TopK × Nat :=
  match t.list with
  | [] => (t, 0)
  | e0 :: _ =>
    if (FVal.fin false 0 1).lt (f32 T) then
      let es := t.list.map (fun e =>
        let (d, f1) := fsub e.value e0.value
        let (q, f2) := fdiv d T
        let (x, f3) := vexp fp32 (Config.ulpChoice 0 6 q) (f32 q)
        (x, f1 ||| f2 ||| f3))
      let (sum, f4) := sumF32 (es.map (fun e => f32 e.1))
      let ps := es.map (fun e => fdiv e.1 sum)
      ({ t with list := List.zipWith (fun e p => { e with p := p.1 }) t.list ps, pValid := true },
        (es.foldl (fun f e => f ||| e.2) f4) ||| ps.foldl (fun f e => f ||| e.2) 0)
    else ({ t with list := t.list.mapIdx (fun i e => { e with p := if i = 0 then 0x3F800000 else 0 }), pValid := true }, 0)

/-- The shortest prefix whose running fp32 sum reaches P: its length, the sum and the status bits; the whole list when no
prefix does. -/
def nucleus (P : FVal) : List TkEntry → Nat → Nat → Nat → Nat × Nat × Nat
  | [], n, sum, fl => (n, sum, fl)
  | e :: rest, n, sum, fl =>
    let (sum', f) := fadd sum e.p
    if !(f32 sum').lt P then (n + 1, sum', fl ||| f) else nucleus P rest (n + 1) sum' (fl ||| f)

/-- The cut to the nucleus (R287), with the status bits. -/
def TopK.topp (t : TopK) (P : Nat) : TopK × Nat :=
  if !t.pValid then (t, flagInvalid)
  else
    let v := f32 P
    if !(FVal.fin false 0 1).lt v then ({ t with list := (t.list.take 1).map (fun e => { e with p := 0x3F800000 }) }, 0)
    else if !v.lt (.fin false 1 1) then (t, 0)
    else
      let (n, sum, fl) := nucleus v t.list 0 0 0
      let kept := (t.list.take n).map (fun e => (e, fdiv e.p sum))
      ({ t with list := kept.map (fun e => { e.1 with p := e.2.1 }) }, kept.foldl (fun f e => f ||| e.2.2) fl)

/-! ## Counter-based random numbers (R289, R290) -/

/-- One round's words. -/
def philoxRound (k0 k1 c0 c1 c2 c3 : Nat) : Nat × Nat × Nat × Nat :=
  let p0 := 0xD2511F53 * c0
  let p1 := 0xCD9E8D57 * c2
  ((p1 / 2 ^ 32) ^^^ c1 ^^^ k0, p1 % 2 ^ 32, (p0 / 2 ^ 32) ^^^ c3 ^^^ k1, p0 % 2 ^ 32)

/-- `n` rounds; the keys advance between rounds. -/
def philoxRounds : Nat → Nat → Nat → Nat × Nat × Nat × Nat → Nat × Nat × Nat × Nat
  | 0, _, _, c => c
  | n + 1, k0, k1, (c0, c1, c2, c3) =>
    philoxRounds n ((k0 + 0x9E3779B9) % 2 ^ 32) ((k1 + 0xBB67AE85) % 2 ^ 32) (philoxRound k0 k1 c0 c1 c2 c3)

/-- Philox4x32-10 (R289). -/
def philox (k0 k1 c0 c1 c2 c3 : Nat) : Nat × Nat × Nat × Nat := philoxRounds 10 k0 k1 (c0, c1, c2, c3)

/-- The output words 0 and 1 of a key, a counter, a draw index and c3 (R290). -/
def drawWords (key ctr : DWord) (j c3 : Nat) : Nat × Nat :=
  let (y0, y1, _, _) := philox (key.toNat % 2 ^ 32) (key.toNat / 2 ^ 32) (ctr.toNat % 2 ^ 32) (ctr.toNat / 2 ^ 32) j c3
  (y0, y1)

/-- The uniform of an output word (R290). -/
def uniform (y : Nat) : FVal := .fin false (y / 256) (2 ^ 24)

/-! ## Draws (R291, R292) -/

/-- The position drawn: the first whose running fp32 sum exceeds u, else the last; with the status bits of the sum. -/
def pick (u : FVal) : List Nat → Nat → Nat → Nat → Nat × Nat
  | [], _, i, fl => (i - 1, fl)
  | p :: rest, cum, i, fl =>
    let (cum', f) := fadd cum p
    if u.lt (f32 cum') then (i, fl ||| f) else pick u rest cum' (i + 1) (fl ||| f)

/-- A token, its LOGPROB and the status bits. -/
structure Drawn where
  token : Nat
  logprob : Nat
  accepted : Bool
  flags : Nat
  deriving DecidableEq, Repr

/-- LOGPROB of a probability (R291). -/
def logprob (p : Nat) : Nat × Nat := lnCode (Config.ulpChoice 3 6 p) p

/-- smp.draw's choice (R291). -/
def TopK.draw (t : TopK) (y0 : Nat) : Drawn :=
  match t.list with
  | [] => ⟨0xFFFFFFFF, 0, false, flagInvalid⟩
  | e0 :: _ =>
    if !t.pValid then ⟨e0.index, 0, false, 0⟩
    else
      let (i, f1) := pick (uniform y0) (t.list.map (·.p)) 0 0 0
      let e := t.list.getD i e0
      let (lp, f2) := logprob e.p
      ⟨e.index, lp, false, f1 ||| f2⟩

/-- smp.accept's choice for a draft token x of probability q (R292). -/
def TopK.accept (t : TopK) (x q y0 y1 : Nat) : Drawn :=
  let list := if t.pValid then t.list else t.list.mapIdx (fun i e => { e with p := if i = 0 then 0x3F800000 else 0 })
  let qv := f32 q
  let qv := if qv.isNan || !(FVal.fin false 0 1).lt qv || (FVal.fin false 1 1).lt qv then .fin false 1 1 else qv
  let at_ := list.findIdx? (fun e => decide (e.index = x))
  let px := match at_ with
    | some i => (list.getD i ⟨0, 0, 0⟩).p
    | none => 0
  if ((uniform y0).mul qv).lt (f32 px) then
    let (lp, f) := logprob px
    ⟨x, lp, true, f⟩
  else
    let rest := match at_ with
      | some i => list.eraseIdx i
      | none => list
    match rest with
    | [] => ⟨0xFFFFFFFF, 0, false, flagInvalid⟩
    | e0 :: _ =>
      let (den, f0) := fsub 0x3F800000 px
      let ps := rest.map (fun e => fdiv e.p den)
      let (i, f1) := pick (uniform y1) (ps.map (·.1)) 0 0 0
      let e := rest.getD i e0
      let (lp, f2) := logprob e.p
      ⟨e.index, lp, false, ps.foldl (fun f p => f ||| p.2) (f0 ||| f1 ||| f2)⟩

/-- TOKEN, LOGPROB and FLAGS of an emit entry, and the bits written (R288, R291). -/
def Drawn.entry (d : Drawn) (e : Nat) : Row × Row :=
  let lo := 128 * e
  (BitVec.ofNat 4096 (((if d.accepted then 3 else 1) * 2 ^ 16 + d.token % 2 ^ 32 * 2 ^ 32 + d.logprob % 2 ^ 32 * 2 ^ 96) * 2 ^ lo),
    onesAt (lo + 16) 48 ||| onesAt (lo + 96) 32)

/-! ## The opcodes (R283) -/

/-- The unit that U selects. -/
def VOp.unit (o : VOp) : Nat := if o.u then 1 else 0

/-- A top-k opcode that changes its unit. -/
def Block.topkOp (s : Block) (r : RidgeId) (c : SiteId) (o : VOp) (accepts : Nat → Bool) (checks : List (Bool × Nat))
    (reads : List Nat) (f : Core → TopK → TopK × Nat) : Block :=
  s.vectorOp r c o accepts false checks [] reads (fun x =>
    let (t, fl) := f x (SMap.get TopK.reset x.topk o.unit)
    [.topk o.unit t, .flags 6 fl])

/-- tk.init. -/
def execTkInit (r : RidgeId) (c : SiteId) (o : VOp) (s : State) : Outcome State Fault Refusal := s.runs fun s =>
  let k := o.imm16.toNat % 512
  .next (s.topkOp r c o (fun _ => true) [(decide (k = 0 ∨ k > 256), 1)] [] (fun _ _ => (⟨k, [], false⟩, 0)))
/-- tk.scan (R285). -/
def execTkScan (r : RidgeId) (c : SiteId) (o : VOp) (s : State) : Outcome State Fault Refusal := s.runs fun s =>
  .next (s.topkOp r c o floats [] o.reads1 (fun x t =>
    t.merge ((elems o.type.toNat (x.v o.vs1.toNat)).mapIdx (fun i v => ((o.scalar1 x).toNat % 2 ^ 32 + i, v)))))
/-- tk.merge. -/
def execTkMerge (r : RidgeId) (c : SiteId) (o : VOp) (s : State) : Outcome State Fault Refusal := s.runs fun s =>
  .next (s.topkOp r c o (fun _ => true) [] [] (fun x t => t.merge (tkRecords (x.v o.vs1.toNat))))
/-- tk.out. -/
def execTkOut (r : RidgeId) (c : SiteId) (o : VOp) (s : State) : Outcome State Fault Refusal := s.runs fun s =>
  .next (s.vectorOp r c o (fun _ => true) false [] [.v o.vd.toNat] [] (fun x =>
    [.result 6 (.v o.vd.toNat)
      ((SMap.get TopK.reset x.topk o.unit).out (64 * (o.imm16.toNat % 4)) (o.imm16.getLsbD 8) (Config.staleP x.clock)) allBitsRow]))
/-- smp.norm (R286). -/
def execSmpNorm (r : RidgeId) (c : SiteId) (o : VOp) (s : State) : Outcome State Fault Refusal := s.runs fun s =>
  .next (s.topkOp r c o (fun _ => true) [] o.reads1 (fun x t => t.norm ((o.scalar1 x).toNat % 2 ^ 32)))
/-- smp.topp (R287). -/
def execSmpTopp (r : RidgeId) (c : SiteId) (o : VOp) (s : State) : Outcome State Fault Refusal := s.runs fun s =>
  .next (s.topkOp r c o (fun _ => true) [] o.reads1 (fun x t => t.topp ((o.scalar1 x).toNat % 2 ^ 32)))
/-- smp.draw (R291). -/
def execSmpDraw (r : RidgeId) (c : SiteId) (o : VOp) (s : State) : Outcome State Fault Refusal := s.runs fun s =>
  .next (s.vectorOp r c o (fun _ => true) false [] [.v o.vd.toNat] (o.ss2.toNat :: o.reads1) (fun x =>
    let (y0, _) := drawWords (o.scalar1 x) (x.s o.ss2.toNat) (o.imm16.toNat / 256 % 16) 0
    let d := (SMap.get TopK.reset x.topk o.unit).draw y0
    let (val, mask) := d.entry (o.imm16.toNat % 32)
    [.result 6 (.v o.vd.toNat) val mask, .flags 6 d.flags]))
/-- smp.accept (R292). -/
def execSmpAccept (r : RidgeId) (c : SiteId) (o : VOp) (s : State) : Outcome State Fault Refusal := s.runs fun s =>
  .next (s.vectorOp r c o (fun _ => true) false [] [.v o.vd.toNat] (o.ss2.toNat :: o.reads1) (fun x =>
    let e := o.imm16.toNat % 32
    let (y0, y1) := drawWords (o.scalar1 x) (x.s o.ss2.toNat) (o.imm16.toNat / 256 % 16) 1
    let v := x.v o.vs1.toNat
    let d := (SMap.get TopK.reset x.topk o.unit).accept (rowBits v (128 * e + 32) 32) (rowBits v (128 * e + 96) 32) y0 y1
    let (val, mask) := d.entry e
    [.result 6 (.v o.vd.toNat) val mask, .flags 6 d.flags]))

end Sys2Proof.Machine
end

