-- ==== Sys2Proof/Machine/Trust.lean ====
section
/-! DEFINITION. The commands of the trust mailboxes (R589–R623). -/
namespace Sys2Proof.Machine
open Host

/-- A write of TR_MBOX_CMD with an OP: ignored while the mailbox is BUSY (R622). On a ridge trust page the mailbox is the
ridge's. -/
def Block.mbox (s : Block) (req : Requester) (dw : Nat) (v : Word) (op : Nat) (signed unwraps : Bool)
    (revoke : Option (Nat × Nat)) : Block :=
  s.command req dw v .trust [0x44] (fun page _ _ t =>
    let k := if page = diePage 8 then 16 else ridgeOfPage page
    if getBits v 0 4 ≠ op ∨ t.fld (TR_MBOX_STAT.STATE k) = 1 then t
    else t.mboxSubmit ⟨k, req.val, op, getBits v 4 4, getBits v 8 6, getBits v 16 11, signed, unwraps, revoke⟩)

/-- BIND (R599, R600): `signed` says that the blob's signature verifies. -/
def execBind (req : Fin 18) (dw : BitVec 26) (v : Word) (signed : Bool) (s : State) : Outcome State Fault Refusal := s.runs fun s =>
  .next (s.mbox req dw.toNat v 1 signed false none)

/-- UNBIND (R601). -/
def execUnbind (req : Fin 18) (dw : BitVec 26) (v : Word) (s : State) : Outcome State Fault Refusal := s.runs fun s =>
  .next (s.mbox req dw.toNat v 2 false false none)

/-- UNBIND_SCRUB_DONE (R598, R601): the ridge becomes UNBOUND_DIRTY, and waiting mailbox commands run. -/
def execUnbindScrubDone (s : State) : Outcome State Fault Refusal := s.runs fun s =>
  match s.tr.mbox with
  | [] => .next s
  | o :: rest => .next (((s.bindingTo o.ridge 3).mboxEnd o 0).mboxNext rest)

/-- KEY_LOAD (R605–R607): `unwraps` says that the unwrap integrity check passes. -/
def execKeyLoad (req : Fin 18) (dw : BitVec 26) (v : Word) (signed unwraps : Bool) (s : State) : Outcome State Fault Refusal := s.runs fun s =>
  .next (s.mbox req dw.toNat v 3 signed unwraps none)

/-- KEY_CLEAR (R607). -/
def execKeyClear (req : Fin 18) (dw : BitVec 26) (v : Word) (s : State) : Outcome State Fault Refusal := s.runs fun s =>
  .next (s.mbox req dw.toNat v 4 false false none)

/-- GRANT (R613–R615). -/
def execGrant (req : Fin 18) (dw : BitVec 26) (v : Word) (signed : Bool) (s : State) : Outcome State Fault Refusal := s.runs fun s =>
  .next (s.mbox req dw.toNat v 5 signed false none)

/-- REVOKE (R616): `blob` is GRANT_ID and TARGET_SERIAL of a well-formed blob. -/
def execRevoke (req : Fin 18) (dw : BitVec 26) (v : Word) (signed : Bool) (blob : Option (DWord × DWord)) (s : State) :
    Outcome State Fault Refusal := s.runs fun s =>
  .next (s.mbox req dw.toNat v 6 signed false (blob.map (fun b => (b.1.toNat, b.2.toNat))))

/-- ALLOW (R602). -/
def execAllow (req : Fin 18) (dw : BitVec 26) (v : Word) (signed : Bool) (s : State) : Outcome State Fault Refusal := s.runs fun s =>
  .next (s.mbox req dw.toNat v 7 signed false none)

/-- ROOT_ADD (R616, R619). -/
def execRootAdd (req : Fin 18) (dw : BitVec 26) (v : Word) (s : State) : Outcome State Fault Refusal := s.runs fun s =>
  .next (s.mbox req dw.toNat v 8 false false none)

/-- SVN_RAISE (R592, R619). -/
def execSvnRaise (req : Fin 18) (dw : BitVec 26) (v : Word) (s : State) : Outcome State Fault Refusal := s.runs fun s =>
  .next (s.mbox req dw.toNat v 9 false false none)

end Sys2Proof.Machine
end

