-- ==== Sys2Proof/Machine/Dispatch.lean ====
section
/-! DEFINITION. The meaning of every command: one arm for each constructor of Instr. -/
namespace Sys2Proof.Machine
open Host

/-- The effect of a command on everything but the queue. -/
def exec (i : Instr) (s : State) : Host.Outcome State Fault Refusal :=
  match i with
  | .registerWrite req dw full v => Sys2Proof.Machine.execRegisterWrite req dw full v s
  | .roPairLoRead req dw => Sys2Proof.Machine.execRoPairLoRead req dw s
  | .lockSet req dw => Sys2Proof.Machine.execLockSet req dw s
  | .blkFreeze req dw freeze => Sys2Proof.Machine.execBlkFreeze req dw freeze s
  | .irqForce req dw v => Sys2Proof.Machine.execIrqForce req dw v s
  | .irqStatusClear req dw v => Sys2Proof.Machine.execIrqStatusClear req dw v s
  | .tokenGrant r => Sys2Proof.Machine.execTokenGrant r s
  | .pgmIteration r c e g ue repair => Sys2Proof.Machine.execPgmIteration r c e g ue repair s
  | .slabProgramDone r c e => Sys2Proof.Machine.execSlabProgramDone r c e s
  | .driftSampleDue r c e p => Sys2Proof.Machine.execDriftSampleDue r c e p s
  | .driftFit r c e g => Sys2Proof.Machine.execDriftFit r c e g s
  | .debtAccrual => Sys2Proof.Machine.execDebtAccrual s
  | .readDebtCount r c e p => Sys2Proof.Machine.execReadDebtCount r c e p s
  | .overdueCheck r => Sys2Proof.Machine.execOverdueCheck r s
  | .refreshScanDone r c e moved => Sys2Proof.Machine.execRefreshScanDone r c e moved s
  | .refreshResume r => Sys2Proof.Machine.execRefreshResume r s
  | .leaseAck req dw v => Sys2Proof.Machine.execLeaseAck req dw v s
  | .idleStepBoundary r => Sys2Proof.Machine.execIdleStepBoundary r s
  | .eraseScopeWrite req dw v => Sys2Proof.Machine.execEraseScopeWrite req dw v s
  | .eraseArm req dw v => Sys2Proof.Machine.execEraseArm req dw v s
  | .eraseArmExpiry => Sys2Proof.Machine.execEraseArmExpiry s
  | .eraseStart req dw v => Sys2Proof.Machine.execEraseStart req dw v s
  | .eraseDone => Sys2Proof.Machine.execEraseDone s
  | .debtCheckpoint => Sys2Proof.Machine.execDebtCheckpoint s
  | .cairnStoreRefresh => Sys2Proof.Machine.execCairnStoreRefresh s
  | .scan req dw v => Sys2Proof.Machine.execScan req dw v s
  | .refresh req dw v => Sys2Proof.Machine.execRefresh req dw v s
  | .driftSample req dw v => Sys2Proof.Machine.execDriftSample req dw v s
  | .replaceColumn req dw v => Sys2Proof.Machine.execReplaceColumn req dw v s
  | .replaceSlab req dw v => Sys2Proof.Machine.execReplaceSlab req dw v s
  | .reverify req dw v => Sys2Proof.Machine.execReverify req dw v s
  | .fire r c e last slab vreg shape group slice signed acc half rsv => Sys2Proof.Machine.execFire r c e last slab vreg shape group slice signed acc half rsv s
  | .qmFire r c e last vreg shape group slice signed acc half rsv => Sys2Proof.Machine.execQmFire r c e last vreg shape group slice signed acc half rsv s
  | .probe r c e last slab rsv => Sys2Proof.Machine.execProbe r c e last slab rsv s
  | .echo r c e last target hist rsv => Sys2Proof.Machine.execEcho r c e last target hist rsv s
  | .drain r c e last first lastBlk vreg fmt slab clr tally rsv => Sys2Proof.Machine.execDrain r c e last first lastBlk vreg fmt slab clr tally rsv s
  | .clear r c e last first lastBlk tally rsv => Sys2Proof.Machine.execClear r c e last first lastBlk tally rsv s
  | .qload r c e last vreg qrow rsv => Sys2Proof.Machine.execQload r c e last vreg qrow rsv s
  | .engineNop r c last rest => Sys2Proof.Machine.execEngineNop r c last rest s
  | .passStart r c e => Sys2Proof.Machine.execPassStart r c e s
  | .biasHoldExpiry r c e => Sys2Proof.Machine.execBiasHoldExpiry r c e s
  | .passLatch r c e err => Sys2Proof.Machine.execPassLatch r c e err s
  | .drainExecute r c e mismatches => Sys2Proof.Machine.execDrainExecute r c e mismatches s
  | .drainResultWrite r c e => Sys2Proof.Machine.execDrainResultWrite r c e s
  | .clearExecute r c e => Sys2Proof.Machine.execClearExecute r c e s
  | .qmPassStart r c e => Sys2Proof.Machine.execQmPassStart r c e s
  | .qmPassLatch r c e => Sys2Proof.Machine.execQmPassLatch r c e s
  | .qloadExecute r c e => Sys2Proof.Machine.execQloadExecute r c e s
  | .frameStart r c => Sys2Proof.Machine.execFrameStart r c s
  | .probeFrame r c e edge => Sys2Proof.Machine.execProbeFrame r c e edge s
  | .echoFrame r c e edge => Sys2Proof.Machine.execEchoFrame r c e edge s
  | .probeCompare r c e err => Sys2Proof.Machine.execProbeCompare r c e err s
  | .echoCompare r c e err => Sys2Proof.Machine.execEchoCompare r c e err s
  | .probeEntryRefill r c e p sum => Sys2Proof.Machine.execProbeEntryRefill r c e p sum s
  | .blockTableWrite req dw v => Sys2Proof.Machine.execBlockTableWrite req dw v s
  | .normWatchWrite req dw v => Sys2Proof.Machine.execNormWatchWrite req dw v s
  | .scalarNop r c slotB last rest => Sys2Proof.Machine.execScalarNop r c slotB last rest s
  | .add r c o => Sys2Proof.Machine.execAdd r c o s
  | .sub r c o => Sys2Proof.Machine.execSub r c o s
  | .and r c o => Sys2Proof.Machine.execAnd r c o s
  | .or r c o => Sys2Proof.Machine.execOr r c o s
  | .xor r c o => Sys2Proof.Machine.execXor r c o s
  | .shl r c o => Sys2Proof.Machine.execShl r c o s
  | .shr r c o => Sys2Proof.Machine.execShr r c o s
  | .sra r c o => Sys2Proof.Machine.execSra r c o s
  | .mul r c o => Sys2Proof.Machine.execMul r c o s
  | .mulh r c o => Sys2Proof.Machine.execMulh r c o s
  | .mulhu r c o => Sys2Proof.Machine.execMulhu r c o s
  | .min r c o => Sys2Proof.Machine.execMin r c o s
  | .max r c o => Sys2Proof.Machine.execMax r c o s
  | .minu r c o => Sys2Proof.Machine.execMinu r c o s
  | .maxu r c o => Sys2Proof.Machine.execMaxu r c o s
  | .li r c o => Sys2Proof.Machine.execLi r c o s
  | .ceq r c o => Sys2Proof.Machine.execCeq r c o s
  | .cne r c o => Sys2Proof.Machine.execCne r c o s
  | .clt r c o => Sys2Proof.Machine.execClt r c o s
  | .cltu r c o => Sys2Proof.Machine.execCltu r c o s
  | .cge r c o => Sys2Proof.Machine.execCge r c o s
  | .cgeu r c o => Sys2Proof.Machine.execCgeu r c o s
  | .pand r c o => Sys2Proof.Machine.execPand r c o s
  | .por r c o => Sys2Proof.Machine.execPor r c o s
  | .pxor r c o => Sys2Proof.Machine.execPxor r c o s
  | .pandn r c o => Sys2Proof.Machine.execPandn r c o s
  | .vnop r c last rest => Sys2Proof.Machine.execVnop r c last rest s
  | .vadd r c o => Sys2Proof.Machine.execVadd r c o s
  | .vsub r c o => Sys2Proof.Machine.execVsub r c o s
  | .vmul r c o => Sys2Proof.Machine.execVmul r c o s
  | .vfma r c o => Sys2Proof.Machine.execVfma r c o s
  | .vmin r c o => Sys2Proof.Machine.execVmin r c o s
  | .vmax r c o => Sys2Proof.Machine.execVmax r c o s
  | .vand r c o => Sys2Proof.Machine.execVand r c o s
  | .vor r c o => Sys2Proof.Machine.execVor r c o s
  | .vxor r c o => Sys2Proof.Machine.execVxor r c o s
  | .vshl r c o => Sys2Proof.Machine.execVshl r c o s
  | .vshr r c o => Sys2Proof.Machine.execVshr r c o s
  | .vsel r c o => Sys2Proof.Machine.execVsel r c o s
  | .vcmp r c o => Sys2Proof.Machine.execVcmp r c o s
  | .vbcast r c o => Sys2Proof.Machine.execVbcast r c o s
  | .vperm r c o => Sys2Proof.Machine.execVperm r c o s
  | .vcvt r c o => Sys2Proof.Machine.execVcvt r c o s
  | .vqnt r c o => Sys2Proof.Machine.execVqnt r c o s
  | .vexp r c o => Sys2Proof.Machine.execVexp r c o s
  | .vrsqrt r c o => Sys2Proof.Machine.execVrsqrt r c o s
  | .vrcp r c o => Sys2Proof.Machine.execVrcp r c o s
  | .vrsum r c o => Sys2Proof.Machine.execVrsum r c o s
  | .vrmax r c o => Sys2Proof.Machine.execVrmax r c o s
  | .vrsq r c o => Sys2Proof.Machine.execVrsq r c o s
  | .vlcomb r c o => Sys2Proof.Machine.execVlcomb r c o s
  | .nwacc r c o => Sys2Proof.Machine.execNwacc r c o s
  | .nwend r c o => Sys2Proof.Machine.execNwend r c o s
  | .tkInit r c o => Sys2Proof.Machine.execTkInit r c o s
  | .tkScan r c o => Sys2Proof.Machine.execTkScan r c o s
  | .tkMerge r c o => Sys2Proof.Machine.execTkMerge r c o s
  | .tkOut r c o => Sys2Proof.Machine.execTkOut r c o s
  | .smpNorm r c o => Sys2Proof.Machine.execSmpNorm r c o s
  | .smpTopp r c o => Sys2Proof.Machine.execSmpTopp r c o s
  | .smpDraw r c o => Sys2Proof.Machine.execSmpDraw r c o s
  | .smpAccept r c o => Sys2Proof.Machine.execSmpAccept r c o s
  | .memNop r c last rest => Sys2Proof.Machine.execMemNop r c last rest s
  | .ld r c o => Sys2Proof.Machine.execLd r c o s
  | .st r c o => Sys2Proof.Machine.execSt r c o s
  | .movv2s r c o => Sys2Proof.Machine.execMovv2s r c o s
  | .movs2v r c o => Sys2Proof.Machine.execMovs2v r c o s
  | .movx2s r c o => Sys2Proof.Machine.execMovx2s r c o s
  | .movs2x r c o => Sys2Proof.Machine.execMovs2x r c o s
  | .get r c o => Sys2Proof.Machine.execGet r c o s
  | .put r c o => Sys2Proof.Machine.execPut r c o s
  | .mdisp r c o => Sys2Proof.Machine.execMdisp r c o s
  | .emit r c o => Sys2Proof.Machine.execEmit r c o s
  | .drvPush r c o => Sys2Proof.Machine.execDrvPush r c o s
  | .crPush r c o => Sys2Proof.Machine.execCrPush r c o s
  | .crPop r c o => Sys2Proof.Machine.execCrPop r c o s
  | .crPeek r c o => Sys2Proof.Machine.execCrPeek r c o s
  | .crFree r c o => Sys2Proof.Machine.execCrFree r c o s
  | .crStat r c o => Sys2Proof.Machine.execCrStat r c o s
  | .nwRds r c o => Sys2Proof.Machine.execNwRds r c o s
  | .ctrlNop r c rest badHeader fetch => Sys2Proof.Machine.execCtrlNop r c rest badHeader fetch s
  | .br r c o => Sys2Proof.Machine.execBr r c o s
  | .jr r c o => Sys2Proof.Machine.execJr r c o s
  | .loop r c o => Sys2Proof.Machine.execLoop r c o s
  | .halt r c o => Sys2Proof.Machine.execHalt r c o s
  | .eret r c o => Sys2Proof.Machine.execEret r c o s
  | .syncAdd r c o => Sys2Proof.Machine.execSyncAdd r c o s
  | .syncNotify r c o => Sys2Proof.Machine.execSyncNotify r c o s
  | .syncClaim r c o => Sys2Proof.Machine.execSyncClaim r c o s
  | .syncWait r c o => Sys2Proof.Machine.execSyncWait r c o s
  | .syncWaitwake r c o => Sys2Proof.Machine.execSyncWaitwake r c o s
  | .syncCellOp r cell ops => Sys2Proof.Machine.execSyncCellOp r cell ops s
  | .wakeDelivery p => Sys2Proof.Machine.execWakeDelivery p s
  | .syncAnswer p => Sys2Proof.Machine.execSyncAnswer p s
  | .holdSpanEnd r c stallFrames => Sys2Proof.Machine.execHoldSpanEnd r c stallFrames s
  | .syncTimeout r c => Sys2Proof.Machine.execSyncTimeout r c s
  | .getRequest p busy corrected badWords badCodewords => Sys2Proof.Machine.execGetRequest p busy corrected badWords badCodewords s
  | .putRequest p busy corrected badWords badCodewords => Sys2Proof.Machine.execPutRequest p busy corrected badWords badCodewords s
  | .getData p withCore corrected bad => Sys2Proof.Machine.execGetData p withCore corrected bad s
  | .remoteCompletion p => Sys2Proof.Machine.execRemoteCompletion p s
  | .remoteTimeout r c tag => Sys2Proof.Machine.execRemoteTimeout r c tag s
  | .coreStart req dw v => Sys2Proof.Machine.execCoreStart req dw v s
  | .haltReq req dw v => Sys2Proof.Machine.execHaltReq req dw v s
  | .imemWordWrite req dw v => Sys2Proof.Machine.execImemWordWrite req dw v s
  | .awCtlWrite req dw v => Sys2Proof.Machine.execAwCtlWrite req dw v s
  | .syncValWrite req dw v ops => Sys2Proof.Machine.execSyncValWrite req dw v ops s
  | .syncAddReg req dw v ops => Sys2Proof.Machine.execSyncAddReg req dw v ops s
  | .migTemporary req dw v => Sys2Proof.Machine.execMigTemporary req dw v s
  | .migPermanent req dw v => Sys2Proof.Machine.execMigPermanent req dw v s
  | .migReturn req dw v => Sys2Proof.Machine.execMigReturn req dw v s
  | .migDrainDone r => Sys2Proof.Machine.execMigDrainDone r s
  | .migDrainTimeout r => Sys2Proof.Machine.execMigDrainTimeout r s
  | .migFlip r spans => Sys2Proof.Machine.execMigFlip r spans s
  | .localRowAccess r c corrected bad => Sys2Proof.Machine.execLocalRowAccess r c corrected bad s
  | .sharedPhaseAccess r c withCore corrected bad => Sys2Proof.Machine.execSharedPhaseAccess r c withCore corrected bad s
  | .regionArrival p withCore => Sys2Proof.Machine.execRegionArrival p withCore s
  | .crCtlWrite req dw v => Sys2Proof.Machine.execCrCtlWrite req dw v s
  | .poolEnable req dw v => Sys2Proof.Machine.execPoolEnable req dw v s
  | .cacheAccess h k corrected bad => Sys2Proof.Machine.execCacheAccess h k corrected bad s
  | .cacheScrub h unit corrected bad last => Sys2Proof.Machine.execCacheScrub h unit corrected bad last s
  | .hbmRefresh h => Sys2Proof.Machine.execHbmRefresh h s
  | .cacheRegionWrite req dw v => Sys2Proof.Machine.execCacheRegionWrite req dw v s
  | .packetDelivery p busy withCore corrected badWords badCodewords => Sys2Proof.Machine.execPacketDelivery p busy withCore corrected badWords badCodewords s
  | .routeChange west east holes seams unreachable => Sys2Proof.Machine.execRouteChange west east holes seams unreachable s
  | .routeDrained us => Sys2Proof.Machine.execRouteDrained us s
  | .saddleFlitReceive link dir lanes bad again => Sys2Proof.Machine.execSaddleFlitReceive link dir lanes bad again s
  | .saddleResend link dir => Sys2Proof.Machine.execSaddleResend link dir s
  | .signalDetect p lanes => Sys2Proof.Machine.execSignalDetect p lanes s
  | .portDetectRetry p noPeer => Sys2Proof.Machine.execPortDetectRetry p noPeer s
  | .eqDone p => Sys2Proof.Machine.execEqDone p s
  | .alignDone p lanes crossed => Sys2Proof.Machine.execAlignDone p lanes crossed s
  | .trainTimeout p => Sys2Proof.Machine.execTrainTimeout p s
  | .planLoaded req dw v => Sys2Proof.Machine.execPlanLoaded req dw v s
  | .hello p h serial moduleOk => Sys2Proof.Machine.execHello p h serial moduleOk s
  | .keyOffer p verified root serial svn => Sys2Proof.Machine.execKeyOffer p verified root serial svn s
  | .keyConfirm p tick ok => Sys2Proof.Machine.execKeyConfirm p tick ok s
  | .retrainReq p coord => Sys2Proof.Machine.execRetrainReq p coord s
  | .widthReq p coord lanes => Sys2Proof.Machine.execWidthReq p coord lanes s
  | .reqAck p type => Sys2Proof.Machine.execReqAck p type s
  | .reqWithdraw p type => Sys2Proof.Machine.execReqWithdraw p type s
  | .errorWindow p => Sys2Proof.Machine.execErrorWindow p s
  | .laneSignalLoss p lane => Sys2Proof.Machine.execLaneSignalLoss p lane s
  | .retrainDone p lanes => Sys2Proof.Machine.execRetrainDone p lanes s
  | .widthChangeDone p lanes => Sys2Proof.Machine.execWidthChangeDone p lanes s
  | .portRetrain req dw v => Sys2Proof.Machine.execPortRetrain req dw v s
  | .portRestore req dw v => Sys2Proof.Machine.execPortRestore req dw v s
  | .portDown req dw v => Sys2Proof.Machine.execPortDown req dw v s
  | .portUp req dw v => Sys2Proof.Machine.execPortUp req dw v s
  | .frameReceive p f corrected uncorrectable tagOk slot => Sys2Proof.Machine.execFrameReceive p f corrected uncorrectable tagOk slot s
  | .frameTransmit p slot => Sys2Proof.Machine.execFrameTransmit p slot s
  | .mdispArrival p withCore => Sys2Proof.Machine.execMdispArrival p withCore s
  | .droverBeatArrival p corrected badWords badCodewords withCore => Sys2Proof.Machine.execDroverBeatArrival p corrected badWords badCodewords withCore s
  | .slotLossNotice p => Sys2Proof.Machine.execSlotLossNotice p s
  | .herdSyncPulse markers => Sys2Proof.Machine.execHerdSyncPulse markers s
  | .herdSyncMissing markers => Sys2Proof.Machine.execHerdSyncMissing markers s
  | .tickSetWrite req dw v => Sys2Proof.Machine.execTickSetWrite req dw v s
  | .swapArm req dw v => Sys2Proof.Machine.execSwapArm req dw v s
  | .swapNotice p bank tick => Sys2Proof.Machine.execSwapNotice p bank tick s
  | .schedEntryWrite req dw v => Sys2Proof.Machine.execSchedEntryWrite req dw v s
  | .genCmd req dw v => Sys2Proof.Machine.execGenCmd req dw v s
  | .genNotice p g mask => Sys2Proof.Machine.execGenNotice p g mask s
  | .strayNotice p g mask => Sys2Proof.Machine.execStrayNotice p g mask s
  | .genPersist => Sys2Proof.Machine.execGenPersist s
  | .genGraceEnd => Sys2Proof.Machine.execGenGraceEnd s
  | .linkRekey p => Sys2Proof.Machine.execLinkRekey p s
  | .droverGo req dw v => Sys2Proof.Machine.execDroverGo req dw v s
  | .droverStop req dw v => Sys2Proof.Machine.execDroverStop req dw v s
  | .descriptorFetch k ch outside corrected badWords badCodewords => Sys2Proof.Machine.execDescriptorFetch k ch outside corrected badWords badCodewords s
  | .beatGrant k corrected badWords badCodewords => Sys2Proof.Machine.execBeatGrant k corrected badWords badCodewords s
  | .starveGrant k ch corrected badWords badCodewords => Sys2Proof.Machine.execStarveGrant k ch corrected badWords badCodewords s
  | .beatComplete k ch n off hostStatus hostData reply withCore => Sys2Proof.Machine.execBeatComplete k ch n off hostStatus hostData reply withCore s
  | .beatTimeout k ch n off => Sys2Proof.Machine.execBeatTimeout k ch n off s
  | .descriptorComplete k ch => Sys2Proof.Machine.execDescriptorComplete k ch s
  | .coalesceTimer k ch => Sys2Proof.Machine.execCoalesceTimer k ch s
  | .drainWindowEnd r => Sys2Proof.Machine.execDrainWindowEnd r s
  | .parcelGo req dw v => Sys2Proof.Machine.execParcelGo req dw v s
  | .parcelStop req dw v => Sys2Proof.Machine.execParcelStop req dw v s
  | .parcelHeader n code h => Sys2Proof.Machine.execParcelHeader n code h s
  | .recordDecrypt n tagOk d params data => Sys2Proof.Machine.execRecordDecrypt n tagOk d params data s
  | .recordProbeDone r c e p rowErr sumErr => Sys2Proof.Machine.execRecordProbeDone r c e p rowErr sumErr s
  | .flipArm req dw v => Sys2Proof.Machine.execFlipArm req dw v s
  | .oldVersionFree r => Sys2Proof.Machine.execOldVersionFree r s
  | .rebuildEnter req dw v => Sys2Proof.Machine.execRebuildEnter req dw v s
  | .rebuildExit r => Sys2Proof.Machine.execRebuildExit r s
  | .exportGo req dw v => Sys2Proof.Machine.execExportGo req dw v s
  | .exportStop req dw v => Sys2Proof.Machine.execExportStop req dw v s
  | .exportDone => Sys2Proof.Machine.execExportDone s
  | .layerMapJournal => Sys2Proof.Machine.execLayerMapJournal s
  | .sqTailWrite req dw v => Sys2Proof.Machine.execSqTailWrite req dw v s
  | .submissionFetch r entry data => Sys2Proof.Machine.execSubmissionFetch r entry data s
  | .openSeq r entry => Sys2Proof.Machine.execOpenSeq r entry s
  | .cancel r entry => Sys2Proof.Machine.execCancel r entry s
  | .release r entry => Sys2Proof.Machine.execRelease r entry s
  | .park r entry => Sys2Proof.Machine.execPark r entry s
  | .resume r entry => Sys2Proof.Machine.execResume r entry s
  | .setStop r entry data => Sys2Proof.Machine.execSetStop r entry data s
  | .walkDone q prompt => Sys2Proof.Machine.execWalkDone q prompt s
  | .batchCompose r given => Sys2Proof.Machine.execBatchCompose r given s
  | .budgetRefill => Sys2Proof.Machine.execBudgetRefill s
  | .emitArrival p => Sys2Proof.Machine.execEmitArrival p s
  | .finalCommit p => Sys2Proof.Machine.execFinalCommit p s
  | .servingRetract p => Sys2Proof.Machine.execServingRetract p s
  | .amendedBatch r step => Sys2Proof.Machine.execAmendedBatch r step s
  | .ringCoalTimer g => Sys2Proof.Machine.execRingCoalTimer g s
  | .ringHeadWrite req dw v => Sys2Proof.Machine.execRingHeadWrite req dw v s
  | .expertMapWrite req dw v => Sys2Proof.Machine.execExpertMapWrite req dw v s
  | .spoorFlush req dw v => Sys2Proof.Machine.execSpoorFlush req dw v s
  | .stepAdvance r bad => Sys2Proof.Machine.execStepAdvance r bad s
  | .stepCommit r => Sys2Proof.Machine.execStepCommit r s
  | .commit p => Sys2Proof.Machine.execCommit p s
  | .retract p => Sys2Proof.Machine.execRetract p s
  | .replayEnter r bad => Sys2Proof.Machine.execReplayEnter r bad s
  | .classifyStart r c e moved err err2 => Sys2Proof.Machine.execClassifyStart r c e moved err err2 s
  | .classifyMirrorReady r c e err err2 => Sys2Proof.Machine.execClassifyMirrorReady r c e err err2 s
  | .classifyTimeout r c e => Sys2Proof.Machine.execClassifyTimeout r c e s
  | .iftDue r c e => Sys2Proof.Machine.execIftDue r c e s
  | .iftCmd req dw v => Sys2Proof.Machine.execIftCmd req dw v s
  | .iftWaitTimeout r => Sys2Proof.Machine.execIftWaitTimeout r s
  | .iftRetry r overdue => Sys2Proof.Machine.execIftRetry r overdue s
  | .coreTestDone r c pass => Sys2Proof.Machine.execCoreTestDone r c pass s
  | .engineTestSlabDone r c e moved faults => Sys2Proof.Machine.execEngineTestSlabDone r c e moved faults s
  | .fsPop req dw v => Sys2Proof.Machine.execFsPop req dw v s
  | .epochArrival src e whole => Sys2Proof.Machine.execEpochArrival src e whole s
  | .epochAck n => Sys2Proof.Machine.execEpochAck n s
  | .twAckLate => Sys2Proof.Machine.execTwAckLate s
  | .twinResume req dw v => Sys2Proof.Machine.execTwinResume req dw v s
  | .twinResync req dw v => Sys2Proof.Machine.execTwinResync req dw v s
  | .resyncDone => Sys2Proof.Machine.execResyncDone s
  | .bind req dw v signed => Sys2Proof.Machine.execBind req dw v signed s
  | .unbind req dw v => Sys2Proof.Machine.execUnbind req dw v s
  | .unbindScrubDone => Sys2Proof.Machine.execUnbindScrubDone s
  | .keyLoad req dw v signed unwraps => Sys2Proof.Machine.execKeyLoad req dw v signed unwraps s
  | .keyClear req dw v => Sys2Proof.Machine.execKeyClear req dw v s
  | .grant req dw v signed => Sys2Proof.Machine.execGrant req dw v signed s
  | .revoke req dw v signed blob => Sys2Proof.Machine.execRevoke req dw v signed blob s
  | .allow req dw v signed => Sys2Proof.Machine.execAllow req dw v signed s
  | .rootAdd req dw v => Sys2Proof.Machine.execRootAdd req dw v s
  | .svnRaise req dw v => Sys2Proof.Machine.execSvnRaise req dw v s
  | .getVersion => Sys2Proof.Machine.execGetVersion s
  | .getCapabilities => Sys2Proof.Machine.execGetCapabilities s
  | .negotiateAlgorithms offered => Sys2Proof.Machine.execNegotiateAlgorithms offered s
  | .getDigests => Sys2Proof.Machine.execGetDigests s
  | .getCertificate slot => Sys2Proof.Machine.execGetCertificate slot s
  | .challenge slot => Sys2Proof.Machine.execChallenge slot s
  | .getMeasurements index => Sys2Proof.Machine.execGetMeasurements index s
  | .keyExchange id => Sys2Proof.Machine.execKeyExchange id s
  | .finish id ok => Sys2Proof.Machine.execFinish id ok s
  | .heartbeat id => Sys2Proof.Machine.execHeartbeat id s
  | .keyUpdate id => Sys2Proof.Machine.execKeyUpdate id s
  | .endSession id => Sys2Proof.Machine.execEndSession id s
  | .spdmUnsupported => Sys2Proof.Machine.execSpdmUnsupported s
  | .dieActive req dw v => Sys2Proof.Machine.execDieActive req dw v s
  | .dieStandby req dw v => Sys2Proof.Machine.execDieStandby req dw v s
  | .dieHold req dw v => Sys2Proof.Machine.execDieHold req dw v s
  | .ridgeRun req dw v => Sys2Proof.Machine.execRidgeRun req dw v s
  | .ridgeNap req dw v => Sys2Proof.Machine.execRidgeNap req dw v s
  | .ridgeOff req dw v => Sys2Proof.Machine.execRidgeOff req dw v s
  | .doorbell req dw v => Sys2Proof.Machine.execDoorbell req dw v s
  | .ridgeTimerExpiry r => Sys2Proof.Machine.execRidgeTimerExpiry r s
  | .dozeEntry r => Sys2Proof.Machine.execDozeEntry r s
  | .autoNap r => Sys2Proof.Machine.execAutoNap r s
  | .entrySuspendDone r => Sys2Proof.Machine.execEntrySuspendDone r s
  | .entryFrameGate r => Sys2Proof.Machine.execEntryFrameGate r s
  | .ridgeWakeDone r => Sys2Proof.Machine.execRidgeWakeDone r s
  | .i3cAddressMatch data => Sys2Proof.Machine.execI3cAddressMatch data s
  | .holdWakeTimer => Sys2Proof.Machine.execHoldWakeTimer s
  | .railWarning rail => Sys2Proof.Machine.execRailWarning rail s
  | .lvHoldEnd us => Sys2Proof.Machine.execLvHoldEnd us s
  | .otherRailDip rail level => Sys2Proof.Machine.execOtherRailDip rail level s
  | .railResetLevel rail => Sys2Proof.Machine.execRailResetLevel rail s
  | .powerGoodFall rail => Sys2Proof.Machine.execPowerGoodFall rail s
  | .railDownStep stuck => Sys2Proof.Machine.execRailDownStep stuck s
  | .pwrFail => Sys2Proof.Machine.execPwrFail s
  | .pfRailDown => Sys2Proof.Machine.execPfRailDown s
  | .vddBaseLoss => Sys2Proof.Machine.execVddBaseLoss s
  | .governorInterval uncontrolled energy => Sys2Proof.Machine.execGovernorInterval uncontrolled energy s
  | .conversionDone n code value us => Sys2Proof.Machine.execConversionDone n code value us s
  | .fixedScanDue n k => Sys2Proof.Machine.execFixedScanDue n k s
  | .scanEntryDue n e => Sys2Proof.Machine.execScanEntryDue n e s
  | .urgentRequest req dw v => Sys2Proof.Machine.execUrgentRequest req dw v s
  | .lkBufHeadWrite req dw v => Sys2Proof.Machine.execLkBufHeadWrite req dw v s
  | .lkBufEnable req dw v => Sys2Proof.Machine.execLkBufEnable req dw v s
  | .thermalTick => Sys2Proof.Machine.execThermalTick s
  | .tripClear req dw v => Sys2Proof.Machine.execTripClear req dw v s
  | .sensorClear req dw v => Sys2Proof.Machine.execSensorClear req dw v s
  | .stackTempReport h x => Sys2Proof.Machine.execStackTempReport h x s
  | .bandInit moved => Sys2Proof.Machine.execBandInit moved s
  | .calConv req dw v => Sys2Proof.Machine.execCalConv req dw v s
  | .calRowdrv req dw v => Sys2Proof.Machine.execCalRowdrv req dw v s
  | .calDrift req dw v => Sys2Proof.Machine.execCalDrift req dw v s
  | .calSerdes req dw v => Sys2Proof.Machine.execCalSerdes req dw v s
  | .calLookout req dw v => Sys2Proof.Machine.execCalLookout req dw v s
  | .calSensor req dw v => Sys2Proof.Machine.execCalSensor req dw v s
  | .calRestore req dw v => Sys2Proof.Machine.execCalRestore req dw v s
  | .calibrationFrame r c => Sys2Proof.Machine.execCalibrationFrame r c s
  | .lookoutTestWindow n begin' => Sys2Proof.Machine.execLookoutTestWindow n begin' s
  | .calUnitDone n m => Sys2Proof.Machine.execCalUnitDone n m s
  | .calRecordWrite => Sys2Proof.Machine.execCalRecordWrite s
  | .cairnSecond => Sys2Proof.Machine.execCairnSecond s
  | .railHour => Sys2Proof.Machine.execRailHour s
  | .cairnTimeSet req dw v => Sys2Proof.Machine.execCairnTimeSet req dw v s
  | .cairnPeriodicFlush => Sys2Proof.Machine.execCairnPeriodicFlush s
  | .faultFlushSpacing => Sys2Proof.Machine.execFaultFlushSpacing s
  | .cairnFlushDone fail => Sys2Proof.Machine.execCairnFlushDone fail s
  | .cairnFreeze req dw v => Sys2Proof.Machine.execCairnFreeze req dw v s
  | .freezeTimeout => Sys2Proof.Machine.execFreezeTimeout s
  | .cairnReadAddr req dw v => Sys2Proof.Machine.execCairnReadAddr req dw v s
  | .cairnReadReady => Sys2Proof.Machine.execCairnReadReady s
  | .cairnClear req dw v => Sys2Proof.Machine.execCairnClear req dw v s
  | .cairnFlushRequest req dw v => Sys2Proof.Machine.execCairnFlushRequest req dw v s
  | .vddBaseRise => Sys2Proof.Machine.execVddBaseRise s
  | .railPowerGood rail vin => Sys2Proof.Machine.execRailPowerGood rail vin s
  | .hbmTrainingDone fru pmod hbm trained => Sys2Proof.Machine.execHbmTrainingDone fru pmod hbm trained s
  | .probeSweepDone failures => Sys2Proof.Machine.execProbeSweepDone failures s
  | .paramCellProgram r c e cut => Sys2Proof.Machine.execParamCellProgram r c e cut s
  | .resetCold req dw v => Sys2Proof.Machine.execResetCold req dw v s
  | .resetWarm req dw v => Sys2Proof.Machine.execResetWarm req dw v s
  | .resetRidge req dw v => Sys2Proof.Machine.execResetRidge req dw v s
  | .perst => Sys2Proof.Machine.execPerst s
  | .watchdogExpiry => Sys2Proof.Machine.execWatchdogExpiry s
  | .coreSoftReset req dw v => Sys2Proof.Machine.execCoreSoftReset req dw v s
  | .blockSoftReset req dw v => Sys2Proof.Machine.execBlockSoftReset req dw v s
  | .fwStage req dw v img flashOk => Sys2Proof.Machine.execFwStage req dw v img flashOk s
  | .fwSwitch req dw v => Sys2Proof.Machine.execFwSwitch req dw v s
  | .fwConfirm req dw v => Sys2Proof.Machine.execFwConfirm req dw v s
  | .fwRevert req dw v => Sys2Proof.Machine.execFwRevert req dw v s
  | .trialTimeout => Sys2Proof.Machine.execTrialTimeout s
  | .ucLoad req dw v => Sys2Proof.Machine.execUcLoad req dw v s
  | .serdesLoad req dw v => Sys2Proof.Machine.execSerdesLoad req dw v s
  | .pldmFwUpdate img flashOk => Sys2Proof.Machine.execPldmFwUpdate img flashOk s
  | .activateFirmware => Sys2Proof.Machine.execActivateFirmware s
  | .flrVf r => Sys2Proof.Machine.execFlrVf r s
  | .flrPf => Sys2Proof.Machine.execFlrPf s
  | .d3hotEntry fn => Sys2Proof.Machine.execD3hotEntry fn s
  | .d0Return fn => Sys2Proof.Machine.execD0Return fn s
  | .configRequest fn access => Sys2Proof.Machine.execConfigRequest fn access s
  | .apertureRead fn offset len busy corrected badWords badCodewords => Sys2Proof.Machine.execApertureRead fn offset len busy corrected badWords badCodewords s
  | .apertureWrite fn offset data enables busy corrected badWords badCodewords => Sys2Proof.Machine.execApertureWrite fn offset data enables busy corrected badWords badCodewords s
  | .apertureCfgWrite req dw v => Sys2Proof.Machine.execApertureCfgWrite req dw v s
  | .entdaa addr => Sys2Proof.Machine.execEntdaa addr s
  | .setdasa addr => Sys2Proof.Machine.execSetdasa addr s
  | .setnewda addr => Sys2Proof.Machine.execSetnewda addr s
  | .rstdaa => Sys2Proof.Machine.execRstdaa s
  | .enec direct events => Sys2Proof.Machine.execEnec direct events s
  | .disec direct events => Sys2Proof.Machine.execDisec direct events s
  | .getpid => Sys2Proof.Machine.execGetpid s
  | .getbcr => Sys2Proof.Machine.execGetbcr s
  | .getdcr => Sys2Proof.Machine.execGetdcr s
  | .getstatus => Sys2Proof.Machine.execGetstatus s
  | .getmwl => Sys2Proof.Machine.execGetmwl s
  | .getmrl => Sys2Proof.Machine.execGetmrl s
  | .rstact direct action => Sys2Proof.Machine.execRstact direct action s
  | .cccUnsupported => Sys2Proof.Machine.execCccUnsupported s
  | .mctpMessage src tag som eom body session verdict => Sys2Proof.Machine.execMctpMessage src tag som eom body session verdict s
  | .setEndpointId eid => Sys2Proof.Machine.execSetEndpointId eid s
  | .pollForPlatformEventMessage => Sys2Proof.Machine.execPollForPlatformEventMessage s
  | .fsFetch => Sys2Proof.Machine.execFsFetch s
  | .mgFsPop => Sys2Proof.Machine.execMgFsPop s
  | .cairnRead addr => Sys2Proof.Machine.execCairnRead addr s
  | .identity => Sys2Proof.Machine.execIdentity s
  | .mgState => Sys2Proof.Machine.execMgState s
  | .fabrefLoss => Sys2Proof.Machine.execFabrefLoss s
  | .crystalStop => Sys2Proof.Machine.execCrystalStop s
  | .setpointStep => Sys2Proof.Machine.execSetpointStep s
  | .scanDone r c e moved => Sys2Proof.Machine.execScanDone r c e moved s
  | .refreshEn req dw v => Sys2Proof.Machine.execRefreshEn req dw v s
  | .planEntryWrite req dw v => Sys2Proof.Machine.execPlanEntryWrite req dw v s
  | .linkChange up flit speed width => Sys2Proof.Machine.execLinkChange up flit speed width s
  | .ideKm session stream op => Sys2Proof.Machine.execIdeKm session stream op s
  | .calSerdesTimeout => Sys2Proof.Machine.execCalSerdesTimeout s
  | .powerGoodTimeout => Sys2Proof.Machine.execPowerGoodTimeout s
  | .storeSettlementDone => Sys2Proof.Machine.execStoreSettlementDone s
  | .startDone => Sys2Proof.Machine.execStartDone s
  | .crystalRestart => Sys2Proof.Machine.execCrystalRestart s
  | .svAccBalWrite req dw v => Sys2Proof.Machine.execSvAccBalWrite req dw v s

end Sys2Proof.Machine
end

