-- ==== Sys2Proof/WellFormed.lean ====
section
/-! DEFINITION. Well-formed commands: a list that stands for the cells, converters or samples of one object has as many
entries as the object has (R33, R53, R685–R694). -/
namespace Sys2Proof

open Machine

/-- Whether a calibration's measurement of one unit has its object's length: 544 converters, 16 levels or 64 samples. -/
def Machine.CalMeas.wellFormed : CalMeas → Bool
  | .conv l _ _ => decide (l.length = 544)
  | .rowdrv l => decide (l.length = 16)
  | .drift g => decide (g.length = 64)
  | .serdes _ _ => true
  | .lookout _ _ _ => true
  | .sensor _ _ => true

/-- Whether every list operand of a command has its object's length; the commands not named have no such operand. -/
def Instr.wellFormed : Instr → Bool
  | .pgmIteration _ _ _ g _ repair => decide (g.length = 544 ∧ repair.length = 544)
  | .driftFit _ _ _ g => decide (g.length = 64)
  | .passLatch _ _ _ err => decide (err.length = 544)
  | .probeCompare _ _ _ err => decide (err.length = 544)
  | .echoCompare _ _ _ err => decide (err.length = 544)
  | .recordProbeDone _ _ _ _ rowErr sumErr => decide (rowErr.length = 544 ∧ sumErr.length = 544)
  | .classifyStart _ _ _ _ err err2 => decide (err.length = 544 ∧ err2.length = 544)
  | .classifyMirrorReady _ _ _ err err2 => decide (err.length = 544 ∧ err2.length = 544)
  | .calUnitDone _ m => m.wellFormed
  | _ => true

end Sys2Proof
end

