-- ==== Sys2Proof/Safety.lean ====
section
/-! DEFINITION. What counts as a safe run of the block, and the terms in which statements about it are made: what a command
gives, a write that is admitted, a slot that joins its bundle, a bundle that issues, and what leaves the registers alone. -/
namespace Sys2Proof.Machine

/-! ## Safe runs -/

/-- Every waiting command is well-formed. -/
def State.waitingWellFormed (s : State) : Bool := s.pending.all Sys2Proof.Instr.wellFormed

/-- The register file is in its canonical form: keys rise, and no register is listed at its reset value. -/
def Block.regsCanonical (s : Block) : Bool :=
  SMap.rising s.regs && s.regs.all (fun e => decide (e.2 ≠ regReset e.1))

/-! ## What a command gives -/

/-- Command `c` at state `s` answers a next state whose hardware is `b`, and whose queue is as it was. -/
def Gives (c : Instr) (s : State) (b : Block) : Prop := exec c s = .next ⟨b, s.pending⟩

/-- A register write that reaches a page of a kind and is admitted (R8, R748): the hardware after the access itself (a ridge in
Doze runs again), the page, the offset and the index of the cell behind the page's selection. -/
def Block.admits (s : Block) (req : Fin 18) (dw : BitVec 26) (v : Word) (kind : PageKind) : Option (Block × Nat × Nat × Nat) :=
  match s.reach req dw.toNat true with
  | (t, some (page, off)) =>
    if pageKind page = kind ∧ t.refusal req page off v = none then
      match regRow kind off with
      | some row => some (t, page, off, t.cellKey page off row % regSpan)
      | none => none
    else none
  | _ => none

/-- What a write command gives: wherever the write reaches a register of a page kind at one of some offsets and is admitted, and
`when` holds of the hardware, the page, the offset and the cell's index, command `c` gives what `effect` makes of them. -/
def WriteGives (c : Instr) (s : State) (req : Fin 18) (dw : BitVec 26) (v : Word) (kind : PageKind) (offs : List Nat)
    (when : Block → Nat → Nat → Nat → Prop) (effect : Block → Nat → Nat → Nat → Block) : Prop :=
  ∀ t page off idx, s.admits req dw v kind = some (t, page, off, idx) → offs.contains off = true → when t page off idx →
    Gives c s (effect t page off idx)

/-! ## Slots and bundles of a core -/

/-- The bundle of a core with one slot more: the slot's destinations other than s0 and p0, and its effects. -/
def Block.joined (s : Block) (r c k : Nat) (dests : List Dest) (fx : List Fx) : Block :=
  s.modCore r c (fun x => { x with bundle :=
    { dests := x.bundle.dests ++ (dests.filter (fun d => decide (d ≠ .s 0 ∧ d ≠ .p 0))).map (fun d => (k, d))
      excs := x.bundle.excs
      reads := x.bundle.reads
      fx := x.bundle.fx ++ fx } })

/-- A slot joins its bundle; the bundle's last slot closes it. -/
def Block.joins (s : Block) (r c k : Nat) (last : Bool) (dests : List Dest) (fx : List Fx) : Block :=
  if last then (s.joined r c k dests fx).closeBundle r c else s.joined r c k dests fx

/-- No pending CLAIM writes one of these s registers (R212). -/
def Core.unclaimed (x : Core) (l : List Nat) : Bool := (x.claimed l).isEmpty

/-- A core's local row that lies in the scratchpad (R296). -/
def MOp.rowOk (o : MOp) (x : Core) : Bool := decide (o.localRow x < 4096)

/-- The bundle of a core closes without an exception or a hold: nothing waits to be taken, nothing in it faults, no register
of it is claimed, and it finds a tag and a place in its channel's queue (R209, R212, R231). -/
def Block.bundleIssues (s : Block) (r c : Nat) : Bool :=
  let x := s.coreAt r c
  x.excWait.isEmpty && !x.haltReq && (bundleExc x.pc x.bundle).isNone && x.bundle.reads.isEmpty
    && !(needsTag x.bundle.fx && x.tagsFull)
    && (match pushChannel x.bundle.fx with | some ch => !s.chanFull r ch | none => true)

/-- A core that runs straight-line code alone: it issues, its bundle is empty, nothing waits or is on its way, no loop is
active, and its program counter is inside the instruction memory. -/
def Block.plainCore (s : Block) (r c : Nat) : Bool :=
  let x := s.coreAt r c
  s.issues r c && decide (x.bundle = Bundle.none) && x.excWait.isEmpty && !x.haltReq && x.results.isEmpty && x.loops.isEmpty
    && x.wait.isNone && x.claims.isEmpty && !x.handler && decide (x.pc < 4096)

/-! ## What leaves a part alone -/

/-- Every register of the register file reads in `t` as in `s`. -/
def Block.sameRegs (s t : Block) : Prop := ∀ k, t.reg k = s.reg k

/-- Every register but those of a list reads in `t` as in `s`. -/
def Block.sameRegsBut (s t : Block) (keys : List Nat) : Prop := ∀ k, k ∉ keys → t.reg k = s.reg k

/-- Every scratchpad row reads in `t` as in `s`. -/
def Block.sameRows (s t : Block) : Prop := ∀ r c row, t.readRow r c row = s.readRow r c row

end Sys2Proof.Machine
end

