-- ==== Sys2Proof/Certificates/Slice0/Obligations.lean ====
section
/-! DEFINITION. The statements about the model: what each command gives, for every state and every operand that meets the conditions
the spec names; what it leaves alone; what reset leaves; and that a queue of well-formed commands runs to its end. A statement
whose words rest on a choice of the model names the log entry. -/
open Sys2Proof Sys2Proof.Machine

/-! ## The bundle of a core: scalar, vector, sampling, memory, control and engine slots -/

/-- R269, R270: in a core that issues, a scalar slot with a legal encoding, whose guard holds and whose operands no CLAIM will
write, joins its bundle with one result: the 64-bit value of its operation, wrapping modulo 2⁶⁴, with the operation's latency;
the last slot closes the bundle. A nop joins nothing. -/
def Obligations.ScalarSlotsJoinTheirResult : Prop :=
  ∀ (r : RidgeId) (c : SiteId) (o : SOp) (s : State),
    let x := s.coreAt r c
    let a := x.s o.rs1.toNat
    let b := o.op2 x
    let joins (i : Instr) (lat : Nat) (v : DWord) : Prop :=
      Gives i s (s.joins r c o.k o.last [.s o.rd.toNat] [.result lat (.s o.rd.toNat) (v.setWidth 4096) allBitsRow])
    s.issues r c = true →
    (∀ slotB last, Gives (.scalarNop r c slotB last 0) s (s.joins r c (if slotB then 1 else 0) last [] [])) ∧
    (o.rsv = 0 → x.guard o.gp o.gneg = true → x.unclaimed o.reads = true →
      joins (.add r c o) 1 (a + b) ∧
      joins (.sub r c o) 1 (a - b) ∧
      joins (.and r c o) 1 (a &&& b) ∧
      joins (.or r c o) 1 (a ||| b) ∧
      joins (.xor r c o) 1 (a ^^^ b) ∧
      joins (.shl r c o) 1 (a <<< (b.toNat % 64)) ∧
      joins (.shr r c o) 1 (a >>> (b.toNat % 64)) ∧
      joins (.sra r c o) 1 (a.sshiftRight (b.toNat % 64)) ∧
      joins (.mul r c o) 3 (a * b) ∧
      joins (.mulh r c o) 3 (BitVec.ofInt 64 (a.toInt * b.toInt / 2 ^ 64)) ∧
      joins (.mulhu r c o) 3 (BitVec.ofNat 64 (a.toNat * b.toNat / 2 ^ 64)) ∧
      joins (.min r c o) 1 (if a.toInt < b.toInt then a else b) ∧
      joins (.max r c o) 1 (if a.toInt < b.toInt then b else a) ∧
      joins (.minu r c o) 1 (if a.toNat < b.toNat then a else b) ∧
      joins (.maxu r c o) 1 (if a.toNat < b.toNat then b else a)) ∧
    (o.rsv = 0 → x.guard o.gp o.gneg = true → x.unclaimed (if o.src2i then [] else [o.rs2.toNat]) = true →
      joins (.li r c o) 1 b)

/-- R269: a compare writes all ones or all zeros to p[RD]; predicate logic takes p[RS1] and p[RS2], and requires SRC2I = 0. -/
def Obligations.PredicateSlotsJoinTheirResult : Prop :=
  ∀ (r : RidgeId) (c : SiteId) (o : SOp) (s : State),
    let x := s.coreAt r c
    let a := x.s o.rs1.toNat
    let b := o.op2 x
    let p := x.p o.rs1.toNat
    let q := x.p o.rs2.toNat
    let compares (i : Instr) (holds : Prop) [Decidable holds] : Prop :=
      Gives i s (s.joins r c o.k o.last [.p o.rd.toNat]
        [.result 1 (.p o.rd.toNat) (if holds then allBitsRow else 0) allBitsRow])
    let logic (i : Instr) (v : BitVec 512) : Prop :=
      Gives i s (s.joins r c o.k o.last [.p o.rd.toNat] [.result 1 (.p o.rd.toNat) (v.setWidth 4096) allBitsRow])
    s.issues r c = true → o.rsv = 0 → x.guard o.gp o.gneg = true → o.rd.toNat < 8 →
    (x.unclaimed o.reads = true →
      compares (.ceq r c o) (a = b) ∧
      compares (.cne r c o) (a ≠ b) ∧
      compares (.clt r c o) (a.toInt < b.toInt) ∧
      compares (.cltu r c o) (a.toNat < b.toNat) ∧
      compares (.cge r c o) (b.toInt ≤ a.toInt) ∧
      compares (.cgeu r c o) (b.toNat ≤ a.toNat)) ∧
    (o.rs1.toNat < 8 → o.rs2.toNat < 8 → o.src2i = false →
      logic (.pand r c o) (p &&& q) ∧
      logic (.por r c o) (p ||| q) ∧
      logic (.pxor r c o) (p ^^^ q) ∧
      logic (.pandn r c o) (p &&& ~~~q))

/-- R264: a slot whose guard fails, with a legal encoding, joins no effect: it writes nothing and sends nothing; R209 still
sees the destination it names. -/
def Obligations.FailedGuardsJoinNothing : Prop :=
  ∀ (r : RidgeId) (c : SiteId) (o : SOp) (m : MOp) (s : State),
    let x := s.coreAt r c
    s.issues r c = true →
    (o.rsv = 0 → x.guard o.gp o.gneg = false → Gives (.add r c o) s (s.joins r c o.k o.last [.s o.rd.toNat] [])) ∧
    (m.rsv = 0 → x.guard m.gp m.gneg = false →
      Gives (.st r c m) s (s.joins r c 4 m.last [] []) ∧
      Gives (.put r c m) s (s.joins r c 4 m.last [] []) ∧
      Gives (.drvPush r c m) s (s.joins r c 4 m.last [] []))

/-- R262, R272–R276: in a core that issues, an elementwise vector slot of an element type that its opcode takes joins its bundle
with one row: each element the operation of the elements of vs1, vs2 and vs3, integers wrapping at their width and floating-point
values rounded once, written under the mask, with its status bits at the operation's latency. A nop joins nothing. -/
def Obligations.ElementwiseVectorSlotsJoinTheirRow : Prop :=
  ∀ (r : RidgeId) (c : SiteId) (o : VOp) (s : State),
    let x := s.coreAt r c
    let ty := o.type.toNat
    let w := typeWidth ty
    let f := typeFmt ty
    let row (i : Instr) (lat : Nat) (each : Nat → Nat → Nat → Nat × Nat) : Prop :=
      let l := (List.range (typeCount ty)).map (fun n =>
        each (rawElem ty (x.v o.vs1.toNat) n) (rawElem ty (x.v o.vs2.toNat) n) (rawElem ty (x.v o.vs3.toNat) n))
      Gives i s (s.joins r c 2 o.last [.v o.vd.toNat]
        ([.result lat (.v o.vd.toNat) (packElems ty (l.map (·.1))) (if o.men then elemMask ty (x.p o.mp.toNat) else allBitsRow),
          .flags lat (l.foldl (fun n e => n ||| e.2) 0)] ++ (if o.residue then [Fx.residue] else [])))
    let wraps (g : Int → Int → Int) (a b : Nat) : Nat × Nat := (wrapInt w (g (intElem ty a) (intElem ty b)), 0)
    s.issues r c = true →
    (∀ last, Gives (.vnop r c last 0) s (s.joins r c 2 last [] [])) ∧
    (o.rsv = 0 →
      (ty ≤ 3 →
        row (.vadd r c o) 2 (fun a b _ => wraps (· + ·) a b) ∧
        row (.vsub r c o) 2 (fun a b _ => wraps (· - ·) a b) ∧
        row (.vmul r c o) 4 (fun a b _ => wraps (· * ·) a b) ∧
        row (.vmin r c o) 2 (fun a b _ => wraps (fun m n => if n < m then n else m) a b) ∧
        row (.vmax r c o) 2 (fun a b _ => wraps (fun m n => if m < n then n else m) a b) ∧
        row (.vand r c o) 2 (fun a b _ => (a &&& b, 0)) ∧
        row (.vor r c o) 2 (fun a b _ => (a ||| b, 0)) ∧
        row (.vxor r c o) 2 (fun a b _ => (a ^^^ b, 0)) ∧
        row (.vshl r c o) 2 (fun a b _ => ((a <<< (b % w)) % 2 ^ w, 0)) ∧
        row (.vshr r c o) 2 (fun a b _ => (wrapInt w (intElem ty a / (2 ^ (b % w) : Nat)), 0))) ∧
      (4 ≤ ty → ty ≤ 6 →
        row (.vadd r c o) 4 (fun a b _ => f.encode ((f.decode a).add (f.decode b))) ∧
        row (.vsub r c o) 4 (fun a b _ => f.encode ((f.decode a).add (f.decode b).neg)) ∧
        row (.vmul r c o) 4 (fun a b _ => f.encode ((f.decode a).mul (f.decode b))) ∧
        row (.vfma r c o) 4 (fun a b d => f.encode (((f.decode a).mul (f.decode b)).add (f.decode d))) ∧
        row (.vmin r c o) 4 (fun a b _ => f.encode (pickVal false (f.decode a) (f.decode b))) ∧
        row (.vmax r c o) 4 (fun a b _ => f.encode (pickVal true (f.decode a) (f.decode b)))))

/-- R275, R291: the elementary functions of fp16, bf16 and fp32 elements; which of the codes within 1 ulp an element takes is the
model's constant `Config.ulpChoice` (log entry 13), so the statement holds for every choice. -/
def Obligations.ElementaryVectorSlotsJoinTheirRow : Prop :=
  ∀ (r : RidgeId) (c : SiteId) (o : VOp) (s : State),
    let x := s.coreAt r c
    let ty := o.type.toNat
    let row (i : Instr) (fn : Nat) (g : FFmt → Nat → FVal → Nat × Nat) : Prop :=
      let l := (List.range (typeCount ty)).map (fun n =>
        let a := rawElem ty (x.v o.vs1.toNat) n
        g (typeFmt ty) (Config.ulpChoice fn ty a) ((typeFmt ty).decode a))
      Gives i s (s.joins r c 2 o.last [.v o.vd.toNat]
        ([.result 4 (.v o.vd.toNat) (packElems ty (l.map (·.1))) (if o.men then elemMask ty (x.p o.mp.toNat) else allBitsRow),
          .flags 4 (l.foldl (fun n e => n ||| e.2) 0)] ++ (if o.residue then [Fx.residue] else [])))
    s.issues r c = true → o.rsv = 0 → 4 ≤ ty → ty ≤ 6 →
      row (.vexp r c o) 0 vexp ∧ row (.vrsqrt r c o) 1 vrsqrt ∧ row (.vrcp r c o) 2 vrcp

/-- R273–R281: the vector slots that select, compare, move, convert, quantize, reduce or combine, and norm watch. -/
def Obligations.OtherVectorSlotsJoinTheirEffect : Prop :=
  ∀ (r : RidgeId) (c : SiteId) (o : VOp) (s : State),
    let x := s.coreAt r c
    let ty := o.type.toNat
    let imm := o.imm16.toNat
    let v1 := x.v o.vs1.toNat
    let v2 := x.v o.vs2.toNat
    let tail : List Fx := if o.residue then [Fx.residue] else []
    let joins (i : Instr) (dests : List Dest) (fx : List Fx) : Prop := Gives i s (s.joins r c 2 o.last dests (fx ++ tail))
    let mask := if o.men then elemMask ty (x.p o.mp.toNat) else allBitsRow
    s.issues r c = true → o.rsv = 0 →
    (ty ≤ 8 → o.men = false → joins (.vsel r c o) [.v o.vd.toNat]
      [.result 2 (.v o.vd.toNat) (mergeBits v2 v1 (elemMask ty (x.p o.mp.toNat))) allBitsRow]) ∧
    (ty ≤ 6 → imm % 8 < 6 → joins (.vcmp r c o) [.p o.pd.toNat]
      [.result (if ty ≤ 3 then 2 else 4) (.p o.pd.toNat)
        (BitVec.ofNat 4096 (packBits 1 ((List.range (typeCount ty)).map (fun n =>
          if compareVals (imm % 8) (elemValue ty v1 n) (elemValue ty v2 n) then 1 else 0))))
        (if o.men then (x.p o.mp.toNat).setWidth 4096 ||| ~~~(onesAt 0 (typeCount ty)) else allBitsRow)]) ∧
    (ty ≤ 8 → x.unclaimed o.reads1 = true → joins (.vbcast r c o) [.v o.vd.toNat]
      [.result 2 (.v o.vd.toNat) (packElems ty (List.replicate (typeCount ty) ((o.scalar1 x).toNat % 2 ^ typeWidth ty))) mask,
       .flags 2 0]) ∧
    (2 ≤ ty → ty ≤ 6 → joins (.vperm r c o) [.v o.vd.toNat]
      [.result 6 (.v o.vd.toNat) (packElems ty ((List.range (typeCount ty)).map (fun n =>
        rawElem ty v1 ((intElem 2 (rawElem 2 v2 n)) % (typeCount ty : Int)).toNat))) mask, .flags 6 0]) ∧
    (ty = 6 → o.men = false →
      let vs := (List.range 128).map (fun n => (elemValue 6 v1 n).div (f32 (s.reg (NW_SCALE r c (imm % 256))).toNat))
      let q := placeElems (if s.bit (NW_STAT.U8 r c (imm % 256)) then 1 else 0) (128 * (imm / 256 % 4)) vs
      joins (.vqnt r c o) [.v o.vd.toNat] [.result 4 (.v o.vd.toNat) q.1 q.2.1, .flags 4 q.2.2]) ∧
    (ty ≤ 3 → o.men = false →
      let q := encodeElem 3 (FVal.ofInt (((List.range (typeCount ty)).map (fun n => intElem ty (rawElem ty v1 n))).sum))
      joins (.vrsum r c o) [.v o.vd.toNat] [.result 6 (.v o.vd.toNat) (BitVec.ofNat 4096 q.1) allBitsRow, .flags 6 q.2]) ∧
    (4 ≤ ty → ty ≤ 6 → o.men = false →
      let q := sumF32 (elems ty v1)
      joins (.vrsum r c o) [.v o.vd.toNat] [.result 6 (.v o.vd.toNat) (BitVec.ofNat 4096 q.1) allBitsRow, .flags 6 q.2]) ∧
    (ty ≤ 6 → o.men = false →
      let invalid := if (elems ty v1).any FVal.isNan then flagInvalid else 0
      (∀ n v, firstMax 0 (elems ty v1) none = some (n, v) → joins (.vrmax r c o) [.v o.vd.toNat]
        [.result 6 (.v o.vd.toNat) (BitVec.ofNat 4096 ((encodeElem ty v).1 + n <<< 64)) allBitsRow,
         .flags 6 (invalid ||| (encodeElem ty v).2)]) ∧
      (firstMax 0 (elems ty v1) none = none → joins (.vrmax r c o) [.v o.vd.toNat]
        [.result 6 (.v o.vd.toNat) (BitVec.ofNat 4096 ((encodeElem ty .nan).1 + 0xFFFFFFFF <<< 64)) allBitsRow,
         .flags 6 (invalid ||| flagInvalid)])) ∧
    (4 ≤ ty → ty ≤ 6 → o.men = false →
      let q := sumF32 ((elems ty v1).map (fun v => v.mul v))
      joins (.vrsq r c o) [.v o.vd.toNat] [.result 6 (.v o.vd.toNat) (BitVec.ofNat 4096 q.1) allBitsRow, .flags 6 q.2]) ∧
    (ty = 15 → o.men = false → 1 ≤ imm % 8 → imm % 8 ≤ 5 →
      let q := (List.range (imm % 8)).foldl (fun acc g =>
        let y := (rowGroup v1 g).combine (rowGroup v2 g)
        (setGroup acc.1 g y.1, acc.2 ||| y.2)) ((0 : Row), 0)
      joins (.vlcomb r c o) [.v o.vd.toNat] [.result 4 (.v o.vd.toNat) q.1 allBitsRow, .flags 4 q.2]) ∧
    (ty = 6 → o.men = false → joins (.nwacc r c o) []
      [.nwOpen (imm % 256) ((elems 6 v1).foldl NwOpen.push ((SMap.find (imm % 256) x.nwOpen).getD ⟨0, 0⟩))]) ∧
    (ty < 24 → o.men = false → joins (.nwend r c o) [] [.nwEnd (imm % 256)])

/-- R171, R177, R277, R278: a conversion takes the elements from the half that IMM names, converts each and places them in the
destination type; a masked conversion writes only the elements whose predicate bit is 1. -/
def Obligations.ConversionSlotsJoinTheirRow : Prop :=
  ∀ (r : RidgeId) (c : SiteId) (o : VOp) (s : State),
    let x := s.coreAt r c
    let td := o.type.toNat
    let ts := o.type2.toNat
    let nd := typeCount td
    let ns := typeCount ts
    let n := min nd ns
    let start := o.imm16.toNat % 16 * n
    let len := min n (max nd ns - start)
    let vs := (List.range len).map (fun k =>
      convertSource ts o.imm16.toNat (x.v o.vs1.toNat) ((if nd > ns then 0 else start) + k))
    let q := placeElems td (if nd > ns then start else 0) vs
    s.issues r c = true → o.rsv = 0 → td ≤ 15 → ts < 24 → (o.men = true → td ≤ 8) → start < max nd ns →
    (16 ≤ ts → td < 2) →
    Gives (.vcvt r c o) s (s.joins r c 2 o.last [.v o.vd.toNat]
      ([.result 4 (.v o.vd.toNat) q.1 (if o.men then q.2.1 &&& elemMask td (x.p o.mp.toNat) else q.2.1), .flags 4 q.2.2]
        ++ (if o.residue then [Fx.residue] else [])))

/-- R282–R292: the top-k units and sampling: a unit's new list joins the bundle as an effect, and tk.out, smp.draw and
smp.accept join the row or record they write. What tk.out shows of a p that is not valid is the model's constant
`Config.staleP`. -/
def Obligations.SamplingSlotsJoinTheirEffect : Prop :=
  ∀ (r : RidgeId) (c : SiteId) (o : VOp) (s : State),
    let x := s.coreAt r c
    let ty := o.type.toNat
    let imm := o.imm16.toNat
    let unit := SMap.get TopK.reset x.topk o.unit
    let a := (o.scalar1 x).toNat % 2 ^ 32
    let tail : List Fx := if o.residue then [Fx.residue] else []
    let changes (i : Instr) (t : TopK × Nat) : Prop := Gives i s (s.joins r c 2 o.last [] ([.topk o.unit t.1, .flags 6 t.2] ++ tail))
    s.issues r c = true → o.rsv = 0 → ty < 24 → o.men = false →
    (1 ≤ imm % 512 → imm % 512 ≤ 256 → changes (.tkInit r c o) (⟨imm % 512, [], false⟩, 0)) ∧
    (4 ≤ ty → ty ≤ 6 → x.unclaimed o.reads1 = true → changes (.tkScan r c o)
      (unit.merge ((elems ty (x.v o.vs1.toNat)).mapIdx (fun k v => (a + k, v))))) ∧
    changes (.tkMerge r c o) (unit.merge (tkRecords (x.v o.vs1.toNat))) ∧
    Gives (.tkOut r c o) s (s.joins r c 2 o.last [.v o.vd.toNat] ([.result 6 (.v o.vd.toNat)
      (unit.out (64 * (imm % 4)) (o.imm16.getLsbD 8) (Config.staleP x.clock)) allBitsRow] ++ tail)) ∧
    (x.unclaimed o.reads1 = true →
      changes (.smpNorm r c o) (unit.norm a) ∧
      changes (.smpTopp r c o) (unit.topp a)) ∧
    (x.unclaimed (o.ss2.toNat :: o.reads1) = true →
      let draw := unit.draw (drawWords (o.scalar1 x) (x.s o.ss2.toNat) (imm / 256 % 16) 0).1
      let words := drawWords (o.scalar1 x) (x.s o.ss2.toNat) (imm / 256 % 16) 1
      let v := x.v o.vs1.toNat
      let accept := unit.accept (rowBits v (128 * (imm % 32) + 32) 32) (rowBits v (128 * (imm % 32) + 96) 32) words.1 words.2
      Gives (.smpDraw r c o) s (s.joins r c 2 o.last [.v o.vd.toNat]
        ([.result 6 (.v o.vd.toNat) (draw.entry (imm % 32)).1 (draw.entry (imm % 32)).2, .flags 6 draw.flags] ++ tail)) ∧
      Gives (.smpAccept r c o) s (s.joins r c 2 o.last [.v o.vd.toNat]
        ([.result 6 (.v o.vd.toNat) (accept.entry (imm % 32)).1 (accept.entry (imm % 32)).2, .flags 6 accept.flags] ++ tail)))

/-- R216, R220, R296–R301, R323: the memory slots. A local access joins as an access of the local pipeline, a move as a result or
a special-register write, a request as the packet it will send with its tag, window and completion cell, a region operation as
itself. A row outside the scratchpad, a window that does not admit the request and a channel that the core may not use are left to
`MemorySlotsRaiseTheirExceptions`. -/
def Obligations.MemorySlotsJoinTheirEffect : Prop :=
  ∀ (r : RidgeId) (c : SiteId) (o : MOp) (s : State),
    let x := s.coreAt r c
    let imm := o.imm16.toNat
    let joins (i : Instr) (dests : List Dest) (fx : List Fx) : Prop := Gives i s (s.joins r c 4 o.last dests fx)
    let row := o.localRow x
    let code := imm % 32
    s.issues r c = true →
    (∀ last, Gives (.memNop r c last 0) s (s.joins r c 4 last [] [])) ∧
    (o.rsv = 0 → x.guard o.gp o.gneg = true →
      (x.unclaimed [o.sa.toNat] = true → row < 4096 →
        joins (.ld r c o) [.v o.vr.toNat] [.access (.load row o.vr.toNat)] ∧
        joins (.st r c o) [] [.access (.store row (x.v o.vr.toNat))]) ∧
      joins (.movv2s r c o) [.s o.sb.toNat]
        [.result 2 (.s o.sb.toNat) (BitVec.ofNat 4096 (rowBits (x.v o.vr.toNat) (64 * (imm % 64)) 64)) allBitsRow] ∧
      (x.unclaimed [o.sb.toNat] = true → joins (.movs2v r c o) [.v o.vr.toNat]
        [.result 2 (.v o.vr.toNat) ((x.s o.sb.toNat).setWidth 4096 <<< (64 * (imm % 64))) (onesAt (64 * (imm % 64)) 64)]) ∧
      (∀ v, s.readSpecial r c code = some v → code < 15 →
        joins (.movx2s r c o) [.s o.sb.toNat] [.result 1 (.s o.sb.toNat) (v.setWidth 4096) allBitsRow]) ∧
      (x.unclaimed [o.sb.toNat] = true → code = 1 ∨ code = 4 ∨ code = 5 ∨ code = 10 →
        joins (.movs2x r c o) [] [.special code (x.s o.sb.toNat)]) ∧
      (x.unclaimed [o.sa.toNat, o.sb.toNat] = true → row < 4096 →
        let win := o.win.toNat
        let off := o.offset x
        (s.windowOk r c win off 1 false = true → s.fld (AW_CTL.KIND r c win) < 2 →
          joins (.get r c o) [] [.remote .getReq row win off o.cell.toNat]) ∧
        (s.windowOk r c win off 1 true = true → s.fld (AW_CTL.KIND r c win) < 2 →
          joins (.put r c o) [] [.remote .putReq row win off o.cell.toNat]) ∧
        joins (.mdisp r c o) [] [.mdisp row (imm % 256) ((x.s o.sb.toNat).toNat % 65536) o.cell.toNat]) ∧
      (x.unclaimed [o.sa.toNat] = true → row < 4096 → 1 ≤ imm % 64 → imm % 64 ≤ 32 →
        joins (.emit r c o) [] [.emit row (imm % 64) o.cell.toNat]) ∧
      (x.unclaimed [o.sa.toNat] = true → (s.reg (CORE_DRV r c)).getLsbD o.ch.toNat = true →
        joins (.drvPush r c o) [] [.push o.ch.toNat (x.s o.sa.toNat) o.cell.toNat]) ∧
      joins (.crPush r c o) [.s o.sb.toNat] [.crPush o.cr.toNat (x.v o.vr.toNat) o.sb.toNat] ∧
      joins (.crPop r c o) [.v o.vr.toNat, .s o.sb.toNat] [.crPop o.cr.toNat o.vr.toNat o.sb.toNat] ∧
      (x.unclaimed [o.sa.toNat] = true →
        joins (.crPeek r c o) [.v o.vr.toNat, .s o.sb.toNat] [.crPeek o.cr.toNat row o.vr.toNat o.sb.toNat] ∧
        joins (.crFree r c o) [.s o.sb.toNat] [.crFree o.cr.toNat row o.sb.toNat]) ∧
      joins (.crStat r c o) [.s o.sb.toNat]
        [.result 1 (.s o.sb.toNat) (BitVec.ofNat 4096 (s.fld (CR_STAT.HEAD r c o.cr.toNat) + s.fld (CR_STAT.TAIL r c o.cr.toNat) * 2 ^ 16
          + s.fld (CR_COUNT.COUNT r c o.cr.toNat) * 2 ^ 32 + s.fld (CR_COUNT.FULL r c o.cr.toNat) * 2 ^ 48
          + s.fld (CR_COUNT.EMPTY r c o.cr.toNat) * 2 ^ 49)) allBitsRow] ∧
      joins (.nwRds r c o) [.s o.sb.toNat]
        [.result 1 (.s o.sb.toNat) ((s.reg (NW_SCALE r c (imm % 256))).setWidth 4096) allBitsRow])

/-- R231, R266, R296, R818: the exceptions of the memory slot that its operands raise: the slot joins an exception and no effect. -/
def Obligations.MemorySlotsRaiseTheirExceptions : Prop :=
  ∀ (r : RidgeId) (c : SiteId) (o : MOp) (s : State),
    let x := s.coreAt r c
    let row := o.localRow x
    let raises (i : Instr) (e : SlotExc) : Prop := ∃ t,
      Gives i s t ∧ (t.coreAt r c).bundle.excs = x.bundle.excs ++ [e] ∧ (t.coreAt r c).bundle.fx = x.bundle.fx
    s.issues r c = true → o.last = false → o.rsv = 0 → x.guard o.gp o.gneg = true →
    (4096 ≤ row →
      raises (.ld r c o) ⟨2, 0, 4, min row 0xFFFFFFFF⟩ ∧ raises (.st r c o) ⟨2, 0, 4, min row 0xFFFFFFFF⟩ ∧
      raises (.get r c o) ⟨2, 0, 4, min row 0xFFFFFFFF⟩ ∧ raises (.put r c o) ⟨2, 0, 4, min row 0xFFFFFFFF⟩) ∧
    (row < 4096 → s.windowOk r c o.win.toNat (o.offset x) 1 false = false →
      raises (.get r c o) ⟨3, 0, 4, windowInfo o.win.toNat (o.offset x)⟩) ∧
    (row < 4096 → s.windowOk r c o.win.toNat (o.offset x) 1 true = false →
      raises (.put r c o) ⟨3, 0, 4, windowInfo o.win.toNat (o.offset x)⟩) ∧
    ((s.reg (CORE_DRV r c)).getLsbD o.ch.toNat = false → raises (.drvPush r c o) ⟨3, 0, 4, o.ch.toNat + 2 ^ 31⟩)

/-- R210, R225, R236, R241, R302–R305: the control slots, which close the bundle: a branch, a loop, halt, eret, or a SYNC
operation on a cell of the own ridge or through a window that admits it. -/
def Obligations.ControlSlotsCloseWithTheirEffect : Prop :=
  ∀ (r : RidgeId) (c : SiteId) (o : COp) (s : State),
    let x := s.coreAt r c
    let closes (i : Instr) (dests : List Dest) (fx : List Fx) : Prop := Gives i s ((s.joined r c 5 dests fx).closeBundle r c)
    let word := (o.operand x).setWidth 32
    let reaches (write : Bool) : Prop :=
      o.xw = false ∨ (s.windowOk r c o.win.toNat o.cell.toNat 1 write = true ∧ s.fld (AW_CTL.KIND r c o.win.toNat) = 2)
    s.issues r c = true →
    Gives (.ctrlNop r c 0 false .clean) s ((s.joined r c 5 [] []).closeBundle r c) ∧
    (o.rsv = 0 → o.badHeader = false → o.fetch = .clean → (o.im = true → o.imm.isSome = true) → x.guard o.gp o.gneg = true →
      closes (.br r c o) [] [.branch o.target.toNat] ∧
      (x.unclaimed [o.rs.toNat] = true → closes (.jr r c o) [] [.branch ((x.s o.rs.toNat).toNat % 4096)]) ∧
      (x.unclaimed o.reads = true → x.pc < o.target.toNat → closes (.loop r c o) [] [.loop o.lc.toNat word o.target.toNat]) ∧
      closes (.halt r c o) [] [.halt] ∧
      (x.handler = true → closes (.eret r c o) [] [.eret]) ∧
      (x.unclaimed o.reads = true → reaches true →
        closes (.syncAdd r c o) [] [.sync .add o.cell.toNat o.xw o.win.toNat word] ∧
        closes (.syncNotify r c o) [] [.sync .notify o.cell.toNat o.xw o.win.toNat word]) ∧
      (x.unclaimed o.reads = true → reaches false →
        closes (.syncClaim r c o) [.s o.rd.toNat] [.claim o.cell.toNat o.xw o.win.toNat word o.rd.toNat] ∧
        (o.cond.toNat < 3 → closes (.syncWait r c o) []
          [.wait ⟨false, if o.cond.toNat = 0 then .waitGe else if o.cond.toNat = 1 then .waitEq else .waitNe,
            o.cell.toNat, o.xw, o.win.toNat, word, x.pc, false, false⟩])) ∧
      closes (.syncWaitwake r c o) [] [.wait ⟨true, .waitGe, 0, false, 0, 0, x.pc, false, false⟩])

/-- R102–R108, R136–R155: an E-slot command of a core that is not in its handler, with a legal encoding and none of the causes of
R160, joins its bundle with the command for the engine's queue: the queue and the mode it names, the vector register captured for
a FIRE or a QLOAD, and DSCALE captured for a DRAIN. -/
def Obligations.EngineSlotsJoinTheirCommand : Prop :=
  ∀ (r : RidgeId) (c : SiteId) (e : EngineId) (last : Bool) (vreg : BitVec 5) (s : State),
    let x := s.coreAt r c
    let joins (i : Instr) (dests : List Dest) (cmd : EngCmd) : Prop := Gives i s (s.joins r c 3 last dests [.engine e.val cmd])
    s.issues r c = true →
    Gives (.engineNop r c last 0) s (s.joins r c 3 last [] []) ∧
    (x.handler = false →
      (s.queueFull r c e false = false →
        (∀ (slab : BitVec 4) (shape : BitVec 2) (group : BitVec 4) (slice : BitVec 3) (signed acc : Bool),
          slab.toNat < 8 → shapeLegal shape.toNat group.toNat slice.toNat signed = true → s.fireForbidden r c e slab.toNat = false →
          joins (.fire r c e last slab vreg shape group slice signed acc false 0) []
            { EngCmd.blank .fire with
              data := x.v vreg.toNat, slab := s.mapSlab r c e slab.toNat, shape := shape.toNat,
              group := group.toNat, slice := slice.toNat, signed := signed, acc := acc }) ∧
        (∀ slab : BitVec 4, slab.toNat < 9 → joins (.probe r c e last slab 0) [] { EngCmd.blank .probe with slab := slab.toNat }) ∧
        (∀ target hist : Bool, joins (.echo r c e last target hist 0) []
          { EngCmd.blank .echo with target := if target then 1 else 0, hist := if hist then 1 else 0 }) ∧
        (∀ (first lastBlk : BitVec 3) (fmt : BitVec 5) (slab : BitVec 4) (clr tally : Bool),
          first.toNat ≤ lastBlk.toNat → fmt.toNat < 16 → slab.toNat < 9 ∨ slab.toNat = 15 →
          let p := if slab.toNat < 8 then (if s.mapSlab r c e slab.toNat = 15 then slab.toNat else s.mapSlab r c e slab.toNat)
            else slab.toNat
          (tally = false → s.drainCount r c e p first.toNat lastBlk.toNat ≤ drainLimit fmt.toNat) →
          joins (.drain r c e last first lastBlk vreg fmt slab clr tally 0) [.v vreg.toNat]
            { EngCmd.blank .drain with
              slab := p, dscale := x.dscale, first := first.toNat, last := lastBlk.toNat,
              vreg := vreg.toNat, fmt := fmt.toNat, clr := clr, tally := tally }) ∧
        (∀ (first lastBlk : BitVec 3) (tally : Bool), first.toNat ≤ lastBlk.toNat →
          joins (.clear r c e last first lastBlk tally 0) []
            { EngCmd.blank .clear with first := first.toNat, last := lastBlk.toNat, tally := tally })) ∧
      (s.queueFull r c e true = false → s.bit (ENG_CTL.QM_EN r c e) = true →
        (∀ (group : BitVec 4) (signed half : Bool), group.toNat ≤ 7 →
          joins (.qmFire r c e last vreg 0 group 0 signed true half 0) []
            { EngCmd.blank .qmFire with
              data := x.v vreg.toNat, slab := 15, group := group.toNat, signed := signed, acc := true,
              half := if half then 1 else 0 } ∧
          joins (.fire r c e last 15 vreg 0 group 0 signed true half 0) []
            { EngCmd.blank .qmFire with
              data := x.v vreg.toNat, slab := 15, group := group.toNat, signed := signed, acc := true,
              half := if half then 1 else 0 }) ∧
        (∀ qrow : BitVec 5, joins (.qload r c e last vreg qrow 0) []
          { EngCmd.blank .qload with data := x.v vreg.toNat, qrow := qrow.toNat })))

/-! ## Whole bundles, exceptions, requests and accesses, with what they leave alone -/

/-- R206, R207, R210, R214, R269, R270: a bundle of one scalar slot, in a core that runs straight-line code alone. It writes its one
register (none where that is s0) one cycle later, or leaves a multiply's result on its way for three; it advances the program
counter, the clock and CYCLE by 1, and leaves every other register, NSTAT, the scratchpads and every other core as they were. -/
def Obligations.LoneScalarBundlesRun : Prop :=
  ∀ (r : RidgeId) (c : SiteId) (o : SOp) (s : State),
    let x := s.coreAt r c
    let a := x.s o.rs1.toNat
    let b := o.op2 x
    let rd := o.rd.toNat
    let runs (i : Instr) (now : Nat → DWord) (later : List Result) : Prop := ∃ t : State, exec i s = .next t ∧
      let y := t.coreAt r c
      (∀ n, y.s n = now n) ∧ (∀ n, y.v n = x.v n) ∧ (∀ n, y.p n = x.p n) ∧ (∀ n, y.l n = x.l n) ∧
      y.nstat = x.nstat ∧ y.dscale = x.dscale ∧ y.epc = x.epc ∧ y.accesses = x.accesses ∧ y.tags = x.tags ∧
      y.pc = x.pc + 1 ∧ y.clock = x.clock + 1 ∧ y.bundle = Bundle.none ∧ y.results = later ∧
      t.fld (CORE_PC.PC r c) = x.pc ∧
      t.pair (CORE_CYCLES_LO r c) (CORE_CYCLES_HI r c) = (s.pair (CORE_CYCLES_LO r c) (CORE_CYCLES_HI r c) + 1) % 2 ^ 64 ∧
      s.sameRegsBut t.toBlock [CORE_PC r c, CORE_CYCLES_LO r c, CORE_CYCLES_HI r c] ∧
      (∀ (r' : RidgeId) (c' : SiteId), (r', c') ≠ (r, c) → t.coreAt r' c' = s.coreAt r' c') ∧
      s.sameRows t.toBlock ∧ t.eng = s.eng ∧ t.int = s.int ∧ t.pending = s.pending
    let writes (i : Instr) (v : DWord) : Prop := runs i (fun n => if n = rd ∧ n ≠ 0 then v else x.s n) []
    let owes (i : Instr) (v : DWord) : Prop := runs i x.s [⟨x.clock + 3, .s rd, v.setWidth 4096, allBitsRow⟩]
    s.plainCore r c = true → o.last = true → o.rsv = 0 → x.guard o.gp o.gneg = true →
    writes (.add r c o) (a + b) ∧ writes (.sub r c o) (a - b) ∧ writes (.and r c o) (a &&& b) ∧ writes (.or r c o) (a ||| b) ∧
    writes (.xor r c o) (a ^^^ b) ∧ writes (.shl r c o) (a <<< (b.toNat % 64)) ∧ writes (.shr r c o) (a >>> (b.toNat % 64)) ∧
    writes (.sra r c o) (a.sshiftRight (b.toNat % 64)) ∧ writes (.li r c o) b ∧
    writes (.min r c o) (if a.toInt < b.toInt then a else b) ∧ writes (.maxu r c o) (if a.toNat < b.toNat then b else a) ∧
    owes (.mul r c o) (a * b) ∧ owes (.mulh r c o) (BitVec.ofInt 64 (a.toInt * b.toInt / 2 ^ 64)) ∧
    owes (.mulhu r c o) (BitVec.ofNat 64 (a.toNat * b.toNat / 2 ^ 64))

/-- R206: a slot that does not close its bundle has no effect yet, whatever its operands: it changes nothing but the bundle that
its core collects. -/
def Obligations.OpenSlotsChangeTheirBundleOnly : Prop :=
  ∀ (r : RidgeId) (c : SiteId) (e : EngineId) (o : SOp) (v : VOp) (m : MOp) (slotB acc half : Bool) (rest : BitVec 54)
    (rest36 : BitVec 36) (rest86 : BitVec 86) (slab : BitVec 4) (vreg fmt qrow : BitVec 5) (shape : BitVec 2) (group : BitVec 4)
    (slice first lastBlk : BitVec 3) (signed target hist clr tally : Bool) (r12 : BitVec 12) (r29 : BitVec 29) (r31 : BitVec 31)
    (r26 : BitVec 26) (r23 : BitVec 23) (rDrain : BitVec 11) (i : Instr) (s : State),
    o.last = false → v.last = false → m.last = false →
    i ∈ [.scalarNop r c slotB false rest, .add r c o, .sub r c o, .and r c o, .or r c o, .xor r c o, .shl r c o, .shr r c o, .sra r c o,
      .mul r c o, .mulh r c o, .mulhu r c o, .min r c o, .max r c o, .minu r c o, .maxu r c o, .li r c o, .ceq r c o, .cne r c o,
      .clt r c o, .cltu r c o, .cge r c o, .cgeu r c o, .pand r c o, .por r c o, .pxor r c o, .pandn r c o,
      .vnop r c false rest86, .vadd r c v, .vsub r c v, .vmul r c v, .vfma r c v, .vmin r c v, .vmax r c v, .vand r c v, .vor r c v,
      .vxor r c v, .vshl r c v, .vshr r c v, .vsel r c v, .vcmp r c v, .vbcast r c v, .vperm r c v, .vcvt r c v, .vqnt r c v,
      .vexp r c v, .vrsqrt r c v, .vrcp r c v, .vrsum r c v, .vrmax r c v, .vrsq r c v, .vlcomb r c v, .nwacc r c v, .nwend r c v,
      .tkInit r c v, .tkScan r c v, .tkMerge r c v, .tkOut r c v, .smpNorm r c v, .smpTopp r c v, .smpDraw r c v, .smpAccept r c v,
      .memNop r c false rest86, .ld r c m, .st r c m, .movv2s r c m, .movs2v r c m, .movx2s r c m, .movs2x r c m, .get r c m,
      .put r c m, .mdisp r c m, .emit r c m, .drvPush r c m, .crPush r c m, .crPop r c m, .crPeek r c m, .crFree r c m, .crStat r c m,
      .nwRds r c m, .engineNop r c false rest36, .fire r c e false slab vreg shape group slice signed acc half r12,
      .qmFire r c e false vreg shape group slice signed acc half r12, .probe r c e false slab r29, .echo r c e false target hist r31,
      .drain r c e false first lastBlk vreg fmt slab clr tally rDrain, .clear r c e false first lastBlk tally r26,
      .qload r c e false vreg qrow r23] →
    (s.issues r c = false → exec i s = .next s) ∧
    (s.issues r c = true → ∃ bundle : Bundle, Gives i s (s.modCore r c (fun x => { x with bundle := bundle })))

/-- R231–R234, R818: a bundle that a NOP control slot closes issues, or takes the first exception that it raises: the cause, the
bundle and the information are recorded; the core halts, or enters its handler at CORE_EXC_VEC; in the handler it halts with cause
8. Results of earlier bundles land; nothing of the excepting bundle takes effect. -/
def Obligations.BundlesIssueOrTakeTheirException : Prop :=
  ∀ (r : RidgeId) (c : SiteId) (e : SlotExc) (s : State),
    let x := s.coreAt r c
    let close : Instr := .ctrlNop r c 0 false .clean
    s.issues r c = true →
    (s.bundleIssues r c = true → Gives close s ((s.joined r c 5 [] []).issueBundle r c x.bundle)) ∧
    (x.excWait = [] → x.haltReq = false → bundleExc x.pc x.bundle = some e → e.code = 1 ∨ (x.bundle.reads = [] ∧ e.code ≠ 5) →
      ∃ t : State, exec close s = .next t ∧
        let y := t.coreAt r c
        t.fld (CORE_EXC_PC.EPC r c) = x.pc % 4096 ∧ y.epc = x.pc % 4096 ∧
        y.bundle = Bundle.none ∧ y.sreg = x.landAll.sreg ∧ y.vreg = x.landAll.vreg ∧ y.preg = x.landAll.preg ∧ y.results = [] ∧
        y.accesses = x.accesses ∧ y.tags = x.tags ∧ t.eng = s.eng ∧ t.drv = s.drv ∧ t.int = s.int ∧ s.sameRows t.toBlock ∧
        s.sameRegsBut t.toBlock [CORE_EXC_CAUSE r c, CORE_EXC_PC r c, CORE_EXC_INFO r c, CORE_STAT r c, BLK_IRQ_STAT (sitePage r c 0)] ∧
        (x.handler = false →
          t.reg (CORE_EXC_CAUSE r c) = BitVec.ofNat 32 (e.code + e.sub * 2 ^ 4 + e.slot * 2 ^ 12) ∧
          t.reg (CORE_EXC_INFO r c) = BitVec.ofNat 32 e.info ∧
          (s.bit (CORE_CTL.EXC_MODE r c) = true →
            t.fld (CORE_STAT.STATE r c) = 4 ∧ y.handler = false ∧ y.pc = x.pc ∧
            t.bit ⟨BLK_IRQ_STAT (sitePage r c 0), Irq.core_EXC, 1⟩ = true) ∧
          (s.bit (CORE_CTL.EXC_MODE r c) = false →
            t.fld (CORE_STAT.STATE r c) = 3 ∧ y.handler = true ∧ y.pc = s.fld (CORE_EXC_VEC.VEC r c) ∧
            t.reg (BLK_IRQ_STAT (sitePage r c 0)) = s.reg (BLK_IRQ_STAT (sitePage r c 0)))) ∧
        (x.handler = true →
          t.fld (CORE_EXC_CAUSE.CAUSE r c) = 8 ∧ t.fld (CORE_STAT.STATE r c) = 4 ∧ y.handler = false ∧
          t.bit ⟨BLK_IRQ_STAT (sitePage r c 0), Irq.core_EXC, 1⟩ = true))

/-- R235: in the handler, an E-slot command other than a NOP raises the illegal-bundle exception, so the core halts in HALT_EXC
with cause 8; whatever the command's operands. -/
def Obligations.EngineCommandsInTheHandlerDoubleFault : Prop :=
  ∀ (r : RidgeId) (c : SiteId) (e : EngineId) (slab : BitVec 4) (vreg fmt qrow : BitVec 5) (shape : BitVec 2) (group : BitVec 4)
    (slice first lastBlk : BitVec 3) (signed acc half target hist clr tally : Bool) (r12 : BitVec 12) (rDrain : BitVec 11) (r29 : BitVec 29)
    (r31 : BitVec 31) (r26 : BitVec 26) (r23 : BitVec 23) (s : State),
    let x := s.coreAt r c
    let doubleFaults (i : Instr) : Prop := ∃ t : State, exec i s = .next t ∧
      t.fld (CORE_STAT.STATE r c) = 4 ∧ t.fld (CORE_EXC_CAUSE.CAUSE r c) = 8 ∧
      t.reg (CORE_EXC_INFO r c) = BitVec.ofNat 32 (1 + 4 * 16) ∧ t.fld (CORE_EXC_PC.EPC r c) = x.pc ∧
      (t.coreAt r c).handler = false ∧ t.eng = s.eng
    s.issues r c = true → x.handler = true → x.excWait = [] → x.haltReq = false → x.bundle = Bundle.none → x.pc < 4096 →
    doubleFaults (.fire r c e true slab vreg shape group slice signed acc half r12) ∧
    doubleFaults (.qmFire r c e true vreg shape group slice signed acc half r12) ∧
    doubleFaults (.probe r c e true slab r29) ∧ doubleFaults (.echo r c e true target hist r31) ∧
    doubleFaults (.drain r c e true first lastBlk vreg fmt slab clr tally rDrain) ∧
    doubleFaults (.clear r c e true first lastBlk tally r26) ∧ doubleFaults (.qload r c e true vreg qrow r23)

/-- R558: a completion of a request that was issued under an older revision, with any status, and the data of such a GET, free the
tag; freeing it adds to no sync cell, since nothing is sent, and raises no exception. -/
def Obligations.OlderCompletionsOnlyFreeTheirTag : Prop :=
  ∀ (p : Packet) (withCore : Bool) (k : Nat) (words : List (Fin 64)) (t : Block) (e : Tag) (s : State),
    let r := p.dst.unit
    let c := t.siteOf r p.dstCore
    let freed (u : Block) : Prop :=
      (u.freeTag r c p.tag).tagOf r c p.tag = none ∧ (u.freeTag r c p.tag).int = u.int ∧ (u.freeTag r c p.tag).sync = u.sync ∧
      ((u.freeTag r c p.tag).coreAt r c).excWait = (u.coreAt r c).excWait ∧
      ∀ j, j ≠ CORE_STAT r c → (u.freeTag r c p.tag).reg j = u.reg j
    s.toBlock.arrive p = (t, true) → r < 16 → p.dstCore < 32 → t.tagOf r c p.tag = some e → revNewer (t.rev r) e.rev = true →
    (p.op = .completion → p.status ≠ 0 ∨ e.op ≠ .emit → Gives (.remoteCompletion p) s (t.freeTag r c p.tag) ∧ freed t) ∧
    (∀ u, u = t.writeVerdicts r c e.row e.count p.data → p.op = .completion → p.status = 0 → e.op = .emit →
      u.tagOf r c p.tag = some e → revNewer (u.rev r) e.rev = true → Gives (.remoteCompletion p) s (u.freeTag r c p.tag) ∧ freed u) ∧
    (∀ u b, t.sharedWrite r c e.row p.data allWords (t.sourceId r p) withCore k words = (u, b) → p.op = .getData →
      u.tagOf r c p.tag = some e → revNewer (u.rev r) e.rev = true →
      Gives (.getData p withCore k words) s (u.freeTag r c p.tag) ∧ freed u)

/-- R773: BLK_IRQ_FORCE reads 0; each 1 written to it sets the same bit of BLK_IRQ_STAT, signalled as R754 says, and does nothing
else; an event sets its bit whatever BLK_IRQ_EN holds. A virtual function's access to a die page's common registers is R776's, and
stands in `RegisterAccessesTakeEffect`. -/
def Obligations.ForcedInterruptsSetTheirBits : Prop :=
  ∀ (req : Fin 18) (dw : BitVec 26) (v : Word) (page : Nat) (t : Block) (s : State),
    let stat := BLK_IRQ_STAT page
    (s.reach req dw.toNat false = (t, some (page, 0x18)) →
      Gives (.roPairLoRead req dw) s { t with answer := [0, 0, 0, 0] }) ∧
    (s.reach req dw.toNat true = (t, some (page, 0x18)) → (1 ≤ req.val ∧ req.val ≤ 16 → 4096 ≤ page) →
      let u := t.setReg stat (t.reg stat ||| (v &&& BitVec.ofNat 32 (irqMask (pageKind page))))
      Gives (.irqForce req dw v) s (u.signalRises page t) ∧
      (u.signalRises page t).regs = u.regs ∧ (u.signalRises page t).int = t.int ∧ (u.signalRises page t).core = t.core ∧
      (∀ j, j ≠ stat → (u.signalRises page t).reg j = t.reg j)) ∧
    (∀ bit < 32, (t.raise page bit).bit ⟨stat, bit, 1⟩ = true ∧
      ∀ n < 32, n ≠ bit → (t.raise page bit).fld ⟨stat, n, 1⟩ = t.fld ⟨stat, n, 1⟩)

/-- R211, R311, R314: the oldest local access of a core. A store writes its row, whole, and no other; a load of a row without errors
writes its register alone and changes no row; neither changes a register of the register file or another core. -/
def Obligations.LocalAccessesChangeTheirRowOnly : Prop :=
  ∀ (r : RidgeId) (c : SiteId) (k row vr : Nat) (data : Row) (words : List (Fin 64)) (rest : List LocalAccess) (s : State),
    let x := s.coreAt r c
    let others (t : State) : Prop :=
      s.sameRegs t.toBlock ∧ (∀ (r' : RidgeId) (c' : SiteId), (r', c') ≠ (r, c) → t.coreAt r' c' = s.coreAt r' c') ∧
      t.eng = s.eng ∧ t.int = s.int ∧ t.pending = s.pending
    (x.accesses = .store row data :: rest → ∃ t : State, exec (.localRowAccess r c k words) s = .next t ∧
      t.readRow r c row = data ∧
      (∀ (r' : RidgeId) (c' : SiteId) (n : Nat), (r', c', n) ≠ (r, c, row) → t.readRow r' c' n = s.readRow r' c' n) ∧
      t.coreAt r c = { x with accesses := rest } ∧ others t) ∧
    (x.accesses = .load row vr :: rest → s.badWords r c row = [] →
      ∃ t : State, exec (.localRowAccess r c 0 []) s = .next t ∧
        (t.coreAt r c).v vr = s.readRow r c row ∧ (∀ n, n ≠ vr → (t.coreAt r c).v n = x.v n) ∧
        t.coreAt r c = { x with accesses := rest, vreg := (t.coreAt r c).vreg } ∧ s.sameRows t.toBlock ∧ others t)

/-! ## The queue, reset, and the register file -/

/-- A step with a command at the front of the queue is that command's meaning with the queue's rest. -/
def Obligations.StepRunsFrontCommand : Prop :=
  ∀ (c : Instr) (rest : List Instr) (s : State),
    step { s with pending := c :: rest } = exec c { s with pending := rest }

/-- On an empty queue the block idles: the model's choice (log entry 1). -/
def Obligations.EmptyQueueIdles : Prop := ∀ s : State, s.pending = [] → step s = .next s

/-- A command's own effect leaves the queue of waiting commands as it was. -/
def Obligations.CommandsLeaveTheQueue : Prop :=
  ∀ (c : Instr) (s t : State), exec c s = .next t → t.pending = s.pending

/-- From every state whose waiting commands are all well-formed a step goes on, and leaves a state of the same kind; so a queue of
well-formed commands runs to its end, first in, first out: after n steps its first n commands have run, whatever the rest of the
state is. -/
def Obligations.WellFormedQueueRunsOn : Prop :=
  ∀ s : State, s.waitingWellFormed = true →
    (∃ t, step s = .next t ∧ t.waitingWellFormed = true) ∧
    (∀ n : Nat, ∃ t : State, Host.Core.run Sys2Proof.core n s = .next t ∧ t.pending = s.pending.drop n)

/-- The commands that stop are those with a list of the wrong length, and they stop with that fault: 544 conductances, codes or
errors of a row's cells, 64 samples of a drift fit, and the units of a calibration. -/
def Obligations.WrongListLengthsStop : Prop :=
  ∀ (c : Instr) (s : State), c.wellFormed = false → exec c s = .fault .illFormed

/-- What reset leaves: no command waits, and the hardware's tables list nothing, so that every register reads the reset value of
its register table (R10): the die in Standby, every ridge Off, no step open, no core running. -/
def Obligations.ResetLeavesTheTableValues : Prop :=
  State.reset.pending = [] ∧
  (∀ k, State.reset.reg k = regReset k) ∧
  State.reset.fld PM_DIE_STAT.STATE = 1 ∧
  (∀ r : RidgeId, State.reset.ridgeState r = 3 ∧ State.reset.reg (RI_STEP r) = 0 ∧ State.reset.fld (RI_STEP_CFG.QUORUM r) = 0) ∧
  (∀ (r : RidgeId) (c : SiteId), State.reset.fld (CORE_STAT.STATE r c) = 0) ∧
  (∀ (r : RidgeId) (k : Fin 32), State.reset.siteOf r k = k)

/-- The reset state meets what the statements about every state assume: nothing waits, and the register file and the scratchpads
are in their canonical form. -/
def Obligations.ResetMeetsTheInvariants : Prop :=
  State.reset.waitingWellFormed = true ∧ State.reset.regsCanonical = true ∧ SMap.rising State.reset.spad = true

/-- The register file is memory: a register reads as it was last written, a write leaves every other register alone, and the
canonical form is kept, so that equal register files are equal data. -/
def Obligations.RegisterFileIsMemory : Prop :=
  ∀ (s : State) (j k : Nat) (v : Word),
    (s.setReg k v).reg k = v ∧ (j ≠ k → (s.setReg k v).reg j = s.reg j) ∧
    (s.regsCanonical = true → (s.setReg k v).regsCanonical = true)

/-- A field reads as it was written, modulo its width, and the bits of the register outside the field are unchanged (R4). -/
def Obligations.FieldsOfARegisterAreIndependent : Prop :=
  ∀ (s : State) (f : Field) (n lo w : Nat), f.lo + f.w ≤ 32 →
    (s.setFld f n).fld f = n % 2 ^ f.w ∧
    (lo + w ≤ f.lo ∨ f.lo + f.w ≤ lo → lo + w ≤ 32 → getBits ((s.setFld f n).reg f.key) lo w = getBits (s.reg f.key) lo w)

/-- R8: what a written word leaves in one field, by the field's access code: RO, WO, W1S and reserved fields keep their value, RW
takes the bits written, RWL takes them unless the page is locked, W1C clears the bits written as 1. -/
def Obligations.AccessCodesDecideWhatAWriteStores : Prop :=
  ∀ (locked : Bool) (old new : Word) (lo w : Nat), lo + w ≤ 32 →
    let after (acc : Access) : Nat := getBits (storeWord locked [⟨lo, w, acc⟩] old new) lo w
    after .rw = getBits new lo w ∧
    after .ro = getBits old lo w ∧ after .wo = getBits old lo w ∧ after .w1s = getBits old lo w ∧ after .rsv = getBits old lo w ∧
    after .rwl = (if locked then getBits old lo w else getBits new lo w) ∧
    (∀ n < w, (after .w1c).testBit n = ((getBits old lo w).testBit n && !(getBits new lo w).testBit n))

/-- R748, R749, R772, R773, R778, R781: the commands of the register file, for accesses that reach their page and are admitted. -/
def Obligations.RegisterAccessesTakeEffect : Prop :=
  ∀ (req : Fin 18) (dw : BitVec 26) (v : Word) (page off : Nat) (t : Block) (s : State),
    (s.reach req dw.toNat true = (t, some (page, off)) → (1 ≤ req.val ∧ req.val ≤ 16 → 4096 ≤ page) →
      (vfWindowAt req dw.toNat ≠ some 0x48 → Gives (.registerWrite req dw false v) s t) ∧
      (vfWindowAt req dw.toNat ≠ some 0x48 → ownCommand (pageKind page) off = false → off ≠ 0x08 → off ≠ 0x10 → off ≠ 0x18 →
        pageKind page ≠ .mgmt → pageKind page ≠ .imem → page ≠ 13 → t.refusal req page off v = none →
        Gives (.registerWrite req dw true v) s (t.storeAt req page off v)) ∧
      (off = 0x08 →
        Gives (.lockSet req dw) s (t.setBit (BLK_CTL.LOCK page) true) ∧
        (page ≠ 5 → t.bit (BLK_CTL.FREEZE page) = false →
          Gives (.blkFreeze req dw true) s { t.setBit (BLK_CTL.FREEZE page) true with frozen := t.snapshot page }) ∧
        (page ≠ 5 → Gives (.blkFreeze req dw false) s { t.setBit (BLK_CTL.FREEZE page) false with
          frozen := t.frozen.filter (fun e => decide (e.1 / regSpan / 4096 ≠ page)) }) ∧
        (page = 5 → Gives (.blkFreeze req dw true) s (t.setBit CAIRN_CTL.FREEZE true))) ∧
      (off = 0x18 → Gives (.irqForce req dw v) s
        ((t.setReg (BLK_IRQ_STAT page) (t.reg (BLK_IRQ_STAT page) ||| (v &&& BitVec.ofNat 32 (irqMask (pageKind page))))).signalRises
          page t)) ∧
      (off = 0x10 → Gives (.irqStatusClear req dw v) s
        ((t.setReg (BLK_IRQ_STAT page) (t.reg (BLK_IRQ_STAT page) &&& ~~~v)).signalActive page))) ∧
    (s.reach req dw.toNat false = (t, some (page, off)) → t.protectedRead req page off = none →
      (regRow (pageKind page) off = none → Gives (.roPairLoRead req dw) s { t with answer := [0, 0, 0, 0] }) ∧
      (∀ row, regRow (pageKind page) off = some row → row.pair = 0 →
        Gives (.roPairLoRead req dw) s { t with answer := bytesOf 4 (t.readWord req page off).toNat }) ∧
      (∀ row, regRow (pageKind page) off = some row → row.pair = 1 → row.fields.all (fun f => decide (f.acc = .ro)) = true →
        Gives (.roPairLoRead req dw) s { t with
          answer := bytesOf 4 (t.readWord req page off).toNat
          hiLatch := SMap.ins (stageKey (t.cellKey page off row + 4 * regSpan) req.val) (t.readWord req page (off + 4)) t.hiLatch }) ∧
      (∀ row latched, regRow (pageKind page) off = some row → row.pair = 2 → row.fields.all (fun f => decide (f.acc = .ro)) = true →
        SMap.find (stageKey (t.cellKey page off row) req.val) t.hiLatch = some latched →
        Gives (.roPairLoRead req dw) s { t with
          answer := bytesOf 4 latched.toNat
          hiLatch := SMap.del (stageKey (t.cellKey page off row) req.val) t.hiLatch }))

/-- R748, R778: an access to a page that a function's view denies, or to a reserved range, is counted and does nothing else; so is
an access to a page whose domain does not answer (R629). -/
def Obligations.AccessesThatMissAreCounted : Prop :=
  ∀ (req : Fin 18) (dw : BitVec 26) (v : Word) (full : Bool) (s : State), vfWindowAt req dw.toNat = none →
    (place req dw.toNat = .unmapped →
      Gives (.registerWrite req dw full v) s (s.countUnmapped req dw.toNat true) ∧
      Gives (.roPairLoRead req dw) s { s.countUnmapped req dw.toNat false with answer := [0, 0, 0, 0] }) ∧
    (place req dw.toNat = .denied →
      Gives (.registerWrite req dw full v) s s.countDenied ∧
      Gives (.roPairLoRead req dw) s { s.countDenied with answer := [0, 0, 0, 0] }) ∧
    (∀ page off, place req dw.toNat = .at page off → s.pageUp page = false →
      Gives (.registerWrite req dw full v) s (s.addReg PM_OFF_ACCESS 1) ∧
      Gives (.roPairLoRead req dw) s { s.addReg PM_OFF_ACCESS 1 with answer := [0xFF, 0xFF, 0xFF, 0xFF] })

/-- R617, R776, R786: a write that is refused — to protected state of a bound ridge from outside its trust, or beyond a virtual
function's view — has none of the effects of the registers that commands of their own write: the state is the one that counts
the refusal. -/
def Obligations.RefusedWritesChangeNothingElse : Prop :=
  ∀ (req : Fin 18) (dw : BitVec 26) (v : Word) (page off : Nat) (t u : Block) (s : State) (ops : List Packet),
    s.reach req dw.toNat true = (t, some (page, off)) → t.refusal req page off v = some u →
    let refused (kind : PageKind) (offs : List Nat) (i : Instr) : Prop :=
      pageKind page = kind → offs.contains off = true → Gives i s u
    refused .core [0x90] (.awCtlWrite req dw v) ∧ refused .ridgeSync [0x44] (.syncValWrite req dw v ops) ∧
    refused .ridgeSync [0x48] (.syncAddReg req dw v ops) ∧ refused .engine [0x80, 0x88] (.blockTableWrite req dw v) ∧
    refused .core [0x308, 0x30C, 0x310] (.normWatchWrite req dw v) ∧ refused .spad [0x60] (.crCtlWrite req dw v) ∧
    refused .spad [0x78] (.poolEnable req dw v) ∧
    refused .walker [0x70] (.spoorFlush req dw v)

/-- A software write to a register with no pair changes no register but its own: every other one reads as before (R8, R780). -/
def Obligations.RegisterWritesChangeTheirRegisterOnly : Prop :=
  ∀ (req : Fin 18) (page off : Nat) (v : Word) (row : RegRow) (s : State),
    regRow (pageKind page) off = some row →
    (row.pair = 0 →
      (∀ k, k ≠ s.cellKey page off row → (s.storeAt req page off v).reg k = s.reg k) ∧
      (s.storeAt req page off v).core = s.core ∧ (s.storeAt req page off v).spad = s.spad ∧
      (s.storeAt req page off v).eng = s.eng ∧ (s.storeAt req page off v).staged = s.staged) ∧
    (row.pair = 1 → row.fields.any (fun f => decide (f.acc = .rw ∨ f.acc = .rwl)) = true →
      (∀ k, (s.storeAt req page off v).reg k = s.reg k) ∧
      SMap.find (stageKey (s.cellKey page off row) req.val) (s.storeAt req page off v).staged = some v)

/-! ## Core control, synchronization, remote access and migration -/

/-- R238, R240, R241, R256, R198, R603, R784: starting and halting a core, loading its instruction memory, opening and closing an
access window and staging a norm-watch entry. A start that is rejected sets START_REJECT and starts nothing. -/
def Obligations.CoreControlWritesTakeEffect : Prop :=
  ∀ (req : Fin 18) (dw : BitVec 26) (v : Word) (s : State),
    let writes (i : Instr) := WriteGives i s req dw v
    (∀ page, place req dw.toNat = .at page 0x48 → pageKind page = .core →
      let r := ridgeOfPage page
      let c := siteOfPage page
      let u := s.dozeWake r
      let st := u.fld (CORE_STAT.STATE r c)
      (s.ridgeUp r = true → getBits v 31 1 = 1 → st = 0 ∨ st = 4 →
        (u.bit (TR_RIDGE_STAT.SEAL_CODE 16 r) = true → (SMap.get [] u.tr.allow r).contains (u.codeDigest r c) = true) →
        Gives (.coreStart req dw v) s ((u.modCore r c (fun x => { x with
          pc := getBits v 0 12, bundle := Bundle.none, handler := false, wait := none, heldWait := none, heldOn := [],
          haltReq := false })).setFld (CORE_STAT.STATE r c) 1)) ∧
      (s.ridgeUp r = true → getBits v 31 1 = 1 → st ≠ 0 → st ≠ 4 →
        Gives (.coreStart req dw v) s (u.raise (sitePage r c 0) Irq.core_START_REJECT)) ∧
      (s.ridgeUp r = false → s.dieActive = true →
        Gives (.coreStart req dw v) s
          ({ s.toBlock with pow := { s.pow with heldStarts := s.pow.heldStarts ++ [(req.val, r, c, v)] } }.wakeAt r 4))) ∧
    writes (.haltReq req dw v) .core [0x40]
      (fun t page _ _ => let st := t.fld (CORE_STAT.STATE (ridgeOfPage page) (siteOfPage page))
        getBits v 0 1 = 1 ∧ (st = 1 ∨ st = 2 ∨ st = 3 ∨ st = 5) ∧
        (t.storeAt req page 0x40 v).fld (CORE_STAT.STATE (ridgeOfPage page) (siteOfPage page)) = st)
      (fun t page _ _ =>
        let r := ridgeOfPage page
        let c := siteOfPage page
        (((t.storeAt req page 0x40 v).modCore r c (fun x => { x with haltReq := true })).setBit (CORE_CTL.HALT_REQ r c) true).boundary
          r c) ∧
    writes (.imemWordWrite req dw v) .imem imemHi
      (fun t page _ _ => t.imemOpen (ridgeOfPage page) (siteOfPage page) = true)
      (fun t page off _ =>
        let r := ridgeOfPage page
        let c := siteOfPage page
        let base := t.fld (IM_BASE.BASE r c)
        let lo := (SMap.find (stageKey (regKey page (off - 4) base) req.val) t.staged).getD 0
        t.modCore r c (fun x => { x with
          imem := SMap.set 0 x.imem (base * 256 + (off - 0x804) / 8) (BitVec.ofNat 64 (lo.toNat + v.toNat * 2 ^ 32)) })) ∧
    writes (.awCtlWrite req dw v) .core [0x90]
      (fun _ _ _ _ => getBits v 0 1 = 0)
      (fun t page _ i => let r := ridgeOfPage page
        let c := siteOfPage page
        (if t.bit (AW_CTL.VALID r c i) then t
         else (((t.setFld (AW_CTL.KIND r c i) (getBits v 3 2)).setFld (AW_CTL.REMOTE r c i) (getBits v 5 1)).setFld (AW_CTL.WR r c i)
          (getBits v 2 1)).setFld (AW_CTL.RD r c i) (getBits v 1 1)).setBit (AW_CTL.VALID r c i) false) ∧
    writes (.awCtlWrite req dw v) .core [0x90]
      (fun t page _ i => let r := ridgeOfPage page
        let c := siteOfPage page
        getBits v 0 1 = 1 ∧ t.bit (AW_CTL.VALID r c i) = true ∧ t.fld (AW_CTL.KIND r c i) ≠ 3 ∧
        (t.windowNeedsGrant r c i (t.bit (AW_CTL.REMOTE r c i)) (t.fld (AW_CTL.KIND r c i)) = true →
          t.windowGranted r c i (t.bit (AW_CTL.REMOTE r c i)) (t.fld (AW_CTL.KIND r c i)) (t.bit (AW_CTL.RD r c i))
            (t.bit (AW_CTL.WR r c i)) = true))
      (fun t page _ i => let r := ridgeOfPage page
        let c := siteOfPage page
        ((t.setBit (AW_CTL.VALID r c i) true).setBit (AW_CTL.DENIED r c i) false).setFld (AW_CTL.GEN r c i) (t.fld FAB_GEN.GEN)) ∧
    writes (.normWatchWrite req dw v) .core [0x308, 0x30C, 0x310] (fun _ _ _ _ => True)
      (fun t page off idx => t.modCore (ridgeOfPage page) (siteOfPage page) (fun x =>
        let key := idx * 4 + (off - 0x308) / 4
        let old := (SMap.find key x.nwShadow).getD 0
        { x with nwShadow := SMap.ins key (if off = 0x310 then v ||| (old &&& 0x100) else v) x.nwShadow }))

/-- R224–R229, R213, R259: operations on a synchronization cell are carried out one after another, each arriving operation an
`add` to the cell, a `notify`, a claim or a wait; a host's write of SYNC_VAL or SYNC_ADD is such an operation; answers and wakes
reach the core they are for; a hold ends when its cause has ended. -/
def Obligations.SynchronizationTakesEffect : Prop :=
  ∀ (req : Fin 18) (dw : BitVec 26) (v : Word) (r : RidgeId) (c : SiteId) (cell : Fin 1024) (ops : List Packet) (p : Packet)
    (n : Nat) (s t : State),
    let b := s.toBlock
    let arrives : Prop := b.arrive p = (t.toBlock, true) ∧ p.dst.unit < 16 ∧ p.dstCore < 32
    let at_ := t.siteOf p.dst.unit p.dstCore
    Gives (.syncCellOp r cell ops) s ((s.arriveOps r cell ops).1.cellCycle r cell (s.arriveOps r cell ops).2) ∧
    (∀ (u : Block) (id : Nat), u.cellCycle r cell [] = u ∧ u.cellCycle r cell [(id, p)] = u.cellOp r cell p) ∧
    (p.arg = 0 → b.cellOp r cell p = b.setCell r cell (b.reg (SYNC_VAL r cell) + p.data.setWidth 32)) ∧
    (p.arg = 1 → b.bit (SYNC_ATTR.IRQ r cell) = false → (b.setCell r cell (p.data.setWidth 32)).bit (SYNC_ATTR.IRQ r cell) = false →
      b.cellOp r cell p = b.setCell r cell (p.data.setWidth 32)) ∧
    WriteGives (.syncValWrite req dw v ops) s req dw v .ridgeSync [0x44] (fun _ _ _ _ => True)
      (fun u page _ idx => u.hostCellOp page idx .notify v ops) ∧
    WriteGives (.syncAddReg req dw v ops) s req dw v .ridgeSync [0x48] (fun _ _ _ _ => True)
      (fun u page _ _ => u.hostCellOp page (u.fld (SYNC_SEL.CELL (ridgeOfPage page))) .add v ops) ∧
    (arrives → p.op = .syncAnswer →
      (p.arg = 6 → Gives (.wakeDelivery p) s (t.setBit (CORE_STAT.WAKE_PEND p.dst.unit at_) true)) ∧
      (p.arg = 2 → Gives (.syncAnswer p) s (t.claimReply p.dst.unit at_ p.tag (p.data.setWidth 64))) ∧
      (p.arg ≠ 2 → p.arg ≠ 6 → Gives (.syncAnswer p) s (t.waitAnswer p.dst.unit at_ p))) ∧
    (let x := s.coreAt r c
     let lo := CORE_HOLD_CYCLES_LO r c
     let hi := CORE_HOLD_CYCLES_HI r c
     let counted := b.setPair lo hi (s.pair lo hi + 64 * (1 + n))
     s.fld (CORE_STAT.STATE r c) = 2 →
      (s.holdEnds r c = true → (∀ w, x.wait = some w → w.wake = false) →
        Gives (.holdSpanEnd r c n) s ((counted.modCore r c (fun y => { y with wait := none })).leaveHold r c)) ∧
      (s.holdEnds r c = true → (∃ w, x.wait = some w ∧ w.wake = true) →
        Gives (.holdSpanEnd r c n) s
          (((counted.setBit (CORE_STAT.WAKE_PEND r c) false).modCore r c (fun y => { y with wait := none })).leaveHold r c)) ∧
      (s.holdEnds r c = false → x.haltReq = false → x.excWait = [] → (∀ w, x.wait = some w → w.resend = false) →
        Gives (.holdSpanEnd r c n) s counted) ∧
      (∀ w, s.fld (CORE_SYNC_TMO.TMO r c) ≠ 0 → x.wait = some w → w.wake = false → w.answered = false → x.excWait = [] →
        Gives (.syncTimeout r c) s (s.setCore r c { x with excWait := [(4, timeoutInfo r w)] })))

/-- R219–R223, R218, R330, R335: a GET or PUT that arrives is served at the shared phase of a core's scratchpad or by a cache unit,
or waits there; what a requester receives completes its tag, or fails it with the status of the response. -/
def Obligations.RemoteRequestsTakeEffect : Prop :=
  ∀ (p : Packet) (busy withCore : Bool) (k : Nat) (words : List (Fin 64)) (cws : List (Fin 8)) (r : RidgeId) (c : SiteId)
    (tag : Fin 64) (s t : State),
    let b := s.toBlock
    let asks (write : Bool) (i : Instr) : Prop :=
      let at_ := t.siteOf p.dst.unit p.dstCore
      let q : SharedReq := ⟨write, p.addr, p.data, allWords, t.sourceId p.dst.unit p, p⟩
      let u : CacheReq := ⟨p.addr, p.src.die, tierRequester p.src, write, p.data, allBytes, p⟩
      (p.dst.unit < 16 → t.net.unreachable.contains (p.dst.unit, at_) = false → p.addr < 4096 → t.rowGranted p p.addr write = true →
        (busy = false → (t.spadAt p.dst.unit at_).queue = [] → Gives i s (t.serveShared p.dst.unit at_ q false k words)) ∧
        (busy = true ∨ (t.spadAt p.dst.unit at_).queue ≠ [] → Gives i s (t.askShared p.dst.unit at_ q))) ∧
      (16 ≤ p.dst.unit → t.cacheRefusal p.src.die (tierRequester p.src) p.addr write = none →
        (busy = false → t.stackQueue (stackOf p.addr) = [] → Gives i s (t.serveUnit u k cws)) ∧
        (busy = true ∨ t.stackQueue (stackOf p.addr) ≠ [] → Gives i s (t.setStackQueue (stackOf p.addr) (t.stackQueue (stackOf p.addr) ++ [u]))))
    (b.arrive p = (t.toBlock, true) →
      (p.op = .getReq → asks false (.getRequest p busy k words cws)) ∧
      (p.op = .putReq → asks true (.putRequest p busy k words cws)) ∧
      (p.dst.unit < 16 → p.dstCore < 32 →
        let at_ := t.siteOf p.dst.unit p.dstCore
        (∀ x, t.tagOf p.dst.unit at_ p.tag = some x →
          (p.op = .getData → Gives (.getData p withCore k words) s
            ((t.sharedWrite p.dst.unit at_ x.row p.data allWords (t.sourceId p.dst.unit p) withCore k words).1.completeTag p.dst.unit
              at_ p.tag)) ∧
          (p.op = .completion → p.status ≠ 0 → Gives (.remoteCompletion p) s (t.failTag p.dst.unit at_ p.tag p.status)) ∧
          (p.op = .completion → p.status = 0 → x.op ≠ .emit →
            Gives (.remoteCompletion p) s (t.completeTag p.dst.unit at_ p.tag)) ∧
          (p.op = .completion → p.status = 0 → x.op = .emit →
            Gives (.remoteCompletion p) s ((t.writeVerdicts p.dst.unit at_ x.row x.count p.data).completeTag p.dst.unit at_ p.tag))) ∧
        (t.tagOf p.dst.unit at_ p.tag = none →
          (p.op = .getData → Gives (.getData p withCore k words) s (t.lateResponse p.dst.unit at_)) ∧
          (p.op = .completion → Gives (.remoteCompletion p) s (t.lateResponse p.dst.unit at_))))) ∧
    (∀ x, SMap.find tag.val (s.coreAt r c).tags = some x →
      Gives (.remoteTimeout r c tag) s (s.failTag r c (tag.val + 64 * x.serial) 5))

/-- R244–R252: migration of a core: a command that finds the core free and a target prepares it, the drain gives way to the
copy, a drain that does not end leaves the core on its site with failure 7, and the flip gives the logical core its target site
with the source's scratchpad and core state. -/
def Obligations.MigrationTakesEffect : Prop :=
  ∀ (req : Fin 18) (dw : BitVec 26) (v : Word) (r : RidgeId) (spans : Nat) (m : Migration) (s : State),
    let b := s.toBlock
    let writes (i : Instr) (op : Nat) (when : Block → Nat → Nat → Prop) (effect : Block → Nat → Nat → Block) : Prop :=
      WriteGives i s req dw v .ridgeCore [0x6C]
        (fun t page _ _ => getBits v 0 4 = op ∧
          (SMap.find (ridgeOfPage page) t.mig).isSome = false ∧
          t.fld (CORE_STAT.STATE (ridgeOfPage page) (t.siteOf (ridgeOfPage page) (getBits v 4 5))) ≠ 4 ∧
          t.fld (CORE_STAT.STATE (ridgeOfPage page) (t.siteOf (ridgeOfPage page) (getBits v 4 5))) ≠ 6 ∧
          when t (ridgeOfPage page) (getBits v 4 5))
        (fun t page _ _ => effect t (ridgeOfPage page) (getBits v 4 5))
    (∀ x, writes (.migTemporary req dw v) 1 (fun t r _ => t.freeScree r = some x)
        (fun t r k => t.migPrepare r k (t.siteOf r k) x 1) ∧
      writes (.migPermanent req dw v) 2 (fun t r _ => t.freeScree r = some x)
        (fun t r k => t.migPrepare r k (t.siteOf r k) x 2) ∧
      writes (.migReturn req dw v) 3 (fun t r k => t.testedSite r k = some x)
        (fun t r k => t.migPrepare r k (t.siteOf r k) x 3)) ∧
    (SMap.find r.val s.mig = some m →
      (m.phase = 2 → s.fld (CORE_STAT.STATE r m.source) = 5 →
        (s.migDrained r m.source = true → Gives (.migDrainDone r) s
          ({ b with mig := SMap.ins r.val { m with phase := 3 } s.mig }.setFld (RC_MIG_STAT.STATE r) 3)) ∧
        Gives (.migDrainTimeout r) s
          ((({ b with mig := SMap.del r.val s.mig }.setFld (CORE_STAT.STATE r m.source) m.prior).setFld (CORE_STAT.HOLD_CAUSE r m.source)
            m.priorHold).migFail r 7)) ∧
      (m.phase = 3 →
        let t := ((b.copySpad r m.source m.target).copyCore r m.source m.target).setSite r m.logical m.target
        let t := t.leaveSite r m.source m.logical m.op
        let t := if m.op = 3 then t else t.setFree r m.target false
        let t := (t.setFld (CORE_STAT.STATE r m.target) m.prior).setFld (CORE_STAT.HOLD_CAUSE r m.target) m.priorHold
        let t := ({ t with mig := SMap.del r.val t.mig }).sendFirst (s.coreAt r m.source).held
        let key := r.val * 32 + m.logical
        let t := if m.op = 2 then
            { t with boot := { t.boot with fused := SMap.ins key (SMap.get [] t.boot.fused key ++ [m.target]) t.boot.fused } }
          else t
        let t := if m.op = 1 ∧ (t.ri r).ift = some (m.source, 8) ∧ t.fld (RI_IFT_STAT.STATE r) = 2 then
            t.setFld (RI_IFT_STAT.STATE r) 3
          else t
        Gives (.migFlip r spans) s
          ((((t.setFld (RC_MIG_STAT.STATE r) 4).setFld (RC_MIG_STAT.PAUSE_SPANS r) spans).raise (ridgePage r 1)
            Irq.ridgeCore_MIG_DONE).boundary r m.target)))

/-! ## The store -/

/-- R92, R99, R66, R78–R85: the writes that order a store operation, acknowledge a lease, turn refresh on, and arm and start an
erase. A store command whose slab, column or state is out of place, or that finds the queue full, only shows that result. -/
def Obligations.StoreWritesTakeEffect : Prop :=
  ∀ (req : Fin 18) (dw : BitVec 26) (v : Word) (s : State),
    let site := getBits v 4 6
    let engine := getBits v 10 3
    let slab := getBits v 13 4
    let orders (i : Instr) (op : Nat) (kind : StoreKind) (operand cls : Nat) (ok : SlabState → Bool) : Prop :=
      let right (t : Block) (r : Nat) : Prop :=
        getBits v 0 4 = op ∧ site ≤ 33 ∧ slab ≤ 8 ∧ (kind = .replaceColumn → operand ≤ 527) ∧ ok (t.slab r site engine slab).state = true
      WriteGives i s req dw v .ridgeStore [0x48]
        (fun t page _ _ => right t (ridgeOfPage page) ∧ (t.queue (ridgeOfPage page)).length < 4096)
        (fun t page _ _ => (t.enqueue (ridgeOfPage page) ⟨kind, site, engine, slab, operand, cls, true⟩).setFld
          (SR_CMD_STAT.RESULT (ridgeOfPage page)) 1) ∧
      WriteGives i s req dw v .ridgeStore [0x48]
        (fun t page _ _ => right t (ridgeOfPage page) ∧ 4096 ≤ (t.queue (ridgeOfPage page)).length)
        (fun t page _ _ => t.setFld (SR_CMD_STAT.RESULT (ridgeOfPage page)) 4) ∧
      WriteGives i s req dw v .ridgeStore [0x48]
        (fun t page _ _ => getBits v 0 4 = op ∧ ¬ right t (ridgeOfPage page))
        (fun t page _ _ => t.setFld (SR_CMD_STAT.RESULT (ridgeOfPage page)) 3)
    let held (st : SlabState) : Bool := decide (st = .resident ∨ st = .assigned ∨ st = .suspect)
    orders (.scan req dw v) 1 .scan slab 5 (fun st => held st || decide (st = .outForRefresh)) ∧
    orders (.refresh req dw v) 2 .refresh slab 5 held ∧
    orders (.driftSample req dw v) 3 .driftSample slab 5 SlabState.sampled ∧
    orders (.replaceColumn req dw v) 4 .replaceColumn (getBits v 17 10) 2 (fun st => held st || decide (st = .outForRefresh)) ∧
    orders (.replaceSlab req dw v) 5 .replaceSlab slab 2 (fun st => decide (st = .resident ∨ st = .suspect)) ∧
    orders (.reverify req dw v) 6 .reverify slab 1 held ∧
    WriteGives (.refreshEn req dw v) s req dw v .dieStore [0x40] (fun _ _ _ _ => True)
      (fun t page off _ =>
        let u := t.storeAt req page off v
        if t.bit SD_CTL.REFRESH_EN = false ∧ u.bit SD_CTL.REFRESH_EN = true then u.refreshDue else u) ∧
    WriteGives (.leaseAck req dw v) s req dw v .ridgeStore [0x54]
      (fun t page _ _ => let r := ridgeOfPage page
        v.getLsbD 0 = true ∧ t.bit (SR_LEASE_REQ.VALID r) = true ∧
        (t.slab r (t.fld (SR_LEASE_REQ.SITE r)) (t.fld (SR_LEASE_REQ.ENGINE r)) (t.fld (SR_LEASE_REQ.SLAB r))).leased = false)
      (fun t page _ _ => let r := ridgeOfPage page
        let c := t.fld (SR_LEASE_REQ.SITE r)
        let e := t.fld (SR_LEASE_REQ.ENGINE r)
        let p := t.fld (SR_LEASE_REQ.SLAB r)
        (t.modSlab r c e p (fun b => { b with leased := true, state := .outForRefresh })).releaseFor r c e p) ∧
    WriteGives (.eraseScopeWrite req dw v) s req dw v .dieStore [0x6C] (fun _ _ _ _ => True)
      (fun t page off _ =>
        let u := t.storeAt req page off v
        if u.store.erase = .done ∨ u.store.erase = .denied ∨ u.store.erase = .inUse then
          { u with store := { u.store with erase := .idle } }
        else u) ∧
    WriteGives (.eraseArm req dw v) s req dw v .dieStore [0x70]
      (fun t _ _ _ => getBits v 0 16 = 0xA5A5 ∧ t.store.erase ≠ .running ∧ t.scopeSpan.isSome = true ∧ t.eraseAllowed req = true)
      (fun t _ _ _ => { t with store := { t.store with erase := .armed } }) ∧
    WriteGives (.eraseArm req dw v) s req dw v .dieStore [0x70]
      (fun t _ _ _ => getBits v 0 16 = 0xA5A5 ∧ t.store.erase ≠ .running ∧ (t.scopeSpan = none ∨ t.eraseAllowed req = false))
      (fun t _ _ _ => { t with store := { t.store with erase := .denied } }) ∧
    (∀ x, WriteGives (.eraseStart req dw v) s req dw v .dieStore [0x70]
      (fun t _ _ _ => getBits v 0 16 = 0x5A5A ∧ t.store.erase = .armed ∧ t.scopeSpan = some x ∧ t.eraseInUse x = false)
      (fun t _ _ _ => t.eraseRun x)) ∧
    (∀ x, WriteGives (.eraseStart req dw v) s req dw v .dieStore [0x70]
      (fun t _ _ _ => getBits v 0 16 = 0x5A5A ∧ t.store.erase = .armed ∧ t.scopeSpan = some x ∧ t.eraseInUse x = true)
      (fun t _ _ _ => { t with store := { t.store with erase := .inUse } }))

/-- R44–R64, R78, R83, R88–R90, R99: what happens to store operations and slabs: tokens, iterations of program and verify, the end
of a program, drift samples and fits, scans and refreshes, debt, and the end of an erase. -/
def Obligations.StoreEventsTakeEffect : Prop :=
  ∀ (r : RidgeId) (c : SiteId) (e : EngineId) (p : SlabId) (g repair : List Nat) (ue : List (Fin 4))
    (moved : List (Fin 512 × Fin 544 × Nat)) (s : State),
    let b := s.toBlock
    (s.ridgeUp r = true → s.lvActive = false →
      (∀ token key, s.freeToken r = some token → s.nextGrant r = some (.inl key) →
        Gives (.tokenGrant r) s { b with store := { s.store with running := s.store.running.map (fun x =>
          if x.1 = key then (x.1, { x.2 with suspended := false, token := token }) else x) } }) ∧
      (∀ token o, s.freeToken r = some token → s.nextGrant r = some (.inr o) →
        Gives (.tokenGrant r) s ((b.setQueue r ((s.queue r).erase o)).startOp r token o))) ∧
    (∀ o, s.runOf r c e = some o →
      let q := o.op.slab
      let row := b.setCellRow r c e q o.row g
      let out := (List.range 544).filter (fun col =>
        let x := row.opTarget r o.op o.row col
        !within (g.getD col 0) x.nominal x.prog)
      let reads := if o.second then o.it else o.it + 1
      (g.length = 544 → repair.length = 544 → o.swept = false → o.suspended = false → o.op.kind = .erase → s.lvActive = false →
        (out = [] ∨ reads = 12 → Gives (.pgmIteration r c e g ue repair) s (row.rowDone r o out)) ∧
        (out ≠ [] → reads ≠ 12 → (o.second = true → o.it ≠ 0) → Gives (.pgmIteration r c e g ue repair) s
          ((row.pulseRow r o g out).1.setRun r c e (some (row.pulseRow r o g out).2)))) ∧
      (o.swept = true → Gives (.slabProgramDone r c e) s (s.finishProgram r c e o)) ∧
      (o.op.kind = .driftSample → g.length = 64 →
        let t := (b.setRun r c e none).opDone r o.op.commanded true
        (driftOk g = true → Gives (.driftFit r c e g) s
          (t.modSlab r c e q (fun x => { x with stagedFit := some (driftTrims g), driftLimit := false }))) ∧
        (driftOk g = false → Gives (.driftFit r c e g) s
          (((t.modSlab r c e q (fun x => { x with driftLimit := true })).raise (ridgePage r 0) Irq.ridgeStore_DRIFT_LIMIT).queueRefresh
            r c e q 3))) ∧
      (let t := (b.moveCells r c e q moved).setRun r c e none
       (o.op.kind = .refresh → (t.scanSlab r c e q).2 = 0 →
          Gives (.refreshScanDone r c e moved) s (t.refreshClean r c e q o.op.commanded)) ∧
        (o.op.kind = .refresh → (t.scanSlab r c e q).2 ≠ 0 → Gives (.refreshScanDone r c e moved) s (t.refreshLoop r o.op)) ∧
        (o.op.kind = .scan → o.op.cls = 2 → Gives (.scanDone r c e moved) s (t.unresolvedScan r c e q (t.scanSlab r c e q).1)) ∧
        (o.op.kind = .scan → o.op.cls ≠ 2 → Gives (.scanDone r c e moved) s (t.opDone r o.op.commanded true)))) ∧
    (let same (o : StoreOp) : Bool := decide (o.kind = .driftSample ∧ o.site = c ∧ o.engine = e ∧ o.slab = p)
     s.bit SD_CTL.DRIFT_EN = true → (s.slab r c e p).state.sampled = true → (s.queue r).any same = false →
      (∀ x, s.runOf r c e = some x → same x.op = false) →
      Gives (.driftSampleDue r c e p) s (s.setQueue r (s.queue r ++ [⟨.driftSample, c, e, p, 0, 5, false⟩]))) ∧
    Gives .debtAccrual s ((List.range 39168).foldl (fun t k =>
      t.addDebt (keyRidge k) (keySite k) (keyEngine k) (keySlab k) (t.fld (SD_BAND_INC.INC (min 4 (t.debtBand (keyRidge k))))))
      { b with store := { s.store with seconds := s.store.seconds + 1 } }) ∧
    (let x := s.slab r c e p
     2 ^ 24 ≤ x.readCount → Gives (.readDebtCount r c e p) s
      ((s.setSlab r c e p { x with readCount := x.readCount - 2 ^ 24 }).addDebt r c e p (s.fld SD_RD_INC.RD_INC))) ∧
    Gives (.overdueCheck r) s (s.overdueCheck r) ∧
    (s.waiting r = [] → Gives (.refreshResume r) s (s.setWaiting r [])) ∧
    (∀ o, s.waiting r = [o] → o.kind = .refresh → Gives (.refreshResume r) s ((s.setWaiting r []).refreshLoop r o)) ∧
    (s.eng.any (fun x => decide (x.1 / 272 = r) && (x.2.pass.isSome || x.2.qmPass.isSome)) = false →
      Gives (.idleStepBoundary r) s (s.stepBoundary r none [])) ∧
    (s.store.erase = .armed → Gives .eraseArmExpiry s { b with store := { s.store with erase := .idle } }) ∧
    (s.store.erase = .running → s.store.eraseLeft = [] →
      let t := { b with store := { s.store with erase := .done } }.setBit SD_STAT.UNSERVABLE false
      (s.fld SD_ERASE_SCOPE.KIND ≠ 4 → s.fld SD_ERASE_SCOPE.KIND ≠ 5 → Gives .eraseDone s t.eraseWaiting) ∧
      (s.fld SD_ERASE_SCOPE.KIND = 4 → Gives .eraseDone s (t.ridgeCleaned (s.fld SD_ERASE_SCOPE.RIDGE)).eraseWaiting) ∧
      (s.fld SD_ERASE_SCOPE.KIND = 5 →
        Gives .eraseDone s ((List.range 16).foldl (fun t r => t.ridgeCleaned r) t).eraseWaiting)) ∧
    Gives .debtCheckpoint s { b with store := { s.store with
      checkpoint := (s.store.slabs.filter (fun x => decide (x.2.debt ≠ 0))).map (fun x => (x.1, x.2.debt)),
      checkpointRest := 0, checkpointTime := s.cairn.time } } ∧
    Gives .cairnStoreRefresh s { b with store := { s.store with cairnRefreshed := s.store.seconds } }

/-! ## The engines: queues, passes, drains and checks -/

/-- R104–R108, R119–R124, R142, R145–R149: what the engines' queues and passes do: a bank biases and then starts its passes in
order, a pass is accumulated into the ledger at its latch, drains and clears execute in queue order once the passes before them
have been accumulated, and the quadrant multiplier does the same beside it. -/
def Obligations.EnginePassesTakeEffect : Prop :=
  ∀ (r : RidgeId) (c : SiteId) (e : EngineId) (err : List Int) (mism : List (Fin 528)) (s : State),
    let b := s.toBlock
    let x := s.engine r c e
    (x.pass = none → s.lvActive = false → x.discarded = [] → s.queuesRun r c = true →
      ∀ cmd rest, x.queue = cmd :: rest → cmd.kind ≠ .drain → cmd.kind ≠ .clear →
        (s.bit (ENG_STAT.BIASED r c e) = false → Gives (.passStart r c e) s (s.setBit (ENG_STAT.BIASED r c e) true)) ∧
        (s.bit (ENG_STAT.BIASED r c e) = true →
          (cmd.kind = .probe → Gives (.passStart r c e) s (s.explicitProbe r c e cmd.slab)) ∧
          (cmd.kind = .echo → Gives (.passStart r c e) s (s.explicitEcho r c e cmd.target cmd.hist)) ∧
          (cmd.kind = .fire → cmd.acc = true ∨ x.qmBefore cmd.order = false →
            Gives (.passStart r c e) s
              ((b.popPass r c e).modEngine r c e (fun y => { y with pass := some (.fire cmd (s.serving r c e cmd.slab)) }))))) ∧
    (x.pass = none → s.lvActive = false → ∀ q rest, x.discarded = q :: rest →
      Gives (.passStart r c e) s (s.setEngine r c e { x with pass := some q, discarded := rest })) ∧
    (x.pass = none → x.discarded = [] → (∀ q ∈ x.queue, q.kind = .drain ∨ q.kind = .clear ∨ q.kind = .qmFire ∨ q.kind = .qload) →
      (s.coreAt r c).frame = 0 → Gives (.biasHoldExpiry r c e) s (s.setBit (ENG_STAT.BIASED r c e) false)) ∧
    (err.length = 544 → ∀ cmd p, x.pass = some (.fire cmd p) →
      Gives (.passLatch r c e err) s (s.latchPass r c e p cmd.slab cmd err)) ∧
    (∀ cmd rest, x.queue = cmd :: rest → s.queuesRun r c = true → x.latchedBefore cmd.order = true →
      (cmd.kind = .drain →
        let cols := ledgerColumns cmd.first cmd.last cmd.tally
        let failing := cols.filter (fun j =>
          decide (SMap.get 0 x.residue j ≠ residue7 (SMap.get 0 x.ledger j)) || mism.any (fun m => decide (m.val = j)))
        let d := s.drainRow r c e cmd.slab cmd
        Gives (.drainExecute r c e mism) s (((b.residueCheck r c e failing).modEngine r c e (fun y =>
          let y := { y with queue := rest, drains := y.drains ++ [(cmd.vreg, d.1, d.2)] }
          if cmd.clr then cols.foldl EngSt.zero y else y)).showDepths r c e)) ∧
      (cmd.kind = .clear →
        let cols := ledgerColumns cmd.first cmd.last false ++ (if cmd.tally then ledgerColumns cmd.first cmd.last true else [])
        Gives (.clearExecute r c e) s ((b.setEngine r c e (cols.foldl EngSt.zero { x with queue := rest })).showDepths r c e))) ∧
    (∀ v row flags rest, x.drains = (v, row, flags) :: rest →
      Gives (.drainResultWrite r c e) s
        (((b.modEngine r c e (fun y => { y with drains := rest })).modCore r c (fun y => y.put (.v v) row allBitsRow)).setNstat r c
          flags)) ∧
    (∀ cmd rest, x.qmQueue = cmd :: rest → x.qmPass = none → s.queuesRun r c = true →
      (cmd.kind = .qmFire → (∀ q ∈ x.queue, q.kind = .drain ∨ q.kind = .clear → cmd.order ≤ q.order) →
        Gives (.qmPassStart r c e) s ((b.setEngine r c e { x with qmQueue := rest, qmPass := some cmd }).showDepths r c e)) ∧
      (cmd.kind = .qload →
        Gives (.qloadExecute r c e) s ((b.setEngine r c e { x with
          qmQueue := rest,
          qm := SMap.set 0 (SMap.set 0 x.qm (2 * cmd.qrow) (BitVec.ofNat 2048 cmd.data.toNat)) (2 * cmd.qrow + 1)
            (BitVec.ofNat 2048 (cmd.data.toNat / 2 ^ 2048)) }).showDepths r c e))) ∧
    (∀ cmd, x.qmPass = some cmd → s.lvActive = false →
      let sums := (x.qmSums cmd).zipWith (fun (n : Int) (j : Nat) => (256 * cmd.half + j, n)) (List.range 256)
      let y := { x with qmPass := none }.accumulateAll sums true cmd.step cmd.rev
      Gives (.qmPassLatch r c e) s (if y.2 then (b.setEngine r c e y.1).ledgerOvf r c e else b.setEngine r c e y.1))

/-- R129–R143, R159: frames and the checks in them. A frame that the governor takes runs no check; of the others, a frame is an
echo frame, a probe frame or a free one by its number; a check that agrees counts and changes nothing else of the store, and one
that fails notes its event with the step and the revision of the pass. -/
def Obligations.FramesAndChecksTakeEffect : Prop :=
  ∀ (req : Fin 18) (dw : BitVec 26) (v : Word) (r : RidgeId) (c : SiteId) (e : EngineId) (edge : Fin 5) (p : SlabId) (sum : Bool)
    (err : List Int) (s : State),
    let b := s.toBlock
    let x := s.engine r c e
    (let y := s.coreAt r c
     let f := y.frameNo
     let n := y.ranNo
     let t := if f % 16 = 0 then
        (List.range 8).foldl (fun t e => t.setFld (ENG_STAT.GOV_ALLOW r c e) (s.fld (PM_GOV_RSTAT.A r))) b
       else b
     let next : Core := { y with frameNo := f + 1 }
     let ran : Core := { next with ranNo := n + 1, lvHold := false }
     let k := 37 * t.logicalAt r c
     let probe := decide ((n + k) % t.probePeriod r = t.probePeriod r / 2) || y.probeOwed
     let echo := decide (t.echoPeriod r c ≠ 0 ∧ (n + k) % t.echoPeriod r c = 0)
     s.ridgeState r = 0 → y.lvHold = false →
      (frameRuns (f % 16) (t.fld (ENG_STAT.GOV_ALLOW r c 0)) = false → Gives (.frameStart r c) s (t.beginFrame r c next 1)) ∧
      (frameRuns (f % 16) (t.fld (ENG_STAT.GOV_ALLOW r c 0)) = true →
        (echo = true →
          Gives (.frameStart r c) s ((t.beginFrame r c { ran with probeOwed := probe } 3).biasForCheck r c)) ∧
        (echo = false → probe = true →
          Gives (.frameStart r c) s ((t.beginFrame r c { ran with probeOwed := false } 2).biasForCheck r c)) ∧
        (echo = false → probe = false → Gives (.frameStart r c) s (t.beginFrame r c ran 0)))) ∧
    (x.pass = none → s.lvActive = false →
      ((s.coreAt r c).frame = 2 → x.lateBias = false ∨ 2 ≤ edge.val →
        let due := ((List.range 9).map (fun i => (x.lastProbe + 1 + i) % 9)).find? (fun p => s.probeReady r c e p)
        (∀ q, due = some q → Gives (.probeFrame r c e edge) s (s.startProbe r c e q)) ∧
        (due = none → Gives (.probeFrame r c e edge) s (s.addReg (ENG_PROBE_MISS r c e) 1))) ∧
      ((s.coreAt r c).frame = 3 → ∀ h mirror en, echoEdge x.lateBias edge.val = some (h, mirror) → x.history[h]? = some en →
        (mirror = true → s.mirrors r c e en.pslab = true) →
        Gives (.echoFrame r c e edge) s
          (s.setEngine r c e { x with pass := some (.echo en (if mirror then 8 else en.pslab)) }))) ∧
    (err.length = 544 →
      (∀ q step rev, x.pass = some (.probe q step rev) →
        let u := (b.modEngine r c e (fun y => { y with pass := none })).probeRun r c e q err
        (u.2 = [] → Gives (.probeCompare r c e err) s u.1) ∧
        (∀ first rest, u.2 = first :: rest → Gives (.probeCompare r c e err) s
          ((u.1.failedCheck r step rev).noteEvent r
            ⟨c.val, e.val, q, 2, step, rev, first, (s.dueProbe r c e q).rows, (u.1.reg (ENG_PROBE_LAST r c e)).toNat, 0⟩))) ∧
      (∀ en q, x.pass = some (.echo en q) →
        let u := (b.modEngine r c e (fun y => { y with pass := none })).echoRun r c e q en err
        (u.2 = [] → Gives (.echoCompare r c e err) s u.1) ∧
        (u.2 ≠ [] → Gives (.echoCompare r c e err) s
          ((u.1.failedCheck r en.cmd.step en.cmd.rev).noteEvent r
            ⟨c.val, e.val, en.pslab, 3, en.cmd.step, en.cmd.rev, 0, [], u.2.foldl (fun n x => n * 1024 + 512 + x.2) 0, 0⟩)))) ∧
    (let i := probeIndex p (if sum then 1 else 0)
     let n := SMap.get 0 x.fills i
     let row := n % 512
     let en : ProbeEntry :=
       ⟨if sum then BitVec.allOnes 32 else BitVec.ofNat 32 (2 ^ (row % 32)), if sum then n % 16 else row / 32, if sum then 2 else 1,
        n % 65536, []⟩
     (SMap.get ProbeEntry.none x.probes i).kind = 0 → (s.slab r c e p).state.probed = true →
      Gives (.probeEntryRefill r c e p sum) s (s.setEngine r c e { x with
        fills := SMap.set 0 x.fills i (n + 1),
        probes := SMap.set ProbeEntry.none x.probes i { en with codes := s.expectCodes r c e p en.rows } })) ∧
    WriteGives (.blockTableWrite req dw v) s req dw v .engine [0x80, 0x88]
      (fun t page _ _ => SMap.find (ridgeOfPage page) t.mig = none)
      (fun t page off idx =>
        let r := ridgeOfPage page
        let c := ((page - 4096) % 1024 - 256) / 16
        let e := ((page - 4096) % 1024 - 256) % 16 - 1
        let key := regKey page off idx
        let old := (SMap.find key (t.engine r c e).shadow).getD (t.reg key)
        (t.modEngine r c e (fun x => { x with
          shadow := SMap.ins (regKey (engPage r c e) off idx) (t.written page off old v) x.shadow })).setBit
          (ENG_SHADOW.PENDING r c e) true)

/-! ## Scratchpads, the cache tier and the die's network -/

/-- R306–R345: the scratchpad's local pipeline and shared phase, rows arriving at regions, enabling and disabling a region or a
pool, and the cache tier's accesses, scrub, refresh and regions. What a region shows of its pointers after it is disabled is a
free value of the model, so that part of a disable names no number. -/
def Obligations.ScratchpadAndCacheTakeEffect : Prop :=
  ∀ (req : Fin 18) (dw : BitVec 26) (v : Word) (r : RidgeId) (c : SiteId) (h : StackId) (k : Nat) (p : Packet) (withCore last : Bool)
    (words : List (Fin 64)) (cws : List (Fin 8)) (s t : State),
    let b := s.toBlock
    let spadSite (page : Nat) := (page - 4096) % 1024 / 16 - 16
    let writes (i : Instr) := WriteGives i s req dw v
    ((s.coreAt r c).accesses ≠ [] → Gives (.localRowAccess r c k words) s (s.localAccess r c k words)) ∧
    (∀ rest row x, (s.coreAt r c).accesses = .store row x :: rest →
      Gives (.localRowAccess r c k words) s ((b.modCore r c (fun y => { y with accesses := rest })).writeRow r c row x allWords)) ∧
    (∀ rest row vr, (s.coreAt r c).accesses = .load row vr :: rest →
        let u := (b.modCore r c (fun y => { y with accesses := rest })).rowEcc r c row k words
        Gives (.localRowAccess r c k words) s
          ((u.modCore r c (fun x => x.put (.v vr) (u.readRow r c row) allBitsRow)).spadUe r c row)) ∧
    (∀ q rest, (s.spadAt r c).queue = q :: rest →
      Gives (.sharedPhaseAccess r c withCore k words) s
        (((b.modSpad r c (fun x => { x with queue := rest })).setFld (SP_STAT.SHARED_DEPTH r c) rest.length).serveShared r c q withCore k
          words)) ∧
    (b.arrive p = (t.toBlock, true) → p.dst.unit < 16 → p.dstCore < 32 → p.addr < 64 →
      let x := p.dst.unit
      let y := t.siteOf x p.dstCore
      t.regionRefuses x y p.addr = none →
        (p.op = .batchRow → Gives (.regionArrival p withCore) s (t.produceRow x y p.addr p.data (t.sourceId x p) withCore)) ∧
        (p.op = .mdisp → t.rowGranted p (t.fld (CR_STAT.TAIL x y p.addr)) true = true →
          Gives (.mdispArrival p withCore) s
            ((t.produceRow x y p.addr p.data (t.sourceId x p) withCore).reply p .completion 0 0))) ∧
    writes (.crCtlWrite req dw v) .spad [0x60]
      (fun t page off g => getBits v 0 1 = 1 ∧ getBits (t.reg (regKey page off g)) 0 1 = 0)
      (fun t page off g =>
        let key := regKey page off g
        (t.setReg key (putBits (t.written page off (t.reg key) v) 0 1 0)).enableRegion (ridgeOfPage page) (spadSite page) g) ∧
    writes (.crCtlWrite req dw v) .spad [0x60]
      (fun t page off g => getBits v 0 1 = 0 ∧ getBits (t.reg (regKey page off g)) 0 1 = 1)
      (fun t page off g =>
        let key := regKey page off g
        (t.setReg key (putBits (t.written page off (t.reg key) v) 0 1 1)).disableRegion (ridgeOfPage page) (spadSite page) g) ∧
    (∀ (u : Block) (x : Nat), 1 ≤ u.fld (CR_CFG.SIZE r c x) → u.fld (CR_CFG.BASE r c x) + u.fld (CR_CFG.SIZE r c x) ≤ 4096 →
      let base := u.fld (CR_CFG.BASE r c x)
      let w := u.modSpad r c (fun y => { y with reserved := SMap.del x y.reserved, headAhead := SMap.del x y.headAhead })
      u.enableRegion r c x =
        ((((w.setFld (CR_STAT.HEAD r c x) base).setFld (CR_STAT.TAIL r c x) base).setFld (CR_COUNT.COUNT r c x) 0).setBit
          (CR_CTL.EN r c x) true).showRegion r c x) ∧
    writes (.poolEnable req dw v) .spad [0x78]
      (fun t page _ p => getBits v 0 1 = 1 ∧ t.fld (POOL_CFG.BUF_ROWS (ridgeOfPage page) (spadSite page) p) ≠ 0 ∧
        t.bit (CR_CTL.EN (ridgeOfPage page) (spadSite page) (t.fld (POOL_CFG.REGION (ridgeOfPage page) (spadSite page) p))) = true)
      (fun t page _ p => let r := ridgeOfPage page
        let c := spadSite page
        let u := (t.setBit (POOL_CTL.EN r c p) true).modSpad r c (fun x => { x with freed := SMap.del p x.freed })
        u.send (cellPacket (u.sourceOf r) (u.logicalAt r c) (u.sourceOf r) (u.fld (POOL_CFG.CELL r c p)) .notify
          (BitVec.ofNat 32 (u.fld (CR_CFG.SIZE r c (t.fld (POOL_CFG.REGION r c p))) / t.fld (POOL_CFG.BUF_ROWS r c p))))) ∧
    writes (.poolEnable req dw v) .spad [0x78] (fun _ _ _ _ => getBits v 0 1 = 0)
      (fun t page _ p => t.setBit (POOL_CTL.EN (ridgeOfPage page) (spadSite page) p) false) ∧
    (∀ q, (s.stackQueue h)[k]? = some q → (∀ e ∈ (s.stackQueue h).take k, e.unit ≠ q.unit) →
      Gives (.cacheAccess h k k cws) s ((s.setStackQueue h ((s.stackQueue h).eraseIdx k)).serveUnit q k cws)) ∧
    (∀ unit, s.bit (CT_CTL.SCRUB_EN h) = true → s.stackQueue h = [] → unit < cacheUnits → stackOf unit = h →
      let u := s.unitEcc unit k cws
      Gives (.cacheScrub h unit k cws last) s
        (if last then u.setFld (CT_SCRUB.PASSES h) (u.fld (CT_SCRUB.PASSES h) + 1) else u)) ∧
    Gives (.hbmRefresh h) s s.toBlock ∧
    writes (.cacheRegionWrite req dw v) .cacheTier [0x4C]
      (fun t page _ i => i ≠ 63 ∧ t.locked page = false ∧ getBits v 0 1 = 0)
      (fun t _ _ i => (if t.bit (CT_REG_CTL.VALID i) then t else t.setFld (CT_REG_CTL.OWNER i) (getBits v 8 5)).setBit
        (CT_REG_CTL.VALID i) false) ∧
    writes (.cacheRegionWrite req dw v) .cacheTier [0x4C]
      (fun t page _ i => let u := t.setFld (CT_REG_CTL.OWNER i) (getBits v 8 5)
        i ≠ 63 ∧ t.locked page = false ∧ getBits v 0 1 = 1 ∧ t.bit (CT_REG_CTL.VALID i) = false ∧
        u.fld (CT_REG_BASE.BASE_G i) ≤ u.fld (CT_REG_LIMIT.LIMIT_G i) ∧ u.regionOverlaps i = false ∧ u.fld (CT_REG_CTL.OWNER i) ≤ 16)
      (fun t _ _ i => ((t.setFld (CT_REG_CTL.OWNER i) (getBits v 8 5)).setBit (CT_REG_CTL.VALID i) true).setBit
        (CT_REG_CTL.OVERLAP i) false)

/-- R358–R377: a packet of this die that has been sent is taken by its destination interface; one for another die leaves by the
fabric; routes change once the packets of the old routes have drained; a saddle flit with a bad check is sent again, and a good
one counts the lanes that were corrected. -/
def Obligations.NetworkTakesEffect : Prop :=
  ∀ (p : Packet) (busy withCore : Bool) (k us : Nat) (words : List (Fin 64)) (cws : List (Fin 8)) (west east : Bool)
    (holes : List (Fin 2 × Fin 19 × Word)) (seams : List (Fin 16)) (unreachable : List (RidgeId × SiteId))
    (link : Fin 16) (dir : Fin 2) (lanes : List (Fin 2408 × Nat)) (again : Bool) (s : State),
    let b := s.toBlock
    let i := link.val + 16 * dir.val
    (s.isSent p = true → p.dst.die ≠ s.fld FAB_SELF.COORD →
      Gives (.packetDelivery p busy withCore k words cws) s (s.toFabric p)) ∧
    (s.isSent p = true → p.dst.die = s.fld FAB_SELF.COORD → s.bit (NET_STAT.SPLIT 0) = false →
      let takes (i : Instr) : Prop := exec (.packetDelivery p busy withCore k words cws) s = exec i s
      (p.op = .getReq → takes (.getRequest p busy k words cws)) ∧
      (p.op = .putReq → takes (.putRequest p busy k words cws)) ∧
      (p.op = .completion → takes (.remoteCompletion p)) ∧
      (p.op = .getData → takes (.getData p withCore k words)) ∧
      (p.op = .mdisp → takes (.mdispArrival p withCore)) ∧
      (p.op = .batchRow → takes (.regionArrival p withCore)) ∧
      (p.op = .syncAnswer → takes (if p.arg = 6 then .wakeDelivery p else .syncAnswer p)) ∧
      (p.op = .commitMsg → takes (if p.dst.unit = 16 then .finalCommit p else .commit p)) ∧
      (p.op = .retractMsg → takes (if p.dst.unit = 16 then .servingRetract p else .retract p)) ∧
      (p.op = .slotLoss → takes (.slotLossNotice p)) ∧
      (p.op = .emit → takes (.emitArrival p)) ∧
      (p.op = .drvBeat → takes (.droverBeatArrival p k words cws withCore)) ∧
      (p.op = .syncOp → p.dst.unit < 16 →
        Gives (.packetDelivery p busy withCore k words cws) s
          ((s.arriveOps p.dst.unit p.addr [p]).1.cellCycle p.dst.unit p.addr (s.arriveOps p.dst.unit p.addr [p]).2))) ∧
    (let change : RouteChange := ⟨west, east, holes.map (fun h => (h.1.val, h.2.1.val, h.2.2)), seams.map (·.val),
      unreachable.map (fun x => (x.1.val, x.2.val))⟩
     s.net.change = none →
      Gives (.routeChange west east holes seams unreachable) s { b with net := { s.net with change := some change } }) ∧
    (∀ c, s.net.change = some c →
      let t := { b with net := { s.net with change := none } }
      let t := if c.west then t.installRoutes 0 c us else t
      let t := if c.east then t.installRoutes 1 c us else t
      Gives (.routeDrained us) s (if 16 ≤ c.seams.eraseDups.length then t.splitDie else t)) ∧
    (s.fld (SAD_LINK_STAT.STATE i) = 0 →
      let t := (s.addSat (SAD_LINK_STAT.REPLAYS i) 1).raise (diePage 24) Irq.saddle_REPLAY
      Gives (.saddleFlitReceive link dir lanes true again) s (if again then t.retireLink link else t) ∧
      Gives (.saddleFlitReceive link dir lanes false again) s
        (lanes.foldl (fun t l =>
          if l.2 ≥ max 1 (s.fld SAD_CTL.LANE_THRESH) ∧ t.fld (SAD_LINK_STAT.STATE i) = 0 then t.laneFails link dir l.1 else t)
          (s.addReg (SAD_CORR i) lanes.length))) ∧
    Gives (.saddleResend link dir) s s.toBlock

/-! ## The herd fabric -/

/-- R409–R432: frames on a port, the herd tick, swapping a flow table, membership generations and notices. -/
def Obligations.FabricTakesEffect : Prop :=
  ∀ (req : Fin 18) (dw : BitVec 26) (v : Word) (p : PortId) (f : Frame) (corrected : Nat) (slot : Fin 125)
    (markers : List (PortId × BitVec 64 × BitVec 8 × Int)) (bank : Bool) (tick : BitVec 64) (g : BitVec 16) (mask : BitVec 256)
    (q : Packet) (s t : State),
    let b := s.toBlock
    let x := s.port p
    let writes (i : Instr) := WriteGives i s req dw v
    (s.portUp p = true →
      let seen (bad auth : Nat) : Block :=
        let t := ((b.addReg (FP_FEC_CORR p) corrected).addReg (FP_FEC_UNCORR p) bad).modPort p (fun x => { x with
          corrWin := x.corrWin + corrected, uncorrWin := x.uncorrWin + bad, authWin := x.authWin + auth })
        { t with cairn := { t.cairn with newFec := SMap.set 0 t.cairn.newFec p (SMap.get 0 t.cairn.newFec p + corrected) } }
      (f.traverse = false → f.fseq = (((seen 0 0).port p).rxSeq + 1) % 65536 →
        Gives (.frameReceive p f corrected 0 true slot) s
          (f.cells.foldl (fun t c => t.takeCell p c) ((seen 0 0).modPort p (fun x => { (x.header f) with rxSeq := f.fseq })))) ∧
      (f.traverse = true →
        let u := (seen 0 0).modPort p (fun x => { (x.header f) with rxSeq := f.fseq })
        Gives (.frameReceive p f corrected 0 true slot) s (f.cells.foldl (fun t c => t.takeCell p c)
          (match u.activeEntry p 1 slot with
           | some entry => u.addReg (FP_FLOW_MISMATCH p) (flowMismatches entry f.cells)
           | none => u))) ∧
      (∀ n, 0 < n → s.fld (FP_STAT.MODE p) ≠ 1 →
        Gives (.frameReceive p f corrected n true slot) s ((seen n 0).modPort p (fun x => { x with nak := true })))) ∧
    (s.portUp p = true → s.bit FAB_STAT.MEMBER = true →
      (∀ old rest, x.resend = old :: rest →
        Gives (.frameTransmit p slot) s ((b.modPort p (fun x => { x with resend := rest, nak := false })).addReg (FP_RETRY p) 1)) ∧
      (x.resend = [] →
        let traverse := decide (s.fld (FP_STAT.MODE p) = 1)
        let y := x.compose (if traverse then s.activeEntry p 0 (s.tickNo * 125 + slot.val) else none) (3 * slot.val)
        let seq := (x.txSeq + 1) % 65536
        let out : Frame := ⟨seq, x.rxSeq, x.nak, traverse, x.returns.map (min 4095 ·), y.2⟩
        let log := x.log ++ [out]
        Gives (.frameTransmit p slot) s (s.modPort p (fun _ => { y.1 with
          txSeq := seq, nak := false, returns := x.returns.map (fun n => n - min 4095 n), log := log.drop (log.length - 128) })))) ∧
    (q.op = .slotLoss → q.dst.unit < 16 → b.arrive q = (t.toBlock, true) →
      Gives (.slotLossNotice q) s (t.failedOldest q.dst.unit)) ∧
    (let u := { b with fab := { s.fab with tickSet := none, missing := 0 } }.setBit FAB_STAT.SYNC_LOST false
     Gives (.herdSyncPulse markers) s (u.newTick (s.fab.tickSet.getD (s.tickNo + 1)) markers)) ∧
    (let u := { b with fab := { s.fab with missing := min 3 (s.fab.missing + 1) } }
     (s.fab.missing < 2 → Gives (.herdSyncMissing markers) s u) ∧
     (2 ≤ s.fab.missing → s.bit FAB_STAT.SYNC_LOST = true → u.bit FAB_STAT.SYNC_LOST = true →
       Gives (.herdSyncMissing markers) s (u.newTick (u.tickNo + 1) markers))) ∧
    writes (.tickSetWrite req dw v) .fabric [0xA0] (fun _ _ _ _ => True)
      (fun t page off _ =>
        let u := t.storeAt req page off v
        { u with fab := { u.fab with tickSet := some (u.pair FAB_TICK_SET_LO FAB_TICK_SET_HI) } }) ∧
    writes (.swapArm req dw v) .port [0x90] (fun _ _ _ _ => True)
      (fun t page off _ => (t.storeAt req page off v).armSwap (page - 26)) ∧
    (let u := b.modPort p (fun x => { x with notice := some (if bank then 1 else 0, tick.toNat) })
     (x.armed = none → Gives (.swapNotice p bank tick) s u) ∧
     (∀ bank' mine, x.armed = some (bank', mine) →
       Gives (.swapNotice p bank tick) s (if mine ≠ tick.toNat then u.addReg (FP_FLOW_MISMATCH p) 1 else u))) ∧
    writes (.schedEntryWrite req dw v) .port [0x84] (fun _ _ _ _ => True)
      (fun t page off _ => (t.storeAt req page off v).setFld (FP_SCHED_SEL.INDEX (page - 26)) (t.fld (FP_SCHED_SEL.INDEX (page - 26)) + 1)) ∧
    writes (.genCmd req dw v) .fabric [0x90] (fun t _ _ _ => genNewer (getBits v 0 16) (t.fld FAB_GEN.GEN) = true)
      (fun t _ _ _ => (t.adopt (getBits v 0 16) t.noticeMask).noticeAll 10 (getBits v 0 16) t.noticeMask) ∧
    (3 ≤ s.portState p → s.portState p ≠ 14 →
      (genNewer g.toNat (s.fld FAB_GEN.GEN) = true →
        Gives (.genNotice p g mask) s ((b.adopt g.toNat mask.toNat).noticeAll p g.toNat mask.toNat) ∧
        Gives (.strayNotice p g mask) s (b.adopt g.toNat mask.toNat)) ∧
      (genNewer g.toNat (s.fld FAB_GEN.GEN) = false → g.toNat = s.fld FAB_GEN.GEN → mask.toNat ≠ s.memberMask →
        Gives (.genNotice p g mask) s ((s.raise (diePage 25) Irq.fabric_GEN_CONFLICT).signature 14 0 0
          (location none none none none none none (some p.val) none none) 0 0 0 g.toNat))) ∧
    (∀ y, s.fab.unsaved = some y → Gives .genPersist s { b with fab := { s.fab with saved := y, unsaved := none } }) ∧
    Gives .genGraceEnd s { b with fab := { s.fab with grace := false } }

/-- R392–R408, R426, R610, R611: bringing a port up, its plan check, its keys, errors, retraining and width changes. -/
def Obligations.PortsTakeEffect : Prop :=
  ∀ (req : Fin 18) (dw : BitVec 26) (v : Word) (p : PortId) (lanes type : BitVec 8) (lane : Fin 8) (hello : Hello)
    (serial : BitVec 128) (moduleOk : Bool) (sn : BitVec 64) (svn : BitVec 8) (tick : BitVec 64) (coord : BitVec 9) (root : Option (BitVec 384)) (s : State),
    let b := s.toBlock
    let x := s.port p
    let st := s.portState p
    let fails := (b.portDetect p).raise (portPage p) Irq.port_TRAIN_FAIL
    let good := s.fld (FP_STAT.LANES_GOOD p)
    let commands (i : Instr) (op : Nat) (when : Block → Nat → Prop) (effect : Block → Nat → Block) : Prop :=
      WriteGives i s req dw v .port [0x48] (fun t page _ _ => getBits v 0 4 = op ∧ when t (page - 26)) (fun t page _ _ => effect t (page - 26))
    (s.dieActive = true →
      (s.bit (FAB_PLAN_PEER.USE p) = false →
        Gives (.signalDetect p lanes) s (s.portTo p 0) ∧ Gives (.portDetectRetry p false) s (s.portTo p 0)) ∧
      (s.bit (FAB_PLAN_PEER.USE p) = true → st ≤ 1 →
        Gives (.signalDetect p lanes) s (s.portTo p (if anyPair lanes.toNat then 2 else 1)) ∧
        Gives (.portDetectRetry p false) s (s.portTo p 1) ∧
        Gives (.portDetectRetry p true) s ((s.portTo p 1).raise (portPage p) Irq.port_TRAIN_FAIL))) ∧
    (st = 2 → Gives (.eqDone p) s (s.portTo p 3)) ∧
    (st = 3 →
      Gives (.alignDone p lanes true) s (s.raise (portPage p) Irq.port_LANE_ORDER) ∧
      (linkLanes lanes.toNat ≠ 0 →
        let t := b.setWidth p lanes.toNat
        Gives (.alignDone p lanes false) s (t.portTo p (if t.bit FAB_CTL.PLAN_LOADED then 5 else 4)))) ∧
    (st = 2 ∨ st = 3 ∨ st = 5 ∨ st = 6 ∨ st = 7 → Gives (.trainTimeout p) s fails) ∧
    WriteGives (.planLoaded req dw v) s req dw v .fabric [0x40] (fun _ _ _ _ => True)
      (fun t page off _ =>
        let t := t.storeAt req page off v
        if t.bit FAB_CTL.PLAN_LOADED then (List.range 10).foldl (fun t p => if t.portState p = 4 then t.portTo p 5 else t) t else t) ∧
    WriteGives (.planEntryWrite req dw v) s req dw v .fabric [0xAC, 0xB0, 0xB4, 0xB8, 0xBC] (fun _ _ _ _ => True)
      (fun t page off _ =>
        let p := t.fld FAB_PLAN_SEL.PORT
        let t := t.storeAt req page off v
        if p ≤ 9 ∧ t.portState p = 9 then t.planCheck p (t.port p).moduleOk else t) ∧
    (st = 5 → Gives (.hello p hello serial moduleOk) s ((b.helloCheck p hello serial moduleOk).strayCheck p hello)) ∧
    (st = 6 ∨ st = 9 ∨ st = 10 → Gives (.hello p hello serial moduleOk) s (b.helloCheck p hello serial moduleOk)) ∧
    (st = 8 → x.first = some (hello.coord, hello.port, hello.serial) →
      Gives (.hello p hello serial moduleOk) s ((b.setReg (FP_PEER_FW p) (BitVec.ofNat 32 hello.fw)).strayCheck p hello)) ∧
    (st = 8 → x.first ≠ some (hello.coord, hello.port, hello.serial) →
      Gives (.hello p hello serial moduleOk) s (s.portTo p 6)) ∧
    (st = 7 ∨ st = 8 →
      (s.fld (FP_PEER.COORD p) < 256 → sn.toNat = s.pair (FP_PEER_SN_LO p) (FP_PEER_SN_HI p) →
        s.fld (TR_LINK_SVN.MIN 16) ≤ svn.toNat →
        Gives (.keyOffer p true none sn svn) s (s.modPort p (fun x => { x with offered := true }))) ∧
      (∀ d : BitVec 384, 256 ≤ s.fld (FP_PEER.COORD p) → s.tr.roots.contains d.toNat = true → s.fld (TR_LINK_SVN.MIN 16) ≤ svn.toNat →
        Gives (.keyOffer p true (some d) sn svn) s (s.modPort p (fun x => { x with offered := true }))) ∧
      Gives (.keyOffer p false root sn svn) s (s.holdAuth p) ∧
      (x.offered = true → Gives (.keyConfirm p tick false) s (s.holdAuth p)) ∧
      (x.offered = true →
        let t := b.modPort p (fun x => { x with offered := false, nextKey := some tick.toNat })
        Gives (.keyConfirm p tick true) s
          (if st = 7 then ((t.portTo p 8).raise (portPage p) Irq.port_UP).calPortUp p else t))) ∧
    (s.portUp p = true →
      Gives (.linkRekey p) s ((b.modPort p (fun x => { x with offered := false })).linkMsg p 9 0 0) ∧
      (x.asked = none →
        Gives (.retrainReq p coord) s ((b.modPort p (fun x => { x with agreed := some (2, 0) })).linkMsg p 4 2 0) ∧
        Gives (.widthReq p coord lanes) s ((b.modPort p (fun x => { x with agreed := some (3, lanes.toNat) })).linkMsg p 4 3 0)) ∧
      (∀ n, x.agreed = some (type.toNat, n) →
        Gives (.reqWithdraw p type) s (s.modPort p (fun x => { x with agreed := none })))) ∧
    (∀ n, x.asked = some (type.toNat, n) →
      Gives (.reqAck p type) s (s.modPort p (fun x => { x with asked := none, agreed := some (type.toNat, n) }))) ∧
    (let t := b.modPort p (fun x => { x with corrWin := 0, uncorrWin := 0, authWin := 0 })
     Gives (.errorWindow p) s
      (if x.corrWin > s.fld (FP_RETRAIN_THRESH.THRESH p) ∨ x.uncorrWin ≥ 4 then t.askPeer p 2 0 else t)) ∧
    (good.testBit lane.val = true →
      let t := b.setFld (FP_STAT.LANES_GOOD p) (good - 2 ^ lane.val)
      Gives (.laneSignalLoss p lane) s
        (if (linkLanes good).testBit lane.val then t.askPeer p 3 (linkLanes (good - 2 ^ lane.val)) else t)) ∧
    (linkLanes lanes.toNat ≠ 0 →
      (st = 12 → Gives (.retrainDone p lanes) s ((b.setWidth p lanes.toNat).portTo p 5)) ∧
      (st = 13 → Gives (.widthChangeDone p lanes) s ((b.setWidth p lanes.toNat).portTo p 8))) ∧
    (linkLanes lanes.toNat = 0 →
      (st = 12 → Gives (.retrainDone p lanes) s fails) ∧ (st = 13 → Gives (.widthChangeDone p lanes) s fails)) ∧
    commands (.portRetrain req dw v) 1 (fun _ _ => True) (fun t p => t.askPeer p 2 0) ∧
    commands (.portRestore req dw v) 2 (fun _ _ => True) (fun t p => t.askPeer p 2 0xFF) ∧
    commands (.portDown req dw v) 3 (fun t p => t.portState p ≠ 0) (fun t p => t.portTo p 14) ∧
    commands (.portUp req dw v) 4 (fun t p => t.portState p = 14 ∨ t.portState p = 11 ∨ t.portState p = 10) (fun t p => t.portDetect p)

/-! ## The drovers and residency -/

/-- R440–R464: a submission waits in its channel's queue and starts in order; a stop empties the queue and ends the entry; a beat
is granted to the ready channel whose turn it is, lands, answers or fails with its code, and completes its descriptor. -/
def Obligations.DroversTakeEffect : Prop :=
  ∀ (req : Fin 18) (dw : BitVec 26) (v : Word) (k : Fin 17) (ch : Fin 64) (i off n status : Nat) (data : Row) (outside : BitVec 512)
    (p : Packet) (reply : Option Packet) (withCore : Bool) (words : List (Fin 64)) (cws : List (Fin 8)) (s t : State),
    let b := s.toBlock
    let x := s.chan k ch
    let writes (i : Instr) (when : Block → Nat → Nat → Prop) (effect : Block → Nat → Nat → Block) : Prop :=
      WriteGives i s req dw v .drvCh ((List.range 16).map (fun k => 0x11C + 0x40 * k))
        (fun t page off _ => when (t.storeAt req page off v) (droverOf page off).1 (droverOf page off).2)
        (fun t page off _ => effect (t.storeAt req page off v) (droverOf page off).1 (droverOf page off).2)
    writes (.droverGo req dw v)
      (fun t k ch => v.getLsbD 0 = true ∧ (k = 16 → ch < 48) ∧ t.chanFull k ch = false)
      (fun t k ch => (t.submit k ch (t.regSubmission k ch)).startEntry k ch) ∧
    writes (.droverGo req dw v)
      (fun t k ch => v.getLsbD 0 = true ∧ ((k = 16 ∧ 48 ≤ ch) ∨ t.chanFull k ch = true))
      (fun t k _ => t.raise (drvCtlPage k) 1) ∧
    writes (.droverStop req dw v) (fun _ _ _ => v.getLsbD 5 = true)
      (fun t k ch => let y := t.chan k ch
        (t.setChan k ch { y with queue := [], descs := y.descs.take 1 }).abortChan k ch 12 false) ∧
    (let u := b.startEntry k ch
     ∀ a, (u.chan k ch).fetch = some a →
      (chainPlace k.val a = false → Gives (.descriptorFetch k ch (some outside) n words cws) s (u.chainBroken k ch)) ∧
      (chainPlace k.val a = true → u.beatBar k ch a 64 false = none →
        (addrSpace a = 0 ∨ addrRemote a = true →
          Gives (.descriptorFetch k ch (some outside) n words cws) s (u.takeDesc k ch a outside) ∧
          Gives (.descriptorFetch k ch none n words cws) s (u.chainError k ch (if addrRemote a then 6 else 1))) ∧
        (addrSpace a ≠ 0 → addrRemote a = false → addrOnRidge a = false →
          let read := u.beatRead a 64 n words cws
          (read.2.1 = 0 → Gives (.descriptorFetch k ch none n words cws) s (read.1.takeDesc k ch a (read.2.2.setWidth 512))) ∧
          (read.2.1 ≠ 0 → Gives (.descriptorFetch k ch none n words cws) s (read.1.chainError k ch read.2.1))))) ∧
    (let u := if k.val = 16 then (b.startAll k).pumpStreams else b.startAll k
     ∀ c, u.grantChannel k = some c → Gives (.beatGrant k n words cws) s (u.grantBeat k c n words cws)) ∧
    (s.fld (DRV_CTL.STARVE_US k) ≠ 0 → channelExists k ch = true → s.beatReady k ch = true →
      Gives (.starveGrant k ch n words cws) s ((s.addReg (DRV_STARVE k) 1).issueBeat k ch n words cws)) ∧
    (∀ d e beat, x.descs[i]? = some d → x.current = some e → d.out.find? (fun y => decide (y.1 = off)) = some (off, beat) →
      (beat = none → addrSpace (addrAt d.desc.src off) = 0 → status ≠ 0 →
        Gives (.beatComplete k ch i off status data reply withCore) s (s.finishBeat k ch i off 1 false)) ∧
      (beat = none → addrSpace (addrAt d.desc.src off) = 0 → status = 0 → addrRemote (addrAt d.desc.dst off) = false →
        Gives (.beatComplete k ch i off status data reply withCore) s (s.landBeat k ch i off d data withCore)) ∧
      (∀ u a, beat = none → addrSpace (addrAt d.desc.src off) ≠ 0 → s.beatReply ch d off reply = some (u, a) → a.op = .getData →
        addrRemote (addrAt d.desc.dst off) = false →
        Gives (.beatComplete k ch i off status data reply withCore) s (u.landBeat k ch i off d a.data withCore)) ∧
      (∀ y, beat = some y → addrRemote (addrAt d.desc.dst off) = false →
        Gives (.beatComplete k ch i off status data reply withCore) s (s.landBeat k ch i off d y withCore)) ∧
      (∀ y u a, beat = some y → addrRemote (addrAt d.desc.dst off) = true → s.beatReply ch d off reply = some (u, a) →
        Gives (.beatComplete k ch i off status data reply withCore) s (u.finishBeat k ch i off (remoteCode a.status) false))) ∧
    (∀ d, x.descs[i]? = some d → d.out.any (fun e => decide (e.1 = off)) = true → addrSpace d.desc.dst ≠ 3 →
      Gives (.beatTimeout k ch i off) s ((s.finishBeat k ch i off 10 false).raise (drvCtlPage k) 2)) ∧
    (∀ d rest, x.descs = d :: rest → d.issued = true → d.out = [] →
      let y := { s.droverAt k with draining := (s.droverAt k).draining.filter (fun e => decide (e.1 ≠ ch.val)) }
      Gives (.descriptorComplete k ch) s ({ b with drv := SMap.set Drover.reset s.drv k y }.completeDesc k ch)) ∧
    (s.fld (CH_COAL.TIME k ch) ≠ 0 → x.coalesced ≠ 0 → channelExists k ch = true →
      Gives (.coalesceTimer k ch) s ((s.setChan k ch { x with coalesced := 0 }).raise (drvChPage k ch) (ch.val % 16))) ∧
    (p.op = .drvBeat → 1 ≤ addrSpace p.addr → addrSpace p.addr < 5 → b.arrive p = (t.toBlock, true) →
      let write := decide (p.arg % 2 = 1)
      let len := p.arg / 2 % 2 ^ 15
      let a := p.beatAddr
      t.beatRefused p len write = none →
        (∀ u w lost, write = true → t.beatWrite a len p.data (t.sourceId (addrRidge a) p) withCore = (u, w, lost) →
          Gives (.droverBeatArrival p n words cws withCore) s (u.reply p .completion (if w = 0 then 0 else 4) 0)) ∧
        (∀ u w y, write = false → t.beatRead a len n words cws = (u, w, y) →
          Gives (.droverBeatArrival p n words cws withCore) s
            (if w = 0 then u.reply p .getData 0 y else u.reply p .completion 4 0)))

/-- R465–R499: parcels and their records, flips of a ridge's version, rebuilds, exports and the layer map. -/
def Obligations.ResidencyTakesEffect : Prop :=
  ∀ (req : Fin 18) (dw : BitVec 26) (v : Word) (n : Fin 4) (code : Nat) (h : BitVec 1024) (tagOk : Bool) (d : BitVec 512)
    (params : BitVec 2048) (data : Nat) (r : RidgeId) (c : SiteId) (e : EngineId) (p : SlabId) (rowErr sumErr : List Int) (s : State),
    let b := s.toBlock
    let writes (i : Instr) := WriteGives i s req dw v .residency
    writes (.parcelGo req dw v) [0x58] (fun t _ _ n => v.getLsbD 0 = true ∧ t.fld (RZ_P_STAT.STATE n) ≠ 1)
      (fun t _ _ n =>
        let u := ((t.setReg (RZ_P_STAT n) 1).setReg (RZ_P_OK n) 0).setReg (RZ_P_FAIL n) 0
        ((u.setReg (RZ_P_FIRST_ERR n) 0).setParcel n Parcel.start).showSlots) ∧
    (∀ q, writes (.parcelStop req dw v) [0x58]
        (fun t _ _ n => v.getLsbD 1 = true ∧ t.fld (RZ_P_STAT.STATE n) = 1 ∧ SMap.find n t.res.parcels = some q ∧ q.accepted = true)
        (fun t _ _ n => t.endFetch n q) ∧
      writes (.parcelStop req dw v) [0x58]
        (fun t _ _ n => v.getLsbD 1 = true ∧ t.fld (RZ_P_STAT.STATE n) = 1 ∧ SMap.find n t.res.parcels = some q ∧ q.accepted = false)
        (fun t _ _ n => ((({ t with res := { t.res with parcels := SMap.del n t.res.parcels } }).setFld (RZ_P_STAT.STATE n)
          2).showSlots).raise (diePage 12) Irq.residency_PARCEL_DONE)) ∧
    (∀ q, SMap.find n.val s.res.parcels = some q → q.accepted = false →
      let f (lo w : Nat) : Nat := h.toNat / 2 ^ lo % 2 ^ w
      let space := addrSpace (s.pair (RZ_P_ADDR_LO n) (RZ_P_ADDR_HI n))
      (code ≠ 0 ∨ 1 < space → Gives (.parcelHeader n code h) s (s.refuseParcel n 4)) ∧
      (code = 0 → space ≤ 1 → s.headerCode h ≠ 0 → Gives (.parcelHeader n code h) s (s.refuseParcel n (s.headerCode h))) ∧
      (code = 0 → space ≤ 1 → s.headerCode h = 0 →
        Gives (.parcelHeader n code h) s (s.setParcel n { q with
          accepted := true, ver := f 48 1, model := f 64 32, records := f 96 32, keySlot := f 128 8, nonce := f 160 96 }))) ∧
    (∀ q, SMap.find n.val s.res.parcels = some q → q.accepted = true → q.stopped = false → q.next < q.records →
      s.bit RZ_CTL.EN = true →
      let x := parseRecord d params data
      let i := q.next
      let q' : Parcel := { q with next := i + 1, pos := q.pos + recordBytes (min 8 x.width) }
      let close (t : Block) : Block := if i + 1 = q.records then t.closeNaming n else t
      (q'.pos > (s.reg (RZ_P_LEN n)).toNat * 64 → Gives (.recordDecrypt n tagOk d params data) s (s.endFetch n q)) ∧
      (q'.pos ≤ (s.reg (RZ_P_LEN n)).toNat * 64 →
        (tagOk = false → 0 < i → Gives (.recordDecrypt n tagOk d params data) s (close ((b.setParcel n q').endRecord n i 1))) ∧
        (∀ key, tagOk = true → s.unpackWaits x = false → SMap.find q.keySlot s.tr.keys = some key →
          SMap.find q.keySlot (b.setParcel n q').tr.keys = some key →
          let t := b.setParcel n q'
          let t := { t with tr := { t.tr with keys := SMap.ins q.keySlot { key with used := true } t.tr.keys } }
          (t.placement n q' x ≠ 0 → Gives (.recordDecrypt n tagOk d params data) s (close (t.endRecord n i (t.placement n q' x)))) ∧
          (t.placement n q' x = 0 → x.width ≠ 0 → x.src = 0 →
            Gives (.recordDecrypt n tagOk d params data) s (close (t.unpackSlab n i q' x))) ∧
          (t.placement n q' x = 0 → x.width ≠ 0 → x.src ≠ 0 →
            Gives (.recordDecrypt n tagOk d params data) s (close (t.unpackValley n i q' x)))))) ∧
    (let k := s.imageCore r c
     let l := (s.recordsOn r k e p).filter (fun x => decide (x.stage = .probing))
     let x := s.engine r c e
     let a := SMap.get 0 x.fills (probeIndex p 0)
     let z := SMap.get 0 x.fills (probeIndex p 1)
     let good := s.probePasses r c e p [a % 512] rowErr && s.probePasses r c e p ((List.range 32).map (fun j => z % 16 * 32 + j)) sumErr
     let t := b.setEngine r c e { x with fills := SMap.set 0 (SMap.set 0 x.fills (probeIndex p 0) (a + 1)) (probeIndex p 1) (z + 1) }
     let t := ((t.countPass r c e p).countPass r c e p).addSat (ENG_PROBE_CNT.PASSES r c e) 2
     let t := t.wrapReg (ENG_CHK_PASSES r c e) 2
     rowErr.length = 544 → sumErr.length = 544 → l ≠ [] →
      Gives (.recordProbeDone r c e p rowErr sumErr) s
        (if good then l.foldl (fun t y => t.commitRecord y) t else t.loadFailed r k e p)) ∧
    writes (.flipArm req dw v) [0xA0]
      (fun t page off r => let u := t.storeAt req page off v
        v.getLsbD 0 = true ∧ u.fld (RZ_FLIP_STAT.STATE r) ≠ 1 ∧ u.fld (RZ_FLIP_STAT.STATE r) ≠ 2 ∧ u.rebuilding r = false)
      (fun t page off r => (t.storeAt req page off v).setFld (RZ_FLIP_STAT.STATE r) 1) ∧
    (s.fld (RZ_FLIP_STAT.STATE r) = 2 → SMap.find r.val s.res.freeing = none →
      (∀ x ∈ (s.ri r).openSteps, stepBefore x.1 (s.fld (RZ_FLIP_STEP.STEP r)) = false) →
      let old := 1 - s.activeVer r
      let t := (s.res.layer.filter (fun x => decide (x.1 / 32768 = r.val ∧ x.2.ver = 2 ^ old))).foldl (fun t x => t.dropEntry x.1) b
      let slabs := ((List.range 256).map (fun ke => (List.range 8).map (fun l => (ke / 8, ke % 8, l)))).flatten
      let before := slabs.map (fun x => (x, t.pslabOf r x.1 x.2.1 x.2.2 old))
      let u := (slabs.foldl (fun t x => t.mergeSlab r x.1 x.2.1 x.2.2 old) t).journalNow
      let left := (before.filter (fun x => decide (x.2 ≠ 15) && !(u.mapped r x.1.1 x.1.2.1).contains x.2)).map (fun x =>
        slabKey r (u.siteOf r x.1.1) x.1.2.1 x.2)
      Gives (.oldVersionFree r) s
        (({ u with res := { u.res with freeing := SMap.ins r.val (distinct left) u.res.freeing } }).freeNext r)) ∧
    writes (.rebuildEnter req dw v) [0xA8] (fun _ _ _ _ => True) (fun t _ _ _ => t.modeWrite v) ∧
    (s.res.heldExit.contains r.val = true → s.recordsLeft r = false → Gives (.rebuildExit r) s (s.leaveRebuild r)) ∧
    writes (.exportGo req dw v) [0xC0]
      (fun t _ _ _ => v.getLsbD 0 = true ∧ t.res.exporting = none ∧ t.exportOk (getBits v 8 8) = true)
      (fun t _ _ _ => { t with res := { t.res with exporting := some (getBits v 8 8) } }.setReg RZ_X_STAT 1) ∧
    writes (.exportGo req dw v) [0xC0]
      (fun t _ _ _ => v.getLsbD 0 = true ∧ t.res.exporting = none ∧ t.exportOk (getBits v 8 8) = false)
      (fun t _ _ _ => (t.setFld RZ_X_STAT.STATE 3).trustDenied (if req.val = 17 then 0 else req.val) 0 5) ∧
    writes (.exportStop req dw v) [0xC0] (fun t _ _ _ => v.getLsbD 1 = true ∧ t.res.exporting.isSome = true)
      (fun t _ _ _ => ((({ t with res := { t.res with exporting := none } }).tick).setFld RZ_X_STAT.STATE
        ([0, 2, 3].getD (t.freeNat % 3) 0)).raise (diePage 12) Irq.residency_EXPORT_DONE) ∧
    (s.res.exporting.isSome = true →
      Gives .exportDone s (((({ b with res := { s.res with exporting := none } } : Block).setFld RZ_X_STAT.STATE 2).setFld
        RZ_X_STAT.RECORDS s.exported.length).raise (diePage 12) Irq.residency_EXPORT_DONE)) ∧
    Gives .layerMapJournal s s.journalNow

/-! ## Serving and the twin -/

/-- R500–R543, R563, R564: submissions and their operations, the prefix walk, the composition of a batch, tokens that arrive,
commit or retract, the rings and the budgets. -/
def Obligations.ServingTakesEffect : Prop :=
  ∀ (req : Fin 18) (dw : BitVec 26) (v : Word) (r : RidgeId) (entry : BitVec 512) (data : Option (BitVec 32768)) (q : BitVec 15)
    (given : List (BitVec 15 × List Word)) (g : Fin 256) (step : Word) (p : Packet) (s t : State),
    let b := s.toBlock
    let writes (i : Instr) := WriteGives i s req dw v
    writes (.sqTailWrite req dw v) .serving [0x70]
      (fun t _ _ r => (v - t.reg (SV_SQ_HEAD r)).toNat ≤ 2 ^ t.fld (SV_SQ_CFG.LOG2 r)) (fun t _ _ r => t.setReg (SV_SQ_TAIL r) v) ∧
    writes (.sqTailWrite req dw v) .serving [0x70]
      (fun t _ _ r => 2 ^ t.fld (SV_SQ_CFG.LOG2 r) < (v - t.reg (SV_SQ_HEAD r)).toNat) (fun t _ _ _ => t.queueErr) ∧
    (s.bit SV_CTL.EN = true → s.bit (SV_SQ_CFG.EN r) = true → s.reg (SV_SQ_HEAD r) ≠ s.reg (SV_SQ_TAIL r) → s.hostWaits r = false →
      let n := (s.reg (SV_SQ_HEAD r)).toNat
      let u := s.wrapReg (SV_SQ_HEAD r) 1
      let takes (i : Instr) (op : Nat) (data : Option (BitVec 32768)) : Prop :=
        reqField entry 0 1 = op → Gives i s (u.request' r n entry data).servEnd
      Gives (.submissionFetch r (some entry) data) s (u.request' r n entry data).servEnd ∧
      Gives (.submissionFetch r none data) s ((u.addReg SV_REQ_ERR 1).raise (diePage 13) Irq.serving_REQ_REFUSED).servEnd ∧
      takes (.openSeq r entry) 1 none ∧ takes (.cancel r entry) 2 none ∧ takes (.release r entry) 3 none ∧
      takes (.park r entry) 4 none ∧ takes (.resume r entry) 5 none ∧ takes (.setStop r entry data) 6 data) ∧
    (∀ x, s.seq? q.toNat = some x → x.state = 1 → s.hostWaits x.ridge = false →
      Gives (.walkDone q none) s (s.stopSeq q.toNat 5).servEnd ∧
      ∀ l, Gives (.walkDone q (some l)) s (s.walk q.toNat x (l.map (·.toNat))).servEnd) ∧
    (s.composes r = true → Gives (.batchCompose r given) s
      (s.compose r (fun q => ((given.find? (fun e => decide (e.1.toNat = q))).map (fun e => e.2.map (·.toNat))).getD [])).servEnd) ∧
    Gives .budgetRefill s ((List.range 4096).foldl (fun t a => t.refill a) b).servEnd ∧
    (b.arrive p = (t.toBlock, true) → p.dst.unit = 16 →
      (p.op = .emit → Gives (.emitArrival p) s (t.takeEmit p).servEnd) ∧
      (p.op = .commitMsg → Gives (.finalCommit p) s (((t.commitStep p.src p.step).pumpEmits).servEnd)) ∧
      (p.op = .retractMsg →
        Gives (.servingRetract p) s (((t.retractServing p.src p.step p.arg p.rev).pumpEmits).servEnd))) ∧
    (∀ x, s.serv.batches.find? (fun b => decide (b.ridge = r.val ∧ b.step = step.toNat)) = some x →
      Gives (.amendedBatch r step) s (s.amendBatch x).servEnd) ∧
    (SMap.get 0 s.serv.ringPend g.val ≠ 0 → s.fld (SV_RING_CFG.COAL_TIME g) ≠ 0 → Gives (.ringCoalTimer g) s (s.signalRing g.val)) ∧
    writes (.ringHeadWrite req dw v) .serving [0x10C]
      (fun t _ _ g => (v - t.reg (SV_RING_HEAD g)).toNat ≤ (t.reg (SV_RING_TAIL g) - t.reg (SV_RING_HEAD g)).toNat)
      (fun t _ _ g => (t.setReg (SV_RING_HEAD g) v).servEnd) ∧
    writes (.ringHeadWrite req dw v) .serving [0x10C]
      (fun t _ _ g => (t.reg (SV_RING_TAIL g) - t.reg (SV_RING_HEAD g)).toNat < (v - t.reg (SV_RING_HEAD g)).toNat)
      (fun t _ _ _ => t.queueErr) ∧
    (let live (t : Block) (off idx : Nat) : Prop :=
       off ≠ 0x118 ∧ t.bit SV_CTL.EN = true ∧
        (List.range 16).any (fun r => decide (t.activeVer r = if off = 0x124 then idx / 256 else idx / 32768)) = true
     writes (.expertMapWrite req dw v) .serving [0x118, 0x11C, 0x124] (fun t _ off idx => ¬ live t off idx)
        (fun t page off _ => t.storeAt req page off v) ∧
      writes (.expertMapWrite req dw v) .serving [0x118, 0x11C, 0x124] (fun t _ off idx => live t off idx)
        (fun t page _ _ => t.raise page Irq.serving_EXP_REJECT)) ∧
    writes (.spoorFlush req dw v) .walker [0x70] (fun _ _ _ _ => getBits v 0 4 = 1)
      (fun t _ _ _ => (t.flushTree (getBits v 4 4)).servEnd) ∧
    writes (.svAccBalWrite req dw v) .serving [0xF0] (fun _ _ _ _ => True) (fun t _ _ a => (t.setReg (SV_ACC_BAL a) v).servEnd)

/-- R574, R575–R588: fault signatures and the twin's epochs: a signature is taken from the queue unless the management port owns
it; an epoch that arrives whole is kept, and acknowledged; an acknowledgement frees what the acknowledged epochs held; a resume
takes the serving state of the epoch it names. -/
def Obligations.TwinTakesEffect : Prop :=
  ∀ (req : Fin 18) (dw : BitVec 26) (v : Word) (src : Machine.Source) (e : Machine.Epoch) (n : Word) (s : State),
    let b := s.toBlock
    let writes (i : Instr) := WriteGives i s req dw v .dieInt
    writes (.fsPop req dw v) [0x44] (fun t _ _ _ => t.bit MG_CFG.FS_OWNER = false) (fun t _ _ _ => t.popSignature) ∧
    (s.fld TW_CTL.ROLE = 2 →
      let t := b.landUnits e.units
      let t := if e.ridges.all (s.twinAccepts e) then t else t.raise (diePage 10) Irq.dieInt_TW_EPOCH_FAIL
      let held := s.tw.held ++ [e.keep (s.twinAccepts e)]
      let u := t.modTw (fun y => { y with held := held.drop (held.length - 2) })
      let u := (u.setReg TW_EPOCH (BitVec.ofNat 32 e.num)).setFld TW_STAT.HELD (min 2 held.length)
      Gives (.epochArrival src e false) s t ∧
      Gives (.epochArrival src e true) s
        (u.send { Packet.blank with op := .epoch, src := s.servingSource, dst := src, step := e.num, arg := 1 })) ∧
    (s.fld TW_CTL.ROLE = 1 → stepBefore (s.reg TW_ACKED).toNat n.toNat = true →
      let held (e : Nat × Nat) : Bool := stepBefore n.toNat e.2
      let t := (b.setReg TW_ACKED n).modServ (fun y => { y with
        kvFree := y.kvFree ++ (y.kvLimbo.filter (fun e => !held e)).map (·.1), kvLimbo := y.kvLimbo.filter held })
      let t := t.modTw (fun y => { y with sent := y.sent.filter (fun e => stepBefore n.toNat e.num) })
      Gives (.epochAck n) s (if t.tw.sent.isEmpty ∧ t.fld TW_STAT.STATE = 1 then t.setFld TW_STAT.STATE 0 else t).servEnd) ∧
    (s.fld TW_CTL.ROLE = 1 → s.tw.sent ≠ [] → Gives .twAckLate s (s.raise (diePage 10) Irq.dieInt_TW_ACK_LATE)) ∧
    (∀ x, writes (.twinResume req dw v) [0x64]
      (fun t _ _ _ => getBits v 0 4 = 1 ∧ t.tw.held.find? (fun e => decide (e.num = (t.reg TW_RESUME_EPOCH).toNat)) = some x)
      (fun t _ _ _ =>
        let u := (t.applyEpoch x).modServ (fun y => { y with out := t.resumeRecords x })
        let u := (u.modTw (fun _ => TwinSt.reset)).setFld TW_CTL.ROLE 1
        let u := (u.setReg TW_EPOCH (BitVec.ofNat 32 x.num)).setReg TW_ACKED (BitVec.ofNat 32 x.num)
        let u := (u.setFld TW_STAT.STATE 3).setFld TW_STAT.HELD 0
        (u.servEnd).raise (diePage 10) Irq.dieInt_TW_RESUMED)) ∧
    writes (.twinResume req dw v) [0x64]
      (fun t _ _ _ => getBits v 0 4 = 1 ∧ t.tw.held.find? (fun e => decide (e.num = (t.reg TW_RESUME_EPOCH).toNat)) = none)
      (fun t _ _ _ => t.raise (diePage 10) Irq.dieInt_TW_EPOCH_FAIL) ∧
    writes (.twinResync req dw v) [0x64] (fun t _ _ _ => getBits v 0 4 = 2 ∧ t.fld TW_CTL.ROLE = 1)
      (fun t _ _ _ => t.setFld TW_STAT.STATE 2) ∧
    (s.fld TW_STAT.STATE = 2 → Gives .resyncDone s ((s.setFld TW_STAT.STATE 0).modTw (fun y => { y with dirty := [] })))

/-! ## Integrity and trust -/

/-- R544–R573: a ridge advances to its next step when the quorum has been counted and the window is open, and commits its oldest
step when that step is complete; commits and retractions of other sources are applied to the batches they name; a replay starts
once its ridge has drained; classification and in-field tests end with their finding. -/
def Obligations.IntegrityTakesEffect : Prop :=
  ∀ (req : Fin 18) (dw : BitVec 26) (v : Word) (r : RidgeId) (c : SiteId) (e : EngineId) (core : Fin 9) (bad : List Nat) (p : Packet)
    (moved : List (Fin 512 × Fin 544 × Nat)) (err err2 : List Int) (late : Bool) (faults : List (Fin 528 × Fin 544 × Int)) (s t : State),
    let b := s.toBlock
    (s.advances r = true →
      let cell := s.fld (RI_STEP_CFG.CELL r)
      let go := s.fld (RI_STEP_CFG.GO_CELL r)
      let n := (s.step r + 1) % 2 ^ 32
      let t := (b.setCell r cell (s.reg (SYNC_VAL r cell) - BitVec.ofNat 32 (s.fld (RI_STEP_CFG.QUORUM r)))).setReg (RI_STEP r)
        (BitVec.ofNat 32 n)
      let t := (t.setOpen r ((t.ri r).openSteps ++ [(n, 0)])).stepBoundary r (some n) bad
      Gives (.stepAdvance r bad) s (t.setCell r go (t.reg (SYNC_VAL r go) + 1))) ∧
    (∀ S n rest, (s.ri r).openSteps = (S, n) :: rest → s.commits r S = true →
      let x := s.ri r
      let dsts := ((x.sets.filter (fun b => decide (b.step = S))).map (·.outputs)).flatten.eraseDups
      let t := dsts.foldl (fun t d => t.send (ctlMessage .commitMsg (s.sourceOf r) d S S (s.rev r))) b
      let t := t.setRi r { t.ri r with sets := x.sets.filter (fun b => decide (b.step ≠ S)) }
      Gives (.stepCommit r) s ((t.setOpen r rest).pruneVoids r)) ∧
    (b.arrive p = (t.toBlock, true) → p.dst.unit < 16 →
      (p.op = .commitMsg → Gives (.commit p) s (t.commitFrom p.dst.unit p.src p.step p.rev)) ∧
      (p.op = .retractMsg → Gives (.retract p) s (t.retractFrom p.dst.unit p.src p.step p.arg p.rev))) ∧
    (∀ x, (s.ri r).replay = some x → s.bit (RI_STAT.STUCK r) = false →
      let u := if (s.ri r).drained then b else b.replayDrain r x.step
      (u.passesDone r = true → u.classHolds r x.step = false → Gives (.replayEnter r bad) s (u.replay r x bad)) ∧
      (u.passesDone r = false ∨ u.classHolds r x.step = true → Gives (.replayEnter r bad) s u)) ∧
    (∀ x, err.length = 544 → err2.length = 544 → s.classAt r c core 0 = some x → 8 ≤ core.val ∨ (s.engine r c core).pass = none →
      (x.kind = 1 → Gives (.classifyStart r c core moved err err2) s (s.classifyTally r x err)) ∧
      (x.kind = 2 → Gives (.classifyStart r c core moved err err2) s
        ((s.moveCells r c core x.slab (moved.filter (fun m => x.rows.contains m.1.val))).classifyProbe r x err err2)) ∧
      (x.kind = 3 → let f := s.repeatRule r x .permanentSlab .transient
        Gives (.classifyStart r c core moved err err2) s (s.endClassify r x f.1 f.2 [])) ∧
      (x.kind = 0 ∨ 4 ≤ x.kind → let f := s.repeatRule r x .inputPath .transient
        Gives (.classifyStart r c core moved err err2) s (s.endClassify r x f.1 f.2 []))) ∧
    (∀ x, err.length = 544 → err2.length = 544 → s.classAt r c e 2 = some x → s.mirrors r c e x.slab = true →
      (s.engine r c e).pass = none →
      ((s.engine r c e).history = [] →
        Gives (.classifyMirrorReady r c e err err2) s (s.endClassify r x .unresolved false [])) ∧
      (∀ h rest u far, (s.engine r c e).history = h :: rest → s.echoRun r c e 8 h err = (u, far) → far ≠ [] →
        let cols := far.map (fun y => (u.slab r c e x.slab).physical y.1)
        let few := decide (cols.length ≤ 4) && u.canTake r c e x.slab cols
        Gives (.classifyMirrorReady r c e err err2) s
          (u.endClassify r x (if few then .permanentColumn else .permanentSlab) false cols))) ∧
    (∀ x, s.classAt r c e 1 = some x → Gives (.classifyTimeout r c e) s (s.endClassify r x .unresolved false [])) ∧
    (∀ x, s.classAt r c e 1 = none → s.classAt r c e 2 = some x →
      Gives (.classifyTimeout r c e) s (s.endClassify r x .unresolved false [])) ∧
    (s.bit (RI_CTL.IFT_EN r) = true → s.fld (RI_IFT_CTL.PERIOD_H r) ≠ 0 → Gives (.iftDue r c core) s (s.iftStart r c core)) ∧
    WriteGives (.iftCmd req dw v) s req dw v .ridgeInt [0x84] (fun _ _ _ _ => getBits v 31 1 = 1)
      (fun t page _ _ => t.iftStart (ridgeOfPage page) (getBits v 0 6) (if getBits v 9 1 = 0 then 8 else getBits v 6 3)) ∧
    (∀ k, (s.ri r).ift = some (k, 8) →
      (s.fld (RI_IFT_STAT.STATE r) = 1 → Gives (.iftWaitTimeout r) s (s.iftMigrate r k)) ∧
      (s.fld (RI_IFT_STAT.STATE r) = 1 ∨ s.fld (RI_IFT_STAT.STATE r) = 2 → SMap.find r.val s.mig = none →
        Gives (.iftRetry r late) s
          ((if late then b.signature 15 0 0 (s.locSite r k) (s.step r) (s.rev r) 0 0 else b).iftMigrate r k))) ∧
    (s.fld (CORE_STAT.STATE r c) = 6 →
      let mine := decide ((s.ri r).ift = some (c.val, 8))
      let done (pass : Bool) := if mine then s.iftEnd r (if pass then 4 else 5) else s.raise (ridgePage r 3) Irq.ridgeInt_IFT_DONE
      (∀ k, (s.coreAt r c).testOf = some k → Gives (.coreTestDone r c true) s ((done true).migRequest r k 3)) ∧
      ((s.coreAt r c).testOf = none → Gives (.coreTestDone r c true) s ((done true).setFld (CORE_STAT.STATE r c) 0)) ∧
      (let o := (s.coreAt r c).testOf
       let t := ((done false).retireSite r c).iftFail r (if o.isSome then 4 else 0) (s.locSite r c)
       let t := (List.range 8).foldl (fun t e => t.setReg (ENG_CVSTEER r c e) 0) t
       Gives (.coreTestDone r c false) s
        ((t.modCore r c (fun x => { x with testOf := none })).setFld (CORE_STAT.STATE r c) 0))) ∧
    (let p := (s.ri r).iftSlab
     (s.ri r).ift = some (c.val, e.val) → s.standsFor r c e p = true → (s.slab r c e p).state = .outForRefresh →
      s.columnsLeft r c e p = false → (∀ a ∈ s.acts r, a ≠ .standBack c e p ∧ a ≠ .assign c e p) →
      let t := b.moveCells r c e p moved
      let fails := distinct (((List.range 528).map (fun n => t.testPass r c e p n faults)).flatten ++ (t.scanSlab r c e p).1)
      let t := (List.range 528).foldl (fun t _ => t.countPass r c e p) t
      let t := (t.wrapReg (ENG_CHK_PASSES r c e) 528).addSat (ENG_PROBE_CNT.PASSES r c e) 528
      let t := t.setRi r { t.ri r with iftSlab := p + 1 }
      (fails = [] → Gives (.engineTestSlabDone r c e moved faults) s (t.atBoundary r (.standBack c e p))) ∧
      (let few := decide (fails.length ≤ 4) && t.canTake r c e p fails
       let u := (t.setRi r { t.ri r with iftBad := true }).iftFail r (if few then 2 else 3) (s.locSlab r c e p)
       fails ≠ [] → few = false → Gives (.engineTestSlabDone r c e moved faults) s (u.replaceOrValley r c e p)))

/-- R592, R600–R616: the trust mailbox: a command that arrives while the mailbox is not busy is queued as one operation of its
page, with the verdicts of the signature and of the unwrapping beside it; commands run one at a time, in order, each ending with
its result code, and an accepted unbind ends when its scrub is done. -/
def Obligations.TrustMailboxTakesEffect : Prop :=
  ∀ (req : Fin 18) (dw : BitVec 26) (v : Word) (signed unwraps : Bool) (blob : Option (DWord × DWord)) (s : State),
    let page (p : Nat) := if p = diePage 8 then 16 else ridgeOfPage p
    let runs (i : Instr) (op : Nat) (signed unwraps : Bool) (revoke : Option (Nat × Nat)) : Prop :=
      WriteGives i s req dw v .trust [0x44]
        (fun t p _ _ => getBits v 0 4 = op ∧ t.fld (TR_MBOX_STAT.STATE (page p)) ≠ 1)
        (fun t p _ _ => t.mboxSubmit ⟨page p, req.val, op, getBits v 4 4, getBits v 8 6, getBits v 16 11, signed, unwraps, revoke⟩)
    runs (.bind req dw v signed) 1 signed false none ∧
    runs (.unbind req dw v) 2 false false none ∧
    runs (.keyLoad req dw v signed unwraps) 3 signed unwraps none ∧
    runs (.keyClear req dw v) 4 false false none ∧
    runs (.grant req dw v signed) 5 signed false none ∧
    runs (.revoke req dw v signed blob) 6 signed false (blob.map (fun b => (b.1.toNat, b.2.toNat))) ∧
    runs (.allow req dw v signed) 7 signed false none ∧
    runs (.rootAdd req dw v) 8 false false none ∧
    runs (.svnRaise req dw v) 9 false false none ∧
    (∀ (b : Block) (o : MailboxOp), b.tr.mbox = [] →
      let t := ((b.setFld (TR_MBOX_STAT.STATE o.page) 1).setFld (TR_MBOX_STAT.RESULT o.page) 0).setFld (TR_MBOX_STAT.OP o.page) o.op
      (∀ u, t.mboxRun o = .ok u → o.op ≠ 2 → b.mboxSubmit o = (u.mboxEnd o 0).modTr (fun y => { y with mbox := [] })) ∧
      (∀ u, t.mboxRun o = .ok u → o.op = 2 → b.mboxSubmit o = u.modTr (fun y => { y with mbox := [o] })) ∧
      (∀ n, t.mboxRun o = .error n → b.mboxSubmit o = (t.mboxEnd o n).modTr (fun y => { y with mbox := [] }))) ∧
    (∀ o rest, s.tr.mbox = o :: rest →
      Gives .unbindScrubDone s (((s.bindingTo o.ridge 3).mboxEnd o 0).mboxNext rest))

/-- R595–R598: the SPDM responder. The bytes of its answers are the protocol's, which the spec only names: they are the model's
(log entry 60). A session opens with FINISH, and ends with END_SESSION or a FINISH that does not verify. -/
def Obligations.SpdmAnswers : Prop :=
  ∀ (ok : Bool) (slot : Fin 8) (index : BitVec 8) (id : Word) (s : State),
    let b := s.toBlock
    let mine (x : Session) : Bool := decide (x.id = id.toNat)
    Gives .getVersion s { b with answer := [0x10, 0x04, 0, 0, 0, 1, 0, 0x12] } ∧
    Gives .getCapabilities s (s.spdm 0x61 0 0 []) ∧
    Gives (.negotiateAlgorithms true) s (s.spdm 0x63 0 0 []) ∧
    Gives (.negotiateAlgorithms false) s (s.spdmError 1) ∧
    Gives .getDigests s (s.spdm 0x01 0 3 []) ∧
    (slot.val ≤ 1 → Gives (.getCertificate slot) s (s.spdm 0x02 slot 0 []) ∧ Gives (.challenge slot) s (s.spdm 0x03 slot 3 [])) ∧
    (1 < slot.val → Gives (.getCertificate slot) s (s.spdmError 1) ∧ Gives (.challenge slot) s (s.spdmError 1)) ∧
    (∀ l, s.measured index.toNat = some l →
      Gives (.getMeasurements index) s (s.spdm 0x60 1 0 (bytesOf 48 (Config.measurement index.toNat l)))) ∧
    (s.measured index.toNat = none → Gives (.getMeasurements index) s (s.spdmError 1)) ∧
    (s.tr.sessions.length < 8 →
      Gives (.keyExchange id) s
        ((s.setSessions (s.tr.sessions.filter (fun x => !mine x) ++ [⟨id.toNat, false, 0⟩])).spdm 0x64 0 0 [])) ∧
    (8 ≤ s.tr.sessions.length → Gives (.keyExchange id) s (s.spdmError 3)) ∧
    ((s.session id).isSome = true →
      Gives (.finish id true) s
        ((s.setSessions (s.tr.sessions.map (fun x => if x.id = id.toNat then { x with open' := true } else x))).spdm 0x65 0 0 []) ∧
      Gives (.finish id false) s ((s.setSessions (s.tr.sessions.filter (fun x => !mine x))).spdmError 6)) ∧
    (s.session id = none → Gives (.finish id ok) s (s.spdmError 2)) ∧
    ((s.session id).any (·.open') = true →
      Gives (.heartbeat id) s (s.spdm 0x68 0 0 []) ∧
      Gives (.keyUpdate id) s
        ((s.setSessions (s.tr.sessions.map (fun x => if x.id = id.toNat then { x with updates := x.updates + 1 } else x))).spdm 0x69 0
          0 []) ∧
      Gives (.endSession id) s ((s.setSessions (s.tr.sessions.filter (fun x => !mine x))).spdm 0x6C 0 0 [])) ∧
    ((s.session id).any (·.open') = false →
      Gives (.heartbeat id) s (s.spdmError 2) ∧ Gives (.keyUpdate id) s (s.spdmError 2) ∧ Gives (.endSession id) s (s.spdmError 2)) ∧
    Gives .spdmUnsupported s (s.spdmError 7)

/-! ## Power -/

/-- R625–R651: the power states of the die and of its ridges: commands that are carried out or rejected, entry into Nap and Off in
its steps, wakes, rails that dip or fall, power failure, and the governor's interval. -/
def Obligations.PowerTakesEffect : Prop :=
  ∀ (req : Fin 18) (dw : BitVec 26) (v : Word) (r : RidgeId) (data : List Byte) (rail3 : Fin 3) (rail4 : Fin 4) (rail8 : Fin 8)
    (rail11 : Fin 11) (level : Fin 3) (us uncontrolled energy : Nat) (stuck : Bool) (s : State),
    let b := s.toBlock
    let writes (i : Instr) := WriteGives i s req dw v .power
    let onDie (i : Instr) (op : Nat) (ok : Block → Bool) (effect : Block → Block) : Prop :=
      writes i [0x40] (fun t _ _ _ => getBits v 0 3 = op ∧ ok t = true) (fun t _ _ _ => effect t) ∧
      writes i [0x40] (fun t _ _ _ => getBits v 0 3 = op ∧ ok t = false) (fun t _ _ _ => t.rejectPower)
    let onRidge (i : Instr) (op : Nat) (when : Nat → Block → Prop) (effect : Nat → Block → Block) : Prop :=
      writes i [0x50] (fun t _ _ r => getBits v 0 2 = op ∧ when r t) (fun t _ _ r => effect r t)
    onDie (.dieActive req dw v) 1 Block.dieStandby Block.becomeActive ∧
    onDie (.dieStandby req dw v) 2 (fun t => t.dieActive && (List.range 16).all (fun r => decide (t.ridgeState r = 3)))
      (fun t => (List.range 10).foldl (fun t p => t.portTo p 0) (t.setFld PM_DIE_STAT.STATE 1)) ∧
    onDie (.dieHold req dw v) 3 Block.dieStandby (fun t => t.normalOrder 0) ∧
    onRidge (.ridgeRun req dw v) 1 (fun _ _ => True) (fun r t => t.wakeAt r 3) ∧
    onRidge (.ridgeNap req dw v) 2 (fun r t => t.entryAllowed r = true) (fun r t => t.entryStart r 2) ∧
    onRidge (.ridgeNap req dw v) 2 (fun r t => t.entryAllowed r = false) (fun _ t => t.rejectPower) ∧
    onRidge (.ridgeOff req dw v) 3 (fun r t => t.entryAllowed r = true) (fun r t => t.entryStart r 3) ∧
    onRidge (.ridgeOff req dw v) 3 (fun r t => t.entryAllowed r = false) (fun _ t => t.rejectPower) ∧
    writes (.doorbell req dw v) [0x60] (fun _ _ _ _ => True)
      (fun t _ _ r => let u := t.wakeAt r 3
        if u.dieStandby then u.becomeActive else u) ∧
    (s.reg (PM_RIDGE_TIMER r) ≠ 0 → s.ridgeState r = 2 ∨ s.ridgeState r = 3 →
      Gives (.ridgeTimerExpiry r) s ((s.setReg (PM_RIDGE_TIMER r) 0).wakeAt r 1)) ∧
    (s.ridgeState r = 0 → s.idle r = true →
      (s.pow.returnOff.contains r.val = true → Gives (.dozeEntry r) s
        ({ b with pow := { s.pow with returnOff := s.pow.returnOff.filter (fun x => decide (x ≠ r.val)) } }.entryStart r 3)) ∧
      (s.pow.returnOff.contains r.val = false → Gives (.dozeEntry r) s (s.setRidgeState r 1))) ∧
    (s.ridgeState r = 1 → s.bit (PM_RIDGE_CFG.AUTO_NAP r) = true → s.coresHalted r = true →
      Gives (.autoNap r) s (s.entryStart r 2)) ∧
    (s.abandons r = true →
      (s.entryAt r 2 = true → Gives (.drainWindowEnd r) s (s.abandonEntry r)) ∧
      (s.entryAt r 5 = true → Gives (.entryFrameGate r) s (s.abandonEntry r))) ∧
    (s.abandons r = false →
      (s.entryAt r 2 = true → Gives (.drainWindowEnd r) s ((s.drainEnd r).setFld (PM_RIDGE_STAT.ENTRY_STEP r) 4)) ∧
      (s.entryAt r 5 = true → Gives (.entryFrameGate r) s
        ((s.setRidgeState r (s.fld (PM_RIDGE_STAT.TARGET r))).setFld (PM_RIDGE_STAT.ENTRY_STEP r) 0))) ∧
    (s.entryAt r 4 = true →
      let t := b.suspendRuns (fun x => decide (x = r.val))
      (t.pow.resetting.contains r.val = true → Gives (.entrySuspendDone r) s (t.resetRidgeDone r)) ∧
      (t.pow.resetting.contains r.val = false → t.abandons r = true → Gives (.entrySuspendDone r) s (t.abandonEntry r)) ∧
      (t.pow.resetting.contains r.val = false → t.abandons r = false →
        Gives (.entrySuspendDone r) s (t.setFld (PM_RIDGE_STAT.ENTRY_STEP r) 5))) ∧
    (s.ridgeState r = 5 → s.dieActive = true → Gives (.ridgeWakeDone r) s (s.ridgeWakes r)) ∧
    (s.dieHold = true →
      Gives (.i3cAddressMatch data) s
        ({ b with mg := { s.mg with wake := data.take 64 } }.setBit PM_WAKE_CAUSE.I3C true).startMain ∧
      Gives .holdWakeTimer s (s.setBit PM_WAKE_CAUSE.TIMER true).startMain) ∧
    (s.bit (PM_RAIL_STAT.EN rail3) = true → s.bit (PM_RAIL_STAT.WARN rail3) = false →
      let t := (((b.setBit (PM_RAIL_STAT.WARN rail3) true).cutPasses).cutPulses).railUrgent rail3
      let t := if s.pow.lvRails.isEmpty then (t.setBit PM_DIE_STAT.LV_HOLD true).raise (diePage 2) Irq.power_LV_HOLD else t
      Gives (.railWarning rail3) s { t with pow := { t.pow with lvRails := t.pow.lvRails ++ [rail3.val] } }) ∧
    (∀ first rest, s.pow.lvRails = first :: rest →
      let t := (first :: rest).foldl (fun t k => t.setBit (PM_RAIL_STAT.WARN k) false) b
      let t := { t with pow := { t.pow with lvRails := [] } }.setBit PM_DIE_STAT.LV_HOLD false
      let t := (t.addSat PM_LV_CNT.HOLDS 1).setFld PM_LV_CNT.LONGEST_US (max (t.fld PM_LV_CNT.LONGEST_US) (min 65535 us))
      Gives (.lvHoldEnd us) s (t.cairnRecord 5 1 (first + us % 2 ^ 32 * 2 ^ 32))) ∧
    (s.pow.off = false →
      let t := (b.setBit (PM_RAIL_STAT.WARN rail8) (decide (level.val ≠ 0))).setBit (PM_RAIL_STAT.BELOW_RESET rail8)
        (decide (level.val = 2))
      let u := t.railUrgent rail8
      (rail8.val = 4 → Gives (.otherRailDip rail8 level) s (if level.val = 0 then t else u)) ∧
      (rail8.val = 3 → s.bit (PM_RAIL_STAT.EN rail8) = true →
        Gives (.otherRailDip rail8 level) s (if level.val = 0 then t else u.cutPulses)) ∧
      (rail8.val = 6 ∨ rail8.val = 7 → s.bit (PM_RAIL_STAT.EN rail8) = true →
        Gives (.otherRailDip rail8 level) s
          (if level.val = 0 then t
           else if level.val = 2 then
             (List.range 10).foldl (fun t p => if t.portState p = 0 then t else t.portDetect p) u.railFault
           else u.railFault))) ∧
    (s.bit (PM_RAIL_STAT.EN rail4) = true → Gives (.railResetLevel rail4) s
      (((s.setBit (PM_RAIL_STAT.BELOW_RESET rail4) true).railUrgent rail4).emergency rail4 0 4)) ∧
    (s.bit (PM_RAIL_STAT.EN rail11) = true → s.bit (PM_RAIL_STAT.PG rail11) = true → rail11.val ≠ 4 → rail11.val ≠ 5 →
      Gives (.powerGoodFall rail11) s ((s.setBit (PM_RAIL_STAT.PG rail11) false).emergency rail11 0 4)) ∧
    Gives (.railDownStep stuck) s (s.railStep stuck) ∧
    (s.pow.off = false → s.bit PM_PF_STAT.LATCHED = false → s.bit CAIRN_CTL.FREEZE = false →
      let t := ((b.setBit PM_PF_STAT.LATCHED true).setBit PM_DIE_STAT.PF_LATCHED true)
      let t := (t.addSat PM_PF_STAT.COUNT 1).raise (diePage 2) Irq.power_PWR_FAIL
      let t := (t.cutPasses.cutPulses).suspendRuns (fun _ => true)
      Gives .pwrFail s { t.setBit CAIRN_STAT.FLUSHING true with cairn := { t.cairn with flush := some 1 } }) ∧
    (s.bit PM_PF_STAT.LATCHED = true → s.bit PM_PF_STAT.FLUSH_DONE = true → s.pow.railDown = none →
      Gives .pfRailDown s (s.normalOrder s.pow.after)) ∧
    (s.pow.off = false →
      let t := (b.loseBase false).setFld PM_DIE_STAT.LAST_OFF (if s.pow.clean then s.offClean.fld PM_DIE_STAT.LAST_OFF else 2)
      Gives .vddBaseLoss s { t with pow := { t.pow with off := true } }) ∧
    (s.dieActive = true → Gives (.governorInterval uncontrolled energy) s (s.governor uncontrolled energy))

/-! ## The lookout, calibration and the cairn -/

/-- R652–R683: conversions and scans of the lookout's converters, its buffers, temperatures, trips and sensors. -/
def Obligations.LookoutTakesEffect : Prop :=
  ∀ (req : Fin 18) (dw : BitVec 26) (v : Word) (n : Fin 3) (code : BitVec 12) (value : Int) (us : BitVec 16) (k : LookKind)
    (e : Fin 64) (h : StackId) (s : State),
    let b := s.toBlock
    let writes (i : Instr) := WriteGives i s req dw v
    (s.convOn n = true →
      let x := s.conv n
      (∀ w, x.running = some w →
        (s.isPair n w.kind = true → w.first = none →
          Gives (.conversionDone n code value us) s (s.setConv n { x with running := some { w with first := some code.toNat } })) ∧
        (s.isPair n w.kind = false ∨ w.first ≠ none →
          Gives (.conversionDone n code value us) s
            (((s.setConv n { x with running := none }).convEnd n w code.toNat value us.toNat).convKick n))) ∧
      ((fixedScan n).contains k = true →
        (x.fixed.contains k = false →
          Gives (.fixedScanDue n k) s ((s.setConv n { x with fixed := x.fixed ++ [k] }).convKick n)) ∧
        (x.fixed.contains k = true → Gives (.fixedScanDue n k) s (s.overrun n))) ∧
      (let d := s.reg (LK_SCAN_DATA (n.val * 64 + e.val))
       s.bit (LK_CTL.EN n) = true → getBits d 31 1 = 1 → getBits d 9 2 < 2 →
        (x.scans.contains e.val = false →
          Gives (.scanEntryDue n e) s ((s.setConv n { x with scans := insertNat e.val x.scans }).convKick n)) ∧
        (x.scans.contains e.val = true → Gives (.scanEntryDue n e) s (s.overrun n)))) ∧
    writes (.urgentRequest req dw v) .lookout [0x54] (fun _ _ _ _ => getBits v 31 1 = 1 ∧ getBits v 9 2 < 2)
      (fun t _ _ n => t.urgent n (.urgent (getBits v 0 5) (getBits v 5 4) (decide (getBits v 9 2 = 1)) none) true) ∧
    writes (.urgentRequest req dw v) .lookout [0x54] (fun _ _ _ _ => getBits v 31 1 = 1 ∧ 2 ≤ getBits v 9 2)
      (fun t _ _ n => t.setFld (LK_URG_RESULT.STATUS n) 2) ∧
    writes (.lkBufHeadWrite req dw v) .lookout [0x6C]
      (fun t _ _ i => (getBits v 0 12 + 4096 - t.fld (LK_BUF_HEAD.HEAD i)) % 4096 ≤
        (SMap.get [] (t.conv (i / 4)).buffers (i % 4)).length)
      (fun t _ _ i =>
        let taken := (getBits v 0 12 + 4096 - t.fld (LK_BUF_HEAD.HEAD i)) % 4096
        let x := t.conv (i / 4)
        let l := SMap.get [] x.buffers (i % 4)
        ((t.setConv (i / 4) { x with buffers := SMap.set [] x.buffers (i % 4) (l.drop taken) }).setFld (LK_BUF_HEAD.HEAD i)
          (getBits v 0 12)).setFld (LK_BUF_TAIL.COUNT i) (l.length - taken)) ∧
    writes (.lkBufEnable req dw v) .lookout [0x68] (fun _ _ _ _ => getBits v 0 1 = 1)
      (fun t page off i =>
        let u := t.storeAt req page off v
        let x := u.conv (i / 4)
        let u := u.setConv (i / 4) { x with buffers := SMap.set [] x.buffers (i % 4) [] }
        (u.setFld (LK_BUF_HEAD.HEAD i) (u.fld (LK_BUF_TAIL.TAIL i))).setFld (LK_BUF_TAIL.COUNT i) 0) ∧
    (s.convOn 0 = true → Gives .thermalTick s ((List.range 16).foldl (fun t r => t.thermTick r) b)) ∧
    writes (.tripClear req dw v) .thermal [0x74]
      (fun t _ _ _ => getBits v 0 1 = 1 ∧ (∀ x ∈ t.validTemps 16, x < 1440))
      (fun t _ _ _ => (t.setBit LT_TRIP_INFO.TRIPPED false).setBit LT_TRIP_INFO.CLR_REJECT false) ∧
    writes (.tripClear req dw v) .thermal [0x74]
      (fun t _ _ _ => getBits v 0 1 = 1 ∧ (∃ x ∈ t.validTemps 16, 1440 ≤ x)) (fun t _ _ _ => t.setBit LT_TRIP_INFO.CLR_REJECT true) ∧
    writes (.sensorClear req dw v) .thermal [0x4C]
      (fun t _ _ _ => getBits v 0 7 < 68 ∧ t.bit (LT_SENS_DATA.BROKEN (getBits v 0 7)) = true)
      (fun t _ _ _ =>
        let k := getBits v 0 7
        let u := (t.setBit (LT_SENS_DATA.BROKEN k) false).setFld (LT_SENS_DATA.DEVIANT k) 0
        { u with look := { u.look with hot := SMap.del k u.look.hot } }) ∧
    (s.convOn 0 = true →
      let direct := !s.look.seen.contains (68 + h.val)
      let band := nextBand (if direct then 0 else s.fld (LT_STACK_DATA.BAND h)) (some value)
      let t := (b.setFld (LT_STACK_DATA.TEMP h) (max 0 (min 255 (value / 16))).toNat).setBit (LT_STACK_DATA.VALID h) true
      let t := (t.setFld (LT_STACK_DATA.BAND h) band).setFld (CT_STAT.BAND h) band
      let t := { t with look := { t.look with
        stackTemp := SMap.ins h value t.look.stackTemp
        seen := if direct then t.look.seen ++ [68 + h.val] else t.look.seen } }
      Gives (.stackTempReport h value) s ((t.tripTest (68 + h.val) value).platformLevel (18 + h.val) (heatLevel value)))

/-- R684–R696: calibration: a command that finds calibration idle and its scope in order starts its units, one that does not ends
with its result code, one that comes while calibration runs only raises its interrupt; frames are given to the units of a site,
and a unit's measurement is taken over or staged. -/
def Obligations.CalibrationTakesEffect : Prop :=
  ∀ (req : Fin 18) (dw : BitVec 26) (v : Word) (n : Fin 3) (i : Fin 4096) (l : List (Int × Nat)) (conv : List (Int × Int × Nat)) (trims : Word)
    (g : List Nat) (r : RidgeId) (c : SiteId)
    (width height : Nat) (gnd ref residual : Nat) (sum : Int) (s : State),
    let b := s.toBlock
    let group := getBits v 0 4
    let begun (t : Block) := (t.setFld CAL_STAT.TARGET group).setFld CAL_STAT.UNITS 0
    let starts (i : Instr) (mine : Prop) (when : Block → Prop) (effect : Block → Block) : Prop :=
      WriteGives i s req dw v .calib [0x40] (fun t _ _ _ => getBits v 31 1 = 1 ∧ mine ∧ t.calRuns = false ∧ when (begun t))
        (fun t _ _ _ => effect (begun t))
    let engines (i : Instr) (mine : Prop) (scope : Block → Option (List Nat)) (ok : Block → Nat → Bool) (go : Block → Block) : Prop :=
      starts i mine (fun t => scope t = none) (fun t => t.calEnd 2) ∧
      ∀ ids, starts i mine (fun t => scope t = some ids ∧ t.ridgeUp (getBits v 4 4) = true ∧ ids ≠ [] ∧ ids.all (ok t) = true)
          (fun t => go (t.calBegin ids)) ∧
        starts i mine (fun t => scope t = some ids ∧ (t.ridgeUp (getBits v 4 4) = false ∨ ids = [] ∨ ids.all (ok t) = false))
          (fun t => t.calEnd 3)
    engines (.calConv req dw v) (group = 1) (fun t => t.calEngines v) (fun _ _ => true) id ∧
    engines (.calRowdrv req dw v) (group = 2) (fun t => t.calEngines v)
      (fun t k => (List.range 9).any (fun p => decide ((t.slab (k / 272) (k / 8 % 34) (k % 8) p).state = .resident))) id ∧
    engines (.calDrift req dw v) (group = 3)
      (fun t => (t.calSlabs v).map (fun l => l.filter (fun k =>
        (t.slab (keyRidge k) (keySite k) (keyEngine k) (keySlab k)).state.sampled))) (fun _ _ => true) id ∧
    starts (.calSerdes req dw v) (group = 4) (fun _ => 10 ≤ getBits v 22 7) (fun t => t.calEnd 2) ∧
    starts (.calSerdes req dw v) (group = 4) (fun _ => getBits v 22 7 < 10)
      (fun t =>
        let p := getBits v 22 7
        let u := t.calBegin ((List.range 8).map (fun n => p * 8 + n))
        { u with cal := { u.cal with port := some p } }.calPortUp p) ∧
    starts (.calLookout req dw v) (group = 5) (fun _ => getBits v 22 7 < 3) (fun t => t.calBegin [getBits v 22 7]) ∧
    starts (.calLookout req dw v) (group = 5) (fun _ => 3 ≤ getBits v 22 7) (fun t => t.calEnd 2) ∧
    (∀ ids, starts (.calSensor req dw v) (group = 6)
      (fun t => calSensors (getBits v 22 7) = some ids ∧ max 1 (t.fld CAL_SETTLE.S) ≤ t.cal.settled) (fun t => t.calBegin ids)) ∧
    starts (.calSensor req dw v) (group = 6) (fun _ => calSensors (getBits v 22 7) = none) (fun t => t.calEnd 2) ∧
    (∀ ids, starts (.calSensor req dw v) (group = 6)
      (fun t => calSensors (getBits v 22 7) = some ids ∧ t.cal.settled < max 1 (t.fld CAL_SETTLE.S)) (fun t => t.calEnd 6)) ∧
    starts (.calRestore req dw v) (group = 0 ∨ 7 ≤ group) (fun _ => group ≠ 7) (fun t => t.calEnd 2) ∧
    (∀ ids, starts (.calRestore req dw v) (group = 0 ∨ 7 ≤ group)
      (fun t => group = 7 ∧ t.calEngines v = some ids ∧ t.ridgeUp (getBits v 4 4) = true ∧ ids ≠ [])
      (fun t =>
        let u := t.calBegin ids
        let w := { u with cal := { u.cal with
          units := u.cal.units.map (fun x => { x with staged := some ⟨0, 0, false, [], none, [], true⟩ }) } }
        u.cal.units.foldl (fun t x => t.setBit (ENG_SHADOW.PENDING (x.id / 272) (x.id / 8 % 34) (x.id % 8)) true) w)) ∧
    (WriteGives (.calConv req dw v) s req dw v .calib [0x40]
      (fun t _ _ _ => getBits v 31 1 = 1 ∧ group = 1 ∧ t.calRuns = true) (fun t _ _ _ => t.raise (diePage 7) 2)) ∧
    (s.calRuns = true → s.fld CAL_STAT.TARGET = 4 → s.cal.port.isSome = true →
      Gives .calSerdesTimeout s ({ b with cal := { s.cal with units := [] } }.calEnd 3)) ∧
    (let mine (u : CalUnit) : Bool := !u.ended && u.staged.isNone && decide (u.id / 8 = siteKey r c)
     let band := s.fld (LT_RIDGE_STAT.BAND r)
     let counted (t : Block) : Block := { t with cal := { t.cal with units := t.cal.units.map (fun u =>
        if mine u then { u with band := some (u.band.getD band), frames := u.frames + 1 } else u) } }
     let x := s.coreAt r c
     let k := x.ranNo + 37 * s.logicalAt r c
     s.calRuns = true → s.fld CAL_STAT.TARGET = 1 ∨ s.fld CAL_STAT.TARGET = 2 → s.ridgeState r ≤ 1 → s.lvActive = false →
      s.cal.units.any mine = true →
      (s.fld (CORE_STAT.STATE r c) = 0 ∨ s.fld (CORE_STAT.STATE r c) = 4 → Gives (.calibrationFrame r c) s (counted b)) ∧
      (s.fld (CORE_STAT.STATE r c) ≠ 0 → s.fld (CORE_STAT.STATE r c) ≠ 4 → x.probeOwed = false →
        (s.echoPeriod r c = 0 ∨ k % s.echoPeriod r c ≠ 0) → k % s.probePeriod r ≠ s.probePeriod r / 2 →
        frameRuns (x.frameNo % 16) (s.fld (ENG_STAT.GOV_ALLOW r c 0)) = true →
        Gives (.calibrationFrame r c) s (counted (b.beginFrame r c { x with frameNo := x.frameNo + 1 } 1)))) ∧
    (s.fld (LK_STAT.MODE n) = 2 → Gives (.lookoutTestWindow n false) s (s.setFld (LK_STAT.MODE n) 0)) ∧
    (s.calRuns = true → s.fld CAL_STAT.TARGET = 5 → s.cal.units.any (fun u => !u.ended && decide (u.id = n)) = true →
      s.fld (LK_STAT.MODE n) = 0 → Gives (.lookoutTestWindow n true) s (s.setFld (LK_STAT.MODE n) 2)) ∧
    (∀ u, s.cal.units[i.val]? = some u → s.calRuns = true → u.ended = false → u.staged = none →
      (s.fld CAL_STAT.TARGET = 1 → 29 ≤ u.frames → conv.length = 544 →
        let x := s.convResult u.id (u.band.getD 0) conv trims residual
        Gives (.calUnitDone i (.conv conv trims residual)) s (s.stageUnit i u.id x (!x.failed))) ∧
      (s.fld CAL_STAT.TARGET = 2 → 52 ≤ u.frames → l.length = 16 →
        let x := rowResult u.id (u.band.getD 0) l
        Gives (.calUnitDone i (.rowdrv l)) s (s.stageUnit i u.id x (!x.failed))) ∧
      (s.fld CAL_STAT.TARGET = 3 → g.length = 64 → driftOk g = true →
        Gives (.calUnitDone i (.drift g)) s
          ((b.modSlab (keyRidge u.id) (keySite u.id) (keyEngine u.id) (keySlab u.id) (fun x => { x with
            stagedFit := some (driftTrims g), driftLimit := false })).unitDone i (driftFigure g) 0 true)) ∧
      (s.fld CAL_STAT.TARGET = 3 → g.length = 64 → driftOk g = false →
        Gives (.calUnitDone i (.drift g)) s
          ((((b.modSlab (keyRidge u.id) (keySite u.id) (keyEngine u.id) (keySlab u.id) (fun x => { x with driftLimit := true })).raise
            (ridgePage (keyRidge u.id) 0) Irq.ridgeStore_DRIFT_LIMIT).queueRefresh (keyRidge u.id) (keySite u.id) (keyEngine u.id)
            (keySlab u.id) 3).unitDone i (driftFigure g) 0 false)) ∧
      (s.fld CAL_STAT.TARGET = 5 →
        let span : Int := (ref : Int) - gnd
        let ok := decide (gnd ≤ 8 * 256) && decide (residual ≤ 50) && decide ((span * 10 - 34133 * 256).natAbs * 100 ≤ 34133 * 256)
        Gives (.calUnitDone i (.lookout gnd ref residual)) s
          ((if ok then (b.setTrim (40000 + 2 * u.id) (BitVec.ofInt 32 span)).setTrim (40001 + 2 * u.id) (BitVec.ofNat 32 gnd)
            else b).unitDone i residual 0 ok)) ∧
      (s.fld CAL_STAT.TARGET = 4 → s.portState (u.id / 8) = 12 →
        Gives (.calUnitDone i (.serdes width height)) s
          (s.unitDone i width height (decide (width ≥ 150 ∧ height ≥ 12)))) ∧
      (s.fld CAL_STAT.TARGET = 6 →
        let offset := roundDiv (s.calReference2 * 32 - sum) 64
        let ok := decide (offset.natAbs ≤ 80 ∧ residual ≤ 16)
        Gives (.calUnitDone i (.sensor sum residual)) s
          ((if ok then b.setTrim (41000 + u.id) (BitVec.ofNat 32 (i16 offset)) else b).unitDone i residual 0 ok))) ∧
    Gives .calRecordWrite s { b with cal := { s.cal with
      record := s.cal.unsaved.foldl (fun m e => match e.2 with | some v => SMap.ins e.1 v m | none => SMap.del e.1 m) s.cal.record
      unsaved := [] } }

/-- R697–R716: the cairn's clock, records, flushes, freeze and reads. -/
def Obligations.CairnTakesEffect : Prop :=
  ∀ (req : Fin 18) (dw : BitVec 26) (v : Word) (s : State),
    let b := s.toBlock
    let writes (i : Instr) := WriteGives i s req dw v .cairn
    (s.pow.off = false → Gives .cairnSecond s s.cairnSecond) ∧
    (let body := ((List.range 11).map (fun k =>
       let x := SMap.get (0, 0) s.cairn.data.rails k
       (x.1 % 65536 + x.2 % 65536 * 65536) * 2 ^ (32 * k))).sum
     let t := s.cairnRecord 2 1 body
     Gives .railHour s (if s.cairnOn then { t with cairn := { t.cairn with data := { t.cairn.data with rails := [] } } } else t)) ∧
    writes (.cairnTimeSet req dw v) [0x50] (fun _ _ _ _ => True)
      (fun t _ _ _ =>
        let old := t.cairn.time
        let new := v.toNat * 2 ^ 32 + ((SMap.find (stageKey CAIRN_TIME_LO req.val) t.staged).getD 0).toNat
        let u := { t.setBit CAIRN_STAT.TIME_SET (!t.cairn.crystalStopped) with cairn := { t.cairn with time := new } }
        if u.cairnOn then u.cairnPut 10 1 (if new < old then 1 else 0) (old % 2 ^ 64 + new * 2 ^ 64) else u.cairnMiss) ∧
    (s.fld CAIRN_CFG.PERIOD_H ≠ 0 → s.pow.off = false →
      (s.cairn.flush = none → s.bit CAIRN_CTL.FREEZE = false →
        Gives .cairnPeriodicFlush s { b.setBit CAIRN_STAT.FLUSHING true with cairn := { s.cairn with flush := some 2 } }) ∧
      (s.cairn.flush.isSome = true ∨ s.bit CAIRN_CTL.FREEZE = true →
        Gives .cairnPeriodicFlush s { b with cairn := { s.cairn with faultWaits := true } })) ∧
    Gives .faultFlushSpacing s ({ b with cairn := { s.cairn with spacing := false } } : Block).releaseFaultFlush ∧
    (s.cairn.flush.isSome = true →
      Gives (.cairnFlushDone false) s s.flushed ∧
      Gives (.cairnFlushDone true) s (s.flushed.raise (diePage 5) Irq.cairn_FLUSH_FAIL)) ∧
    writes (.cairnFreeze req dw v) [0x40] (fun _ _ _ _ => True) (fun t _ _ _ => t.cairnControl v) ∧
    writes (.cairnClear req dw v) [0x40] (fun _ _ _ _ => v.getLsbD 2 = true) (fun t _ _ _ => t.cairnControl v) ∧
    writes (.cairnFlushRequest req dw v) [0x40] (fun _ _ _ _ => v.getLsbD 3 = true) (fun t _ _ _ => t.cairnControl v) ∧
    (s.bit CAIRN_CTL.FREEZE = true →
      Gives .freezeTimeout s ((s.cairnFreeze false).raise (diePage 5) Irq.cairn_FREEZE_TMO)) ∧
    writes (.cairnReadAddr req dw v) [0x64] (fun _ _ _ _ => True)
      (fun t page off _ =>
        let u := ((t.storeAt req page off v).setBit CAIRN_STAT.RD_READY false).setBit CAIRN_STAT.RD_DENIED false
        { u with cairn := { u.cairn with readAddr := some (getBits v 0 24 / 2048 * 2048) } }) ∧
    (∀ a l denied, s.cairn.readAddr = some a → s.cairnRead a = (l, denied) →
      Gives .cairnReadReady s
        (({ b with cairn := { s.cairn with readAddr := none, win := l } }.setBit CAIRN_STAT.RD_READY true).setBit CAIRN_STAT.RD_DENIED
          denied))

/-! ## Start, reset and firmware -/

/-- R717–R726, R799–R807, R817: the start of the die: VDD_BASE, the rails one after another, the memory stacks' training, the
settling of the store, the sweep, and the end of the start; the core supply's setpoint moves in steps of 5 mV. -/
def Obligations.StartTakesEffect : Prop :=
  ∀ (rail : Fin 11) (vin : Nat) (fru pmod : Bool) (hbm trained : BitVec 6) (moved : List (Fin 39168 × Fin 512 × Fin 544 × Nat))
    (failures : List SweepFail) (r : RidgeId) (c : SiteId) (e : EngineId) (cut : Bool) (s : State),
    let b := s.toBlock
    (s.pow.off = true → Gives .vddBaseRise s
      ({ b with pow := { s.pow with off := false } }.setFld BC_STAT.LAST_RESET 0).boot123) ∧
    (s.pow.off = false → s.fld BC_STAT.STEP = 1 → Gives .vddBaseRise s b.boot123) ∧
    (rail.val ≠ 4 → rail.val ≠ 5 → s.pow.off = false →
      (s.bit (PM_RAIL_STAT.EN rail) = false → Gives (.railPowerGood rail vin) s s.railFault) ∧
      (∀ rest, s.bit (PM_RAIL_STAT.EN rail) = true → s.boot.rails = rail.val :: rest →
        let t := (b.setBit (PM_RAIL_STAT.PG rail) true).modBoot (fun x => { x with rails := rest })
        (rest = [] → Gives (.railPowerGood rail vin) s (t.setFld BC_STAT.STEP 5).startLook) ∧
        (∀ next more, rest = next :: more → next = 3 → vin < 3135 → Gives (.railPowerGood rail vin) s (t.startFails 4)) ∧
        (∀ next more, rest = next :: more → next ≠ 3 ∨ 3135 ≤ vin → Gives (.railPowerGood rail vin) s t.nextRail))) ∧
    (s.fld BC_STAT.STEP = 4 → s.boot.rails ≠ [] → Gives .powerGoodTimeout s (b.startFails 4)) ∧
    (s.fld BC_STAT.STEP = 5 → s.fld PM_DIE_STAT.STATE = 3 →
      let t := ((b.setBit BC_ID_STAT.FRU_OK fru).setBit BC_ID_STAT.PMOD_OK pmod).setFld BC_ID_STAT.HBM_OK hbm.toNat
      (hbm ≠ 63 → Gives (.hbmTrainingDone fru pmod hbm trained) s (t.startFails 5)) ∧
      (hbm = 63 → trained ≠ 63 → Gives (.hbmTrainingDone fru pmod hbm trained) s (t.startFails 6)) ∧
      (hbm = 63 → trained = 63 → Gives (.hbmTrainingDone fru pmod hbm trained) s
        ((List.range 16).foldl (fun t r => t.setRidgeState r 0)
          (((List.range 18).foldl (fun t o => t.drawKey o) t).imageRegion.setFld BC_STAT.STEP 7)))) ∧
    (s.settling = true → s.look.bandsTaken = false → Gives (.bandInit moved) s
      (moved.foldl (fun t m =>
        t.moveCells (keyRidge m.1) (keySite m.1) (keyEngine m.1) (keySlab m.1) [(m.2.1, m.2.2.1, m.2.2.2)]) b).settle) ∧
    (s.settling = true → s.look.bandsTaken = true →
      let t := (((List.range 16).foldl (fun t r => t.setRidgeState r 3) b).setFld PM_DIE_STAT.STATE 1).setFld BC_STAT.STEP 8
      Gives .storeSettlementDone s (if t.bit BC_CFG.AUTO_START then t.becomeActive else t)) ∧
    (s.fld BC_STAT.STEP = 9 → s.dieActive = true → Gives (.probeSweepDone failures) s ((s.sweep failures).setFld BC_STAT.STEP 10)) ∧
    (s.fld BC_STAT.STEP = 10 → s.bit BC_STAT.SERVING = false → s.dieActive = true →
      Gives .startDone s ((s.recoverMap.setBit BC_STAT.SERVING true).raise (diePage 1) Irq.start_START_DONE)) ∧
    (s.ridgeUp r = true → Gives (.paramCellProgram r c e cut) s (s.programParams r c e cut)) ∧
    (let now := s.fld (PM_RAIL_STAT.SETPOINT 0)
     s.bit (PM_RAIL_STAT.PG 0) = true → s.bit (PM_RAIL_STAT.EN 0) = true → now ≠ s.boot.setpoint →
      Gives .setpointStep s (s.setFld (PM_RAIL_STAT.SETPOINT 0)
        (if now < s.boot.setpoint then min s.boot.setpoint (now + 5) else max s.boot.setpoint (now - 5)))) ∧
    (s.bit (PM_RAIL_STAT.EN 0) = true → s.bit (PM_RAIL_STAT.EN 1) = true → s.bit (PM_RAIL_STAT.EN 2) = true →
      Gives .fabrefLoss s (s.emergency 255 0 4)) ∧
    (s.pow.off = false →
      Gives .crystalStop s { b.setBit CAIRN_STAT.TIME_SET false with cairn := { s.cairn with crystalStopped := true } }) ∧
    Gives .crystalRestart s { b with cairn := { s.cairn with crystalStopped := false } }

/-- R727–R739, R746, R747, R760: resets and firmware: a reset command with its key takes the reset it names and no other; a
function-level reset clears what the function had; an update stages, switches, confirms or reverts. -/
def Obligations.ResetsAndUpdatesTakeEffect : Prop :=
  ∀ (req : Fin 18) (dw : BitVec 26) (v : Word) (img : FwImage) (flashOk : Bool) (r : RidgeId) (s : State),
    let b := s.toBlock
    let resets (i : Instr) (op : Nat) (effect : Block → Block) : Prop :=
      WriteGives i s req dw v .start [0x48] (fun _ _ _ _ => getBits v 8 8 = 0xC3 ∧ getBits v 0 3 = op) (fun t _ _ _ => effect t)
    let updates (i : Instr) (op : Nat) (when : Block → Prop) (effect : Block → Block) : Prop :=
      WriteGives i s req dw v .start [0x58] (fun t _ _ _ => getBits v 0 3 = op ∧ when t) (fun t _ _ _ => effect t)
    resets (.resetCold req dw v) 1 (fun t => (((t.forceFlush 3).flushed).normalOrder 1).setFld BC_STAT.LAST_RESET 1) ∧
    resets (.resetWarm req dw v) 2 (fun t => (t.normalOrder 2).setFld BC_STAT.LAST_RESET 3) ∧
    resets (.resetRidge req dw v) 3
      (fun t => (List.range 16).foldl (fun t r => if v.getLsbD (16 + r) then t.resetRidge r else t) t) ∧
    (s.pow.off = false → s.fld PM_DIE_STAT.STATE ≠ 0 → s.pow.railDown = none →
      (s.bit BC_CFG.PERST_SCOPE = false → Gives .perst s b.resetWarm) ∧
      (s.bit BC_CFG.PERST_SCOPE = true →
        Gives .perst s { (b.endHostBeats (fun _ => true)).hostPage with hp := HostSt.reset })) ∧
    (s.pow.off = false → s.boot.recovery = false →
      (s.railsUp = [] →
        Gives .watchdogExpiry s (((b.loseBase true).setFld BC_STAT.LAST_RESET 2).setFld BC_STAT.STEP 1)) ∧
      (s.railsUp ≠ [] → Gives .watchdogExpiry s ((b.setFld BC_STAT.LAST_RESET 2).emergency 255 1 4))) ∧
    (s.bit HP_VF.VF_EN = true → r.val < s.fld HP_VF.NUMVF →
      let fn := r.val + 1
      let t := b.setFld ⟨HP_VF, 16 + r.val, 1⟩ 0
      let t := [0, 1, 2, 3].foldl (fun t k => t.setReg (HP_AP_CFG (4 * r.val + k)) (regReset (HP_AP_CFG 0))) t
      let held := (t.hp.held.map (fun (e : Nat × List ApReq) =>
        (e.1, e.2.filter (fun (q : ApReq) => decide (q.fn ≠ fn))))).filter (fun e => !e.2.isEmpty)
      Gives (.flrVf r) s
        ({ t with hp := { t.hp with d3 := t.hp.d3.filter (fun f => decide (f ≠ fn)), held := held } }.resetRidge r)) ∧
    (s.bit HP_LINK.UP = true →
      let t := (b.endHostBeats (fun _ => true)).hostPage.setReg HP_LINK (s.reg HP_LINK)
      Gives .flrPf s { t with hp := { t.hp with d3 := [], held := [], pfMsix := false } }) ∧
    (∀ t page, s.reach req dw.toNat true = (t, some (page, 0x08)) → (1 ≤ req.val ∧ req.val ≤ 16 → 4096 ≤ page) → v.getLsbD 1 = true →
      (pageKind page = .core → Gives (.coreSoftReset req dw v) s (t.resetCore (ridgeOfPage page) (siteOfPage page))) ∧
      (noSoftReset page = false → Gives (.blockSoftReset req dw v) s (t.resetBlock page))) ∧
    updates (.fwStage req dw v img flashOk) 1 (fun _ => True) (fun t => t.stage img flashOk) ∧
    updates (.fwSwitch req dw v) 2 (fun t => t.bit BC_UPDATE_STAT.STAGED = true) (fun t => (t.switchTo t.otherSlot true).updateEnd 0) ∧
    updates (.fwSwitch req dw v) 2 (fun t => t.bit BC_UPDATE_STAT.STAGED = false) (fun t => t.updateEnd 3) ∧
    updates (.fwConfirm req dw v) 3 (fun t => t.boot.trial = true)
      (fun t => ((t.modBoot (fun x => { x with trial := false, tries := 0 })).setBit BC_STAT.TRIAL false).updateEnd 0) ∧
    updates (.fwConfirm req dw v) 3 (fun t => t.boot.trial = false) (fun t => t.updateEnd 3) ∧
    updates (.fwRevert req dw v) 4 (fun t => t.boot.trial = true) (fun t => t.revert.updateEnd 0) ∧
    updates (.fwRevert req dw v) 4 (fun t => t.boot.trial = false) (fun t => t.updateEnd 3) ∧
    (s.boot.trial = true → s.bit BC_STAT.TRIAL = true → s.pow.off = false → Gives .trialTimeout s s.revert) ∧
    updates (.ucLoad req dw v) 5 (fun _ => True) (fun t => t.ucLoad (getBits v 16 16)) ∧
    updates (.serdesLoad req dw v) 6 (fun _ => 9 < getBits v 3 4) (fun t => t.updateEnd 3) ∧
    updates (.serdesLoad req dw v) 6 (fun _ => getBits v 3 4 ≤ 9)
      (fun t =>
        let p := getBits v 3 4
        let x := t.boot.slot t.running
        let load (u : Block) : Block := u.modBoot (fun y => { y with serdesVersion := SMap.ins p x.serdes y.serdesVersion })
        (if t.portState p = 0 then load t else (load (t.portTo p 14)).portDetect p).updateEnd 0) ∧
    (s.pow.off = false → s.boot.recovery = false →
      Gives (.pldmFwUpdate img flashOk) s (s.stage img flashOk) ∧ Gives .activateFirmware s s.switch) ∧
    (∀ t n, s.pow.off = false → s.boot.recovery = true → s.stageInto 0 img flashOk = (t, n) →
      (n ≠ 0 → Gives (.pldmFwUpdate img flashOk) s t) ∧
      (n = 0 →
        let u := (t.modBoot (fun x => { x with active := 0, trial := true, tries := 0 })).bootRom
        Gives (.pldmFwUpdate img flashOk) s
          (if u.boot.recovery then u else (u.setFld BC_STAT.STEP 3).setFld BC_STAT.FAIL_STEP 0)))

/-! ## The host port and the management port -/

/-- R741–R753, R766–R768, R804, R611: the host link, the aperture and its windows, configuration requests, power states of the
functions and link keys. The bytes in which a configuration request and a key request are answered are the model's. -/
def Obligations.HostPortTakesEffect : Prop :=
  ∀ (req : Fin 18) (dw : BitVec 26) (v : Word) (fn : Fin 17) (offset : BitVec 36) (len : Fin 513) (busy : Bool) (n : Nat)
    (words : List (Fin 64)) (cws : List (Fin 8)) (data : Row) (enables : BitVec 512) (access : Machine.CfgAccess) (flit : Bool)
    (speed width : Nat) (session : Word) (stream : Fin 18) (s : State),
    let b := s.toBlock
    let a := offset.toNat
    (s.decodes fn = true →
      Gives (.apertureRead fn offset len busy n words cws) s
        (s.apAccess ⟨fn, apWindow fn a, a % 2 ^ 30, min len.val (512 - a % 512), false, 0, 0⟩ busy n words cws) ∧
      Gives (.apertureWrite fn offset data enables busy n words cws) s
        (s.apAccess ⟨fn, apWindow fn a, a % 2 ^ 30, 512, true, data, enables⟩ busy n words cws)) ∧
    (s.decodes fn = false →
      Gives (.apertureRead fn offset len busy n words cws) s { b with answer := [] } ∧
      Gives (.apertureWrite fn offset data enables busy n words cws) s { b with answer := [] }) ∧
    (vfWindowAt req dw.toNat = none →
      WriteGives (.apertureCfgWrite req dw v) s req dw v .hostPort [0x4C] (fun _ _ _ _ => True) (fun t _ _ _ => t.storeWindow v)) ∧
    (∀ off, vfWindowAt req dw.toNat = some off → s.bit HP_LINK.UP = true →
      Gives (.apertureCfgWrite req dw v) s (s.vfWindow (req.val - 1) off v)) ∧
    (s.configured fn = true →
      (s.hp.d3.contains fn.val = false → Gives (.d3hotEntry fn) s { b with hp := { s.hp with d3 := s.hp.d3 ++ [fn.val] } }) ∧
      (s.hp.d3.contains fn.val = true →
        Gives (.d0Return fn) s { b with hp := { s.hp with d3 := s.hp.d3.filter (fun f => decide (f ≠ fn)) } }.pumpRings)) ∧
    (s.bit HP_LINK.UP = false → Gives (.configRequest fn access) s { b with answer := [] }) ∧
    (s.bit HP_LINK.UP = true →
      (s.configured 0 = false → Gives (.configRequest fn access) s { b with answer := [2] }) ∧
      (s.configured 0 = true → s.fnExists fn = false → Gives (.configRequest fn access) s { b with answer := [1] }) ∧
      (∀ t l, s.configured 0 = true → s.fnExists fn = true → s.config fn access = (t, l) →
        Gives (.configRequest fn access) s { t with answer := [0] ++ l })) ∧
    (let changed (t : Block) : Block :=
       if t.fld HP_LINK.UP ≠ s.fld HP_LINK.UP ∨ t.fld HP_LINK.SPEED ≠ s.fld HP_LINK.SPEED ∨ t.fld HP_LINK.WIDTH ≠ s.fld HP_LINK.WIDTH
       then t.raise (diePage 9) Irq.hostPort_LINK_CHANGE else t
     (linkForm flit speed width = true → s.bit (PM_RAIL_STAT.PG 6) = true → s.bit (PM_RAIL_STAT.PG 7) = true →
        Gives (.linkChange true flit speed width) s
          (changed ((((b.setBit HP_LINK.UP true).setBit HP_LINK.FLIT flit).setFld HP_LINK.SPEED speed).setFld HP_LINK.WIDTH width))) ∧
      Gives (.linkChange false flit speed width) s (changed (b.setBit HP_LINK.UP false))) ∧
    (s.tr.sessions.any (fun x => decide (x.id = session.toNat) && x.open') = true →
      let old := SMap.get 0 s.hp.ide stream
      let gives (op : Machine.IdeOp) (now code : Nat) : Prop :=
        let t := { b with hp := { s.hp with ide := SMap.set 0 s.hp.ide stream now } }
        let t := if stream.val = 0 then t.setBit HP_LINK.IDE_LINK (decide (now = 2)) else t
        Gives (.ideKm session stream op) s { t with answer := [BitVec.ofNat 8 code, 0, BitVec.ofNat 8 stream, 0] }
      gives .keyProg (if old = 2 then 2 else 1) 3 ∧ gives .setGo (if old = 0 then 0 else 2) 6 ∧
      gives .setStop (if old = 2 then 1 else old) 6) ∧
    (s.tr.sessions.any (fun x => decide (x.id = session.toNat) && x.open') = false →
      ∀ op, Gives (.ideKm session stream op) s { b with answer := [] })

/-- R754–R765: the management port: dynamic addresses, its common command codes, and its messages. A message that reaches the die
while it is in Hold wakes it and is answered (log entry 62). The answers whose bytes the spec leaves to I3C are constants of the
model, or free values. -/
def Obligations.ManagementTakesEffect : Prop :=
  ∀ (addr : BitVec 7) (events action eid src : Byte) (flash : BitVec 24) (tag : BitVec 4) (som eom : Bool) (body : List Byte)
    (session : Word) (verdict : Bool) (s t : State),
    let b := s.toBlock
    (s.mgmtRuns = true →
      (s.bit MG_STAT.DYN_VALID = false → Gives (.entdaa addr) s (s.assign addr)) ∧
      Gives .rstdaa s (((s.setBit MG_STAT.DYN_VALID false).setFld MG_STAT.DYN_ADDR 0).setFld MG_STAT.MODE 1) ∧
      (events.getLsbD 0 = true → Gives (.enec false events) s (s.setBit MG_STAT.IBI_EN true) ∧
        Gives (.disec false events) s (s.setBit MG_STAT.IBI_EN false)) ∧
      Gives (.rstact false action) s (s.modMg (fun m => { m with rstact := action.toNat }))) ∧
    (b.mgmtTakes [] = some t.toBlock →
      (t.bit MG_STAT.DYN_VALID = false → Gives (.setdasa addr) s (t.assign addr)) ∧
      Gives .cccUnsupported s { t.toBlock with answer := [] } ∧
      (s.bit MG_STAT.DYN_VALID = true →
        Gives (.setnewda addr) s (t.assign addr) ∧
        (events.getLsbD 0 = true → Gives (.enec true events) s (t.setBit MG_STAT.IBI_EN true) ∧
          Gives (.disec true events) s (t.setBit MG_STAT.IBI_EN false)) ∧
        Gives (.rstact true action) s (t.modMg (fun m => { m with rstact := action.toNat })) ∧
        Gives .getpid s { t.toBlock with answer := highFirst 6 t.provisionedId } ∧
        Gives .getbcr s { t.toBlock with answer := bytesOf 1 (Config.i3cRegister 0) } ∧
        Gives .getdcr s { t.toBlock with answer := bytesOf 1 (Config.i3cRegister 1) } ∧
        Gives .getstatus s { t.toBlock.tick with answer := highFirst 2 t.freeNat } ∧
        Gives .getmwl s { t.toBlock with answer := highFirst 2 (Config.i3cLength 0) } ∧
        Gives .getmrl s { t.toBlock with answer := highFirst 2 (Config.i3cLength 1) }) ∧
      (t.boot.recovery = false →
        Gives (.setEndpointId eid) s (t.setEndpoint eid.toNat) ∧
        Gives .pollForPlatformEventMessage s t.toBlock.pollEvent ∧
        Gives .fsFetch s { t.toBlock with answer := t.oldestSignature } ∧
        Gives .mgFsPop s t.toBlock.mgmtPop ∧
        Gives (.cairnRead flash) s { t.toBlock with answer := (t.cairnRead (flash.toNat / 2048 * 2048)).1 } ∧
        Gives .identity s { t.toBlock with answer := t.identityBytes } ∧
        Gives .mgState s { t.toBlock with answer := t.stateBytes })) ∧
    (b.mgmtTakes body = some t.toBlock → body.length ≤ 64 →
      let mine (p : MctpPart) : Bool := decide (p.src = src.toNat ∧ p.tag = tag.toNat)
      let others := t.mg.parts.filter (fun p => !mine p)
      let before := ((t.mg.parts.find? mine).map (·.body)).getD []
      (som = true → eom = true → Gives (.mctpMessage src tag som eom body session verdict) s
        ((t.modMg (fun m => { m with parts := others })).mctpWhole session verdict body)) ∧
      (som = true → eom = false → others.length < 4 → Gives (.mctpMessage src tag som eom body session verdict) s
        { t.modMg (fun m => { m with parts := others ++ [⟨src.toNat, tag.toNat, body⟩] }) with answer := [] }) ∧
      (som = true → eom = false → 4 ≤ others.length → Gives (.mctpMessage src tag som eom body session verdict) s t.toBlock.mctpDrop) ∧
      (som = false → t.mg.parts.any mine = true → eom = true → Gives (.mctpMessage src tag som eom body session verdict) s
        ((t.modMg (fun m => { m with parts := others })).mctpWhole session verdict (before ++ body))) ∧
      (som = false → t.mg.parts.any mine = true → eom = false → Gives (.mctpMessage src tag som eom body session verdict) s
        { t.modMg (fun m => { m with parts := others ++ [⟨src.toNat, tag.toNat, before ++ body⟩] }) with answer := [] }))
end

