-- ==== Sys2Proof/Laws/Dispatch.lean ====
section
/-! SUPPORT. One equation for each arm of `exec`, so that no later proof unfolds the dispatch. -/
namespace Sys2Proof.Machine

@[simp] theorem exec_registerWrite (req : Fin 18) (dw : BitVec 26) (full : Bool) (v : Word) (s : State) :
    exec (.registerWrite req dw full v) s = execRegisterWrite req dw full v s := rfl
@[simp] theorem exec_roPairLoRead (req : Fin 18) (dw : BitVec 26) (s : State) :
    exec (.roPairLoRead req dw) s = execRoPairLoRead req dw s := rfl
@[simp] theorem exec_lockSet (req : Fin 18) (dw : BitVec 26) (s : State) :
    exec (.lockSet req dw) s = execLockSet req dw s := rfl
@[simp] theorem exec_blkFreeze (req : Fin 18) (dw : BitVec 26) (freeze : Bool) (s : State) :
    exec (.blkFreeze req dw freeze) s = execBlkFreeze req dw freeze s := rfl
@[simp] theorem exec_irqForce (req : Fin 18) (dw : BitVec 26) (v : Word) (s : State) :
    exec (.irqForce req dw v) s = execIrqForce req dw v s := rfl
@[simp] theorem exec_irqStatusClear (req : Fin 18) (dw : BitVec 26) (v : Word) (s : State) :
    exec (.irqStatusClear req dw v) s = execIrqStatusClear req dw v s := rfl
@[simp] theorem exec_tokenGrant (r : RidgeId) (s : State) :
    exec (.tokenGrant r) s = execTokenGrant r s := rfl
@[simp] theorem exec_pgmIteration (r : RidgeId) (c : SiteId) (e : EngineId) (g : List Nat) (ue : List (Fin 4)) (repair : List Nat) (s : State) :
    exec (.pgmIteration r c e g ue repair) s = execPgmIteration r c e g ue repair s := rfl
@[simp] theorem exec_slabProgramDone (r : RidgeId) (c : SiteId) (e : EngineId) (s : State) :
    exec (.slabProgramDone r c e) s = execSlabProgramDone r c e s := rfl
@[simp] theorem exec_driftSampleDue (r : RidgeId) (c : SiteId) (e : EngineId) (p : SlabId) (s : State) :
    exec (.driftSampleDue r c e p) s = execDriftSampleDue r c e p s := rfl
@[simp] theorem exec_driftFit (r : RidgeId) (c : SiteId) (e : EngineId) (g : List Nat) (s : State) :
    exec (.driftFit r c e g) s = execDriftFit r c e g s := rfl
@[simp] theorem exec_debtAccrual (s : State) :
    exec (.debtAccrual) s = execDebtAccrual s := rfl
@[simp] theorem exec_readDebtCount (r : RidgeId) (c : SiteId) (e : EngineId) (p : SlabId) (s : State) :
    exec (.readDebtCount r c e p) s = execReadDebtCount r c e p s := rfl
@[simp] theorem exec_overdueCheck (r : RidgeId) (s : State) :
    exec (.overdueCheck r) s = execOverdueCheck r s := rfl
@[simp] theorem exec_refreshScanDone (r : RidgeId) (c : SiteId) (e : EngineId) (moved : List (Fin 512 × Fin 544 × Nat)) (s : State) :
    exec (.refreshScanDone r c e moved) s = execRefreshScanDone r c e moved s := rfl
@[simp] theorem exec_refreshResume (r : RidgeId) (s : State) :
    exec (.refreshResume r) s = execRefreshResume r s := rfl
@[simp] theorem exec_leaseAck (req : Fin 18) (dw : BitVec 26) (v : Word) (s : State) :
    exec (.leaseAck req dw v) s = execLeaseAck req dw v s := rfl
@[simp] theorem exec_idleStepBoundary (r : RidgeId) (s : State) :
    exec (.idleStepBoundary r) s = execIdleStepBoundary r s := rfl
@[simp] theorem exec_eraseScopeWrite (req : Fin 18) (dw : BitVec 26) (v : Word) (s : State) :
    exec (.eraseScopeWrite req dw v) s = execEraseScopeWrite req dw v s := rfl
@[simp] theorem exec_eraseArm (req : Fin 18) (dw : BitVec 26) (v : Word) (s : State) :
    exec (.eraseArm req dw v) s = execEraseArm req dw v s := rfl
@[simp] theorem exec_eraseArmExpiry (s : State) :
    exec (.eraseArmExpiry) s = execEraseArmExpiry s := rfl
@[simp] theorem exec_eraseStart (req : Fin 18) (dw : BitVec 26) (v : Word) (s : State) :
    exec (.eraseStart req dw v) s = execEraseStart req dw v s := rfl
@[simp] theorem exec_eraseDone (s : State) :
    exec (.eraseDone) s = execEraseDone s := rfl
@[simp] theorem exec_debtCheckpoint (s : State) :
    exec (.debtCheckpoint) s = execDebtCheckpoint s := rfl
@[simp] theorem exec_cairnStoreRefresh (s : State) :
    exec (.cairnStoreRefresh) s = execCairnStoreRefresh s := rfl
@[simp] theorem exec_scan (req : Fin 18) (dw : BitVec 26) (v : Word) (s : State) :
    exec (.scan req dw v) s = execScan req dw v s := rfl
@[simp] theorem exec_refresh (req : Fin 18) (dw : BitVec 26) (v : Word) (s : State) :
    exec (.refresh req dw v) s = execRefresh req dw v s := rfl
@[simp] theorem exec_driftSample (req : Fin 18) (dw : BitVec 26) (v : Word) (s : State) :
    exec (.driftSample req dw v) s = execDriftSample req dw v s := rfl
@[simp] theorem exec_replaceColumn (req : Fin 18) (dw : BitVec 26) (v : Word) (s : State) :
    exec (.replaceColumn req dw v) s = execReplaceColumn req dw v s := rfl
@[simp] theorem exec_replaceSlab (req : Fin 18) (dw : BitVec 26) (v : Word) (s : State) :
    exec (.replaceSlab req dw v) s = execReplaceSlab req dw v s := rfl
@[simp] theorem exec_reverify (req : Fin 18) (dw : BitVec 26) (v : Word) (s : State) :
    exec (.reverify req dw v) s = execReverify req dw v s := rfl
@[simp] theorem exec_fire (r : RidgeId) (c : SiteId) (e : EngineId) (last : Bool) (slab : BitVec 4) (vreg : BitVec 5) (shape : BitVec 2) (group : BitVec 4) (slice : BitVec 3) (signed acc half : Bool) (rsv : BitVec 12) (s : State) :
    exec (.fire r c e last slab vreg shape group slice signed acc half rsv) s = execFire r c e last slab vreg shape group slice signed acc half rsv s := rfl
@[simp] theorem exec_qmFire (r : RidgeId) (c : SiteId) (e : EngineId) (last : Bool) (vreg : BitVec 5) (shape : BitVec 2) (group : BitVec 4) (slice : BitVec 3) (signed acc half : Bool) (rsv : BitVec 12) (s : State) :
    exec (.qmFire r c e last vreg shape group slice signed acc half rsv) s = execQmFire r c e last vreg shape group slice signed acc half rsv s := rfl
@[simp] theorem exec_probe (r : RidgeId) (c : SiteId) (e : EngineId) (last : Bool) (slab : BitVec 4) (rsv : BitVec 29) (s : State) :
    exec (.probe r c e last slab rsv) s = execProbe r c e last slab rsv s := rfl
@[simp] theorem exec_echo (r : RidgeId) (c : SiteId) (e : EngineId) (last target hist : Bool) (rsv : BitVec 31) (s : State) :
    exec (.echo r c e last target hist rsv) s = execEcho r c e last target hist rsv s := rfl
@[simp] theorem exec_drain (r : RidgeId) (c : SiteId) (e : EngineId) (last : Bool) (first lastBlk : BitVec 3) (vreg fmt : BitVec 5) (slab : BitVec 4) (clr tally : Bool) (rsv : BitVec 11) (s : State) :
    exec (.drain r c e last first lastBlk vreg fmt slab clr tally rsv) s = execDrain r c e last first lastBlk vreg fmt slab clr tally rsv s := rfl
@[simp] theorem exec_clear (r : RidgeId) (c : SiteId) (e : EngineId) (last : Bool) (first lastBlk : BitVec 3) (tally : Bool) (rsv : BitVec 26) (s : State) :
    exec (.clear r c e last first lastBlk tally rsv) s = execClear r c e last first lastBlk tally rsv s := rfl
@[simp] theorem exec_qload (r : RidgeId) (c : SiteId) (e : EngineId) (last : Bool) (vreg qrow : BitVec 5) (rsv : BitVec 23) (s : State) :
    exec (.qload r c e last vreg qrow rsv) s = execQload r c e last vreg qrow rsv s := rfl
@[simp] theorem exec_engineNop (r : RidgeId) (c : SiteId) (last : Bool) (rest : BitVec 36) (s : State) :
    exec (.engineNop r c last rest) s = execEngineNop r c last rest s := rfl
@[simp] theorem exec_passStart (r : RidgeId) (c : SiteId) (e : EngineId) (s : State) :
    exec (.passStart r c e) s = execPassStart r c e s := rfl
@[simp] theorem exec_biasHoldExpiry (r : RidgeId) (c : SiteId) (e : EngineId) (s : State) :
    exec (.biasHoldExpiry r c e) s = execBiasHoldExpiry r c e s := rfl
@[simp] theorem exec_passLatch (r : RidgeId) (c : SiteId) (e : EngineId) (err : List Int) (s : State) :
    exec (.passLatch r c e err) s = execPassLatch r c e err s := rfl
@[simp] theorem exec_drainExecute (r : RidgeId) (c : SiteId) (e : EngineId) (mismatches : List (Fin 528)) (s : State) :
    exec (.drainExecute r c e mismatches) s = execDrainExecute r c e mismatches s := rfl
@[simp] theorem exec_drainResultWrite (r : RidgeId) (c : SiteId) (e : EngineId) (s : State) :
    exec (.drainResultWrite r c e) s = execDrainResultWrite r c e s := rfl
@[simp] theorem exec_clearExecute (r : RidgeId) (c : SiteId) (e : EngineId) (s : State) :
    exec (.clearExecute r c e) s = execClearExecute r c e s := rfl
@[simp] theorem exec_qmPassStart (r : RidgeId) (c : SiteId) (e : EngineId) (s : State) :
    exec (.qmPassStart r c e) s = execQmPassStart r c e s := rfl
@[simp] theorem exec_qmPassLatch (r : RidgeId) (c : SiteId) (e : EngineId) (s : State) :
    exec (.qmPassLatch r c e) s = execQmPassLatch r c e s := rfl
@[simp] theorem exec_qloadExecute (r : RidgeId) (c : SiteId) (e : EngineId) (s : State) :
    exec (.qloadExecute r c e) s = execQloadExecute r c e s := rfl
@[simp] theorem exec_frameStart (r : RidgeId) (c : SiteId) (s : State) :
    exec (.frameStart r c) s = execFrameStart r c s := rfl
@[simp] theorem exec_probeFrame (r : RidgeId) (c : SiteId) (e : EngineId) (edge : Fin 5) (s : State) :
    exec (.probeFrame r c e edge) s = execProbeFrame r c e edge s := rfl
@[simp] theorem exec_echoFrame (r : RidgeId) (c : SiteId) (e : EngineId) (edge : Fin 5) (s : State) :
    exec (.echoFrame r c e edge) s = execEchoFrame r c e edge s := rfl
@[simp] theorem exec_probeCompare (r : RidgeId) (c : SiteId) (e : EngineId) (err : List Int) (s : State) :
    exec (.probeCompare r c e err) s = execProbeCompare r c e err s := rfl
@[simp] theorem exec_echoCompare (r : RidgeId) (c : SiteId) (e : EngineId) (err : List Int) (s : State) :
    exec (.echoCompare r c e err) s = execEchoCompare r c e err s := rfl
@[simp] theorem exec_probeEntryRefill (r : RidgeId) (c : SiteId) (e : EngineId) (p : SlabId) (sum : Bool) (s : State) :
    exec (.probeEntryRefill r c e p sum) s = execProbeEntryRefill r c e p sum s := rfl
@[simp] theorem exec_blockTableWrite (req : Fin 18) (dw : BitVec 26) (v : Word) (s : State) :
    exec (.blockTableWrite req dw v) s = execBlockTableWrite req dw v s := rfl
@[simp] theorem exec_normWatchWrite (req : Fin 18) (dw : BitVec 26) (v : Word) (s : State) :
    exec (.normWatchWrite req dw v) s = execNormWatchWrite req dw v s := rfl
@[simp] theorem exec_scalarNop (r : RidgeId) (c : SiteId) (slotB last : Bool) (rest : BitVec 54) (s : State) :
    exec (.scalarNop r c slotB last rest) s = execScalarNop r c slotB last rest s := rfl
@[simp] theorem exec_add (r : RidgeId) (c : SiteId) (o : SOp) (s : State) :
    exec (.add r c o) s = execAdd r c o s := rfl
@[simp] theorem exec_sub (r : RidgeId) (c : SiteId) (o : SOp) (s : State) :
    exec (.sub r c o) s = execSub r c o s := rfl
@[simp] theorem exec_and (r : RidgeId) (c : SiteId) (o : SOp) (s : State) :
    exec (.and r c o) s = execAnd r c o s := rfl
@[simp] theorem exec_or (r : RidgeId) (c : SiteId) (o : SOp) (s : State) :
    exec (.or r c o) s = execOr r c o s := rfl
@[simp] theorem exec_xor (r : RidgeId) (c : SiteId) (o : SOp) (s : State) :
    exec (.xor r c o) s = execXor r c o s := rfl
@[simp] theorem exec_shl (r : RidgeId) (c : SiteId) (o : SOp) (s : State) :
    exec (.shl r c o) s = execShl r c o s := rfl
@[simp] theorem exec_shr (r : RidgeId) (c : SiteId) (o : SOp) (s : State) :
    exec (.shr r c o) s = execShr r c o s := rfl
@[simp] theorem exec_sra (r : RidgeId) (c : SiteId) (o : SOp) (s : State) :
    exec (.sra r c o) s = execSra r c o s := rfl
@[simp] theorem exec_mul (r : RidgeId) (c : SiteId) (o : SOp) (s : State) :
    exec (.mul r c o) s = execMul r c o s := rfl
@[simp] theorem exec_mulh (r : RidgeId) (c : SiteId) (o : SOp) (s : State) :
    exec (.mulh r c o) s = execMulh r c o s := rfl
@[simp] theorem exec_mulhu (r : RidgeId) (c : SiteId) (o : SOp) (s : State) :
    exec (.mulhu r c o) s = execMulhu r c o s := rfl
@[simp] theorem exec_min (r : RidgeId) (c : SiteId) (o : SOp) (s : State) :
    exec (.min r c o) s = execMin r c o s := rfl
@[simp] theorem exec_max (r : RidgeId) (c : SiteId) (o : SOp) (s : State) :
    exec (.max r c o) s = execMax r c o s := rfl
@[simp] theorem exec_minu (r : RidgeId) (c : SiteId) (o : SOp) (s : State) :
    exec (.minu r c o) s = execMinu r c o s := rfl
@[simp] theorem exec_maxu (r : RidgeId) (c : SiteId) (o : SOp) (s : State) :
    exec (.maxu r c o) s = execMaxu r c o s := rfl
@[simp] theorem exec_li (r : RidgeId) (c : SiteId) (o : SOp) (s : State) :
    exec (.li r c o) s = execLi r c o s := rfl
@[simp] theorem exec_ceq (r : RidgeId) (c : SiteId) (o : SOp) (s : State) :
    exec (.ceq r c o) s = execCeq r c o s := rfl
@[simp] theorem exec_cne (r : RidgeId) (c : SiteId) (o : SOp) (s : State) :
    exec (.cne r c o) s = execCne r c o s := rfl
@[simp] theorem exec_clt (r : RidgeId) (c : SiteId) (o : SOp) (s : State) :
    exec (.clt r c o) s = execClt r c o s := rfl
@[simp] theorem exec_cltu (r : RidgeId) (c : SiteId) (o : SOp) (s : State) :
    exec (.cltu r c o) s = execCltu r c o s := rfl
@[simp] theorem exec_cge (r : RidgeId) (c : SiteId) (o : SOp) (s : State) :
    exec (.cge r c o) s = execCge r c o s := rfl
@[simp] theorem exec_cgeu (r : RidgeId) (c : SiteId) (o : SOp) (s : State) :
    exec (.cgeu r c o) s = execCgeu r c o s := rfl
@[simp] theorem exec_pand (r : RidgeId) (c : SiteId) (o : SOp) (s : State) :
    exec (.pand r c o) s = execPand r c o s := rfl
@[simp] theorem exec_por (r : RidgeId) (c : SiteId) (o : SOp) (s : State) :
    exec (.por r c o) s = execPor r c o s := rfl
@[simp] theorem exec_pxor (r : RidgeId) (c : SiteId) (o : SOp) (s : State) :
    exec (.pxor r c o) s = execPxor r c o s := rfl
@[simp] theorem exec_pandn (r : RidgeId) (c : SiteId) (o : SOp) (s : State) :
    exec (.pandn r c o) s = execPandn r c o s := rfl
@[simp] theorem exec_vnop (r : RidgeId) (c : SiteId) (last : Bool) (rest : BitVec 86) (s : State) :
    exec (.vnop r c last rest) s = execVnop r c last rest s := rfl
@[simp] theorem exec_vadd (r : RidgeId) (c : SiteId) (o : VOp) (s : State) :
    exec (.vadd r c o) s = execVadd r c o s := rfl
@[simp] theorem exec_vsub (r : RidgeId) (c : SiteId) (o : VOp) (s : State) :
    exec (.vsub r c o) s = execVsub r c o s := rfl
@[simp] theorem exec_vmul (r : RidgeId) (c : SiteId) (o : VOp) (s : State) :
    exec (.vmul r c o) s = execVmul r c o s := rfl
@[simp] theorem exec_vfma (r : RidgeId) (c : SiteId) (o : VOp) (s : State) :
    exec (.vfma r c o) s = execVfma r c o s := rfl
@[simp] theorem exec_vmin (r : RidgeId) (c : SiteId) (o : VOp) (s : State) :
    exec (.vmin r c o) s = execVmin r c o s := rfl
@[simp] theorem exec_vmax (r : RidgeId) (c : SiteId) (o : VOp) (s : State) :
    exec (.vmax r c o) s = execVmax r c o s := rfl
@[simp] theorem exec_vand (r : RidgeId) (c : SiteId) (o : VOp) (s : State) :
    exec (.vand r c o) s = execVand r c o s := rfl
@[simp] theorem exec_vor (r : RidgeId) (c : SiteId) (o : VOp) (s : State) :
    exec (.vor r c o) s = execVor r c o s := rfl
@[simp] theorem exec_vxor (r : RidgeId) (c : SiteId) (o : VOp) (s : State) :
    exec (.vxor r c o) s = execVxor r c o s := rfl
@[simp] theorem exec_vshl (r : RidgeId) (c : SiteId) (o : VOp) (s : State) :
    exec (.vshl r c o) s = execVshl r c o s := rfl
@[simp] theorem exec_vshr (r : RidgeId) (c : SiteId) (o : VOp) (s : State) :
    exec (.vshr r c o) s = execVshr r c o s := rfl
@[simp] theorem exec_vsel (r : RidgeId) (c : SiteId) (o : VOp) (s : State) :
    exec (.vsel r c o) s = execVsel r c o s := rfl
@[simp] theorem exec_vcmp (r : RidgeId) (c : SiteId) (o : VOp) (s : State) :
    exec (.vcmp r c o) s = execVcmp r c o s := rfl
@[simp] theorem exec_vbcast (r : RidgeId) (c : SiteId) (o : VOp) (s : State) :
    exec (.vbcast r c o) s = execVbcast r c o s := rfl
@[simp] theorem exec_vperm (r : RidgeId) (c : SiteId) (o : VOp) (s : State) :
    exec (.vperm r c o) s = execVperm r c o s := rfl
@[simp] theorem exec_vcvt (r : RidgeId) (c : SiteId) (o : VOp) (s : State) :
    exec (.vcvt r c o) s = execVcvt r c o s := rfl
@[simp] theorem exec_vqnt (r : RidgeId) (c : SiteId) (o : VOp) (s : State) :
    exec (.vqnt r c o) s = execVqnt r c o s := rfl
@[simp] theorem exec_vexp (r : RidgeId) (c : SiteId) (o : VOp) (s : State) :
    exec (.vexp r c o) s = execVexp r c o s := rfl
@[simp] theorem exec_vrsqrt (r : RidgeId) (c : SiteId) (o : VOp) (s : State) :
    exec (.vrsqrt r c o) s = execVrsqrt r c o s := rfl
@[simp] theorem exec_vrcp (r : RidgeId) (c : SiteId) (o : VOp) (s : State) :
    exec (.vrcp r c o) s = execVrcp r c o s := rfl
@[simp] theorem exec_vrsum (r : RidgeId) (c : SiteId) (o : VOp) (s : State) :
    exec (.vrsum r c o) s = execVrsum r c o s := rfl
@[simp] theorem exec_vrmax (r : RidgeId) (c : SiteId) (o : VOp) (s : State) :
    exec (.vrmax r c o) s = execVrmax r c o s := rfl
@[simp] theorem exec_vrsq (r : RidgeId) (c : SiteId) (o : VOp) (s : State) :
    exec (.vrsq r c o) s = execVrsq r c o s := rfl
@[simp] theorem exec_vlcomb (r : RidgeId) (c : SiteId) (o : VOp) (s : State) :
    exec (.vlcomb r c o) s = execVlcomb r c o s := rfl
@[simp] theorem exec_nwacc (r : RidgeId) (c : SiteId) (o : VOp) (s : State) :
    exec (.nwacc r c o) s = execNwacc r c o s := rfl
@[simp] theorem exec_nwend (r : RidgeId) (c : SiteId) (o : VOp) (s : State) :
    exec (.nwend r c o) s = execNwend r c o s := rfl
@[simp] theorem exec_tkInit (r : RidgeId) (c : SiteId) (o : VOp) (s : State) :
    exec (.tkInit r c o) s = execTkInit r c o s := rfl
@[simp] theorem exec_tkScan (r : RidgeId) (c : SiteId) (o : VOp) (s : State) :
    exec (.tkScan r c o) s = execTkScan r c o s := rfl
@[simp] theorem exec_tkMerge (r : RidgeId) (c : SiteId) (o : VOp) (s : State) :
    exec (.tkMerge r c o) s = execTkMerge r c o s := rfl
@[simp] theorem exec_tkOut (r : RidgeId) (c : SiteId) (o : VOp) (s : State) :
    exec (.tkOut r c o) s = execTkOut r c o s := rfl
@[simp] theorem exec_smpNorm (r : RidgeId) (c : SiteId) (o : VOp) (s : State) :
    exec (.smpNorm r c o) s = execSmpNorm r c o s := rfl
@[simp] theorem exec_smpTopp (r : RidgeId) (c : SiteId) (o : VOp) (s : State) :
    exec (.smpTopp r c o) s = execSmpTopp r c o s := rfl
@[simp] theorem exec_smpDraw (r : RidgeId) (c : SiteId) (o : VOp) (s : State) :
    exec (.smpDraw r c o) s = execSmpDraw r c o s := rfl
@[simp] theorem exec_smpAccept (r : RidgeId) (c : SiteId) (o : VOp) (s : State) :
    exec (.smpAccept r c o) s = execSmpAccept r c o s := rfl
@[simp] theorem exec_memNop (r : RidgeId) (c : SiteId) (last : Bool) (rest : BitVec 86) (s : State) :
    exec (.memNop r c last rest) s = execMemNop r c last rest s := rfl
@[simp] theorem exec_ld (r : RidgeId) (c : SiteId) (o : MOp) (s : State) :
    exec (.ld r c o) s = execLd r c o s := rfl
@[simp] theorem exec_st (r : RidgeId) (c : SiteId) (o : MOp) (s : State) :
    exec (.st r c o) s = execSt r c o s := rfl
@[simp] theorem exec_movv2s (r : RidgeId) (c : SiteId) (o : MOp) (s : State) :
    exec (.movv2s r c o) s = execMovv2s r c o s := rfl
@[simp] theorem exec_movs2v (r : RidgeId) (c : SiteId) (o : MOp) (s : State) :
    exec (.movs2v r c o) s = execMovs2v r c o s := rfl
@[simp] theorem exec_movx2s (r : RidgeId) (c : SiteId) (o : MOp) (s : State) :
    exec (.movx2s r c o) s = execMovx2s r c o s := rfl
@[simp] theorem exec_movs2x (r : RidgeId) (c : SiteId) (o : MOp) (s : State) :
    exec (.movs2x r c o) s = execMovs2x r c o s := rfl
@[simp] theorem exec_get (r : RidgeId) (c : SiteId) (o : MOp) (s : State) :
    exec (.get r c o) s = execGet r c o s := rfl
@[simp] theorem exec_put (r : RidgeId) (c : SiteId) (o : MOp) (s : State) :
    exec (.put r c o) s = execPut r c o s := rfl
@[simp] theorem exec_mdisp (r : RidgeId) (c : SiteId) (o : MOp) (s : State) :
    exec (.mdisp r c o) s = execMdisp r c o s := rfl
@[simp] theorem exec_emit (r : RidgeId) (c : SiteId) (o : MOp) (s : State) :
    exec (.emit r c o) s = execEmit r c o s := rfl
@[simp] theorem exec_drvPush (r : RidgeId) (c : SiteId) (o : MOp) (s : State) :
    exec (.drvPush r c o) s = execDrvPush r c o s := rfl
@[simp] theorem exec_crPush (r : RidgeId) (c : SiteId) (o : MOp) (s : State) :
    exec (.crPush r c o) s = execCrPush r c o s := rfl
@[simp] theorem exec_crPop (r : RidgeId) (c : SiteId) (o : MOp) (s : State) :
    exec (.crPop r c o) s = execCrPop r c o s := rfl
@[simp] theorem exec_crPeek (r : RidgeId) (c : SiteId) (o : MOp) (s : State) :
    exec (.crPeek r c o) s = execCrPeek r c o s := rfl
@[simp] theorem exec_crFree (r : RidgeId) (c : SiteId) (o : MOp) (s : State) :
    exec (.crFree r c o) s = execCrFree r c o s := rfl
@[simp] theorem exec_crStat (r : RidgeId) (c : SiteId) (o : MOp) (s : State) :
    exec (.crStat r c o) s = execCrStat r c o s := rfl
@[simp] theorem exec_nwRds (r : RidgeId) (c : SiteId) (o : MOp) (s : State) :
    exec (.nwRds r c o) s = execNwRds r c o s := rfl
@[simp] theorem exec_ctrlNop (r : RidgeId) (c : SiteId) (rest : BitVec 56) (badHeader : Bool) (fetch : Fetch) (s : State) :
    exec (.ctrlNop r c rest badHeader fetch) s = execCtrlNop r c rest badHeader fetch s := rfl
@[simp] theorem exec_br (r : RidgeId) (c : SiteId) (o : COp) (s : State) :
    exec (.br r c o) s = execBr r c o s := rfl
@[simp] theorem exec_jr (r : RidgeId) (c : SiteId) (o : COp) (s : State) :
    exec (.jr r c o) s = execJr r c o s := rfl
@[simp] theorem exec_loop (r : RidgeId) (c : SiteId) (o : COp) (s : State) :
    exec (.loop r c o) s = execLoop r c o s := rfl
@[simp] theorem exec_halt (r : RidgeId) (c : SiteId) (o : COp) (s : State) :
    exec (.halt r c o) s = execHalt r c o s := rfl
@[simp] theorem exec_eret (r : RidgeId) (c : SiteId) (o : COp) (s : State) :
    exec (.eret r c o) s = execEret r c o s := rfl
@[simp] theorem exec_syncAdd (r : RidgeId) (c : SiteId) (o : COp) (s : State) :
    exec (.syncAdd r c o) s = execSyncAdd r c o s := rfl
@[simp] theorem exec_syncNotify (r : RidgeId) (c : SiteId) (o : COp) (s : State) :
    exec (.syncNotify r c o) s = execSyncNotify r c o s := rfl
@[simp] theorem exec_syncClaim (r : RidgeId) (c : SiteId) (o : COp) (s : State) :
    exec (.syncClaim r c o) s = execSyncClaim r c o s := rfl
@[simp] theorem exec_syncWait (r : RidgeId) (c : SiteId) (o : COp) (s : State) :
    exec (.syncWait r c o) s = execSyncWait r c o s := rfl
@[simp] theorem exec_syncWaitwake (r : RidgeId) (c : SiteId) (o : COp) (s : State) :
    exec (.syncWaitwake r c o) s = execSyncWaitwake r c o s := rfl
@[simp] theorem exec_syncCellOp (r : RidgeId) (cell : Fin 1024) (ops : List Packet) (s : State) :
    exec (.syncCellOp r cell ops) s = execSyncCellOp r cell ops s := rfl
@[simp] theorem exec_wakeDelivery (p : Packet) (s : State) :
    exec (.wakeDelivery p) s = execWakeDelivery p s := rfl
@[simp] theorem exec_syncAnswer (p : Packet) (s : State) :
    exec (.syncAnswer p) s = execSyncAnswer p s := rfl
@[simp] theorem exec_holdSpanEnd (r : RidgeId) (c : SiteId) (stallFrames : Nat) (s : State) :
    exec (.holdSpanEnd r c stallFrames) s = execHoldSpanEnd r c stallFrames s := rfl
@[simp] theorem exec_syncTimeout (r : RidgeId) (c : SiteId) (s : State) :
    exec (.syncTimeout r c) s = execSyncTimeout r c s := rfl
@[simp] theorem exec_getRequest (p : Packet) (busy : Bool) (corrected : Nat) (badWords : List (Fin 64)) (badCodewords : List (Fin 8)) (s : State) :
    exec (.getRequest p busy corrected badWords badCodewords) s = execGetRequest p busy corrected badWords badCodewords s := rfl
@[simp] theorem exec_putRequest (p : Packet) (busy : Bool) (corrected : Nat) (badWords : List (Fin 64)) (badCodewords : List (Fin 8)) (s : State) :
    exec (.putRequest p busy corrected badWords badCodewords) s = execPutRequest p busy corrected badWords badCodewords s := rfl
@[simp] theorem exec_getData (p : Packet) (withCore : Bool) (corrected : Nat) (bad : List (Fin 64)) (s : State) :
    exec (.getData p withCore corrected bad) s = execGetData p withCore corrected bad s := rfl
@[simp] theorem exec_remoteCompletion (p : Packet) (s : State) :
    exec (.remoteCompletion p) s = execRemoteCompletion p s := rfl
@[simp] theorem exec_remoteTimeout (r : RidgeId) (c : SiteId) (tag : Fin 64) (s : State) :
    exec (.remoteTimeout r c tag) s = execRemoteTimeout r c tag s := rfl
@[simp] theorem exec_coreStart (req : Fin 18) (dw : BitVec 26) (v : Word) (s : State) :
    exec (.coreStart req dw v) s = execCoreStart req dw v s := rfl
@[simp] theorem exec_haltReq (req : Fin 18) (dw : BitVec 26) (v : Word) (s : State) :
    exec (.haltReq req dw v) s = execHaltReq req dw v s := rfl
@[simp] theorem exec_imemWordWrite (req : Fin 18) (dw : BitVec 26) (v : Word) (s : State) :
    exec (.imemWordWrite req dw v) s = execImemWordWrite req dw v s := rfl
@[simp] theorem exec_awCtlWrite (req : Fin 18) (dw : BitVec 26) (v : Word) (s : State) :
    exec (.awCtlWrite req dw v) s = execAwCtlWrite req dw v s := rfl
@[simp] theorem exec_syncValWrite (req : Fin 18) (dw : BitVec 26) (v : Word) (ops : List Packet) (s : State) :
    exec (.syncValWrite req dw v ops) s = execSyncValWrite req dw v ops s := rfl
@[simp] theorem exec_syncAddReg (req : Fin 18) (dw : BitVec 26) (v : Word) (ops : List Packet) (s : State) :
    exec (.syncAddReg req dw v ops) s = execSyncAddReg req dw v ops s := rfl
@[simp] theorem exec_migTemporary (req : Fin 18) (dw : BitVec 26) (v : Word) (s : State) :
    exec (.migTemporary req dw v) s = execMigTemporary req dw v s := rfl
@[simp] theorem exec_migPermanent (req : Fin 18) (dw : BitVec 26) (v : Word) (s : State) :
    exec (.migPermanent req dw v) s = execMigPermanent req dw v s := rfl
@[simp] theorem exec_migReturn (req : Fin 18) (dw : BitVec 26) (v : Word) (s : State) :
    exec (.migReturn req dw v) s = execMigReturn req dw v s := rfl
@[simp] theorem exec_migDrainDone (r : RidgeId) (s : State) :
    exec (.migDrainDone r) s = execMigDrainDone r s := rfl
@[simp] theorem exec_migDrainTimeout (r : RidgeId) (s : State) :
    exec (.migDrainTimeout r) s = execMigDrainTimeout r s := rfl
@[simp] theorem exec_migFlip (r : RidgeId) (spans : Nat) (s : State) :
    exec (.migFlip r spans) s = execMigFlip r spans s := rfl
@[simp] theorem exec_localRowAccess (r : RidgeId) (c : SiteId) (corrected : Nat) (bad : List (Fin 64)) (s : State) :
    exec (.localRowAccess r c corrected bad) s = execLocalRowAccess r c corrected bad s := rfl
@[simp] theorem exec_sharedPhaseAccess (r : RidgeId) (c : SiteId) (withCore : Bool) (corrected : Nat) (bad : List (Fin 64)) (s : State) :
    exec (.sharedPhaseAccess r c withCore corrected bad) s = execSharedPhaseAccess r c withCore corrected bad s := rfl
@[simp] theorem exec_regionArrival (p : Packet) (withCore : Bool) (s : State) :
    exec (.regionArrival p withCore) s = execRegionArrival p withCore s := rfl
@[simp] theorem exec_crCtlWrite (req : Fin 18) (dw : BitVec 26) (v : Word) (s : State) :
    exec (.crCtlWrite req dw v) s = execCrCtlWrite req dw v s := rfl
@[simp] theorem exec_poolEnable (req : Fin 18) (dw : BitVec 26) (v : Word) (s : State) :
    exec (.poolEnable req dw v) s = execPoolEnable req dw v s := rfl
@[simp] theorem exec_cacheAccess (h : StackId) (k : Nat) (corrected : Nat) (bad : List (Fin 8)) (s : State) :
    exec (.cacheAccess h k corrected bad) s = execCacheAccess h k corrected bad s := rfl
@[simp] theorem exec_cacheScrub (h : StackId) (unit : Nat) (corrected : Nat) (bad : List (Fin 8)) (last : Bool) (s : State) :
    exec (.cacheScrub h unit corrected bad last) s = execCacheScrub h unit corrected bad last s := rfl
@[simp] theorem exec_hbmRefresh (_h : StackId) (s : State) :
    exec (.hbmRefresh _h) s = execHbmRefresh _h s := rfl
@[simp] theorem exec_cacheRegionWrite (req : Fin 18) (dw : BitVec 26) (v : Word) (s : State) :
    exec (.cacheRegionWrite req dw v) s = execCacheRegionWrite req dw v s := rfl
@[simp] theorem exec_packetDelivery (p : Packet) (busy withCore : Bool) (corrected : Nat) (badWords : List (Fin 64)) (badCodewords : List (Fin 8)) (s : State) :
    exec (.packetDelivery p busy withCore corrected badWords badCodewords) s = execPacketDelivery p busy withCore corrected badWords badCodewords s := rfl
@[simp] theorem exec_routeChange (west east : Bool) (holes : List (Fin 2 × Fin 19 × Word)) (seams : List (Fin 16)) (unreachable : List (RidgeId × SiteId)) (s : State) :
    exec (.routeChange west east holes seams unreachable) s = execRouteChange west east holes seams unreachable s := rfl
@[simp] theorem exec_routeDrained (us : Nat) (s : State) :
    exec (.routeDrained us) s = execRouteDrained us s := rfl
@[simp] theorem exec_saddleFlitReceive (link : Fin 16) (dir : Fin 2) (lanes : List (Fin 2408 × Nat)) (bad again : Bool) (s : State) :
    exec (.saddleFlitReceive link dir lanes bad again) s = execSaddleFlitReceive link dir lanes bad again s := rfl
@[simp] theorem exec_saddleResend (_link : Fin 16) (_dir : Fin 2) (s : State) :
    exec (.saddleResend _link _dir) s = execSaddleResend _link _dir s := rfl
@[simp] theorem exec_signalDetect (p : PortId) (lanes : BitVec 8) (s : State) :
    exec (.signalDetect p lanes) s = execSignalDetect p lanes s := rfl
@[simp] theorem exec_portDetectRetry (p : PortId) (noPeer : Bool) (s : State) :
    exec (.portDetectRetry p noPeer) s = execPortDetectRetry p noPeer s := rfl
@[simp] theorem exec_eqDone (p : PortId) (s : State) :
    exec (.eqDone p) s = execEqDone p s := rfl
@[simp] theorem exec_alignDone (p : PortId) (lanes : BitVec 8) (crossed : Bool) (s : State) :
    exec (.alignDone p lanes crossed) s = execAlignDone p lanes crossed s := rfl
@[simp] theorem exec_trainTimeout (p : PortId) (s : State) :
    exec (.trainTimeout p) s = execTrainTimeout p s := rfl
@[simp] theorem exec_planLoaded (req : Fin 18) (dw : BitVec 26) (v : Word) (s : State) :
    exec (.planLoaded req dw v) s = execPlanLoaded req dw v s := rfl
@[simp] theorem exec_hello (p : PortId) (h : Hello) (serial : BitVec 128) (moduleOk : Bool) (s : State) :
    exec (.hello p h serial moduleOk) s = execHello p h serial moduleOk s := rfl
@[simp] theorem exec_keyOffer (p : PortId) (verified : Bool) (root : Option (BitVec 384)) (serial : BitVec 64) (svn : BitVec 8) (s : State) :
    exec (.keyOffer p verified root serial svn) s = execKeyOffer p verified root serial svn s := rfl
@[simp] theorem exec_keyConfirm (p : PortId) (tick : BitVec 64) (ok : Bool) (s : State) :
    exec (.keyConfirm p tick ok) s = execKeyConfirm p tick ok s := rfl
@[simp] theorem exec_retrainReq (p : PortId) (coord : BitVec 9) (s : State) :
    exec (.retrainReq p coord) s = execRetrainReq p coord s := rfl
@[simp] theorem exec_widthReq (p : PortId) (coord : BitVec 9) (lanes : BitVec 8) (s : State) :
    exec (.widthReq p coord lanes) s = execWidthReq p coord lanes s := rfl
@[simp] theorem exec_reqAck (p : PortId) (type : BitVec 8) (s : State) :
    exec (.reqAck p type) s = execReqAck p type s := rfl
@[simp] theorem exec_reqWithdraw (p : PortId) (type : BitVec 8) (s : State) :
    exec (.reqWithdraw p type) s = execReqWithdraw p type s := rfl
@[simp] theorem exec_errorWindow (p : PortId) (s : State) :
    exec (.errorWindow p) s = execErrorWindow p s := rfl
@[simp] theorem exec_laneSignalLoss (p : PortId) (lane : Fin 8) (s : State) :
    exec (.laneSignalLoss p lane) s = execLaneSignalLoss p lane s := rfl
@[simp] theorem exec_retrainDone (p : PortId) (lanes : BitVec 8) (s : State) :
    exec (.retrainDone p lanes) s = execRetrainDone p lanes s := rfl
@[simp] theorem exec_widthChangeDone (p : PortId) (lanes : BitVec 8) (s : State) :
    exec (.widthChangeDone p lanes) s = execWidthChangeDone p lanes s := rfl
@[simp] theorem exec_portRetrain (req : Fin 18) (dw : BitVec 26) (v : Word) (s : State) :
    exec (.portRetrain req dw v) s = execPortRetrain req dw v s := rfl
@[simp] theorem exec_portRestore (req : Fin 18) (dw : BitVec 26) (v : Word) (s : State) :
    exec (.portRestore req dw v) s = execPortRestore req dw v s := rfl
@[simp] theorem exec_portDown (req : Fin 18) (dw : BitVec 26) (v : Word) (s : State) :
    exec (.portDown req dw v) s = execPortDown req dw v s := rfl
@[simp] theorem exec_portUp (req : Fin 18) (dw : BitVec 26) (v : Word) (s : State) :
    exec (.portUp req dw v) s = execPortUp req dw v s := rfl
@[simp] theorem exec_frameReceive (p : PortId) (f : Frame) (corrected uncorrectable : Nat) (tagOk : Bool) (slot : Nat) (s : State) :
    exec (.frameReceive p f corrected uncorrectable tagOk slot) s = execFrameReceive p f corrected uncorrectable tagOk slot s := rfl
@[simp] theorem exec_frameTransmit (p : PortId) (slot : Fin 125) (s : State) :
    exec (.frameTransmit p slot) s = execFrameTransmit p slot s := rfl
@[simp] theorem exec_mdispArrival (p : Packet) (withCore : Bool) (s : State) :
    exec (.mdispArrival p withCore) s = execMdispArrival p withCore s := rfl
@[simp] theorem exec_droverBeatArrival (p : Packet) (corrected : Nat) (badWords : List (Fin 64)) (badCodewords : List (Fin 8)) (withCore : Bool) (s : State) :
    exec (.droverBeatArrival p corrected badWords badCodewords withCore) s = execDroverBeatArrival p corrected badWords badCodewords withCore s := rfl
@[simp] theorem exec_slotLossNotice (p : Packet) (s : State) :
    exec (.slotLossNotice p) s = execSlotLossNotice p s := rfl
@[simp] theorem exec_herdSyncPulse (markers : List (PortId × BitVec 64 × BitVec 8 × Int)) (s : State) :
    exec (.herdSyncPulse markers) s = execHerdSyncPulse markers s := rfl
@[simp] theorem exec_herdSyncMissing (markers : List (PortId × BitVec 64 × BitVec 8 × Int)) (s : State) :
    exec (.herdSyncMissing markers) s = execHerdSyncMissing markers s := rfl
@[simp] theorem exec_tickSetWrite (req : Fin 18) (dw : BitVec 26) (v : Word) (s : State) :
    exec (.tickSetWrite req dw v) s = execTickSetWrite req dw v s := rfl
@[simp] theorem exec_swapArm (req : Fin 18) (dw : BitVec 26) (v : Word) (s : State) :
    exec (.swapArm req dw v) s = execSwapArm req dw v s := rfl
@[simp] theorem exec_swapNotice (p : PortId) (bank : Bool) (tick : BitVec 64) (s : State) :
    exec (.swapNotice p bank tick) s = execSwapNotice p bank tick s := rfl
@[simp] theorem exec_schedEntryWrite (req : Fin 18) (dw : BitVec 26) (v : Word) (s : State) :
    exec (.schedEntryWrite req dw v) s = execSchedEntryWrite req dw v s := rfl
@[simp] theorem exec_genCmd (req : Fin 18) (dw : BitVec 26) (v : Word) (s : State) :
    exec (.genCmd req dw v) s = execGenCmd req dw v s := rfl
@[simp] theorem exec_genNotice (p : PortId) (g : BitVec 16) (mask : BitVec 256) (s : State) :
    exec (.genNotice p g mask) s = execGenNotice p g mask s := rfl
@[simp] theorem exec_strayNotice (p : PortId) (g : BitVec 16) (mask : BitVec 256) (s : State) :
    exec (.strayNotice p g mask) s = execStrayNotice p g mask s := rfl
@[simp] theorem exec_genPersist (s : State) :
    exec (.genPersist) s = execGenPersist s := rfl
@[simp] theorem exec_genGraceEnd (s : State) :
    exec (.genGraceEnd) s = execGenGraceEnd s := rfl
@[simp] theorem exec_linkRekey (p : PortId) (s : State) :
    exec (.linkRekey p) s = execLinkRekey p s := rfl
@[simp] theorem exec_droverGo (req : Fin 18) (dw : BitVec 26) (v : Word) (s : State) :
    exec (.droverGo req dw v) s = execDroverGo req dw v s := rfl
@[simp] theorem exec_droverStop (req : Fin 18) (dw : BitVec 26) (v : Word) (s : State) :
    exec (.droverStop req dw v) s = execDroverStop req dw v s := rfl
@[simp] theorem exec_descriptorFetch (k : Fin 17) (ch : Fin 64) (outside : Option (BitVec 512)) (corrected : Nat) (badWords : List (Fin 64)) (badCodewords : List (Fin 8)) (s : State) :
    exec (.descriptorFetch k ch outside corrected badWords badCodewords) s = execDescriptorFetch k ch outside corrected badWords badCodewords s := rfl
@[simp] theorem exec_beatGrant (k : Fin 17) (corrected : Nat) (badWords : List (Fin 64)) (badCodewords : List (Fin 8)) (s : State) :
    exec (.beatGrant k corrected badWords badCodewords) s = execBeatGrant k corrected badWords badCodewords s := rfl
@[simp] theorem exec_starveGrant (k : Fin 17) (ch : Fin 64) (corrected : Nat) (badWords : List (Fin 64)) (badCodewords : List (Fin 8)) (s : State) :
    exec (.starveGrant k ch corrected badWords badCodewords) s = execStarveGrant k ch corrected badWords badCodewords s := rfl
@[simp] theorem exec_beatComplete (k : Fin 17) (ch : Fin 64) (i off : Nat) (hostStatus : Nat) (hostData : Row) (reply : Option Packet) (withCore : Bool) (s : State) :
    exec (.beatComplete k ch i off hostStatus hostData reply withCore) s = execBeatComplete k ch i off hostStatus hostData reply withCore s := rfl
@[simp] theorem exec_beatTimeout (k : Fin 17) (ch : Fin 64) (i off : Nat) (s : State) :
    exec (.beatTimeout k ch i off) s = execBeatTimeout k ch i off s := rfl
@[simp] theorem exec_descriptorComplete (k : Fin 17) (ch : Fin 64) (s : State) :
    exec (.descriptorComplete k ch) s = execDescriptorComplete k ch s := rfl
@[simp] theorem exec_coalesceTimer (k : Fin 17) (ch : Fin 64) (s : State) :
    exec (.coalesceTimer k ch) s = execCoalesceTimer k ch s := rfl
@[simp] theorem exec_drainWindowEnd (r : RidgeId) (s : State) :
    exec (.drainWindowEnd r) s = execDrainWindowEnd r s := rfl
@[simp] theorem exec_parcelGo (req : Fin 18) (dw : BitVec 26) (v : Word) (s : State) :
    exec (.parcelGo req dw v) s = execParcelGo req dw v s := rfl
@[simp] theorem exec_parcelStop (req : Fin 18) (dw : BitVec 26) (v : Word) (s : State) :
    exec (.parcelStop req dw v) s = execParcelStop req dw v s := rfl
@[simp] theorem exec_parcelHeader (n : Fin 4) (code : Nat) (h : BitVec 1024) (s : State) :
    exec (.parcelHeader n code h) s = execParcelHeader n code h s := rfl
@[simp] theorem exec_recordDecrypt (n : Fin 4) (tagOk : Bool) (d : BitVec 512) (params : BitVec 2048) (data : Nat) (s : State) :
    exec (.recordDecrypt n tagOk d params data) s = execRecordDecrypt n tagOk d params data s := rfl
@[simp] theorem exec_recordProbeDone (r : RidgeId) (c : SiteId) (e : EngineId) (p : SlabId) (rowErr sumErr : List Int) (s : State) :
    exec (.recordProbeDone r c e p rowErr sumErr) s = execRecordProbeDone r c e p rowErr sumErr s := rfl
@[simp] theorem exec_flipArm (req : Fin 18) (dw : BitVec 26) (v : Word) (s : State) :
    exec (.flipArm req dw v) s = execFlipArm req dw v s := rfl
@[simp] theorem exec_oldVersionFree (r : RidgeId) (s : State) :
    exec (.oldVersionFree r) s = execOldVersionFree r s := rfl
@[simp] theorem exec_rebuildEnter (req : Fin 18) (dw : BitVec 26) (v : Word) (s : State) :
    exec (.rebuildEnter req dw v) s = execRebuildEnter req dw v s := rfl
@[simp] theorem exec_rebuildExit (r : RidgeId) (s : State) :
    exec (.rebuildExit r) s = execRebuildExit r s := rfl
@[simp] theorem exec_exportGo (req : Fin 18) (dw : BitVec 26) (v : Word) (s : State) :
    exec (.exportGo req dw v) s = execExportGo req dw v s := rfl
@[simp] theorem exec_exportStop (req : Fin 18) (dw : BitVec 26) (v : Word) (s : State) :
    exec (.exportStop req dw v) s = execExportStop req dw v s := rfl
@[simp] theorem exec_exportDone (s : State) :
    exec (.exportDone) s = execExportDone s := rfl
@[simp] theorem exec_layerMapJournal (s : State) :
    exec (.layerMapJournal) s = execLayerMapJournal s := rfl
@[simp] theorem exec_sqTailWrite (req : Fin 18) (dw : BitVec 26) (v : Word) (s : State) :
    exec (.sqTailWrite req dw v) s = execSqTailWrite req dw v s := rfl
@[simp] theorem exec_submissionFetch (r : RidgeId) (entry : Option (BitVec 512)) (data : Option (BitVec 32768)) (s : State) :
    exec (.submissionFetch r entry data) s = execSubmissionFetch r entry data s := rfl
@[simp] theorem exec_openSeq (r : RidgeId) (entry : BitVec 512) (s : State) :
    exec (.openSeq r entry) s = execOpenSeq r entry s := rfl
@[simp] theorem exec_cancel (r : RidgeId) (entry : BitVec 512) (s : State) :
    exec (.cancel r entry) s = execCancel r entry s := rfl
@[simp] theorem exec_release (r : RidgeId) (entry : BitVec 512) (s : State) :
    exec (.release r entry) s = execRelease r entry s := rfl
@[simp] theorem exec_park (r : RidgeId) (entry : BitVec 512) (s : State) :
    exec (.park r entry) s = execPark r entry s := rfl
@[simp] theorem exec_resume (r : RidgeId) (entry : BitVec 512) (s : State) :
    exec (.resume r entry) s = execResume r entry s := rfl
@[simp] theorem exec_setStop (r : RidgeId) (entry : BitVec 512) (data : Option (BitVec 32768)) (s : State) :
    exec (.setStop r entry data) s = execSetStop r entry data s := rfl
@[simp] theorem exec_walkDone (q : BitVec 15) (prompt : Option (List Word)) (s : State) :
    exec (.walkDone q prompt) s = execWalkDone q prompt s := rfl
@[simp] theorem exec_batchCompose (r : RidgeId) (given : List (BitVec 15 × List Word)) (s : State) :
    exec (.batchCompose r given) s = execBatchCompose r given s := rfl
@[simp] theorem exec_budgetRefill (s : State) :
    exec (.budgetRefill) s = execBudgetRefill s := rfl
@[simp] theorem exec_emitArrival (p : Packet) (s : State) :
    exec (.emitArrival p) s = execEmitArrival p s := rfl
@[simp] theorem exec_finalCommit (p : Packet) (s : State) :
    exec (.finalCommit p) s = execFinalCommit p s := rfl
@[simp] theorem exec_servingRetract (p : Packet) (s : State) :
    exec (.servingRetract p) s = execServingRetract p s := rfl
@[simp] theorem exec_amendedBatch (r : RidgeId) (step : Word) (s : State) :
    exec (.amendedBatch r step) s = execAmendedBatch r step s := rfl
@[simp] theorem exec_ringCoalTimer (g : Fin 256) (s : State) :
    exec (.ringCoalTimer g) s = execRingCoalTimer g s := rfl
@[simp] theorem exec_ringHeadWrite (req : Fin 18) (dw : BitVec 26) (v : Word) (s : State) :
    exec (.ringHeadWrite req dw v) s = execRingHeadWrite req dw v s := rfl
@[simp] theorem exec_expertMapWrite (req : Fin 18) (dw : BitVec 26) (v : Word) (s : State) :
    exec (.expertMapWrite req dw v) s = execExpertMapWrite req dw v s := rfl
@[simp] theorem exec_spoorFlush (req : Fin 18) (dw : BitVec 26) (v : Word) (s : State) :
    exec (.spoorFlush req dw v) s = execSpoorFlush req dw v s := rfl
@[simp] theorem exec_stepAdvance (r : RidgeId) (bad : List Nat) (s : State) :
    exec (.stepAdvance r bad) s = execStepAdvance r bad s := rfl
@[simp] theorem exec_stepCommit (r : RidgeId) (s : State) :
    exec (.stepCommit r) s = execStepCommit r s := rfl
@[simp] theorem exec_commit (p : Packet) (s : State) :
    exec (.commit p) s = execCommit p s := rfl
@[simp] theorem exec_retract (p : Packet) (s : State) :
    exec (.retract p) s = execRetract p s := rfl
@[simp] theorem exec_replayEnter (r : RidgeId) (bad : List Nat) (s : State) :
    exec (.replayEnter r bad) s = execReplayEnter r bad s := rfl
@[simp] theorem exec_classifyStart (r : RidgeId) (c : SiteId) (e : Fin 9) (moved : List (Fin 512 × Fin 544 × Nat)) (err err2 : List Int) (s : State) :
    exec (.classifyStart r c e moved err err2) s = execClassifyStart r c e moved err err2 s := rfl
@[simp] theorem exec_classifyMirrorReady (r : RidgeId) (c : SiteId) (e : EngineId) (err err2 : List Int) (s : State) :
    exec (.classifyMirrorReady r c e err err2) s = execClassifyMirrorReady r c e err err2 s := rfl
@[simp] theorem exec_classifyTimeout (r : RidgeId) (c : SiteId) (e : EngineId) (s : State) :
    exec (.classifyTimeout r c e) s = execClassifyTimeout r c e s := rfl
@[simp] theorem exec_iftDue (r : RidgeId) (c : SiteId) (e : Fin 9) (s : State) :
    exec (.iftDue r c e) s = execIftDue r c e s := rfl
@[simp] theorem exec_iftCmd (req : Fin 18) (dw : BitVec 26) (v : Word) (s : State) :
    exec (.iftCmd req dw v) s = execIftCmd req dw v s := rfl
@[simp] theorem exec_iftWaitTimeout (r : RidgeId) (s : State) :
    exec (.iftWaitTimeout r) s = execIftWaitTimeout r s := rfl
@[simp] theorem exec_iftRetry (r : RidgeId) (overdue : Bool) (s : State) :
    exec (.iftRetry r overdue) s = execIftRetry r overdue s := rfl
@[simp] theorem exec_coreTestDone (r : RidgeId) (c : SiteId) (pass : Bool) (s : State) :
    exec (.coreTestDone r c pass) s = execCoreTestDone r c pass s := rfl
@[simp] theorem exec_engineTestSlabDone (r : RidgeId) (c : SiteId) (e : EngineId) (moved : List (Fin 512 × Fin 544 × Nat)) (faults : List (Fin 528 × Fin 544 × Int)) (s : State) :
    exec (.engineTestSlabDone r c e moved faults) s = execEngineTestSlabDone r c e moved faults s := rfl
@[simp] theorem exec_fsPop (req : Fin 18) (dw : BitVec 26) (v : Word) (s : State) :
    exec (.fsPop req dw v) s = execFsPop req dw v s := rfl
@[simp] theorem exec_epochArrival (src : Machine.Source) (e : Machine.Epoch) (whole : Bool) (s : State) :
    exec (.epochArrival src e whole) s = execEpochArrival src e whole s := rfl
@[simp] theorem exec_epochAck (n : Word) (s : State) :
    exec (.epochAck n) s = execEpochAck n s := rfl
@[simp] theorem exec_twAckLate (s : State) :
    exec (.twAckLate) s = execTwAckLate s := rfl
@[simp] theorem exec_twinResume (req : Fin 18) (dw : BitVec 26) (v : Word) (s : State) :
    exec (.twinResume req dw v) s = execTwinResume req dw v s := rfl
@[simp] theorem exec_twinResync (req : Fin 18) (dw : BitVec 26) (v : Word) (s : State) :
    exec (.twinResync req dw v) s = execTwinResync req dw v s := rfl
@[simp] theorem exec_resyncDone (s : State) :
    exec (.resyncDone) s = execResyncDone s := rfl
@[simp] theorem exec_bind (req : Fin 18) (dw : BitVec 26) (v : Word) (signed : Bool) (s : State) :
    exec (.bind req dw v signed) s = execBind req dw v signed s := rfl
@[simp] theorem exec_unbind (req : Fin 18) (dw : BitVec 26) (v : Word) (s : State) :
    exec (.unbind req dw v) s = execUnbind req dw v s := rfl
@[simp] theorem exec_unbindScrubDone (s : State) :
    exec (.unbindScrubDone) s = execUnbindScrubDone s := rfl
@[simp] theorem exec_keyLoad (req : Fin 18) (dw : BitVec 26) (v : Word) (signed unwraps : Bool) (s : State) :
    exec (.keyLoad req dw v signed unwraps) s = execKeyLoad req dw v signed unwraps s := rfl
@[simp] theorem exec_keyClear (req : Fin 18) (dw : BitVec 26) (v : Word) (s : State) :
    exec (.keyClear req dw v) s = execKeyClear req dw v s := rfl
@[simp] theorem exec_grant (req : Fin 18) (dw : BitVec 26) (v : Word) (signed : Bool) (s : State) :
    exec (.grant req dw v signed) s = execGrant req dw v signed s := rfl
@[simp] theorem exec_revoke (req : Fin 18) (dw : BitVec 26) (v : Word) (signed : Bool) (blob : Option (DWord × DWord)) (s : State) :
    exec (.revoke req dw v signed blob) s = execRevoke req dw v signed blob s := rfl
@[simp] theorem exec_allow (req : Fin 18) (dw : BitVec 26) (v : Word) (signed : Bool) (s : State) :
    exec (.allow req dw v signed) s = execAllow req dw v signed s := rfl
@[simp] theorem exec_rootAdd (req : Fin 18) (dw : BitVec 26) (v : Word) (s : State) :
    exec (.rootAdd req dw v) s = execRootAdd req dw v s := rfl
@[simp] theorem exec_svnRaise (req : Fin 18) (dw : BitVec 26) (v : Word) (s : State) :
    exec (.svnRaise req dw v) s = execSvnRaise req dw v s := rfl
@[simp] theorem exec_getVersion (s : State) :
    exec (.getVersion) s = execGetVersion s := rfl
@[simp] theorem exec_getCapabilities (s : State) :
    exec (.getCapabilities) s = execGetCapabilities s := rfl
@[simp] theorem exec_negotiateAlgorithms (offered : Bool) (s : State) :
    exec (.negotiateAlgorithms offered) s = execNegotiateAlgorithms offered s := rfl
@[simp] theorem exec_getDigests (s : State) :
    exec (.getDigests) s = execGetDigests s := rfl
@[simp] theorem exec_getCertificate (slot : Fin 8) (s : State) :
    exec (.getCertificate slot) s = execGetCertificate slot s := rfl
@[simp] theorem exec_challenge (slot : Fin 8) (s : State) :
    exec (.challenge slot) s = execChallenge slot s := rfl
@[simp] theorem exec_getMeasurements (index : BitVec 8) (s : State) :
    exec (.getMeasurements index) s = execGetMeasurements index s := rfl
@[simp] theorem exec_keyExchange (id : Word) (s : State) :
    exec (.keyExchange id) s = execKeyExchange id s := rfl
@[simp] theorem exec_finish (id : Word) (ok : Bool) (s : State) :
    exec (.finish id ok) s = execFinish id ok s := rfl
@[simp] theorem exec_heartbeat (id : Word) (s : State) :
    exec (.heartbeat id) s = execHeartbeat id s := rfl
@[simp] theorem exec_keyUpdate (id : Word) (s : State) :
    exec (.keyUpdate id) s = execKeyUpdate id s := rfl
@[simp] theorem exec_endSession (id : Word) (s : State) :
    exec (.endSession id) s = execEndSession id s := rfl
@[simp] theorem exec_spdmUnsupported (s : State) :
    exec (.spdmUnsupported) s = execSpdmUnsupported s := rfl
@[simp] theorem exec_dieActive (req : Fin 18) (dw : BitVec 26) (v : Word) (s : State) :
    exec (.dieActive req dw v) s = execDieActive req dw v s := rfl
@[simp] theorem exec_dieStandby (req : Fin 18) (dw : BitVec 26) (v : Word) (s : State) :
    exec (.dieStandby req dw v) s = execDieStandby req dw v s := rfl
@[simp] theorem exec_dieHold (req : Fin 18) (dw : BitVec 26) (v : Word) (s : State) :
    exec (.dieHold req dw v) s = execDieHold req dw v s := rfl
@[simp] theorem exec_ridgeRun (req : Fin 18) (dw : BitVec 26) (v : Word) (s : State) :
    exec (.ridgeRun req dw v) s = execRidgeRun req dw v s := rfl
@[simp] theorem exec_ridgeNap (req : Fin 18) (dw : BitVec 26) (v : Word) (s : State) :
    exec (.ridgeNap req dw v) s = execRidgeNap req dw v s := rfl
@[simp] theorem exec_ridgeOff (req : Fin 18) (dw : BitVec 26) (v : Word) (s : State) :
    exec (.ridgeOff req dw v) s = execRidgeOff req dw v s := rfl
@[simp] theorem exec_doorbell (req : Fin 18) (dw : BitVec 26) (v : Word) (s : State) :
    exec (.doorbell req dw v) s = execDoorbell req dw v s := rfl
@[simp] theorem exec_ridgeTimerExpiry (r : RidgeId) (s : State) :
    exec (.ridgeTimerExpiry r) s = execRidgeTimerExpiry r s := rfl
@[simp] theorem exec_dozeEntry (r : RidgeId) (s : State) :
    exec (.dozeEntry r) s = execDozeEntry r s := rfl
@[simp] theorem exec_autoNap (r : RidgeId) (s : State) :
    exec (.autoNap r) s = execAutoNap r s := rfl
@[simp] theorem exec_entrySuspendDone (r : RidgeId) (s : State) :
    exec (.entrySuspendDone r) s = execEntrySuspendDone r s := rfl
@[simp] theorem exec_entryFrameGate (r : RidgeId) (s : State) :
    exec (.entryFrameGate r) s = execEntryFrameGate r s := rfl
@[simp] theorem exec_ridgeWakeDone (r : RidgeId) (s : State) :
    exec (.ridgeWakeDone r) s = execRidgeWakeDone r s := rfl
@[simp] theorem exec_i3cAddressMatch (data : List Byte) (s : State) :
    exec (.i3cAddressMatch data) s = execI3cAddressMatch data s := rfl
@[simp] theorem exec_holdWakeTimer (s : State) :
    exec (.holdWakeTimer) s = execHoldWakeTimer s := rfl
@[simp] theorem exec_railWarning (rail : Fin 3) (s : State) :
    exec (.railWarning rail) s = execRailWarning rail s := rfl
@[simp] theorem exec_lvHoldEnd (us : Nat) (s : State) :
    exec (.lvHoldEnd us) s = execLvHoldEnd us s := rfl
@[simp] theorem exec_otherRailDip (rail : Fin 8) (level : Fin 3) (s : State) :
    exec (.otherRailDip rail level) s = execOtherRailDip rail level s := rfl
@[simp] theorem exec_railResetLevel (rail : Fin 4) (s : State) :
    exec (.railResetLevel rail) s = execRailResetLevel rail s := rfl
@[simp] theorem exec_powerGoodFall (rail : Fin 11) (s : State) :
    exec (.powerGoodFall rail) s = execPowerGoodFall rail s := rfl
@[simp] theorem exec_railDownStep (stuck : Bool) (s : State) :
    exec (.railDownStep stuck) s = execRailDownStep stuck s := rfl
@[simp] theorem exec_pwrFail (s : State) :
    exec (.pwrFail) s = execPwrFail s := rfl
@[simp] theorem exec_pfRailDown (s : State) :
    exec (.pfRailDown) s = execPfRailDown s := rfl
@[simp] theorem exec_vddBaseLoss (s : State) :
    exec (.vddBaseLoss) s = execVddBaseLoss s := rfl
@[simp] theorem exec_governorInterval (uncontrolled energy : Nat) (s : State) :
    exec (.governorInterval uncontrolled energy) s = execGovernorInterval uncontrolled energy s := rfl
@[simp] theorem exec_conversionDone (n : Fin 3) (code : BitVec 12) (value : Int) (us : BitVec 16) (s : State) :
    exec (.conversionDone n code value us) s = execConversionDone n code value us s := rfl
@[simp] theorem exec_fixedScanDue (n : Fin 3) (k : LookKind) (s : State) :
    exec (.fixedScanDue n k) s = execFixedScanDue n k s := rfl
@[simp] theorem exec_scanEntryDue (n : Fin 3) (e : Fin 64) (s : State) :
    exec (.scanEntryDue n e) s = execScanEntryDue n e s := rfl
@[simp] theorem exec_urgentRequest (req : Fin 18) (dw : BitVec 26) (v : Word) (s : State) :
    exec (.urgentRequest req dw v) s = execUrgentRequest req dw v s := rfl
@[simp] theorem exec_lkBufHeadWrite (req : Fin 18) (dw : BitVec 26) (v : Word) (s : State) :
    exec (.lkBufHeadWrite req dw v) s = execLkBufHeadWrite req dw v s := rfl
@[simp] theorem exec_lkBufEnable (req : Fin 18) (dw : BitVec 26) (v : Word) (s : State) :
    exec (.lkBufEnable req dw v) s = execLkBufEnable req dw v s := rfl
@[simp] theorem exec_thermalTick (s : State) :
    exec (.thermalTick) s = execThermalTick s := rfl
@[simp] theorem exec_tripClear (req : Fin 18) (dw : BitVec 26) (v : Word) (s : State) :
    exec (.tripClear req dw v) s = execTripClear req dw v s := rfl
@[simp] theorem exec_sensorClear (req : Fin 18) (dw : BitVec 26) (v : Word) (s : State) :
    exec (.sensorClear req dw v) s = execSensorClear req dw v s := rfl
@[simp] theorem exec_stackTempReport (h : StackId) (x : Int) (s : State) :
    exec (.stackTempReport h x) s = execStackTempReport h x s := rfl
@[simp] theorem exec_bandInit (moved : List (Fin 39168 × Fin 512 × Fin 544 × Nat)) (s : State) :
    exec (.bandInit moved) s = execBandInit moved s := rfl
@[simp] theorem exec_calConv (req : Fin 18) (dw : BitVec 26) (v : Word) (s : State) :
    exec (.calConv req dw v) s = execCalConv req dw v s := rfl
@[simp] theorem exec_calRowdrv (req : Fin 18) (dw : BitVec 26) (v : Word) (s : State) :
    exec (.calRowdrv req dw v) s = execCalRowdrv req dw v s := rfl
@[simp] theorem exec_calDrift (req : Fin 18) (dw : BitVec 26) (v : Word) (s : State) :
    exec (.calDrift req dw v) s = execCalDrift req dw v s := rfl
@[simp] theorem exec_calSerdes (req : Fin 18) (dw : BitVec 26) (v : Word) (s : State) :
    exec (.calSerdes req dw v) s = execCalSerdes req dw v s := rfl
@[simp] theorem exec_calLookout (req : Fin 18) (dw : BitVec 26) (v : Word) (s : State) :
    exec (.calLookout req dw v) s = execCalLookout req dw v s := rfl
@[simp] theorem exec_calSensor (req : Fin 18) (dw : BitVec 26) (v : Word) (s : State) :
    exec (.calSensor req dw v) s = execCalSensor req dw v s := rfl
@[simp] theorem exec_calRestore (req : Fin 18) (dw : BitVec 26) (v : Word) (s : State) :
    exec (.calRestore req dw v) s = execCalRestore req dw v s := rfl
@[simp] theorem exec_calibrationFrame (r : RidgeId) (c : SiteId) (s : State) :
    exec (.calibrationFrame r c) s = execCalibrationFrame r c s := rfl
@[simp] theorem exec_lookoutTestWindow (n : Fin 3) (begin' : Bool) (s : State) :
    exec (.lookoutTestWindow n begin') s = execLookoutTestWindow n begin' s := rfl
@[simp] theorem exec_calUnitDone (n : Fin 4096) (m : CalMeas) (s : State) :
    exec (.calUnitDone n m) s = execCalUnitDone n m s := rfl
@[simp] theorem exec_calRecordWrite (s : State) :
    exec (.calRecordWrite) s = execCalRecordWrite s := rfl
@[simp] theorem exec_cairnSecond (s : State) :
    exec (.cairnSecond) s = execCairnSecond s := rfl
@[simp] theorem exec_railHour (s : State) :
    exec (.railHour) s = execRailHour s := rfl
@[simp] theorem exec_cairnTimeSet (req : Fin 18) (dw : BitVec 26) (v : Word) (s : State) :
    exec (.cairnTimeSet req dw v) s = execCairnTimeSet req dw v s := rfl
@[simp] theorem exec_cairnPeriodicFlush (s : State) :
    exec (.cairnPeriodicFlush) s = execCairnPeriodicFlush s := rfl
@[simp] theorem exec_faultFlushSpacing (s : State) :
    exec (.faultFlushSpacing) s = execFaultFlushSpacing s := rfl
@[simp] theorem exec_cairnFlushDone (fail : Bool) (s : State) :
    exec (.cairnFlushDone fail) s = execCairnFlushDone fail s := rfl
@[simp] theorem exec_cairnFreeze (req : Fin 18) (dw : BitVec 26) (v : Word) (s : State) :
    exec (.cairnFreeze req dw v) s = execCairnFreeze req dw v s := rfl
@[simp] theorem exec_freezeTimeout (s : State) :
    exec (.freezeTimeout) s = execFreezeTimeout s := rfl
@[simp] theorem exec_cairnReadAddr (req : Fin 18) (dw : BitVec 26) (v : Word) (s : State) :
    exec (.cairnReadAddr req dw v) s = execCairnReadAddr req dw v s := rfl
@[simp] theorem exec_cairnReadReady (s : State) :
    exec (.cairnReadReady) s = execCairnReadReady s := rfl
@[simp] theorem exec_cairnClear (req : Fin 18) (dw : BitVec 26) (v : Word) (s : State) :
    exec (.cairnClear req dw v) s = execCairnClear req dw v s := rfl
@[simp] theorem exec_cairnFlushRequest (req : Fin 18) (dw : BitVec 26) (v : Word) (s : State) :
    exec (.cairnFlushRequest req dw v) s = execCairnFlushRequest req dw v s := rfl
@[simp] theorem exec_vddBaseRise (s : State) :
    exec (.vddBaseRise) s = execVddBaseRise s := rfl
@[simp] theorem exec_railPowerGood (rail : Fin 11) (vin : Nat) (s : State) :
    exec (.railPowerGood rail vin) s = execRailPowerGood rail vin s := rfl
@[simp] theorem exec_hbmTrainingDone (fru pmod : Bool) (hbm trained : BitVec 6) (s : State) :
    exec (.hbmTrainingDone fru pmod hbm trained) s = execHbmTrainingDone fru pmod hbm trained s := rfl
@[simp] theorem exec_probeSweepDone (failures : List SweepFail) (s : State) :
    exec (.probeSweepDone failures) s = execProbeSweepDone failures s := rfl
@[simp] theorem exec_paramCellProgram (r : RidgeId) (c : SiteId) (e : EngineId) (cut : Bool) (s : State) :
    exec (.paramCellProgram r c e cut) s = execParamCellProgram r c e cut s := rfl
@[simp] theorem exec_resetCold (req : Fin 18) (dw : BitVec 26) (v : Word) (s : State) :
    exec (.resetCold req dw v) s = execResetCold req dw v s := rfl
@[simp] theorem exec_resetWarm (req : Fin 18) (dw : BitVec 26) (v : Word) (s : State) :
    exec (.resetWarm req dw v) s = execResetWarm req dw v s := rfl
@[simp] theorem exec_resetRidge (req : Fin 18) (dw : BitVec 26) (v : Word) (s : State) :
    exec (.resetRidge req dw v) s = execResetRidge req dw v s := rfl
@[simp] theorem exec_perst (s : State) :
    exec (.perst) s = execPerst s := rfl
@[simp] theorem exec_watchdogExpiry (s : State) :
    exec (.watchdogExpiry) s = execWatchdogExpiry s := rfl
@[simp] theorem exec_coreSoftReset (req : Fin 18) (dw : BitVec 26) (v : Word) (s : State) :
    exec (.coreSoftReset req dw v) s = execCoreSoftReset req dw v s := rfl
@[simp] theorem exec_blockSoftReset (req : Fin 18) (dw : BitVec 26) (v : Word) (s : State) :
    exec (.blockSoftReset req dw v) s = execBlockSoftReset req dw v s := rfl
@[simp] theorem exec_fwStage (req : Fin 18) (dw : BitVec 26) (v : Word) (img : FwImage) (flashOk : Bool) (s : State) :
    exec (.fwStage req dw v img flashOk) s = execFwStage req dw v img flashOk s := rfl
@[simp] theorem exec_fwSwitch (req : Fin 18) (dw : BitVec 26) (v : Word) (s : State) :
    exec (.fwSwitch req dw v) s = execFwSwitch req dw v s := rfl
@[simp] theorem exec_fwConfirm (req : Fin 18) (dw : BitVec 26) (v : Word) (s : State) :
    exec (.fwConfirm req dw v) s = execFwConfirm req dw v s := rfl
@[simp] theorem exec_fwRevert (req : Fin 18) (dw : BitVec 26) (v : Word) (s : State) :
    exec (.fwRevert req dw v) s = execFwRevert req dw v s := rfl
@[simp] theorem exec_trialTimeout (s : State) :
    exec (.trialTimeout) s = execTrialTimeout s := rfl
@[simp] theorem exec_ucLoad (req : Fin 18) (dw : BitVec 26) (v : Word) (s : State) :
    exec (.ucLoad req dw v) s = execUcLoad req dw v s := rfl
@[simp] theorem exec_serdesLoad (req : Fin 18) (dw : BitVec 26) (v : Word) (s : State) :
    exec (.serdesLoad req dw v) s = execSerdesLoad req dw v s := rfl
@[simp] theorem exec_pldmFwUpdate (img : FwImage) (flashOk : Bool) (s : State) :
    exec (.pldmFwUpdate img flashOk) s = execPldmFwUpdate img flashOk s := rfl
@[simp] theorem exec_activateFirmware (s : State) :
    exec (.activateFirmware) s = execActivateFirmware s := rfl
@[simp] theorem exec_flrVf (r : RidgeId) (s : State) :
    exec (.flrVf r) s = execFlrVf r s := rfl
@[simp] theorem exec_flrPf (s : State) :
    exec (.flrPf) s = execFlrPf s := rfl
@[simp] theorem exec_d3hotEntry (fn : Fin 17) (s : State) :
    exec (.d3hotEntry fn) s = execD3hotEntry fn s := rfl
@[simp] theorem exec_d0Return (fn : Fin 17) (s : State) :
    exec (.d0Return fn) s = execD0Return fn s := rfl
@[simp] theorem exec_configRequest (fn : Fin 17) (access : Machine.CfgAccess) (s : State) :
    exec (.configRequest fn access) s = execConfigRequest fn access s := rfl
@[simp] theorem exec_apertureRead (fn : Fin 17) (offset : BitVec 36) (len : Fin 513) (busy : Bool) (corrected : Nat) (badWords : List (Fin 64)) (badCodewords : List (Fin 8)) (s : State) :
    exec (.apertureRead fn offset len busy corrected badWords badCodewords) s = execApertureRead fn offset len busy corrected badWords badCodewords s := rfl
@[simp] theorem exec_apertureWrite (fn : Fin 17) (offset : BitVec 36) (data : Row) (enables : BitVec 512) (busy : Bool) (corrected : Nat) (badWords : List (Fin 64)) (badCodewords : List (Fin 8)) (s : State) :
    exec (.apertureWrite fn offset data enables busy corrected badWords badCodewords) s = execApertureWrite fn offset data enables busy corrected badWords badCodewords s := rfl
@[simp] theorem exec_apertureCfgWrite (req : Fin 18) (dw : BitVec 26) (v : Word) (s : State) :
    exec (.apertureCfgWrite req dw v) s = execApertureCfgWrite req dw v s := rfl
@[simp] theorem exec_entdaa (addr : BitVec 7) (s : State) :
    exec (.entdaa addr) s = execEntdaa addr s := rfl
@[simp] theorem exec_setdasa (addr : BitVec 7) (s : State) :
    exec (.setdasa addr) s = execSetdasa addr s := rfl
@[simp] theorem exec_setnewda (addr : BitVec 7) (s : State) :
    exec (.setnewda addr) s = execSetnewda addr s := rfl
@[simp] theorem exec_rstdaa (s : State) :
    exec (.rstdaa) s = execRstdaa s := rfl
@[simp] theorem exec_enec (direct : Bool) (events : Byte) (s : State) :
    exec (.enec direct events) s = execEnec direct events s := rfl
@[simp] theorem exec_disec (direct : Bool) (events : Byte) (s : State) :
    exec (.disec direct events) s = execDisec direct events s := rfl
@[simp] theorem exec_getpid (s : State) :
    exec (.getpid) s = execGetpid s := rfl
@[simp] theorem exec_getbcr (s : State) :
    exec (.getbcr) s = execGetbcr s := rfl
@[simp] theorem exec_getdcr (s : State) :
    exec (.getdcr) s = execGetdcr s := rfl
@[simp] theorem exec_getstatus (s : State) :
    exec (.getstatus) s = execGetstatus s := rfl
@[simp] theorem exec_getmwl (s : State) :
    exec (.getmwl) s = execGetmwl s := rfl
@[simp] theorem exec_getmrl (s : State) :
    exec (.getmrl) s = execGetmrl s := rfl
@[simp] theorem exec_rstact (direct : Bool) (action : Byte) (s : State) :
    exec (.rstact direct action) s = execRstact direct action s := rfl
@[simp] theorem exec_cccUnsupported (s : State) :
    exec (.cccUnsupported) s = execCccUnsupported s := rfl
@[simp] theorem exec_mctpMessage (src : Byte) (tag : BitVec 4) (som eom : Bool) (body : List Byte) (session : Word) (verdict : Bool) (s : State) :
    exec (.mctpMessage src tag som eom body session verdict) s = execMctpMessage src tag som eom body session verdict s := rfl
@[simp] theorem exec_setEndpointId (eid : Byte) (s : State) :
    exec (.setEndpointId eid) s = execSetEndpointId eid s := rfl
@[simp] theorem exec_pollForPlatformEventMessage (s : State) :
    exec (.pollForPlatformEventMessage) s = execPollForPlatformEventMessage s := rfl
@[simp] theorem exec_fsFetch (s : State) :
    exec (.fsFetch) s = execFsFetch s := rfl
@[simp] theorem exec_mgFsPop (s : State) :
    exec (.mgFsPop) s = execMgFsPop s := rfl
@[simp] theorem exec_cairnRead (addr : BitVec 24) (s : State) :
    exec (.cairnRead addr) s = execCairnRead addr s := rfl
@[simp] theorem exec_identity (s : State) :
    exec (.identity) s = execIdentity s := rfl
@[simp] theorem exec_mgState (s : State) :
    exec (.mgState) s = execMgState s := rfl
@[simp] theorem exec_fabrefLoss (s : State) :
    exec (.fabrefLoss) s = execFabrefLoss s := rfl
@[simp] theorem exec_crystalStop (s : State) :
    exec (.crystalStop) s = execCrystalStop s := rfl
@[simp] theorem exec_setpointStep (s : State) :
    exec (.setpointStep) s = execSetpointStep s := rfl
@[simp] theorem exec_scanDone (r : RidgeId) (c : SiteId) (e : EngineId) (moved : List (Fin 512 × Fin 544 × Nat)) (s : State) :
    exec (.scanDone r c e moved) s = execScanDone r c e moved s := rfl
@[simp] theorem exec_refreshEn (req : Fin 18) (dw : BitVec 26) (v : Word) (s : State) :
    exec (.refreshEn req dw v) s = execRefreshEn req dw v s := rfl
@[simp] theorem exec_planEntryWrite (req : Fin 18) (dw : BitVec 26) (v : Word) (s : State) :
    exec (.planEntryWrite req dw v) s = execPlanEntryWrite req dw v s := rfl
@[simp] theorem exec_linkChange (up flit : Bool) (speed width : Nat) (s : State) :
    exec (.linkChange up flit speed width) s = execLinkChange up flit speed width s := rfl
@[simp] theorem exec_ideKm (session : Word) (stream : Fin 18) (op : Machine.IdeOp) (s : State) :
    exec (.ideKm session stream op) s = execIdeKm session stream op s := rfl
@[simp] theorem exec_calSerdesTimeout (s : State) :
    exec (.calSerdesTimeout) s = execCalSerdesTimeout s := rfl
@[simp] theorem exec_powerGoodTimeout (s : State) :
    exec (.powerGoodTimeout) s = execPowerGoodTimeout s := rfl
@[simp] theorem exec_storeSettlementDone (s : State) :
    exec (.storeSettlementDone) s = execStoreSettlementDone s := rfl
@[simp] theorem exec_startDone (s : State) :
    exec (.startDone) s = execStartDone s := rfl
@[simp] theorem exec_crystalRestart (s : State) :
    exec (.crystalRestart) s = execCrystalRestart s := rfl
@[simp] theorem exec_svAccBalWrite (req : Fin 18) (dw : BitVec 26) (v : Word) (s : State) :
    exec (.svAccBalWrite req dw v) s = execSvAccBalWrite req dw v s := rfl

end Sys2Proof.Machine
end

