-- ==== Sys2Proof/Laws/Maps.lean ====
section
/-! SUPPORT. The laws of the sparse tables: a read after a write to the same key gives the value written, a write leaves every
other key alone, and every operation keeps the canonical form. -/
namespace Sys2Proof.Machine

variable {α : Type}

@[simp] theorem SMap.find_nil (k : Nat) : SMap.find k ([] : SMap α) = none := rfl

@[simp] theorem SMap.find_ins_self (k : Nat) (v : α) (m : SMap α) : SMap.find k (SMap.ins k v m) = some v := by
  induction m with
  | nil => simp [SMap.ins, SMap.find]
  | cons e rest ih =>
    obtain ⟨k', v'⟩ := e
    simp only [SMap.ins]
    split
    · simp [SMap.find]
    · split <;> simp_all [SMap.find]

theorem SMap.find_ins_ne {j k : Nat} (v : α) (m : SMap α) (h : j ≠ k) : SMap.find j (SMap.ins k v m) = SMap.find j m := by
  induction m with
  | nil => simp [SMap.ins, SMap.find, h]
  | cons e rest ih =>
    obtain ⟨k', v'⟩ := e
    simp only [SMap.ins]
    split
    · subst_vars; simp [SMap.find, h]
    · split <;> simp_all [SMap.find]

@[simp] theorem SMap.find_del_self (k : Nat) (m : SMap α) : SMap.find k (SMap.del k m) = none := by
  induction m with
  | nil => rfl
  | cons e rest ih =>
    obtain ⟨k', v'⟩ := e
    simp only [SMap.del, List.filter_cons] at ih ⊢
    split
    · have : k ≠ k' := fun e => by simp_all
      simpa [SMap.find, this] using ih
    · exact ih

theorem SMap.find_del_ne {j k : Nat} (m : SMap α) (h : j ≠ k) : SMap.find j (SMap.del k m) = SMap.find j m := by
  induction m with
  | nil => rfl
  | cons e rest ih =>
    obtain ⟨k', v'⟩ := e
    simp only [SMap.del, List.filter_cons] at ih ⊢
    split
    · simp only [SMap.find]; rw [ih]
    · have : k' = k := by simp_all
      subst this
      simp only [SMap.find, h, if_false]; exact ih

variable [DecidableEq α]

/-- A read after a write to the same key gives the value written. -/
@[simp] theorem SMap.get_set_self (d : α) (m : SMap α) (k : Nat) (v : α) : SMap.get d (SMap.set d m k v) k = v := by
  unfold SMap.get SMap.set
  split <;> simp_all

/-- A write leaves every other key alone. -/
theorem SMap.get_set_ne (d : α) (m : SMap α) {j k : Nat} (v : α) (h : j ≠ k) : SMap.get d (SMap.set d m k v) j = SMap.get d m j := by
  unfold SMap.get SMap.set
  split
  · rw [SMap.find_del_ne _ h]
  · rw [SMap.find_ins_ne _ _ h]

/-! ## The canonical form -/

omit [DecidableEq α] in
theorem SMap.rising_iff (m : SMap α) : SMap.rising m = true ↔ m.Pairwise (fun a b => a.1 < b.1) := by
  induction m with
  | nil => simp [SMap.rising]
  | cons e rest ih =>
    obtain ⟨k, v⟩ := e
    cases rest with
    | nil => simp [SMap.rising]
    | cons e' rest' =>
      obtain ⟨k', v'⟩ := e'
      simp only [SMap.rising, Bool.and_eq_true, decide_eq_true_eq, ih, List.pairwise_cons, List.mem_cons, forall_eq_or_imp]
      constructor
      · rintro ⟨a, b, c⟩
        exact ⟨⟨a, fun x hx => Nat.lt_trans a (b x hx)⟩, b, c⟩
      · rintro ⟨⟨a, _⟩, b, c⟩
        exact ⟨a, b, c⟩

omit [DecidableEq α] in
theorem SMap.mem_ins {k : Nat} {v : α} {m : SMap α} {x : Nat × α} (h : x ∈ SMap.ins k v m) : x = (k, v) ∨ x ∈ m := by
  induction m with
  | nil => simpa [SMap.ins] using h
  | cons e rest ih =>
    obtain ⟨k', v'⟩ := e
    simp only [SMap.ins] at h
    split at h
    · simp at h ⊢; rcases h with h | h <;> simp_all
    · split at h <;> simp at h ⊢ <;> rcases h with h | h
      · exact .inl h
      · exact .inr h
      · exact .inr (.inl h)
      · rcases ih h with h | h
        · exact .inl h
        · exact .inr (.inr h)

omit [DecidableEq α] in
theorem SMap.rising_ins (k : Nat) (v : α) (m : SMap α) (h : SMap.rising m = true) : SMap.rising (SMap.ins k v m) = true := by
  rw [SMap.rising_iff] at h ⊢
  induction m with
  | nil => simp [SMap.ins]
  | cons e rest ih =>
    obtain ⟨k', v'⟩ := e
    simp only [List.pairwise_cons] at h
    simp only [SMap.ins]
    split
    · subst_vars; simpa using h
    · split
      · simp only [List.pairwise_cons, List.mem_cons, forall_eq_or_imp]
        exact ⟨⟨by omega, fun a ha => Nat.lt_trans (by omega) (h.1 a ha)⟩, h.1, h.2⟩
      · simp only [List.pairwise_cons]
        refine ⟨fun a ha => ?_, ih h.2⟩
        rcases SMap.mem_ins ha with rfl | ha
        · simp; omega
        · exact h.1 a ha

omit [DecidableEq α] in
theorem SMap.rising_del (k : Nat) (m : SMap α) (h : SMap.rising m = true) : SMap.rising (SMap.del k m) = true := by
  rw [SMap.rising_iff] at h ⊢
  exact h.filter _

theorem SMap.rising_set (d : α) (m : SMap α) (k : Nat) (v : α) (h : SMap.rising m = true) : SMap.rising (SMap.set d m k v) = true := by
  unfold SMap.set
  split
  · exact SMap.rising_del k m h
  · exact SMap.rising_ins k v m h

/-- A write keeps the canonical form. -/
theorem SMap.wf_set (d : α) (m : SMap α) (k : Nat) (v : α) (h : SMap.wf d m = true) : SMap.wf d (SMap.set d m k v) = true := by
  simp only [SMap.wf, Bool.and_eq_true, List.all_eq_true, decide_eq_true_eq] at h ⊢
  refine ⟨SMap.rising_set d m k v h.1, ?_⟩
  unfold SMap.set
  intro x hx
  split at hx
  · exact h.2 x (List.mem_filter.mp hx).1
  · rcases SMap.mem_ins hx with rfl | hx
    · assumption
    · exact h.2 x hx

end Sys2Proof.Machine
end

