-- ==== Sys2Proof/Laws/State.lean ====
section
/-! SUPPORT. What each updater of the state leaves alone, one lemma for each part, and the laws of the register file and of the
cores, engines and scratchpads: a read after a write. -/
namespace Sys2Proof.Machine

/-! ## Bits of a word -/

theorem getBits_lt (v : Word) (lo w : Nat) : getBits v lo w < 2 ^ w := Nat.mod_lt _ (Nat.two_pow_pos w)

theorem putBits_lt (v : Word) (lo w n : Nat) (h : lo + w ≤ 32) :
    v.toNat / 2 ^ (lo + w) * 2 ^ (lo + w) + n % 2 ^ w * 2 ^ lo + v.toNat % 2 ^ lo < 2 ^ 32 := by
  have hv : v.toNat < 2 ^ 32 := v.isLt
  have h1 : n % 2 ^ w * 2 ^ lo + v.toNat % 2 ^ lo < 2 ^ (lo + w) := by
    have a : n % 2 ^ w + 1 ≤ 2 ^ w := Nat.mod_lt _ (Nat.two_pow_pos w)
    have b : v.toNat % 2 ^ lo < 2 ^ lo := Nat.mod_lt _ (Nat.two_pow_pos lo)
    have c : (n % 2 ^ w + 1) * 2 ^ lo ≤ 2 ^ w * 2 ^ lo := Nat.mul_le_mul_right _ a
    rw [Nat.add_mul, Nat.one_mul] at c
    rw [Nat.pow_add, Nat.mul_comm (2 ^ lo)]
    omega
  have h2 : v.toNat / 2 ^ (lo + w) < 2 ^ (32 - (lo + w)) := by
    rw [Nat.div_lt_iff_lt_mul (Nat.two_pow_pos _), ← Nat.pow_add]
    rwa [Nat.sub_add_cancel h]
  have h3 : (v.toNat / 2 ^ (lo + w) + 1) * 2 ^ (lo + w) ≤ 2 ^ (32 - (lo + w)) * 2 ^ (lo + w) := Nat.mul_le_mul_right _ h2
  rw [← Nat.pow_add, Nat.sub_add_cancel h, Nat.add_mul, Nat.one_mul] at h3
  omega

/-- A field reads as it was written, modulo its width. -/
theorem getBits_putBits (v : Word) (lo w n : Nat) (h : lo + w ≤ 32) : getBits (putBits v lo w n) lo w = n % 2 ^ w := by
  have hlt := putBits_lt v lo w n h
  unfold getBits putBits
  rw [BitVec.toNat_ofNat, Nat.mod_eq_of_lt hlt]
  have b : v.toNat % 2 ^ lo < 2 ^ lo := Nat.mod_lt _ (Nat.two_pow_pos lo)
  have e : v.toNat / 2 ^ (lo + w) * 2 ^ (lo + w) + n % 2 ^ w * 2 ^ lo + v.toNat % 2 ^ lo
      = v.toNat % 2 ^ lo + (v.toNat / 2 ^ (lo + w) * 2 ^ w + n % 2 ^ w) * 2 ^ lo := by
    rw [Nat.pow_add, Nat.add_mul, Nat.mul_assoc, Nat.mul_comm (2 ^ w) (2 ^ lo)]; omega
  rw [e, Nat.add_mul_div_right _ _ (Nat.two_pow_pos lo), Nat.div_eq_of_lt b, Nat.zero_add, Nat.add_comm,
    Nat.add_mul_mod_self_right, Nat.mod_mod]

/-- A field reads as before when another field of the register is written. -/
theorem getBits_putBits_ne (v : Word) (lo w n lo' w' : Nat) (h : lo + w ≤ 32) (hd : lo' + w' ≤ lo ∨ lo + w ≤ lo') :
    getBits (putBits v lo w n) lo' w' = getBits v lo' w' := by
  apply Nat.eq_of_testBit_eq
  intro i
  have hlt := putBits_lt v lo w n h
  unfold getBits putBits
  rw [BitVec.toNat_ofNat, Nat.mod_eq_of_lt hlt]
  simp only [Nat.testBit_mod_two_pow, Nat.testBit_div_two_pow]
  by_cases hi : i < w' <;> simp only [hi, decide_true, decide_false, Bool.true_and, Bool.false_and]
  have b : v.toNat % 2 ^ lo < 2 ^ lo := Nat.mod_lt _ (Nat.two_pow_pos lo)
  have a : n % 2 ^ w < 2 ^ w := Nat.mod_lt _ (Nat.two_pow_pos w)
  have e : v.toNat / 2 ^ (lo + w) * 2 ^ (lo + w) + n % 2 ^ w * 2 ^ lo + v.toNat % 2 ^ lo
      = 2 ^ lo * (2 ^ w * (v.toNat / 2 ^ (lo + w)) + n % 2 ^ w) + v.toNat % 2 ^ lo := by
    rw [Nat.mul_add, ← Nat.mul_assoc, ← Nat.pow_add, Nat.mul_comm, Nat.mul_comm (n % _)]
  rw [e, Nat.testBit_two_pow_mul_add _ b, Nat.testBit_two_pow_mul_add _ a]
  rcases hd with hd | hd
  · rw [if_pos (by omega)]
    simp only [Nat.testBit_mod_two_pow]
    rw [decide_eq_true (by omega : _ < lo), Bool.true_and]
  · rw [if_neg (by omega), if_neg (by omega)]
    simp only [Nat.testBit_div_two_pow]
    congr 1
    omega

/-! ## The register file -/

@[simp] theorem Block.reg_setReg_self (s : Block) (k : Nat) (v : Word) : (s.setReg k v).reg k = v := by
  simp only [Block.reg, Block.setReg]
  exact SMap.get_set_self (regReset k) s.regs k v

theorem Block.reg_setReg_ne (s : Block) {j k : Nat} (v : Word) (h : j ≠ k) : (s.setReg k v).reg j = s.reg j := by
  unfold Block.reg Block.setReg SMap.set
  split
  · simp [SMap.find_del_ne _ h]
  · simp [SMap.find_ins_ne _ _ h]

/-- A field reads as it was written, modulo its width. -/
theorem Block.fld_setFld_self (s : Block) (f : Field) (n : Nat) (h : f.lo + f.w ≤ 32) : (s.setFld f n).fld f = n % 2 ^ f.w := by
  unfold Block.fld Block.setFld
  rw [Block.reg_setReg_self, getBits_putBits _ _ _ _ h]

/-- A field of another register is left alone. -/
theorem Block.fld_setFld_ne (s : Block) {f g : Field} (n : Nat) (h : g.key ≠ f.key) : (s.setFld f n).fld g = s.fld g := by
  unfold Block.fld Block.setFld
  rw [Block.reg_setReg_ne _ _ h]

theorem Block.bit_setBit_self (s : Block) (f : Field) (b : Bool) (h : f.lo + 1 ≤ 32) (hw : f.w = 1) : (s.setBit f b).bit f = b := by
  unfold Block.bit Block.setBit
  rw [Block.fld_setFld_self _ _ _ (by omega), hw]
  cases b <;> rfl

/-! ## Cores, engines and scratchpads -/

@[simp] theorem Block.coreAt_setCore (s : Block) (r c : Nat) (x : Core) : (s.setCore r c x).coreAt r c = x :=
  SMap.get_set_self _ _ _ _

@[simp] theorem Block.coreAt_modCore (s : Block) (r c : Nat) (f : Core → Core) : (s.modCore r c f).coreAt r c = f (s.coreAt r c) :=
  SMap.get_set_self _ _ _ _

@[simp] theorem Block.engine_setEngine (s : Block) (r c e : Nat) (x : EngSt) : (s.setEngine r c e x).engine r c e = x :=
  SMap.get_set_self _ _ _ _

@[simp] theorem Block.spadAt_setSpad (s : Block) (r c : Nat) (x : Spad) : (s.setSpad r c x).spadAt r c = x :=
  SMap.get_set_self _ _ _ _

@[simp] theorem Block.slab_setSlab (s : Block) (r c e p : Nat) (b : Slab) : (s.setSlab r c e p b).slab r c e p = b :=
  SMap.get_set_self _ _ _ _

/-! ## What a meaning over the hardware gives -/

@[simp] theorem State.runs_next (s : State) (f : Block → Host.Outcome Block Fault Refusal) (b : Block) (h : f s.toBlock = .next b) :
    s.runs f = .next ⟨b, s.pending⟩ := by
  simp [State.runs, h]

theorem Gives.of_runs {c : Instr} {s : State} {b : Block} (f : Block → Host.Outcome Block Fault Refusal) (hf : exec c s = s.runs f)
    (h : f s.toBlock = .next b) : Gives c s b := by
  rw [Gives, hf]
  exact State.runs_next s f b h

/-! ## One lemma for each part an updater leaves alone -/

/-! ### setReg -/

@[simp] theorem Block.setReg_staged (s : Block) (k : Nat) (v : Word) : (s.setReg k v).staged = s.staged := rfl
@[simp] theorem Block.setReg_hiLatch (s : Block) (k : Nat) (v : Word) : (s.setReg k v).hiLatch = s.hiLatch := rfl
@[simp] theorem Block.setReg_frozen (s : Block) (k : Nat) (v : Word) : (s.setReg k v).frozen = s.frozen := rfl
@[simp] theorem Block.setReg_msix (s : Block) (k : Nat) (v : Word) : (s.setReg k v).msix = s.msix := rfl
@[simp] theorem Block.setReg_freeCtr (s : Block) (k : Nat) (v : Word) : (s.setReg k v).freeCtr = s.freeCtr := rfl
@[simp] theorem Block.setReg_answer (s : Block) (k : Nat) (v : Word) : (s.setReg k v).answer = s.answer := rfl
@[simp] theorem Block.setReg_hostOut (s : Block) (k : Nat) (v : Word) : (s.setReg k v).hostOut = s.hostOut := rfl
@[simp] theorem Block.setReg_eng (s : Block) (k : Nat) (v : Word) : (s.setReg k v).eng = s.eng := rfl
@[simp] theorem Block.setReg_core (s : Block) (k : Nat) (v : Word) : (s.setReg k v).core = s.core := rfl
@[simp] theorem Block.setReg_spad (s : Block) (k : Nat) (v : Word) : (s.setReg k v).spad = s.spad := rfl
@[simp] theorem Block.setReg_sync (s : Block) (k : Nat) (v : Word) : (s.setReg k v).sync = s.sync := rfl
@[simp] theorem Block.setReg_mig (s : Block) (k : Nat) (v : Word) : (s.setReg k v).mig = s.mig := rfl
@[simp] theorem Block.setReg_drv (s : Block) (k : Nat) (v : Word) : (s.setReg k v).drv = s.drv := rfl
@[simp] theorem Block.setReg_cache (s : Block) (k : Nat) (v : Word) : (s.setReg k v).cache = s.cache := rfl
@[simp] theorem Block.setReg_store (s : Block) (k : Nat) (v : Word) : (s.setReg k v).store = s.store := rfl
@[simp] theorem Block.setReg_net (s : Block) (k : Nat) (v : Word) : (s.setReg k v).net = s.net := rfl
@[simp] theorem Block.setReg_fab (s : Block) (k : Nat) (v : Word) : (s.setReg k v).fab = s.fab := rfl
@[simp] theorem Block.setReg_res (s : Block) (k : Nat) (v : Word) : (s.setReg k v).res = s.res := rfl
@[simp] theorem Block.setReg_serv (s : Block) (k : Nat) (v : Word) : (s.setReg k v).serv = s.serv := rfl
@[simp] theorem Block.setReg_tw (s : Block) (k : Nat) (v : Word) : (s.setReg k v).tw = s.tw := rfl
@[simp] theorem Block.setReg_pow (s : Block) (k : Nat) (v : Word) : (s.setReg k v).pow = s.pow := rfl
@[simp] theorem Block.setReg_tr (s : Block) (k : Nat) (v : Word) : (s.setReg k v).tr = s.tr := rfl
@[simp] theorem Block.setReg_int (s : Block) (k : Nat) (v : Word) : (s.setReg k v).int = s.int := rfl
@[simp] theorem Block.setReg_cairn (s : Block) (k : Nat) (v : Word) : (s.setReg k v).cairn = s.cairn := rfl
@[simp] theorem Block.setReg_look (s : Block) (k : Nat) (v : Word) : (s.setReg k v).look = s.look := rfl
@[simp] theorem Block.setReg_cal (s : Block) (k : Nat) (v : Word) : (s.setReg k v).cal = s.cal := rfl
@[simp] theorem Block.setReg_hp (s : Block) (k : Nat) (v : Word) : (s.setReg k v).hp = s.hp := rfl
@[simp] theorem Block.setReg_mg (s : Block) (k : Nat) (v : Word) : (s.setReg k v).mg = s.mg := rfl
@[simp] theorem Block.setReg_boot (s : Block) (k : Nat) (v : Word) : (s.setReg k v).boot = s.boot := rfl

/-! ### setFld -/

@[simp] theorem Block.setFld_staged (s : Block) (f : Field) (n : Nat) : (s.setFld f n).staged = s.staged := rfl
@[simp] theorem Block.setFld_hiLatch (s : Block) (f : Field) (n : Nat) : (s.setFld f n).hiLatch = s.hiLatch := rfl
@[simp] theorem Block.setFld_frozen (s : Block) (f : Field) (n : Nat) : (s.setFld f n).frozen = s.frozen := rfl
@[simp] theorem Block.setFld_msix (s : Block) (f : Field) (n : Nat) : (s.setFld f n).msix = s.msix := rfl
@[simp] theorem Block.setFld_freeCtr (s : Block) (f : Field) (n : Nat) : (s.setFld f n).freeCtr = s.freeCtr := rfl
@[simp] theorem Block.setFld_answer (s : Block) (f : Field) (n : Nat) : (s.setFld f n).answer = s.answer := rfl
@[simp] theorem Block.setFld_hostOut (s : Block) (f : Field) (n : Nat) : (s.setFld f n).hostOut = s.hostOut := rfl
@[simp] theorem Block.setFld_eng (s : Block) (f : Field) (n : Nat) : (s.setFld f n).eng = s.eng := rfl
@[simp] theorem Block.setFld_core (s : Block) (f : Field) (n : Nat) : (s.setFld f n).core = s.core := rfl
@[simp] theorem Block.setFld_spad (s : Block) (f : Field) (n : Nat) : (s.setFld f n).spad = s.spad := rfl
@[simp] theorem Block.setFld_sync (s : Block) (f : Field) (n : Nat) : (s.setFld f n).sync = s.sync := rfl
@[simp] theorem Block.setFld_mig (s : Block) (f : Field) (n : Nat) : (s.setFld f n).mig = s.mig := rfl
@[simp] theorem Block.setFld_drv (s : Block) (f : Field) (n : Nat) : (s.setFld f n).drv = s.drv := rfl
@[simp] theorem Block.setFld_cache (s : Block) (f : Field) (n : Nat) : (s.setFld f n).cache = s.cache := rfl
@[simp] theorem Block.setFld_store (s : Block) (f : Field) (n : Nat) : (s.setFld f n).store = s.store := rfl
@[simp] theorem Block.setFld_net (s : Block) (f : Field) (n : Nat) : (s.setFld f n).net = s.net := rfl
@[simp] theorem Block.setFld_fab (s : Block) (f : Field) (n : Nat) : (s.setFld f n).fab = s.fab := rfl
@[simp] theorem Block.setFld_res (s : Block) (f : Field) (n : Nat) : (s.setFld f n).res = s.res := rfl
@[simp] theorem Block.setFld_serv (s : Block) (f : Field) (n : Nat) : (s.setFld f n).serv = s.serv := rfl
@[simp] theorem Block.setFld_tw (s : Block) (f : Field) (n : Nat) : (s.setFld f n).tw = s.tw := rfl
@[simp] theorem Block.setFld_pow (s : Block) (f : Field) (n : Nat) : (s.setFld f n).pow = s.pow := rfl
@[simp] theorem Block.setFld_tr (s : Block) (f : Field) (n : Nat) : (s.setFld f n).tr = s.tr := rfl
@[simp] theorem Block.setFld_int (s : Block) (f : Field) (n : Nat) : (s.setFld f n).int = s.int := rfl
@[simp] theorem Block.setFld_cairn (s : Block) (f : Field) (n : Nat) : (s.setFld f n).cairn = s.cairn := rfl
@[simp] theorem Block.setFld_look (s : Block) (f : Field) (n : Nat) : (s.setFld f n).look = s.look := rfl
@[simp] theorem Block.setFld_cal (s : Block) (f : Field) (n : Nat) : (s.setFld f n).cal = s.cal := rfl
@[simp] theorem Block.setFld_hp (s : Block) (f : Field) (n : Nat) : (s.setFld f n).hp = s.hp := rfl
@[simp] theorem Block.setFld_mg (s : Block) (f : Field) (n : Nat) : (s.setFld f n).mg = s.mg := rfl
@[simp] theorem Block.setFld_boot (s : Block) (f : Field) (n : Nat) : (s.setFld f n).boot = s.boot := rfl

/-! ### setBit -/

@[simp] theorem Block.setBit_staged (s : Block) (f : Field) (b : Bool) : (s.setBit f b).staged = s.staged := rfl
@[simp] theorem Block.setBit_hiLatch (s : Block) (f : Field) (b : Bool) : (s.setBit f b).hiLatch = s.hiLatch := rfl
@[simp] theorem Block.setBit_frozen (s : Block) (f : Field) (b : Bool) : (s.setBit f b).frozen = s.frozen := rfl
@[simp] theorem Block.setBit_msix (s : Block) (f : Field) (b : Bool) : (s.setBit f b).msix = s.msix := rfl
@[simp] theorem Block.setBit_freeCtr (s : Block) (f : Field) (b : Bool) : (s.setBit f b).freeCtr = s.freeCtr := rfl
@[simp] theorem Block.setBit_answer (s : Block) (f : Field) (b : Bool) : (s.setBit f b).answer = s.answer := rfl
@[simp] theorem Block.setBit_hostOut (s : Block) (f : Field) (b : Bool) : (s.setBit f b).hostOut = s.hostOut := rfl
@[simp] theorem Block.setBit_eng (s : Block) (f : Field) (b : Bool) : (s.setBit f b).eng = s.eng := rfl
@[simp] theorem Block.setBit_core (s : Block) (f : Field) (b : Bool) : (s.setBit f b).core = s.core := rfl
@[simp] theorem Block.setBit_spad (s : Block) (f : Field) (b : Bool) : (s.setBit f b).spad = s.spad := rfl
@[simp] theorem Block.setBit_sync (s : Block) (f : Field) (b : Bool) : (s.setBit f b).sync = s.sync := rfl
@[simp] theorem Block.setBit_mig (s : Block) (f : Field) (b : Bool) : (s.setBit f b).mig = s.mig := rfl
@[simp] theorem Block.setBit_drv (s : Block) (f : Field) (b : Bool) : (s.setBit f b).drv = s.drv := rfl
@[simp] theorem Block.setBit_cache (s : Block) (f : Field) (b : Bool) : (s.setBit f b).cache = s.cache := rfl
@[simp] theorem Block.setBit_store (s : Block) (f : Field) (b : Bool) : (s.setBit f b).store = s.store := rfl
@[simp] theorem Block.setBit_net (s : Block) (f : Field) (b : Bool) : (s.setBit f b).net = s.net := rfl
@[simp] theorem Block.setBit_fab (s : Block) (f : Field) (b : Bool) : (s.setBit f b).fab = s.fab := rfl
@[simp] theorem Block.setBit_res (s : Block) (f : Field) (b : Bool) : (s.setBit f b).res = s.res := rfl
@[simp] theorem Block.setBit_serv (s : Block) (f : Field) (b : Bool) : (s.setBit f b).serv = s.serv := rfl
@[simp] theorem Block.setBit_tw (s : Block) (f : Field) (b : Bool) : (s.setBit f b).tw = s.tw := rfl
@[simp] theorem Block.setBit_pow (s : Block) (f : Field) (b : Bool) : (s.setBit f b).pow = s.pow := rfl
@[simp] theorem Block.setBit_tr (s : Block) (f : Field) (b : Bool) : (s.setBit f b).tr = s.tr := rfl
@[simp] theorem Block.setBit_int (s : Block) (f : Field) (b : Bool) : (s.setBit f b).int = s.int := rfl
@[simp] theorem Block.setBit_cairn (s : Block) (f : Field) (b : Bool) : (s.setBit f b).cairn = s.cairn := rfl
@[simp] theorem Block.setBit_look (s : Block) (f : Field) (b : Bool) : (s.setBit f b).look = s.look := rfl
@[simp] theorem Block.setBit_cal (s : Block) (f : Field) (b : Bool) : (s.setBit f b).cal = s.cal := rfl
@[simp] theorem Block.setBit_hp (s : Block) (f : Field) (b : Bool) : (s.setBit f b).hp = s.hp := rfl
@[simp] theorem Block.setBit_mg (s : Block) (f : Field) (b : Bool) : (s.setBit f b).mg = s.mg := rfl
@[simp] theorem Block.setBit_boot (s : Block) (f : Field) (b : Bool) : (s.setBit f b).boot = s.boot := rfl

/-! ### addReg -/

@[simp] theorem Block.addReg_staged (s : Block) (k n : Nat) : (s.addReg k n).staged = s.staged := rfl
@[simp] theorem Block.addReg_hiLatch (s : Block) (k n : Nat) : (s.addReg k n).hiLatch = s.hiLatch := rfl
@[simp] theorem Block.addReg_frozen (s : Block) (k n : Nat) : (s.addReg k n).frozen = s.frozen := rfl
@[simp] theorem Block.addReg_msix (s : Block) (k n : Nat) : (s.addReg k n).msix = s.msix := rfl
@[simp] theorem Block.addReg_freeCtr (s : Block) (k n : Nat) : (s.addReg k n).freeCtr = s.freeCtr := rfl
@[simp] theorem Block.addReg_answer (s : Block) (k n : Nat) : (s.addReg k n).answer = s.answer := rfl
@[simp] theorem Block.addReg_hostOut (s : Block) (k n : Nat) : (s.addReg k n).hostOut = s.hostOut := rfl
@[simp] theorem Block.addReg_eng (s : Block) (k n : Nat) : (s.addReg k n).eng = s.eng := rfl
@[simp] theorem Block.addReg_core (s : Block) (k n : Nat) : (s.addReg k n).core = s.core := rfl
@[simp] theorem Block.addReg_spad (s : Block) (k n : Nat) : (s.addReg k n).spad = s.spad := rfl
@[simp] theorem Block.addReg_sync (s : Block) (k n : Nat) : (s.addReg k n).sync = s.sync := rfl
@[simp] theorem Block.addReg_mig (s : Block) (k n : Nat) : (s.addReg k n).mig = s.mig := rfl
@[simp] theorem Block.addReg_drv (s : Block) (k n : Nat) : (s.addReg k n).drv = s.drv := rfl
@[simp] theorem Block.addReg_cache (s : Block) (k n : Nat) : (s.addReg k n).cache = s.cache := rfl
@[simp] theorem Block.addReg_store (s : Block) (k n : Nat) : (s.addReg k n).store = s.store := rfl
@[simp] theorem Block.addReg_net (s : Block) (k n : Nat) : (s.addReg k n).net = s.net := rfl
@[simp] theorem Block.addReg_fab (s : Block) (k n : Nat) : (s.addReg k n).fab = s.fab := rfl
@[simp] theorem Block.addReg_res (s : Block) (k n : Nat) : (s.addReg k n).res = s.res := rfl
@[simp] theorem Block.addReg_serv (s : Block) (k n : Nat) : (s.addReg k n).serv = s.serv := rfl
@[simp] theorem Block.addReg_tw (s : Block) (k n : Nat) : (s.addReg k n).tw = s.tw := rfl
@[simp] theorem Block.addReg_pow (s : Block) (k n : Nat) : (s.addReg k n).pow = s.pow := rfl
@[simp] theorem Block.addReg_tr (s : Block) (k n : Nat) : (s.addReg k n).tr = s.tr := rfl
@[simp] theorem Block.addReg_int (s : Block) (k n : Nat) : (s.addReg k n).int = s.int := rfl
@[simp] theorem Block.addReg_cairn (s : Block) (k n : Nat) : (s.addReg k n).cairn = s.cairn := rfl
@[simp] theorem Block.addReg_look (s : Block) (k n : Nat) : (s.addReg k n).look = s.look := rfl
@[simp] theorem Block.addReg_cal (s : Block) (k n : Nat) : (s.addReg k n).cal = s.cal := rfl
@[simp] theorem Block.addReg_hp (s : Block) (k n : Nat) : (s.addReg k n).hp = s.hp := rfl
@[simp] theorem Block.addReg_mg (s : Block) (k n : Nat) : (s.addReg k n).mg = s.mg := rfl
@[simp] theorem Block.addReg_boot (s : Block) (k n : Nat) : (s.addReg k n).boot = s.boot := rfl

/-! ### addSat -/

@[simp] theorem Block.addSat_staged (s : Block) (f : Field) (n : Nat) : (s.addSat f n).staged = s.staged := rfl
@[simp] theorem Block.addSat_hiLatch (s : Block) (f : Field) (n : Nat) : (s.addSat f n).hiLatch = s.hiLatch := rfl
@[simp] theorem Block.addSat_frozen (s : Block) (f : Field) (n : Nat) : (s.addSat f n).frozen = s.frozen := rfl
@[simp] theorem Block.addSat_msix (s : Block) (f : Field) (n : Nat) : (s.addSat f n).msix = s.msix := rfl
@[simp] theorem Block.addSat_freeCtr (s : Block) (f : Field) (n : Nat) : (s.addSat f n).freeCtr = s.freeCtr := rfl
@[simp] theorem Block.addSat_answer (s : Block) (f : Field) (n : Nat) : (s.addSat f n).answer = s.answer := rfl
@[simp] theorem Block.addSat_hostOut (s : Block) (f : Field) (n : Nat) : (s.addSat f n).hostOut = s.hostOut := rfl
@[simp] theorem Block.addSat_eng (s : Block) (f : Field) (n : Nat) : (s.addSat f n).eng = s.eng := rfl
@[simp] theorem Block.addSat_core (s : Block) (f : Field) (n : Nat) : (s.addSat f n).core = s.core := rfl
@[simp] theorem Block.addSat_spad (s : Block) (f : Field) (n : Nat) : (s.addSat f n).spad = s.spad := rfl
@[simp] theorem Block.addSat_sync (s : Block) (f : Field) (n : Nat) : (s.addSat f n).sync = s.sync := rfl
@[simp] theorem Block.addSat_mig (s : Block) (f : Field) (n : Nat) : (s.addSat f n).mig = s.mig := rfl
@[simp] theorem Block.addSat_drv (s : Block) (f : Field) (n : Nat) : (s.addSat f n).drv = s.drv := rfl
@[simp] theorem Block.addSat_cache (s : Block) (f : Field) (n : Nat) : (s.addSat f n).cache = s.cache := rfl
@[simp] theorem Block.addSat_store (s : Block) (f : Field) (n : Nat) : (s.addSat f n).store = s.store := rfl
@[simp] theorem Block.addSat_net (s : Block) (f : Field) (n : Nat) : (s.addSat f n).net = s.net := rfl
@[simp] theorem Block.addSat_fab (s : Block) (f : Field) (n : Nat) : (s.addSat f n).fab = s.fab := rfl
@[simp] theorem Block.addSat_res (s : Block) (f : Field) (n : Nat) : (s.addSat f n).res = s.res := rfl
@[simp] theorem Block.addSat_serv (s : Block) (f : Field) (n : Nat) : (s.addSat f n).serv = s.serv := rfl
@[simp] theorem Block.addSat_tw (s : Block) (f : Field) (n : Nat) : (s.addSat f n).tw = s.tw := rfl
@[simp] theorem Block.addSat_pow (s : Block) (f : Field) (n : Nat) : (s.addSat f n).pow = s.pow := rfl
@[simp] theorem Block.addSat_tr (s : Block) (f : Field) (n : Nat) : (s.addSat f n).tr = s.tr := rfl
@[simp] theorem Block.addSat_int (s : Block) (f : Field) (n : Nat) : (s.addSat f n).int = s.int := rfl
@[simp] theorem Block.addSat_cairn (s : Block) (f : Field) (n : Nat) : (s.addSat f n).cairn = s.cairn := rfl
@[simp] theorem Block.addSat_look (s : Block) (f : Field) (n : Nat) : (s.addSat f n).look = s.look := rfl
@[simp] theorem Block.addSat_cal (s : Block) (f : Field) (n : Nat) : (s.addSat f n).cal = s.cal := rfl
@[simp] theorem Block.addSat_hp (s : Block) (f : Field) (n : Nat) : (s.addSat f n).hp = s.hp := rfl
@[simp] theorem Block.addSat_mg (s : Block) (f : Field) (n : Nat) : (s.addSat f n).mg = s.mg := rfl
@[simp] theorem Block.addSat_boot (s : Block) (f : Field) (n : Nat) : (s.addSat f n).boot = s.boot := rfl

/-! ### setPair -/

@[simp] theorem Block.setPair_staged (s : Block) (lo hi n : Nat) : (s.setPair lo hi n).staged = s.staged := rfl
@[simp] theorem Block.setPair_hiLatch (s : Block) (lo hi n : Nat) : (s.setPair lo hi n).hiLatch = s.hiLatch := rfl
@[simp] theorem Block.setPair_frozen (s : Block) (lo hi n : Nat) : (s.setPair lo hi n).frozen = s.frozen := rfl
@[simp] theorem Block.setPair_msix (s : Block) (lo hi n : Nat) : (s.setPair lo hi n).msix = s.msix := rfl
@[simp] theorem Block.setPair_freeCtr (s : Block) (lo hi n : Nat) : (s.setPair lo hi n).freeCtr = s.freeCtr := rfl
@[simp] theorem Block.setPair_answer (s : Block) (lo hi n : Nat) : (s.setPair lo hi n).answer = s.answer := rfl
@[simp] theorem Block.setPair_hostOut (s : Block) (lo hi n : Nat) : (s.setPair lo hi n).hostOut = s.hostOut := rfl
@[simp] theorem Block.setPair_eng (s : Block) (lo hi n : Nat) : (s.setPair lo hi n).eng = s.eng := rfl
@[simp] theorem Block.setPair_core (s : Block) (lo hi n : Nat) : (s.setPair lo hi n).core = s.core := rfl
@[simp] theorem Block.setPair_spad (s : Block) (lo hi n : Nat) : (s.setPair lo hi n).spad = s.spad := rfl
@[simp] theorem Block.setPair_sync (s : Block) (lo hi n : Nat) : (s.setPair lo hi n).sync = s.sync := rfl
@[simp] theorem Block.setPair_mig (s : Block) (lo hi n : Nat) : (s.setPair lo hi n).mig = s.mig := rfl
@[simp] theorem Block.setPair_drv (s : Block) (lo hi n : Nat) : (s.setPair lo hi n).drv = s.drv := rfl
@[simp] theorem Block.setPair_cache (s : Block) (lo hi n : Nat) : (s.setPair lo hi n).cache = s.cache := rfl
@[simp] theorem Block.setPair_store (s : Block) (lo hi n : Nat) : (s.setPair lo hi n).store = s.store := rfl
@[simp] theorem Block.setPair_net (s : Block) (lo hi n : Nat) : (s.setPair lo hi n).net = s.net := rfl
@[simp] theorem Block.setPair_fab (s : Block) (lo hi n : Nat) : (s.setPair lo hi n).fab = s.fab := rfl
@[simp] theorem Block.setPair_res (s : Block) (lo hi n : Nat) : (s.setPair lo hi n).res = s.res := rfl
@[simp] theorem Block.setPair_serv (s : Block) (lo hi n : Nat) : (s.setPair lo hi n).serv = s.serv := rfl
@[simp] theorem Block.setPair_tw (s : Block) (lo hi n : Nat) : (s.setPair lo hi n).tw = s.tw := rfl
@[simp] theorem Block.setPair_pow (s : Block) (lo hi n : Nat) : (s.setPair lo hi n).pow = s.pow := rfl
@[simp] theorem Block.setPair_tr (s : Block) (lo hi n : Nat) : (s.setPair lo hi n).tr = s.tr := rfl
@[simp] theorem Block.setPair_int (s : Block) (lo hi n : Nat) : (s.setPair lo hi n).int = s.int := rfl
@[simp] theorem Block.setPair_cairn (s : Block) (lo hi n : Nat) : (s.setPair lo hi n).cairn = s.cairn := rfl
@[simp] theorem Block.setPair_look (s : Block) (lo hi n : Nat) : (s.setPair lo hi n).look = s.look := rfl
@[simp] theorem Block.setPair_cal (s : Block) (lo hi n : Nat) : (s.setPair lo hi n).cal = s.cal := rfl
@[simp] theorem Block.setPair_hp (s : Block) (lo hi n : Nat) : (s.setPair lo hi n).hp = s.hp := rfl
@[simp] theorem Block.setPair_mg (s : Block) (lo hi n : Nat) : (s.setPair lo hi n).mg = s.mg := rfl
@[simp] theorem Block.setPair_boot (s : Block) (lo hi n : Nat) : (s.setPair lo hi n).boot = s.boot := rfl

/-! ### The parts beside the register file: each updater leaves every register as it was -/

@[simp] theorem Block.tick_reg (s : Block) (n : Nat) : (s.tick).reg n = s.reg n := rfl
@[simp] theorem Block.tick_fld (s : Block) (field : Field) : (s.tick).fld field = s.fld field := rfl
@[simp] theorem Block.tick_bit (s : Block) (field : Field) : (s.tick).bit field = s.bit field := rfl
@[simp] theorem Block.signal_reg (s : Block) (fn vec : Nat) (n : Nat) : (s.signal fn vec).reg n = s.reg n := rfl
@[simp] theorem Block.signal_fld (s : Block) (fn vec : Nat) (field : Field) : (s.signal fn vec).fld field = s.fld field := rfl
@[simp] theorem Block.signal_bit (s : Block) (fn vec : Nat) (field : Field) : (s.signal fn vec).bit field = s.bit field := rfl
@[simp] theorem Block.setCore_reg (s : Block) (r c : Nat) (x : Core) (n : Nat) : (s.setCore r c x).reg n = s.reg n := rfl
@[simp] theorem Block.setCore_fld (s : Block) (r c : Nat) (x : Core) (field : Field) : (s.setCore r c x).fld field = s.fld field := rfl
@[simp] theorem Block.setCore_bit (s : Block) (r c : Nat) (x : Core) (field : Field) : (s.setCore r c x).bit field = s.bit field := rfl
@[simp] theorem Block.modCore_reg (s : Block) (r c : Nat) (f : Core → Core) (n : Nat) : (s.modCore r c f).reg n = s.reg n := rfl
@[simp] theorem Block.modCore_fld (s : Block) (r c : Nat) (f : Core → Core) (field : Field) : (s.modCore r c f).fld field = s.fld field := rfl
@[simp] theorem Block.modCore_bit (s : Block) (r c : Nat) (f : Core → Core) (field : Field) : (s.modCore r c f).bit field = s.bit field := rfl
@[simp] theorem Block.setEngine_reg (s : Block) (r c e : Nat) (x : EngSt) (n : Nat) : (s.setEngine r c e x).reg n = s.reg n := rfl
@[simp] theorem Block.setEngine_fld (s : Block) (r c e : Nat) (x : EngSt) (field : Field) : (s.setEngine r c e x).fld field = s.fld field := rfl
@[simp] theorem Block.setEngine_bit (s : Block) (r c e : Nat) (x : EngSt) (field : Field) : (s.setEngine r c e x).bit field = s.bit field := rfl
@[simp] theorem Block.modEngine_reg (s : Block) (r c e : Nat) (f : EngSt → EngSt) (n : Nat) : (s.modEngine r c e f).reg n = s.reg n := rfl
@[simp] theorem Block.modEngine_fld (s : Block) (r c e : Nat) (f : EngSt → EngSt) (field : Field) : (s.modEngine r c e f).fld field = s.fld field := rfl
@[simp] theorem Block.modEngine_bit (s : Block) (r c e : Nat) (f : EngSt → EngSt) (field : Field) : (s.modEngine r c e f).bit field = s.bit field := rfl
@[simp] theorem Block.setSpad_reg (s : Block) (r c : Nat) (x : Spad) (n : Nat) : (s.setSpad r c x).reg n = s.reg n := rfl
@[simp] theorem Block.setSpad_fld (s : Block) (r c : Nat) (x : Spad) (field : Field) : (s.setSpad r c x).fld field = s.fld field := rfl
@[simp] theorem Block.setSpad_bit (s : Block) (r c : Nat) (x : Spad) (field : Field) : (s.setSpad r c x).bit field = s.bit field := rfl
@[simp] theorem Block.modSpad_reg (s : Block) (r c : Nat) (f : Spad → Spad) (n : Nat) : (s.modSpad r c f).reg n = s.reg n := rfl
@[simp] theorem Block.modSpad_fld (s : Block) (r c : Nat) (f : Spad → Spad) (field : Field) : (s.modSpad r c f).fld field = s.fld field := rfl
@[simp] theorem Block.modSpad_bit (s : Block) (r c : Nat) (f : Spad → Spad) (field : Field) : (s.modSpad r c f).bit field = s.bit field := rfl
@[simp] theorem Block.setSync_reg (s : Block) (r : Nat) (x : SyncSt) (n : Nat) : (s.setSync r x).reg n = s.reg n := rfl
@[simp] theorem Block.setSync_fld (s : Block) (r : Nat) (x : SyncSt) (field : Field) : (s.setSync r x).fld field = s.fld field := rfl
@[simp] theorem Block.setSync_bit (s : Block) (r : Nat) (x : SyncSt) (field : Field) : (s.setSync r x).bit field = s.bit field := rfl
@[simp] theorem Block.setChan_reg (s : Block) (k ch : Nat) (x : Chan) (n : Nat) : (s.setChan k ch x).reg n = s.reg n := rfl
@[simp] theorem Block.setChan_fld (s : Block) (k ch : Nat) (x : Chan) (field : Field) : (s.setChan k ch x).fld field = s.fld field := rfl
@[simp] theorem Block.setChan_bit (s : Block) (k ch : Nat) (x : Chan) (field : Field) : (s.setChan k ch x).bit field = s.bit field := rfl
@[simp] theorem Block.setSlab_reg (s : Block) (r c e p : Nat) (b : Slab) (n : Nat) : (s.setSlab r c e p b).reg n = s.reg n := rfl
@[simp] theorem Block.setSlab_fld (s : Block) (r c e p : Nat) (b : Slab) (field : Field) : (s.setSlab r c e p b).fld field = s.fld field := rfl
@[simp] theorem Block.setSlab_bit (s : Block) (r c e p : Nat) (b : Slab) (field : Field) : (s.setSlab r c e p b).bit field = s.bit field := rfl
@[simp] theorem Block.modSlab_reg (s : Block) (r c e p : Nat) (f : Slab → Slab) (n : Nat) : (s.modSlab r c e p f).reg n = s.reg n := rfl
@[simp] theorem Block.modSlab_fld (s : Block) (r c e p : Nat) (f : Slab → Slab) (field : Field) : (s.modSlab r c e p f).fld field = s.fld field := rfl
@[simp] theorem Block.modSlab_bit (s : Block) (r c e p : Nat) (f : Slab → Slab) (field : Field) : (s.modSlab r c e p f).bit field = s.bit field := rfl
@[simp] theorem Block.setQueue_reg (s : Block) (r : Nat) (l : List StoreOp) (n : Nat) : (s.setQueue r l).reg n = s.reg n := rfl
@[simp] theorem Block.setQueue_fld (s : Block) (r : Nat) (l : List StoreOp) (field : Field) : (s.setQueue r l).fld field = s.fld field := rfl
@[simp] theorem Block.setQueue_bit (s : Block) (r : Nat) (l : List StoreOp) (field : Field) : (s.setQueue r l).bit field = s.bit field := rfl
@[simp] theorem Block.setRun_reg (s : Block) (r c e : Nat) (o : Option RunOp) (n : Nat) : (s.setRun r c e o).reg n = s.reg n := rfl
@[simp] theorem Block.setRun_fld (s : Block) (r c e : Nat) (o : Option RunOp) (field : Field) : (s.setRun r c e o).fld field = s.fld field := rfl
@[simp] theorem Block.setRun_bit (s : Block) (r c e : Nat) (o : Option RunOp) (field : Field) : (s.setRun r c e o).bit field = s.bit field := rfl
@[simp] theorem Block.setWaiting_reg (s : Block) (r : Nat) (l : List StoreOp) (n : Nat) : (s.setWaiting r l).reg n = s.reg n := rfl
@[simp] theorem Block.setWaiting_fld (s : Block) (r : Nat) (l : List StoreOp) (field : Field) : (s.setWaiting r l).fld field = s.fld field := rfl
@[simp] theorem Block.setWaiting_bit (s : Block) (r : Nat) (l : List StoreOp) (field : Field) : (s.setWaiting r l).bit field = s.bit field := rfl
@[simp] theorem Block.setRi_reg (s : Block) (r : Nat) (x : RidgeInt) (n : Nat) : (s.setRi r x).reg n = s.reg n := rfl
@[simp] theorem Block.setRi_fld (s : Block) (r : Nat) (x : RidgeInt) (field : Field) : (s.setRi r x).fld field = s.fld field := rfl
@[simp] theorem Block.setRi_bit (s : Block) (r : Nat) (x : RidgeInt) (field : Field) : (s.setRi r x).bit field = s.bit field := rfl
@[simp] theorem Block.setConv_reg (s : Block) (n : Nat) (x : LookConv) (key : Nat) : (s.setConv n x).reg key = s.reg key := rfl
@[simp] theorem Block.setConv_fld (s : Block) (n : Nat) (x : LookConv) (field : Field) : (s.setConv n x).fld field = s.fld field := rfl
@[simp] theorem Block.setConv_bit (s : Block) (n : Nat) (x : LookConv) (field : Field) : (s.setConv n x).bit field = s.bit field := rfl
@[simp] theorem Block.modPort_reg (s : Block) (p : Nat) (f : PortSt → PortSt) (n : Nat) : (s.modPort p f).reg n = s.reg n := rfl
@[simp] theorem Block.modPort_fld (s : Block) (p : Nat) (f : PortSt → PortSt) (field : Field) : (s.modPort p f).fld field = s.fld field := rfl
@[simp] theorem Block.modPort_bit (s : Block) (p : Nat) (f : PortSt → PortSt) (field : Field) : (s.modPort p f).bit field = s.bit field := rfl
@[simp] theorem Block.setParcel_reg (s : Block) (n : Nat) (p : Parcel) (key : Nat) : (s.setParcel n p).reg key = s.reg key := rfl
@[simp] theorem Block.setParcel_fld (s : Block) (n : Nat) (p : Parcel) (field : Field) : (s.setParcel n p).fld field = s.fld field := rfl
@[simp] theorem Block.setParcel_bit (s : Block) (n : Nat) (p : Parcel) (field : Field) : (s.setParcel n p).bit field = s.bit field := rfl
@[simp] theorem Block.modServ_reg (s : Block) (f : ServSt → ServSt) (n : Nat) : (s.modServ f).reg n = s.reg n := rfl
@[simp] theorem Block.modServ_fld (s : Block) (f : ServSt → ServSt) (field : Field) : (s.modServ f).fld field = s.fld field := rfl
@[simp] theorem Block.modServ_bit (s : Block) (f : ServSt → ServSt) (field : Field) : (s.modServ f).bit field = s.bit field := rfl
@[simp] theorem Block.modTw_reg (s : Block) (f : TwinSt → TwinSt) (n : Nat) : (s.modTw f).reg n = s.reg n := rfl
@[simp] theorem Block.modTw_fld (s : Block) (f : TwinSt → TwinSt) (field : Field) : (s.modTw f).fld field = s.fld field := rfl
@[simp] theorem Block.modTw_bit (s : Block) (f : TwinSt → TwinSt) (field : Field) : (s.modTw f).bit field = s.bit field := rfl
@[simp] theorem Block.modTr_reg (s : Block) (f : TrustSt → TrustSt) (n : Nat) : (s.modTr f).reg n = s.reg n := rfl
@[simp] theorem Block.modTr_fld (s : Block) (f : TrustSt → TrustSt) (field : Field) : (s.modTr f).fld field = s.fld field := rfl
@[simp] theorem Block.modTr_bit (s : Block) (f : TrustSt → TrustSt) (field : Field) : (s.modTr f).bit field = s.bit field := rfl
@[simp] theorem Block.modMg_reg (s : Block) (f : MgmtSt → MgmtSt) (n : Nat) : (s.modMg f).reg n = s.reg n := rfl
@[simp] theorem Block.modMg_fld (s : Block) (f : MgmtSt → MgmtSt) (field : Field) : (s.modMg f).fld field = s.fld field := rfl
@[simp] theorem Block.modMg_bit (s : Block) (f : MgmtSt → MgmtSt) (field : Field) : (s.modMg f).bit field = s.bit field := rfl
@[simp] theorem Block.modBoot_reg (s : Block) (f : BootSt → BootSt) (n : Nat) : (s.modBoot f).reg n = s.reg n := rfl
@[simp] theorem Block.modBoot_fld (s : Block) (f : BootSt → BootSt) (field : Field) : (s.modBoot f).fld field = s.fld field := rfl
@[simp] theorem Block.modBoot_bit (s : Block) (f : BootSt → BootSt) (field : Field) : (s.modBoot f).bit field = s.bit field := rfl

end Sys2Proof.Machine
end

