-- ==== Sys2Proof/Laws/Access.lean ====
section
/-! SUPPORT. What the shared register-access operations do: a command's own effect runs when the write reaches a register of its
page kind and is admitted, and the state that counts the refusal stands when it is refused. -/
namespace Sys2Proof.Machine

theorem Block.admits_iff (s : Block) (req : Fin 18) (dw : BitVec 26) (v : Word) (kind : PageKind) (t : Block) (page off idx : Nat)
    (h : s.admits req dw v kind = some (t, page, off, idx)) :
    s.reach req dw.toNat true = (t, some (page, off)) ∧ pageKind page = kind ∧ t.refusal req page off v = none ∧
      ∃ row, regRow kind off = some row ∧ t.cellKey page off row % regSpan = idx := by
  unfold Block.admits at h
  split at h
  · split at h
    · split at h
      · cases h
        rename_i row h2 h1 h3
        exact ⟨h1, h3.1, h3.2, row, h2, rfl⟩
      · cases h
    · cases h
  · cases h

/-- An admitted write of a register with a behaviour of its own runs that behaviour. -/
theorem Block.command_of_admits {s : Block} {req : Fin 18} {dw : BitVec 26} {v : Word} {kind : PageKind} {t : Block} {page off idx : Nat}
    (h : s.admits req dw v kind = some (t, page, off, idx)) (offs : List Nat) (f : Nat → Nat → Nat → Block → Block)
    (ho : offs.contains off = true) : s.command req dw.toNat v kind offs f = f page off idx t := by
  obtain ⟨h1, h2, h3, row, h4, h5⟩ := s.admits_iff req dw v kind t page off idx h
  unfold Block.command
  rw [h1]
  dsimp only
  rw [if_neg (by rw [ho]; simp [h2]), h3]
  dsimp only
  rw [h4]
  dsimp only
  rw [h5]

/-- A refused write of such a register leaves the state that counts the refusal. -/
theorem Block.command_of_refusal {s : Block} {req : Fin 18} {dw : BitVec 26} {v : Word} {kind : PageKind} {t u : Block} {page off : Nat}
    (h : s.reach req dw.toNat true = (t, some (page, off))) (hr : t.refusal req page off v = some u) (offs : List Nat)
    (f : Nat → Nat → Nat → Block → Block) (hk : pageKind page = kind) (ho : offs.contains off = true) :
    s.command req dw.toNat v kind offs f = u := by
  unfold Block.command
  rw [h]
  dsimp only
  rw [if_neg (by rw [ho]; simp [hk]), hr]

theorem Block.irqWrite_of_reach {s : Block} {req : Fin 18} {dw want : Nat} {t : Block} {page : Nat}
    (h : s.reach req dw true = (t, some (page, want))) (hv : ¬ (1 ≤ req.val ∧ req.val ≤ 16 ∧ page < 4096)) (f : Nat → Block → Block) :
    s.irqWrite req dw want f = f page t := by
  unfold Block.irqWrite
  rw [h]
  dsimp only
  rw [if_neg (by simp), if_neg hv]

theorem Block.ctlWrite_of_reach {s : Block} {req : Fin 18} {dw : Nat} {t : Block} {page : Nat}
    (h : s.reach req dw true = (t, some (page, 0x08))) (hv : ¬ (1 ≤ req.val ∧ req.val ≤ 16 ∧ page < 4096)) (f : Nat → Block → Block) :
    s.ctlWrite req dw f = f page t := by
  unfold Block.ctlWrite
  rw [h]
  dsimp only
  rw [if_neg (by simp), if_neg hv]

end Sys2Proof.Machine
end

