-- ==== Sys2Proof/Laws/Bundle.lean ====
section
/-! SUPPORT. What the shared operations of a core do: a slot that joins its bundle, a bundle that issues or takes an exception, an
interrupt that is raised, a row that is written. -/
namespace Sys2Proof.Machine

/-- A site's key names one ridge and one site. -/
theorem siteKey_inj {r r' : Fin 16} {c c' : Fin 34} (h : siteKey r c = siteKey r' c') : r = r' ∧ c = c' := by
  unfold siteKey at h; have := r.2; have := r'.2; have := c.2; have := c'.2
  constructor <;> apply Fin.ext <;> omega

/-- A change of one core leaves every other core as it was. -/
theorem Block.coreAt_modCore_ne (s : Block) {r r' c c' : Nat} (f) (h : siteKey r' c' ≠ siteKey r c) : (s.modCore r c f).coreAt r' c' = s.coreAt r' c' := by
  unfold Block.modCore Block.setCore Block.coreAt; exact SMap.get_set_ne _ _ _ h

/-- What a core reads as depends on the cores alone. -/
theorem Block.coreAt_congr (a b : Block) (h : a.core = b.core) (r c) : a.coreAt r c = b.coreAt r c := by unfold Block.coreAt; rw [h]

/-- What a register reads as depends on the register file alone. -/
theorem Block.reg_congr (a b : Block) (h : a.regs = b.regs) (k) : a.reg k = b.reg k := by unfold Block.reg; rw [h]

/-- What a field reads as depends on the register file alone. -/
theorem Block.fld_congr (a b : Block) (h : a.regs = b.regs) (k) : a.fld k = b.fld k := by unfold Block.fld Block.reg; rw [h]

/-- What a LO/HI pair reads as depends on the register file alone. -/
theorem Block.pair_congr (a b : Block) (h : a.regs = b.regs) (k l) : a.pair k l = b.pair k l := by unfold Block.pair Block.reg; rw [h]

/-- What a row reads as depends on the scratchpads alone. -/
theorem Block.readRow_congr (a b : Block) (h : a.spad = b.spad) (r c n) : a.readRow r c n = b.readRow r c n := by
  simp only [Block.readRow, Block.badWords, Block.row, Block.spadAt, h]

theorem Block.modCore_int (s : Block) (r c f) : (s.modCore r c f).int = s.int := rfl

theorem Block.modCore_sync (s : Block) (r c f) : (s.modCore r c f).sync = s.sync := rfl

theorem Block.modCore_regs (s : Block) (r c f) : (s.modCore r c f).regs = s.regs := rfl

theorem Block.modCore_eng (s : Block) (r c f) : (s.modCore r c f).eng = s.eng := rfl

theorem Block.modCore_spad (s : Block) (r c f) : (s.modCore r c f).spad = s.spad := rfl

theorem Block.setCore_eng (s : Block) (r c x) : (s.setCore r c x).eng = s.eng := rfl

theorem Block.setCore_drv (s : Block) (r c x) : (s.setCore r c x).drv = s.drv := rfl

theorem Block.setCore_int (s : Block) (r c x) : (s.setCore r c x).int = s.int := rfl

theorem Block.setCore_spad (s : Block) (r c x) : (s.setCore r c x).spad = s.spad := rfl

/-- Writing a field of equal register files leaves equal register files. -/
theorem Block.setFld_regs_congr (a b : Block) (f n) (h : a.regs = b.regs) : (a.setFld f n).regs = (b.setFld f n).regs := by
  simp [Block.setFld, Block.setReg, Block.reg, h]

/-- Adding cycles to equal register files leaves equal register files. -/
theorem Block.addCycles_regs_congr (a b : Block) (r c n) (h : a.regs = b.regs) : (a.addCycles r c n).regs = (b.addCycles r c n).regs := by
  simp [Block.addCycles, Block.setPair, Block.pair, Block.setReg, Block.reg, h]

/-- A LO/HI pair reads as it was written, modulo 2⁶⁴. -/
theorem Block.pair_setPair (s : Block) (lo hi n : Nat) (h : lo ≠ hi) : (s.setPair lo hi n).pair lo hi = n % 2 ^ 64 := by
  unfold Block.setPair Block.pair
  rw [Block.reg_setReg_ne _ _ h, Block.reg_setReg_self, Block.reg_setReg_self]; simp; omega

/-- Freeing a tag changes the core's tags alone. -/
theorem Block.freeTag_coreAt (u : Block) (r c tag) : (u.freeTag r c tag).coreAt r c = { u.coreAt r c with tags := SMap.del (tag % 64) (u.coreAt r c).tags } := by
  unfold Block.freeTag Block.showTags
  rw [Block.coreAt_congr _ _ (Block.setFld_core _ _ _), Block.coreAt_modCore]

/-- Signalling changes counts of interrupt vectors alone (R754). -/
theorem Block.signalRises_frame (u old : Block) (p : Nat) : let t := u.signalRises p old
    t.regs = u.regs ∧ t.int = u.int ∧ t.core = u.core ∧ t.eng = u.eng ∧ t.drv = u.drv ∧ t.spad = u.spad := by
  unfold Block.signalRises
  generalize old.vectorsOf p = l
  have : ∀ (v : Block), v.regs = u.regs ∧ v.int = u.int ∧ v.core = u.core ∧ v.eng = u.eng ∧ v.drv = u.drv ∧ v.spad = u.spad → 
    let t := (l.foldl (fun t v => if !v.pages.any old.irqActive && v.pages.any u.irqActive then t.signal v.fn v.vec else t) v)
    t.regs = u.regs ∧ t.int = u.int ∧ t.core = u.core ∧ t.eng = u.eng ∧ t.drv = u.drv ∧ t.spad = u.spad := by
    induction l with
    | nil => intro v h; exact h
    | cons a l ih =>
      intro v h; rw [List.foldl_cons]; apply ih; split
      · exact h
      · exact h
  exact this u ⟨rfl, rfl, rfl, rfl, rfl, rfl⟩

/-- Raising an interrupt writes one bit of its page's BLK_IRQ_STAT and leaves the machine's parts alone. -/
theorem Block.raise_frame (u : Block) (p b : Nat) : let t := u.raise p b
    t.regs = (u.setFld ⟨BLK_IRQ_STAT p, b, 1⟩ 1).regs ∧ t.int = u.int ∧ t.core = u.core ∧ t.eng = u.eng ∧ t.drv = u.drv ∧ t.spad = u.spad := by
  have h := Block.signalRises_frame (u.setFld ⟨BLK_IRQ_STAT p, b, 1⟩ 1) u p
  unfold Block.raise
  refine ⟨h.1, h.2.1.trans (Block.setFld_int _ _ _), h.2.2.1.trans (Block.setFld_core _ _ _), h.2.2.2.1.trans (Block.setFld_eng _ _ _), h.2.2.2.2.1.trans (Block.setFld_drv _ _ _), h.2.2.2.2.2.trans (Block.setFld_spad _ _ _)⟩

/-! ## Rows -/

/-- Every word enabled is every bit. -/
theorem wordMask_all : wordMask allWords = BitVec.allOnes 4096 := by decide +kernel

/-- No word enabled is no bit. -/
theorem wordMask_none : wordMask 0 = 0 := by decide +kernel

theorem Row.not_zero : ~~~(0 : Row) = BitVec.allOnes 4096 := by decide +kernel

theorem Row.not_allOnes : ~~~(BitVec.allOnes 4096) = (0 : Row) := by decide +kernel

/-- A row written whole is the row written. -/
theorem mergeWords_all (a v : Row) : mergeWords a v allWords = v := by
  unfold mergeWords; rw [wordMask_all, Row.not_allOnes, BitVec.and_allOnes]
  show a &&& 0#4096 ||| v = v
  rw [BitVec.and_zero, BitVec.zero_or]

/-- A row written nowhere is unchanged. -/
theorem mergeWords_none (a : Row) : mergeWords a 0 0 = a := by
  unfold mergeWords; rw [wordMask_none, Row.not_zero, BitVec.and_allOnes]
  show a ||| (0#4096 &&& 0#4096) = a
  rw [BitVec.and_zero, BitVec.or_zero]

/-- A register written whole is the value written. -/
theorem mergeBits_all (a v : Row) : mergeBits a v allBitsRow = v := by
  unfold mergeBits allBitsRow; rw [Row.not_allOnes, BitVec.and_allOnes]
  show a &&& 0#4096 ||| v = v
  rw [BitVec.and_zero, BitVec.zero_or]

/-- Writing a row changes no core. -/
theorem Block.coreAt_writeRow (s : Block) (r c n v m a b) : (s.writeRow r c n v m).coreAt a b = s.coreAt a b := Block.coreAt_congr _ _ rfl _ _

/-! ## Slots and bundles -/

/-- A slot with a legal encoding whose guard holds joins its bundle with its effects. -/
theorem Block.slot_effects (s : Block) (r c k last) (x : Core) (dests reads run es fx) (g : Bool) (checks : List (Bool × Nat)) (h : s.issues r c = true)
   (hg : g = true) (hu : x.unclaimed reads = true) (hr : run () = (es, fx)) (he : es = []) (hc : (checks.filter (·.1)) = []) :
   s.slot r c k last (slotOut x k g checks dests reads run) = s.joins r c k last dests fx := by
  subst hg he
  have : x.claimed reads = [] := by simpa [Core.unclaimed] using hu
  simp [Block.slot, slotOut, h, hc, hr, this, Block.joins, Block.joined]

/-- A slot with a legal encoding whose guard fails joins its bundle with its destinations alone (R264). -/
theorem Block.slot_unguarded (s : Block) (r c k last) (x : Core) (dests reads run) (g : Bool) (checks : List (Bool × Nat)) (h : s.issues r c = true)
   (hg : g = false) (hc : (checks.filter (·.1)) = []) :
   s.slot r c k last (slotOut x k g checks dests reads run) = s.joins r c k last dests [] := by
  subst hg
  simp [Block.slot, slotOut, h, hc, Block.joins, Block.joined]

/-- A bundle that Block.raise_frame nothing, finds no register claimed and needs no tag and no channel issues. -/
theorem Block.closeBundle_issues (u : Block) (r c : Nat) (h1 : (u.coreAt r c).excWait = []) (h2 : (u.coreAt r c).haltReq = false)
    (h3 : bundleExc (u.coreAt r c).pc (u.coreAt r c).bundle = none) (h4 : (u.coreAt r c).bundle.reads = [])
    (h5 : needsTag (u.coreAt r c).bundle.fx = false) (h6 : pushChannel (u.coreAt r c).bundle.fx = none) :
    u.closeBundle r c = u.issueBundle r c (u.coreAt r c).bundle := by
  unfold Block.closeBundle; simp [h1, h2, h3, h4, h5, h6]

/-- A boundary with nothing waiting changes nothing. -/
theorem Block.boundary_none (s : Block) (r c : Nat) (h1 : (s.coreAt r c).excWait = []) (h2 : (s.coreAt r c).haltReq = false) : s.boundary r c = s := by
  unfold Block.boundary; dsimp only; rw [h1, h2]; simp [nextWaiting]

/-- A core after a bundle without a taken branch, outside its handler: one cycle later, at the next bundle. -/
def Core.issued (x : Core) (l : List Fx) : Core := { (x.advance l).land ((x.advance l).clock + 1) with clock := (x.advance l).clock + 1 }

theorem Block.modCore_issued (M : Block) (r c : Nat) (l : List Fx) : M.modCore r c (fun y =>
    let z := y.advance l
    { z.land (z.clock + 1) with clock := z.clock + 1 }) = M.setCore r c (Core.issued (M.coreAt r c) l) := rfl

/-- The issue of a bundle without a branch, outside the handler (R206, R210, R214). -/
theorem Block.issueBundle_straight (u : Block) (r c : Nat) (b : Bundle) (hf : takenBranch (u.coreAt r c) b.fx = none)
    (hh : (u.coreAt r c).handler = false) (he : b.fx.contains .eret = false) (M : Block)
    (hM : M = ((b.fx.foldl (fun t f => t.applyFx r c f) (u.modCore r c (fun x => { x with bundle := Bundle.none }))).setFld (CORE_PC.PC r c) (u.coreAt r c).pc).addCycles r c 1)
    (hw : (Core.issued (M.coreAt r c) b.fx).wait = none) (hx : (Core.issued (M.coreAt r c) b.fx).excWait = []) (hq : (Core.issued (M.coreAt r c) b.fx).haltReq = false) :
    u.issueBundle r c b = M.setCore r c (Core.issued (M.coreAt r c) b.fx) := by
  unfold Block.issueBundle
  simp only [hf, hh, he, Option.isSome, Bool.false_eq_true, if_false]
  rw [← hM, Block.modCore_issued, Block.coreAt_setCore, hw]
  simp only [Bool.false_eq_true, if_false]
  exact Block.boundary_none _ _ _ (by rw [Block.coreAt_setCore]; exact hx) (by rw [Block.coreAt_setCore]; exact hq)

/-- A core after a bundle of one result: the result lands with latency 1, or is on its way. -/
theorem Core.issued_result (x : Core) (lat : Nat) (rd : Nat) (v : Row) (hh : x.handler = false) (hl : x.loops = []) (hr : x.results = [⟨x.clock + lat, .s rd, v, allBitsRow⟩]) :
    Core.issued x [.result lat (.s rd) v allBitsRow] = if lat ≤ 1 then { x.put (.s rd) v allBitsRow with pc := x.pc + 1, clock := x.clock + 1, results := [] } else { x with pc := x.pc + 1, clock := x.clock + 1 } := by
  have h1 : x.advance [.result lat (.s rd) v allBitsRow] = { x with pc := x.pc + 1 } := by
    unfold Core.advance takenBranch; simp only [List.findSome?]; rw [hh, hl]; cases x; simp_all [evalLoops]
  unfold Core.issued; rw [h1]; unfold Core.land; dsimp only; rw [hr]
  by_cases h : lat ≤ 1
  · rw [if_pos h]; simp only [List.takeWhile, Nat.add_le_add_iff_left, h, decide_true, List.foldl, Core.put]; by_cases h0 : rd = 0
    · simp only [h0, if_true]; rfl
    · simp only [h0, if_false]; rfl
  · rw [if_neg h]; simp [List.takeWhile, h]

theorem cycleKeys_ne (r c : Nat) : CORE_CYCLES_LO r c ≠ CORE_CYCLES_HI r c := by
  unfold CORE_CYCLES_LO CORE_CYCLES_HI regKey regSpan; omega

theorem pcKey_ne_lo (r c : Nat) : CORE_PC r c ≠ CORE_CYCLES_LO r c := by
  unfold CORE_CYCLES_LO CORE_PC regKey regSpan; omega

theorem pcKey_ne_hi (r c : Nat) : CORE_PC r c ≠ CORE_CYCLES_HI r c := by
  unfold CORE_CYCLES_HI CORE_PC regKey regSpan; omega

/-! ## Exceptions -/

/-- A result that lands leaves alone every part of a core but its registers, NSTAT and the exceptions that wait. -/
theorem Core.put_keep {α : Type} (g : Core → α) (hs : ∀ x m, g { x with sreg := m } = g x) (hv : ∀ x m, g { x with vreg := m } = g x)
   (hp : ∀ x m, g { x with preg := m } = g x) (hf : ∀ x n e, g { x with nstat := n, excWait := e } = g x) (x : Core) (d v m) : g (x.put d v m) = g x := by
  unfold Core.put; cases d with
  | s n => dsimp only; split; rfl; exact hs _ _
  | v n => exact hv _ _
  | p n => dsimp only; split; rfl; exact hp _ _
  | f => exact hf _ _ _

/-- So do results that land one after another. -/
theorem Core.land_keep {α : Type} (g : Core → α) (hs : ∀ x m, g { x with sreg := m } = g x) (hv : ∀ x m, g { x with vreg := m } = g x)
   (hp : ∀ x m, g { x with preg := m } = g x) (hf : ∀ x n e, g { x with nstat := n, excWait := e } = g x) (l : List Result) : ∀ (x : Core), g (l.foldl (fun y e => y.put e.dest e.val e.mask) x) = g x := by
  induction l with
  | nil => intro x; rfl
  | cons a l ih => intro x; rw [List.foldl_cons, ih]; exact Core.put_keep g hs hv hp hf x _ _ _

/-- Two cores hold the same scalar, vector and predicate registers. -/
def Core.sameFile (x y : Core) : Prop := x.sreg = y.sreg ∧ x.vreg = y.vreg ∧ x.preg = y.preg

/-- A result lands alike in equal register files. -/
theorem Core.put_sameFile (x y : Core) (h : Core.sameFile x y) (d v m) : Core.sameFile (x.put d v m) (y.put d v m) := by
  obtain ⟨h1, h2, h3⟩ := h
  unfold Core.put; cases d with
  | s n => dsimp only; split; exact ⟨h1, h2, h3⟩; exact ⟨by dsimp only; rw [h1], h2, h3⟩
  | v n => exact ⟨h1, by dsimp only; unfold Core.v; rw [h2], h3⟩
  | p n => dsimp only; split; exact ⟨h1, h2, h3⟩; exact ⟨h1, h2, by dsimp only; unfold Core.p; rw [h3]⟩
  | f => exact ⟨h1, h2, h3⟩

/-- So do results that land one after another. -/
theorem Core.land_Core.sameFile (l : List Result) : ∀ (x y : Core), Core.sameFile x y → Core.sameFile (l.foldl (fun y e => y.put e.dest e.val e.mask) x) (l.foldl (fun y e => y.put e.dest e.val e.mask) y) := by
  induction l with
  | nil => intro x y h; exact h
  | cons a l ih => intro x y h; rw [List.foldl_cons, List.foldl_cons]; exact ih _ _ (Core.put_sameFile x y h _ _ _)

/-- The registers that an exception records, before the core's new state. -/
def Block.excRegs (s : Block) (r c cause info pc : Nat) : Block :=
  (((s.setReg (CORE_EXC_CAUSE r c) (BitVec.ofNat 32 cause)).setFld (CORE_EXC_PC.EPC r c) pc).setReg (CORE_EXC_INFO r c) (BitVec.ofNat 32 info)).setFld (CORE_STAT.HOLD_CAUSE r c) 0

theorem Block.excRegs_eng (s : Block) (r c a b d) : (Block.excRegs s r c a b d).eng = s.eng := by unfold Block.excRegs; rw [Block.setFld_eng, Block.setReg_eng, Block.setFld_eng, Block.setReg_eng]

theorem Block.excRegs_drv (s : Block) (r c a b d) : (Block.excRegs s r c a b d).drv = s.drv := by unfold Block.excRegs; rw [Block.setFld_drv, Block.setReg_drv, Block.setFld_drv, Block.setReg_drv]

theorem Block.excRegs_int (s : Block) (r c a b d) : (Block.excRegs s r c a b d).int = s.int := by unfold Block.excRegs; rw [Block.setFld_int, Block.setReg_int, Block.setFld_int, Block.setReg_int]

theorem Block.excRegs_spad (s : Block) (r c a b d) : (Block.excRegs s r c a b d).spad = s.spad := by unfold Block.excRegs; rw [Block.setFld_spad, Block.setReg_spad, Block.setFld_spad, Block.setReg_spad]

/-- The registers that an exception records are different ones. -/
theorem excKeys_ne (r c : Nat) : CORE_EXC_CAUSE r c ≠ CORE_EXC_PC r c ∧ CORE_EXC_CAUSE r c ≠ CORE_EXC_INFO r c ∧ CORE_EXC_CAUSE r c ≠ CORE_STAT r c ∧
    CORE_EXC_CAUSE r c ≠ BLK_IRQ_STAT (sitePage r c 0) ∧ CORE_EXC_PC r c ≠ CORE_EXC_INFO r c ∧ CORE_EXC_PC r c ≠ CORE_STAT r c ∧
    CORE_EXC_PC r c ≠ BLK_IRQ_STAT (sitePage r c 0) ∧ CORE_EXC_INFO r c ≠ CORE_STAT r c ∧ CORE_EXC_INFO r c ≠ BLK_IRQ_STAT (sitePage r c 0) ∧
    CORE_STAT r c ≠ BLK_IRQ_STAT (sitePage r c 0) ∧ CORE_CTL r c ≠ CORE_EXC_CAUSE r c ∧ CORE_EXC_VEC r c ≠ CORE_EXC_CAUSE r c := by
  unfold CORE_EXC_CAUSE CORE_EXC_PC CORE_EXC_INFO CORE_STAT BLK_IRQ_STAT CORE_CTL CORE_EXC_VEC regKey regSpan
  generalize sitePage r c 0 = p
  omega

/-- What the registers that an exception records read as, and that the others read as before. -/
theorem Block.excRegs_reads (s : Block) (r c cause info pc st : Nat) (hpc : pc < 4096) (hst : st < 16) (u : Block)
    (hu : u.regs = ((Block.excRegs s r c cause info pc).setFld (CORE_STAT.STATE r c) st).regs) :
    u.fld (CORE_EXC_PC.EPC r c) = pc ∧ u.reg (CORE_EXC_CAUSE r c) = BitVec.ofNat 32 cause ∧ u.reg (CORE_EXC_INFO r c) = BitVec.ofNat 32 info ∧
    u.fld (CORE_STAT.STATE r c) = st ∧ s.sameRegsBut u [CORE_EXC_CAUSE r c, CORE_EXC_PC r c, CORE_EXC_INFO r c, CORE_STAT r c] := by
  obtain ⟨k1, k2, k3, k4, k5, k6, k7, k8, k9, k10, k11, k12⟩ := excKeys_ne r c
  have e : ∀ k, u.reg k = ((Block.excRegs s r c cause info pc).setFld (CORE_STAT.STATE r c) st).reg k := fun k => Block.reg_congr _ _ hu k
  have e1 : ∀ k, k ≠ CORE_STAT r c → u.reg k = (((s.setReg (CORE_EXC_CAUSE r c) (BitVec.ofNat 32 cause)).setFld (CORE_EXC_PC.EPC r c) pc).setReg (CORE_EXC_INFO r c) (BitVec.ofNat 32 info)).reg k := by
    intro k hk; rw [e]; unfold Block.excRegs
    exact (Block.reg_setReg_ne _ _ hk).trans (Block.reg_setReg_ne _ _ hk)
  refine ⟨?_, ?_, ?_, ?_, ?_⟩
  · unfold Block.fld; rw [show (CORE_EXC_PC.EPC r c).key = CORE_EXC_PC r c from rfl, e1 _ k6, Block.reg_setReg_ne _ _ k5]
    have := Block.fld_setFld_self (s.setReg (CORE_EXC_CAUSE r c) (BitVec.ofNat 32 cause)) (CORE_EXC_PC.EPC r c) pc (by show 0 + 12 ≤ 32; omega)
    exact this.trans (Nat.mod_eq_of_lt hpc)
  · rw [e1 _ k3, Block.reg_setReg_ne _ _ k2]; exact (Block.reg_setReg_ne _ _ k1).trans (Block.reg_setReg_self _ _ _)
  · rw [e1 _ k8, Block.reg_setReg_self]
  · rw [Block.fld_congr _ _ hu, Block.fld_setFld_self _ _ _ (by show 0 + 4 ≤ 32; omega)]; exact Nat.mod_eq_of_lt hst
  · intro k hk; simp only [List.mem_cons, List.not_mem_nil, or_false, not_or] at hk
    rw [e1 _ hk.2.2.2, Block.reg_setReg_ne _ _ hk.2.2.1]; exact (Block.reg_setReg_ne _ _ hk.2.1).trans (Block.reg_setReg_ne _ _ hk.1)

/-- Everything that taking an exception other than an engine fault does (R231–R235). -/
theorem Block.takeException_spec (s : Block) (r c code sub slot info : Nat) (hc : code ≠ 5) (x : Core) (hx : x = s.coreAt r c) (t : Block) (ht : t = s.takeException r c code sub slot info) :
    let y := t.coreAt r c
    t.fld (CORE_EXC_PC.EPC r c) = x.pc % 4096 ∧ y.epc = x.pc % 4096 ∧
        y.bundle = Bundle.none ∧ y.sreg = x.landAll.sreg ∧ y.vreg = x.landAll.vreg ∧ y.preg = x.landAll.preg ∧ y.results = [] ∧
        y.accesses = x.accesses ∧ y.tags = x.tags ∧ t.eng = s.eng ∧ t.drv = s.drv ∧ t.int = s.int ∧ t.spad = s.spad ∧
        s.sameRegsBut t [CORE_EXC_CAUSE r c, CORE_EXC_PC r c, CORE_EXC_INFO r c, CORE_STAT r c, BLK_IRQ_STAT (sitePage r c 0)] ∧
        (x.handler = false →
          t.reg (CORE_EXC_CAUSE r c) = BitVec.ofNat 32 (code + sub * 2 ^ 4 + slot * 2 ^ 12) ∧
          t.reg (CORE_EXC_INFO r c) = BitVec.ofNat 32 info ∧
          (s.bit (CORE_CTL.EXC_MODE r c) = true →
            t.fld (CORE_STAT.STATE r c) = 4 ∧ y.handler = false ∧ y.pc = x.pc ∧
            t.bit ⟨BLK_IRQ_STAT (sitePage r c 0), Irq.core_EXC, 1⟩ = true) ∧
          (s.bit (CORE_CTL.EXC_MODE r c) = false →
            t.fld (CORE_STAT.STATE r c) = 3 ∧ y.handler = true ∧ y.pc = s.fld (CORE_EXC_VEC.VEC r c) ∧
            t.reg (BLK_IRQ_STAT (sitePage r c 0)) = s.reg (BLK_IRQ_STAT (sitePage r c 0)))) ∧
        (x.handler = true →
          t.reg (CORE_EXC_CAUSE r c) = BitVec.ofNat 32 (8 + 0 * 2 ^ 4 + slot * 2 ^ 12) ∧ t.reg (CORE_EXC_INFO r c) = BitVec.ofNat 32 (code + sub * 16) ∧
          t.fld (CORE_STAT.STATE r c) = 4 ∧ y.handler = false ∧
          t.bit ⟨BLK_IRQ_STAT (sitePage r c 0), Irq.core_EXC, 1⟩ = true) := by
  obtain ⟨k1, k2, k3, k4, k5, k6, k7, k8, k9, k10, k11, k12⟩ := excKeys_ne r c
  obtain ⟨W, hW⟩ : ∃ W : List (Nat × Nat), W = (if code = 7 then dropFirst 7 x.excWait else x.excWait.filter (fun e => decide (e.1 ≠ code))) := ⟨_, rfl⟩
  obtain ⟨Y, hY⟩ : ∃ Y : Core, Y = { ({ x with excWait := W } : Core).landAll with
      epc := x.pc % 4096, bundle := Bundle.none, wait := none, heldOn := [], heldWait := if code = 4 ∨ x.handler then none else x.wait } := ⟨_, rfl⟩
  have y1 : Y.sreg = x.landAll.sreg ∧ Y.vreg = x.landAll.vreg ∧ Y.preg = x.landAll.preg := by
    rw [hY]; exact Core.land_Core.sameFile x.results { x with excWait := W } x ⟨rfl, rfl, rfl⟩
  have y2 : Y.accesses = x.accesses := by
    rw [hY]; exact Core.land_keep Core.accesses (fun _ _ => rfl) (fun _ _ => rfl) (fun _ _ => rfl) (fun _ _ _ => rfl) x.results { x with excWait := W }
  have y3 : Y.tags = x.tags := by
    rw [hY]; exact Core.land_keep Core.tags (fun _ _ => rfl) (fun _ _ => rfl) (fun _ _ => rfl) (fun _ _ _ => rfl) x.results { x with excWait := W }
  have y4 : Y.pc = x.pc := by
    rw [hY]; exact Core.land_keep Core.pc (fun _ _ => rfl) (fun _ _ => rfl) (fun _ _ => rfl) (fun _ _ _ => rfl) x.results { x with excWait := W }
  have y5 : Y.epc = x.pc % 4096 ∧ Y.bundle = Bundle.none ∧ Y.results = [] := by rw [hY]; exact ⟨rfl, rfl, rfl⟩
  have split : ∀ (info' cause' : Nat), cause' = (if x.handler then 8 + 0 * 2 ^ 4 + slot * 2 ^ 12 else code + sub * 2 ^ 4 + slot * 2 ^ 12) →
      info' = (if x.handler then code + sub * 16 else info) →
      t = if x.handler || s.bit (CORE_CTL.EXC_MODE r c) then (((Block.excRegs s r c cause' info' (x.pc % 4096)).setCore r c { Y with handler := false }).setFld (CORE_STAT.STATE r c) 4).raise (sitePage r c 0) Irq.core_EXC
        else ((Block.excRegs s r c cause' info' (x.pc % 4096)).setCore r c { Y with handler := true, pc := s.fld (CORE_EXC_VEC.VEC r c) }).setFld (CORE_STAT.STATE r c) 3 := by
    intro info' cause' h1 h2
    rw [ht, h1, h2, hY, hW]; unfold Block.takeException; rw [← hx, if_neg hc]
    dsimp only
    generalize x.handler = q
    cases q
    · rfl
    · rfl
  have st := split _ _ rfl rfl
  generalize hcause : (if x.handler then 8 + 0 * 2 ^ 4 + slot * 2 ^ 12 else code + sub * 2 ^ 4 + slot * 2 ^ 12) = cause at st
  generalize hinfo : (if x.handler then code + sub * 16 else info) = info' at st
  clear split ht
  have hpc : x.pc % 4096 < 4096 := Nat.mod_lt _ (by omega)
  have bitOne : ∀ (u : Block) (p b : Nat), b < 32 → (u.setFld ⟨BLK_IRQ_STAT p, b, 1⟩ 1).bit ⟨BLK_IRQ_STAT p, b, 1⟩ = true := by
    intro u p b hb; unfold Block.bit; rw [Block.fld_setFld_self _ _ _ (by show b + 1 ≤ 32; omega)]; rfl
  by_cases hA : (x.handler || s.bit (CORE_CTL.EXC_MODE r c)) = true
  · rw [if_pos hA] at st
    obtain ⟨u, hu⟩ : ∃ u, u = ((Block.excRegs s r c cause info' (x.pc % 4096)).setCore r c { Y with handler := false }).setFld (CORE_STAT.STATE r c) 4 := ⟨_, rfl⟩
    rw [← hu] at st
    obtain ⟨r1, r2, r3, r4, r5, r6⟩ := Block.raise_frame u (sitePage r c 0) Irq.core_EXC
    rw [← st] at r1 r2 r3 r4 r5 r6
    have hur : u.regs = ((Block.excRegs s r c cause info' (x.pc % 4096)).setFld (CORE_STAT.STATE r c) 4).regs := by rw [hu]; exact Block.setFld_regs_congr _ _ _ _ rfl
    obtain ⟨f1, f2, f3, f4, f5⟩ := Block.excRegs_reads s r c cause info' (x.pc % 4096) 4 hpc (by omega) u hur
    have htr : ∀ k, k ≠ BLK_IRQ_STAT (sitePage r c 0) → t.reg k = u.reg k := by
      intro k hk; rw [Block.reg_congr _ _ r1]; exact Block.reg_setReg_ne _ _ hk
    have hcore : t.coreAt r c = { Y with handler := false } := by
      rw [Block.coreAt_congr _ _ r3, hu, Block.coreAt_congr _ _ (Block.setFld_core _ _ _), Block.coreAt_setCore]
    have hbit : t.bit ⟨BLK_IRQ_STAT (sitePage r c 0), Irq.core_EXC, 1⟩ = true := by
      have := bitOne u (sitePage r c 0) Irq.core_EXC (by decide)
      unfold Block.bit at this ⊢; rw [Block.fld_congr _ _ r1]; exact this
    have h4' : t.fld (CORE_STAT.STATE r c) = 4 := by rw [← f4]; unfold Block.fld; rw [show (CORE_STAT.STATE r c).key = CORE_STAT r c from rfl, htr _ k10]
    have he : u.eng = s.eng := by rw [hu, Block.setFld_eng, Block.setCore_eng, Block.excRegs_eng]
    have hd : u.drv = s.drv := by rw [hu, Block.setFld_drv, Block.setCore_drv, Block.excRegs_drv]
    have hi : u.int = s.int := by rw [hu, Block.setFld_int, Block.setCore_int, Block.excRegs_int]
    have hs : u.spad = s.spad := by rw [hu, Block.setFld_spad, Block.setCore_spad, Block.excRegs_spad]
    dsimp only; rw [hcore]
    refine ⟨?_, y5.1, y5.2.1, y1.1, y1.2.1, y1.2.2, y5.2.2, y2, y3, r4.trans he, r5.trans hd, r2.trans hi, r6.trans hs, ?_, ?_, ?_⟩
    · rw [← f1]; unfold Block.fld; rw [show (CORE_EXC_PC.EPC r c).key = CORE_EXC_PC r c from rfl, htr _ k7]
    · intro k hk; simp only [List.mem_cons, List.not_mem_nil, or_false, not_or] at hk
      rw [htr k hk.2.2.2.2]; exact f5 k (by simp [hk])
    · intro hh; simp only [hh, Bool.false_eq_true, if_false] at hcause hinfo
      refine ⟨by rw [htr _ k4, f2, hcause], by rw [htr _ k9, f3, hinfo], fun _ => ⟨h4', rfl, y4, hbit⟩, fun hm => ?_⟩
      rw [hh, hm] at hA; exact absurd hA (by decide)
    · intro hh; simp only [hh, if_true] at hcause hinfo
      exact ⟨by rw [htr _ k4, f2, hcause], by rw [htr _ k9, f3, hinfo], h4', rfl, hbit⟩
  · rw [if_neg hA] at st
    have hur : t.regs = ((Block.excRegs s r c cause info' (x.pc % 4096)).setFld (CORE_STAT.STATE r c) 3).regs := by rw [st]; exact Block.setFld_regs_congr _ _ _ _ rfl
    obtain ⟨f1, f2, f3, f4, f5⟩ := Block.excRegs_reads s r c cause info' (x.pc % 4096) 3 hpc (by omega) t hur
    have hcore : t.coreAt r c = { Y with handler := true, pc := s.fld (CORE_EXC_VEC.VEC r c) } := by
      rw [st, Block.coreAt_congr _ _ (Block.setFld_core _ _ _), Block.coreAt_setCore]
    have he : t.eng = s.eng := by rw [st, Block.setFld_eng, Block.setCore_eng, Block.excRegs_eng]
    have hd : t.drv = s.drv := by rw [st, Block.setFld_drv, Block.setCore_drv, Block.excRegs_drv]
    have hi : t.int = s.int := by rw [st, Block.setFld_int, Block.setCore_int, Block.excRegs_int]
    have hs : t.spad = s.spad := by rw [st, Block.setFld_spad, Block.setCore_spad, Block.excRegs_spad]
    have hh : x.handler = false := by simp at hA; exact hA.1
    have hm : s.bit (CORE_CTL.EXC_MODE r c) = false := by simp at hA; exact hA.2
    simp only [hh, Bool.false_eq_true, if_false] at hcause hinfo
    dsimp only; rw [hcore]
    refine ⟨f1, y5.1, y5.2.1, y1.1, y1.2.1, y1.2.2, y5.2.2, y2, y3, he, hd, hi, hs, ?_, ?_, ?_⟩
    · intro k hk; simp only [List.mem_cons, List.not_mem_nil, or_false, not_or] at hk
      exact f5 k (by simp [hk])
    · intro _; refine ⟨by rw [f2, hcause], by rw [f3, hinfo], ⟨fun h => (by rw [hm] at h; cases h), fun _ => ⟨f4, rfl, rfl, ?_⟩⟩⟩
      exact f5 _ (by simp only [List.mem_cons, List.not_mem_nil, or_false, not_or]; exact ⟨Ne.symm k4, Ne.symm k7, Ne.symm k9, Ne.symm k10⟩)
    · intro h; rw [hh] at h; cases h

/-- A bundle that raises an exception, with nothing waiting, takes it (R231, R232). -/
theorem Block.closeBundle_exception (u : Block) (r c : Nat) (x : Core) (hx : x = u.coreAt r c) (e : SlotExc) (h1 : x.excWait = []) (h2 : x.haltReq = false)
    (h3 : bundleExc x.pc x.bundle = some e) (h4 : e.code = 1 ∨ x.bundle.reads = []) :
    u.closeBundle r c = (u.modCore r c (fun y => { y with bundle := Bundle.none })).takeException r c e.code e.sub e.slot e.info := by
  unfold Block.closeBundle; rw [← hx]; dsimp only; rw [h1, h2, h3]; dsimp only
  obtain ⟨code, sub, slot, info⟩ := e
  rw [if_neg (by simp)]
  by_cases hc : code = 1
  · subst hc; split
    · rename_i heq; injection heq with heq; injection heq with _ a b d; rw [a, b, d]
    · rename_i h; exact absurd rfl (h sub slot info)
  · have h4' : x.bundle.reads = [] := h4.resolve_left hc
    rw [h4']
    split
    · rename_i heq; injection heq with heq; injection heq with h _ _ _; exact absurd h hc
    · rw [if_neg (by simp)]

end Sys2Proof.Machine
end

