-- ==== Sys2Proof/Laws/Runs.lean ====
section
/-! SUPPORT. That a meaning answers a next state: the shape of the argument, the meanings where it takes more than following
their branches (those with a list operand go on when the list has its object's length), and what a drover beat is answered with. -/
namespace Sys2Proof.Machine

open Host (Outcome)

/-! ## The shape of the argument -/

/-- The effect of a command is a next state of the hardware. -/
def GoesOn (o : Outcome Block Fault Refusal) : Prop := ∃ b, o = .next b

/-- A meaning at state `s` answers a next state, whose queue is that of `s`. -/
def RunsOn (s : State) (o : Outcome State Fault Refusal) : Prop := ∃ b, o = .next ⟨b, s.pending⟩

theorem GoesOn.mk (b : Block) : GoesOn (.next b) := ⟨b, rfl⟩

theorem GoesOn.ite {c : Prop} [Decidable c] {a b : Outcome Block Fault Refusal} (ha : c → GoesOn a) (hb : ¬ c → GoesOn b) :
    GoesOn (if c then a else b) := by
  split <;> simp_all

theorem State.runs_goesOn {s : State} {f : Block → Outcome Block Fault Refusal} (h : GoesOn (f s.toBlock)) : RunsOn s (s.runs f) := by
  obtain ⟨b, hb⟩ := h
  exact ⟨b, by simp [State.runs, hb]⟩

/-! ## Drover beats -/

theorem Block.beatServed_write (t u : Block) (p : Packet) (n : Nat) (words : List (Fin 64)) (cws : List (Fin 8)) (withCore : Bool)
    (w : Nat) (lost : Bool) (a : Nat) (ha : a = p.beatAddr) (hr : t.beatRefused p (p.arg / 2 % 2 ^ 15) (decide (p.arg % 2 = 1)) = none)
    (h1 : p.arg % 2 = 1)
    (hw : t.beatWrite a (p.arg / 2 % 2 ^ 15) p.data (t.sourceId (addrRidge a) p) withCore = (u, w, lost)) :
    t.beatServed p n words cws withCore = u.reply p .completion (if w = 0 then 0 else 4) 0 := by
  subst ha
  unfold Block.beatServed
  extract_lets write len a t' x y
  rw [show t.beatRefused p len write = none from hr]
  dsimp only
  rw [if_pos (show write = true from decide_eq_true h1), show x = _ from hw]

theorem Block.beatServed_read (t u : Block) (p : Packet) (n : Nat) (words : List (Fin 64)) (cws : List (Fin 8)) (withCore : Bool)
    (w : Nat) (v : Row) (a : Nat) (ha : a = p.beatAddr) (hr : t.beatRefused p (p.arg / 2 % 2 ^ 15) (decide (p.arg % 2 = 1)) = none)
    (h1 : p.arg % 2 ≠ 1)
    (hw : t.beatRead a (p.arg / 2 % 2 ^ 15) n words cws = (u, w, v)) :
    t.beatServed p n words cws withCore = if w = 0 then u.reply p .getData 0 v else u.reply p .completion 4 0 := by
  subst ha
  unfold Block.beatServed
  extract_lets write len a t' x y
  rw [show t.beatRefused p len write = none from hr]
  dsimp only
  rw [if_neg (show ¬ write = true by simp only [write, decide_eq_true_eq]; exact h1), show y = _ from hw]

theorem blkDroverBeatArrival_served {s t : Block} {p : Packet} (n : Nat) (words : List (Fin 64)) (cws : List (Fin 8)) (withCore : Bool)
   (h : ¬ (p.op ≠ .drvBeat ∨ addrSpace p.addr = 0 ∨ addrSpace p.addr ≥ 5)) (ha : s.arrive p = (t, true)) :
   blkDroverBeatArrival p n words cws withCore s = .next (t.beatServed p n words cws withCore) := by
  unfold blkDroverBeatArrival
  rw [if_neg h, ha]
  rfl

/-! ## Meanings that go on -/

theorem execPgmIteration_runsOn (r : RidgeId) (c : SiteId) (e : EngineId) (g : List Nat) (ue : List (Fin 4)) (repair : List Nat) (s : State)
    (hw : Instr.wellFormed (.pgmIteration r c e g ue repair) = true) :
    RunsOn s (execPgmIteration r c e g ue repair s) := by
  simp only [Instr.wellFormed, decide_eq_true_eq] at hw
  unfold execPgmIteration; refine State.runs_goesOn ?_
  rw [if_neg (by simp [hw])]
  repeat' (first | with_reducible exact GoesOn.mk _ | with_reducible refine GoesOn.ite (fun _ => ?_) (fun _ => ?_) | split | dsimp only)

theorem execDriftFit_runsOn (r : RidgeId) (c : SiteId) (e : EngineId) (g : List Nat) (s : State)
    (hw : Instr.wellFormed (.driftFit r c e g) = true) :
    RunsOn s (execDriftFit r c e g s) := by
  simp only [Instr.wellFormed, decide_eq_true_eq] at hw
  unfold execDriftFit; refine State.runs_goesOn ?_
  rw [if_neg (by simp [hw])]
  repeat' (first | with_reducible exact GoesOn.mk _ | with_reducible refine GoesOn.ite (fun _ => ?_) (fun _ => ?_) | split | dsimp only)

theorem execPassLatch_runsOn (r : RidgeId) (c : SiteId) (e : EngineId) (err : List Int) (s : State)
    (hw : Instr.wellFormed (.passLatch r c e err) = true) :
    RunsOn s (execPassLatch r c e err s) := by
  simp only [Instr.wellFormed, decide_eq_true_eq] at hw
  unfold execPassLatch; refine State.runs_goesOn ?_
  rw [if_neg (by simp [hw])]
  repeat' (first | with_reducible exact GoesOn.mk _ | with_reducible refine GoesOn.ite (fun _ => ?_) (fun _ => ?_) | split | dsimp only)

theorem execProbeCompare_runsOn (r : RidgeId) (c : SiteId) (e : EngineId) (err : List Int) (s : State)
    (hw : Instr.wellFormed (.probeCompare r c e err) = true) :
    RunsOn s (execProbeCompare r c e err s) := by
  simp only [Instr.wellFormed, decide_eq_true_eq] at hw
  unfold execProbeCompare; refine State.runs_goesOn ?_
  rw [if_neg (by simp [hw])]
  repeat' (first | with_reducible exact GoesOn.mk _ | with_reducible refine GoesOn.ite (fun _ => ?_) (fun _ => ?_) | split | dsimp only)

set_option Elab.async false in
theorem execEchoCompare_runsOn (r : RidgeId) (c : SiteId) (e : EngineId) (err : List Int) (s : State)
    (hw : Instr.wellFormed (.echoCompare r c e err) = true) :
    RunsOn s (execEchoCompare r c e err s) := by
  simp only [Instr.wellFormed, decide_eq_true_eq] at hw
  unfold execEchoCompare; refine State.runs_goesOn ?_
  rw [if_neg (by simp [hw])]
  repeat' (first | with_reducible exact GoesOn.mk _ | with_reducible refine GoesOn.ite (fun _ => ?_) (fun _ => ?_) | split | dsimp only)

theorem execPacketDelivery_runsOn (p : Packet) (busy withCore : Bool) (corrected : Nat) (badWords : List (Fin 64))
    (badCodewords : List (Fin 8)) (s : State) :
    RunsOn s (execPacketDelivery p busy withCore corrected badWords badCodewords s) := by
  unfold execPacketDelivery; refine State.runs_goesOn ?_
  have hd : ∀ b : Block, GoesOn (b.deliver p busy withCore corrected badWords badCodewords) := by
    intro b
    unfold Block.deliver blkGetRequest blkPutRequest blkRemoteCompletion blkGetData blkMdispArrival blkRegionArrival blkWakeDelivery
      blkSyncAnswer blkFinalCommit blkCommit blkServingRetract blkRetract blkSlotLossNotice blkEmitArrival blkDroverBeatArrival
    repeat' (first | with_reducible exact GoesOn.mk _ | with_reducible refine GoesOn.ite (fun _ => ?_) (fun _ => ?_) | split | dsimp only)
  dsimp only
  exact GoesOn.ite (fun _ => GoesOn.mk _) (fun _ => GoesOn.ite (fun _ => GoesOn.mk _) (fun _ => hd _))

theorem execDroverBeatArrival_runsOn (p : Packet) (corrected : Nat) (badWords : List (Fin 64)) (badCodewords : List (Fin 8))
    (withCore : Bool) (s : State) :
    RunsOn s (execDroverBeatArrival p corrected badWords badCodewords withCore s) := by
  unfold execDroverBeatArrival; refine State.runs_goesOn ?_
  unfold blkDroverBeatArrival
  repeat' (first | with_reducible exact GoesOn.mk _ | with_reducible refine GoesOn.ite (fun _ => ?_) (fun _ => ?_) | split | dsimp only)

theorem execRecordProbeDone_runsOn (r : RidgeId) (c : SiteId) (e : EngineId) (p : SlabId) (rowErr sumErr : List Int) (s : State)
    (hw : Instr.wellFormed (.recordProbeDone r c e p rowErr sumErr) = true) :
    RunsOn s (execRecordProbeDone r c e p rowErr sumErr s) := by
  simp only [Instr.wellFormed, decide_eq_true_eq] at hw
  unfold execRecordProbeDone; refine State.runs_goesOn ?_
  rw [if_neg (by simp [hw])]
  repeat' (first | with_reducible exact GoesOn.mk _ | with_reducible refine GoesOn.ite (fun _ => ?_) (fun _ => ?_) | split | dsimp only)

set_option Elab.async false in
theorem execClassifyStart_runsOn (r : RidgeId) (c : SiteId) (e : Fin 9) (moved : List (Fin 512 × Fin 544 × Nat))
    (err err2 : List Int) (s : State)
    (hw : Instr.wellFormed (.classifyStart r c e moved err err2) = true) :
    RunsOn s (execClassifyStart r c e moved err err2 s) := by
  simp only [Instr.wellFormed, decide_eq_true_eq] at hw
  unfold execClassifyStart; refine State.runs_goesOn ?_
  rw [if_neg (by simp [hw])]
  repeat' (first | with_reducible exact GoesOn.mk _ | with_reducible refine GoesOn.ite (fun _ => ?_) (fun _ => ?_) | split | dsimp only)

theorem execClassifyMirrorReady_runsOn (r : RidgeId) (c : SiteId) (e : EngineId)
    (err err2 : List Int) (s : State)
    (hw : Instr.wellFormed (.classifyMirrorReady r c e err err2) = true) :
    RunsOn s (execClassifyMirrorReady r c e err err2 s) := by
  simp only [Instr.wellFormed, decide_eq_true_eq] at hw
  unfold execClassifyMirrorReady; refine State.runs_goesOn ?_
  rw [if_neg (by simp [hw])]
  repeat' (first | with_reducible exact GoesOn.mk _ | with_reducible refine GoesOn.ite (fun _ => ?_) (fun _ => ?_) | split | dsimp only)

theorem execEngineTestSlabDone_runsOn (r : RidgeId) (c : SiteId) (e : EngineId) (moved : List (Fin 512 × Fin 544 × Nat))
    (faults : List (Fin 528 × Fin 544 × Int)) (s : State) :
    RunsOn s (execEngineTestSlabDone r c e moved faults s) := by
  unfold execEngineTestSlabDone; refine State.runs_goesOn ?_
  dsimp only
  exact GoesOn.ite (fun _ => GoesOn.mk _) (fun _ => GoesOn.ite (fun _ => GoesOn.mk _) (fun _ => GoesOn.ite (fun _ => GoesOn.mk _) (fun _ => GoesOn.mk _)))

set_option Elab.async false in
theorem execGetMeasurements_runsOn (index : BitVec 8) (s : State) : RunsOn s (execGetMeasurements index s) := by
  unfold execGetMeasurements; refine State.runs_goesOn ?_
  unfold blkGetMeasurements
  cases s.measured index.toNat <;> exact GoesOn.mk _

theorem execFinish_runsOn (id : Word) (ok : Bool) (s : State) : RunsOn s (execFinish id ok s) := by
  unfold execFinish; refine State.runs_goesOn ?_
  unfold blkFinish
  cases s.session id
  · exact GoesOn.mk _
  · exact GoesOn.ite (fun _ => GoesOn.mk _) (fun _ => GoesOn.mk _)

theorem execCalUnitDone_runsOn (n : Fin 4096) (m : CalMeas) (s : State)
    (hw : Instr.wellFormed (.calUnitDone n m) = true) :
    RunsOn s (execCalUnitDone n m s) := by
  unfold execCalUnitDone; refine State.runs_goesOn ?_
  rw [if_neg (by simp only [Instr.wellFormed] at hw; cases m <;> simp_all [CalMeas.wellFormed])]
  repeat' (first | with_reducible exact GoesOn.mk _ | with_reducible refine GoesOn.ite (fun _ => ?_) (fun _ => ?_) | split | dsimp only)

end Sys2Proof.Machine
end

