-- ==== Sys2Proof/Tests/Slice0.lean ====
section
/-! SUPPORT. Tests: ill-formed commands, the spec's worked examples, small steps, and for every statement with hypotheses a state
and operands that meet them. -/
namespace Sys2Proof.Tests

open Sys2Proof Sys2Proof.Machine

/-! ## States for the tests -/

/-- The reset state with some fields at other values. -/
def fieldsAt (l : List (Field × Nat)) : State := ⟨l.foldl (fun s e => s.setFld e.1 e.2) Block.reset, []⟩

/-- The fields of a state in which ridge 0 is in Run and its core 0 runs. -/
def runFields : List (Field × Nat) := [(PM_RIDGE_STAT.STATE 0, 0), (CORE_STAT.STATE 0 0, 1)]

/-- Core 0 of ridge 0 runs, with 3 in s1 and −1 in s2, a predicate that holds, and a handler address. -/
def core0 : State := ⟨(fieldsAt (runFields ++ [(CORE_EXC_VEC.VEC 0 0, 0x100)])).modCore 0 0 (fun x =>
  { x with sreg := [(1, 3), (2, 0xFFFFFFFFFFFFFFFF)] }), []⟩

/-- A scalar slot: A, last, unguarded, rd = 4, rs1 = 1, rs2 = 2. -/
def sop : SOp := ⟨false, true, false, 0, 4, 1, 2, false, 0, 0, none⟩

/-- A vector slot of an element type, unmasked, with an immediate. -/
def vop (ty : BitVec 5) (imm : BitVec 16) : VOp := ⟨true, ty, false, 0, 1, 2, 3, 4, 1, 2, 0, 0, false, imm, 0, none, false⟩

/-- A memory slot, unguarded, of a row and an immediate. -/
def mop (row : BitVec 12) (imm : BitVec 16) : MOp := ⟨false, false, 0, 1, 0, 3, row, 2, 7, 1, 1, imm, 0, none⟩

/-- A control slot to a target. -/
def cop (target : BitVec 12) : COp := ⟨false, 0, 5, false, 0, 1, 2, 0, target, 0, false, 0, none, false, .clean⟩

/-- A next state of a command, where it answers one. -/
def after (o : Host.Outcome State Fault Refusal) : Option State :=
  match o with
  | .next t => some t
  | _ => none

/-! ## Well-formed commands (R33, R53, R685–R694): one ill-formed command for each check -/

set_option Elab.async false in
theorem test_pgmIteration_of_543_cells_is_ill_formed :
    Instr.wellFormed (.pgmIteration 0 0 0 (List.replicate 543 0) [] (List.replicate 544 0)) = false := by decide +kernel

theorem test_driftFit_of_63_samples_is_ill_formed : Instr.wellFormed (.driftFit 0 0 0 (List.replicate 63 0)) = false := by decide +kernel

theorem test_lists_of_one_column_too_many_are_ill_formed :
    let l : List Int := List.replicate 545 0
    let ok : List Int := List.replicate 544 0
    Instr.wellFormed (.passLatch 0 0 0 l) = false ∧ Instr.wellFormed (.probeCompare 0 0 0 l) = false ∧
    Instr.wellFormed (.echoCompare 0 0 0 l) = false ∧ Instr.wellFormed (.recordProbeDone 0 0 0 0 ok l) = false ∧
    Instr.wellFormed (.classifyStart 0 0 0 [] l ok) = false ∧ Instr.wellFormed (.classifyMirrorReady 0 0 0 l ok) = false := by
  decide +kernel

theorem test_calibration_measurements_of_other_lengths_are_ill_formed :
    Instr.wellFormed (.calUnitDone 0 (.rowdrv (List.replicate 15 (0, 0)))) = false ∧
    Instr.wellFormed (.calUnitDone 0 (.drift (List.replicate 65 0))) = false ∧
    Instr.wellFormed (.calUnitDone 0 (.conv [] 0 0)) = false := by decide +kernel

set_option Elab.async false in
theorem test_an_ill_formed_command_stops_with_its_fault :
    exec (.driftFit 0 0 0 []) core0 = .fault .illFormed := by rfl

/-! ## The worked examples of the spec -/

/-- 03, 'one column through two slices': U = 24,319.6 about a centre of 24,000 with q = 16 gives the code 276 and V = 24,320. -/
theorem test_low_slice_of_the_worked_column : convert 48639200 0 4 24000 = ⟨276, false, 24320⟩ := by decide +kernel

set_option Elab.async false in
/-- 03, the same column's high slice: −4,484.1 about −3,280 gives 181, and a contribution of −1,200. -/
theorem test_high_slice_of_the_worked_column :
    convert (-8968200) 0 4 (-3280) = ⟨181, false, -4480⟩ := by decide +kernel

/-- 03, 'a tally event': with the bit line open below row 447 the code is 89 and V is 21,328. -/
theorem test_open_bit_line_of_the_worked_column : convert 42669200 0 4 24000 = ⟨89, false, 21328⟩ := by decide +kernel

/-- 04, 'a wgt6 pair from ledger to output': −104,679 × 21/8,192 × 5/128 in bf16, fp16 and e4m3. -/
theorem test_drain_of_the_worked_pair :
    let y := drainValue (-104679) (fp16.decode 0x1940) (f32 0x3D200000)
    (bf16.encode y).1 = 0xC128 ∧ (fp16.encode y).1 = 0xC93E ∧ (e4m3.encode y).1 = 0xD2 := by decide +kernel

/-- 04, 'combining two partial sums': groups with E = 131 and E = 133 give E = 134 and −69,672 and 4,375,000. -/
theorem test_combined_partial_sums :
    let a : Lg24 := ⟨131, -5495648 :: 3000001 :: List.replicate 30 0⟩
    let b : Lg24 := ⟨133, 1234567 :: 8000000 :: List.replicate 30 0⟩
    (a.combine b).1.exp = 134 ∧ (a.combine b).1.mant.take 2 = [-69672, 4375000] ∧ a.combine b = b.combine a := by decide +kernel

set_option Elab.async false in
/-- 06, 'one draw': y0 = 0xB3A1_7C42 picks the second of the kept probabilities. -/
theorem test_the_worked_draw_picks_entry_one :
    (pick (uniform 0xB3A17C42) [0x3F0BEAB3, 0x3EA9BA3C, 0x3DF9C190] 0 0 0).1 = 1 := by decide +kernel

/-! ## One step each -/

theorem test_add_wraps :
    (after (exec (.add 0 0 sop) core0)).map (fun t => ((t.coreAt 0 0).s 4, (t.coreAt 0 0).pc)) = some (2, 1) := by decide +kernel

theorem test_mulh_takes_the_signed_high_half :
    ((after (exec (.mulh 0 0 sop) core0)).map (fun t => (t.coreAt 0 0).results.map (fun x => x.due))) = some [3] := by decide +kernel

theorem test_a_halted_core_takes_no_slot : after (exec (.add 0 1 sop) core0) = some core0 := by decide +kernel

set_option Elab.async false in
/-- R28, R814: level 8 is 18 µS. -/
theorem test_level_eight_is_18_microsiemens :
    levelG 8 = 18000 := by decide +kernel

/-! ## Witnesses: slots, bundles, exceptions and accesses -/

/-- Core 0 of ridge 0 runs with windows 2 (scratchpad rows, readable and writable) and 3 (sync cells), drover channel 1 allowed,
slab 2 of engine 0 resident as logical slab 2, and the quick macro on. -/
def core0w : State := ⟨((fieldsAt (runFields ++ [(AW_CTL.VALID 0 0 2, 1), (AW_CTL.RD 0 0 2, 1), (AW_CTL.WR 0 0 2, 1), (AW_SIZE.SIZE 0 0 2, 4096),
  (AW_CTL.VALID 0 0 3, 1), (AW_CTL.RD 0 0 3, 1), (AW_CTL.WR 0 0 3, 1), (AW_CTL.KIND 0 0 3, 2), (AW_SIZE.SIZE 0 0 3, 1024),
  (⟨CORE_DRV 0 0, 0, 32⟩, 2), (⟨RZ_VM_DATA (2 * 4096), 0, 4⟩, 2), (ENG_CTL.QM_EN 0 0 0, 1)])).modSlab 0 0 0 2 (fun b =>
    { b with state := .resident })).modCore 0 0 (fun x => { x with sreg := [(1, 3)], bundle := { x.bundle with fx := [.residue] } }), []⟩

/-- A running core in its exception handler, at bundle 4,095. -/
def core0h : State := ⟨core0.modCore 0 0 (fun x => { x with handler := true, pc := 4095 }), []⟩

theorem witness_ScalarSlotsJoinTheirResult :
    core0.issues 0 0 = true ∧ sop.rsv = 0 ∧ (core0.coreAt 0 0).guard sop.gp sop.gneg = true ∧
    (core0.coreAt 0 0).unclaimed sop.reads = true ∧ (core0.coreAt 0 0).unclaimed [sop.rs2.toNat] = true := by decide +kernel

theorem witness_PredicateSlotsJoinTheirResult :
    core0.issues 0 0 = true ∧ ({ sop with rd := 7 } : SOp).rd.toNat < 8 ∧ (core0.coreAt 0 0).guard 0 false = true ∧
    (core0.coreAt 0 0).unclaimed ({ sop with rd := 7 } : SOp).reads = true ∧ sop.rs1.toNat < 8 ∧ sop.rs2.toNat < 8 ∧
    sop.src2i = false := by decide +kernel

set_option Elab.async false in
theorem witness_FailedGuardsJoinNothing :
    core0.issues 0 0 = true ∧ sop.rsv = 0 ∧ (mop 0 0).rsv = 0 ∧ (core0.coreAt 0 0).guard 7 false = false ∧
    (core0.coreAt 0 0).guard 0 true = false := by decide +kernel

/-- The element types at both ends of each range: integers 0 and 3, floating point 4 and 6. -/
theorem witness_ElementwiseVectorSlotsJoinTheirRow :
    core0.issues 0 0 = true ∧ ∀ ty ∈ [0, 3, 4, 6], (vop ty 0).rsv = 0 ∧ (vop ty 0).type = ty ∧ (ty.toNat ≤ 3 ∨ (4 ≤ ty.toNat ∧ ty.toNat ≤ 6)) := by
  decide +kernel

set_option Elab.async false in
theorem witness_ElementaryVectorSlotsJoinTheirRow :
    core0.issues 0 0 = true ∧ (vop 4 0).rsv = 0 ∧ 4 ≤ (vop 4 0).type.toNat ∧ 4 ≤ (vop 6 0).type.toNat ∧ (vop 6 0).type.toNat ≤ 6 := by decide +kernel

/-- Each clause's type and immediate at the ends of its range; the masks and the unclaimed registers. -/
theorem witness_OtherVectorSlotsJoinTheirEffect :
    let x := core0.coreAt 0 0
    core0.issues 0 0 = true ∧ (∀ ty : BitVec 5, (vop ty 0).rsv = 0 ∧ (vop ty 0).men = false) ∧ (vop 8 0).type.toNat ≤ 8 ∧
    (vop 6 5).type.toNat ≤ 6 ∧ (vop 6 5).imm16.toNat % 8 < 6 ∧ x.unclaimed (vop 8 0).reads1 = true ∧ 2 ≤ (vop 2 0).type.toNat ∧
    (vop 3 0).type.toNat ≤ 3 ∧ (vop 15 5).type.toNat = 15 ∧ 1 ≤ (vop 15 1).imm16.toNat % 8 ∧ (vop 15 5).imm16.toNat % 8 ≤ 5 ∧
    (vop 23 0).type.toNat < 24 ∧ (firstMax 0 (elems 6 (x.v 2)) none).isSome = true ∧
    firstMax 0 (elems 6 (allBitsRow : Row)) none = none := by decide +kernel

/-- A widening to type 3 (128 elements), a narrowing from it, an unmasked ledger-24 destination and a packed source. -/
theorem witness_ConversionSlotsJoinTheirRow :
    core0.issues 0 0 = true ∧ ∀ p ∈ [(3, 0, 3), (0, 3, 3), (15, 6, 0), (1, 23, 0)],
      let o : VOp := { vop (BitVec.ofNat 5 p.1) (BitVec.ofNat 16 p.2.2) with type2 := BitVec.ofNat 5 p.2.1 }
      o.rsv = 0 ∧ o.type.toNat ≤ 15 ∧ o.type2.toNat < 24 ∧ o.men = false ∧
      o.imm16.toNat % 16 * min (typeCount o.type.toNat) (typeCount o.type2.toNat) < max (typeCount o.type.toNat) (typeCount o.type2.toNat) ∧
      (16 ≤ o.type2.toNat → o.type.toNat < 2) := by decide +kernel

set_option Elab.async false in
theorem witness_SamplingSlotsJoinTheirEffect :
    let x := core0.coreAt 0 0
    core0.issues 0 0 = true ∧ (vop 6 256).rsv = 0 ∧ (vop 6 256).type.toNat < 24 ∧ (vop 6 256).men = false ∧
    1 ≤ (vop 6 1).imm16.toNat % 512 ∧ (vop 6 256).imm16.toNat % 512 ≤ 256 ∧ x.unclaimed (vop 6 256).reads1 = true ∧
    x.unclaimed ((vop 6 256).ss2.toNat :: (vop 6 256).reads1) = true := by decide +kernel

theorem witness_MemorySlotsJoinTheirEffect :
    let x := core0w.coreAt 0 0
    core0w.issues 0 0 = true ∧ (mop 4092 0).rsv = 0 ∧ x.guard 0 false = true ∧ x.unclaimed [1, 0, 3] = true ∧ x.unclaimed [0] = true ∧
    x.unclaimed [3] = true ∧ x.unclaimed [0, 3] = true ∧ (mop 4092 0).localRow x < 4096 ∧
    core0w.readSpecial 0 0 14 = some 0 ∧ core0w.readSpecial 0 0 0 = some 0 ∧
    core0w.windowOk 0 0 2 ((mop 4092 0).offset x) 1 false = true ∧ core0w.windowOk 0 0 2 ((mop 4092 0).offset x) 1 true = true ∧
    core0w.fld (AW_CTL.KIND 0 0 2) < 2 ∧ 1 ≤ (mop 0 1).imm16.toNat % 64 ∧ (mop 0 32).imm16.toNat % 64 ≤ 32 ∧
    (core0w.reg (CORE_DRV 0 0)).getLsbD (mop 0 0).ch.toNat = true := by decide +kernel

set_option Elab.async false in
/-- A row past the scratchpad (s1 is all ones), a window that is not valid, a channel that is not allowed. -/
theorem witness_MemorySlotsRaiseTheirExceptions :
    let x := core0.coreAt 0 0
    let far : MOp := { mop 4095 0 with sa := 1 }
    core0.issues 0 0 = true ∧ far.last = false ∧ far.rsv = 0 ∧ x.guard far.gp far.gneg = true ∧ 4096 ≤ far.localRow x ∧
    (mop 4095 0).localRow x < 4096 ∧ core0.windowOk 0 0 2 ((mop 4095 0).offset x) 1 false = false ∧
    core0.windowOk 0 0 2 ((mop 4095 0).offset x) 1 true = false ∧ (core0.reg (CORE_DRV 0 0)).getLsbD (mop 0 0).ch.toNat = false := by
  decide +kernel

theorem witness_ControlSlotsCloseWithTheirEffect :
    let x := core0w.coreAt 0 0
    let o := cop 4095
    let w : COp := { cop 1 with xw := true, win := 3 }
    core0w.issues 0 0 = true ∧ o.rsv = 0 ∧ o.badHeader = false ∧ o.fetch = .clean ∧ o.im = false ∧ x.guard 0 false = true ∧
    x.unclaimed [o.rs.toNat] = true ∧ x.unclaimed o.reads = true ∧ x.pc < o.target.toNat ∧ (core0h.coreAt 0 0).handler = true ∧
    core0h.issues 0 0 = true ∧ o.xw = false ∧ core0w.windowOk 0 0 3 w.cell.toNat 1 true = true ∧
    core0w.windowOk 0 0 3 w.cell.toNat 1 false = true ∧ core0w.fld (AW_CTL.KIND 0 0 3) = 2 ∧ o.cond.toNat < 3 := by decide +kernel

/-- Logical slab 2 may be fired; its default block drains 64 outputs; the last slabs, groups and blocks that are legal. -/
theorem witness_EngineSlotsJoinTheirCommand :
    core0w.issues 0 0 = true ∧ (core0w.coreAt 0 0).handler = false ∧ core0w.queueFull 0 0 0 false = false ∧
    shapeLegal 0 0 4 true = true ∧ shapeLegal 1 3 6 true = true ∧ shapeLegal 2 15 7 true = true ∧
    core0w.fireForbidden 0 0 0 2 = false ∧ core0w.drainCount 0 0 0 2 0 7 ≤ drainLimit 15 * 4 ∧ core0w.drainCount 0 0 0 2 7 7 ≤ drainLimit 15 ∧
    core0w.queueFull 0 0 0 true = false ∧ core0w.bit (ENG_CTL.QM_EN 0 0 0) = true := by decide +kernel

set_option Elab.async false in
theorem witness_LoneScalarBundlesRun :
    core0.plainCore 0 0 = true ∧ sop.last = true ∧ sop.rsv = 0 ∧ (core0.coreAt 0 0).guard sop.gp sop.gneg = true := by decide +kernel

theorem witness_OpenSlotsChangeTheirBundleOnly :
    let o : SOp := { sop with last := false }
    o.last = false ∧ ({ vop 0 0 with last := false } : VOp).last = false ∧ (mop 0 0).last = false ∧ core0.issues 0 0 = true ∧
    core0.issues 0 1 = false := by decide +kernel

/-- A bundle that issues; a bundle with two scalar slots A, which is illegal; the same in the handler and with EXC_MODE set. -/
theorem witness_BundlesIssueOrTakeTheirException :
    let bad (s : State) : State := ⟨s.modCore 0 0 (fun x => { x with bundle := { x.bundle with excs := [⟨1, 0, 0, 5⟩] } }), []⟩
    let good (s : State) : Bool := s.issues 0 0 && (s.coreAt 0 0).excWait.isEmpty && !(s.coreAt 0 0).haltReq &&
      (match bundleExc (s.coreAt 0 0).pc (s.coreAt 0 0).bundle with | some e => e.code == 1 | none => false)
    core0.bundleIssues 0 0 = true ∧ good (bad core0) = true ∧ good (bad core0h) = true ∧
    ((bad core0).coreAt 0 0).handler = false ∧ ((bad core0h).coreAt 0 0).handler = true ∧
    ∀ mode : Bool, good (bad ⟨core0.setBit (CORE_CTL.EXC_MODE 0 0) mode, []⟩) = true ∧
      (core0.setBit (CORE_CTL.EXC_MODE 0 0) mode).bit (CORE_CTL.EXC_MODE 0 0) = mode := by decide +kernel

theorem witness_EngineCommandsInTheHandlerDoubleFault :
    let x := core0h.coreAt 0 0
    core0h.issues 0 0 = true ∧ x.handler = true ∧ x.excWait = [] ∧ x.haltReq = false ∧ x.bundle = Bundle.none ∧ x.pc < 4096 := by decide +kernel

set_option Elab.async false in
/-- R30, R814: thirty-two cells of level 8 give tally code 32. -/
theorem test_tally_code_of_a_blank_row :
    tallyCode 256 = 32 := by decide +kernel

/-! ## Witnesses: requests, interrupts and accesses -/

/-- The fields of a state in which the die is Active, the host link is up and ridges 0 and 1 are in Run. -/
def upFields : List (Field × Nat) := [(PM_DIE_STAT.STATE, 2), (HP_LINK.UP, 1), (PM_RIDGE_STAT.STATE 0, 0), (PM_RIDGE_STAT.STATE 1, 0)]

/-- The die is Active, with ridges 0 and 1 in Run and the host link up. -/
def up : State := fieldsAt upFields

/-- The double word of a register at an offset of a page, in the physical function's view. -/
def dwOf (page off : Nat) : BitVec 26 := BitVec.ofNat 26 ((page * 4096 + off) / 4)

/-- Where an access of the physical function lands. -/
def lands (s : State) (page off : Nat) (write : Bool) : Option (Nat × Nat) := (s.reach 0 (dwOf page off).toNat write).2

/-- A write by the physical function of `v` to offset `off` of a page is admitted there, and `when` holds of the hardware, the page,
the offset and the cell's index. -/
def admitted (s : State) (page off : Nat) (v : Word) (kind : PageKind) (offs : List Nat)
    (when : Block → Nat → Nat → Nat → Bool) : Bool :=
  match s.admits 0 (dwOf page off) v kind with
  | some (t, p, o, n) => decide (p = page ∧ o = off) && offs.contains o && when t p o n
  | none => false

/-- A completion and a GET reply on their way to core 0 of ridge 0, whose tag 5 was taken under revision 0; the ridge is at
revision 1. -/
def lateReply (op tagOp : PktOp) (status : Nat) : Packet × State :=
  let p : Packet := { Packet.blank with op := op, tag := 5, status := status }
  (p, ⟨{ ((fieldsAt [(RI_STAT.REV 0, 1), (PM_RIDGE_STAT.STATE 0, 0)]).modCore 0 0 (fun x => { x with tags := [(5, ⟨tagOp, 7, 3, 1, 0, 0, 0⟩)] })) with
      int := { (fieldsAt []).int with sent := [p] } }, []⟩)

theorem witness_OlderCompletionsOnlyFreeTheirTag :
    ∀ k ∈ [(PktOp.completion, PktOp.putReq, 0), (PktOp.completion, PktOp.emit, 1), (PktOp.completion, PktOp.emit, 0), (PktOp.getData, PktOp.getReq, 0)],
      let p := (lateReply k.1 k.2.1 k.2.2).1
      let t := ((lateReply k.1 k.2.1 k.2.2).2.arrive p).1
      let late (u : Block) : Bool := match u.tagOf 0 (u.siteOf 0 0) 5 with | some e => decide (e.op = k.2.1) && revNewer (u.rev 0) e.rev | none => false
      ((lateReply k.1 k.2.1 k.2.2).2.arrive p).2 = true ∧ p.dst.unit < 16 ∧ p.dstCore < 32 ∧ p.op = k.1 ∧ late t = true ∧
      late (t.writeVerdicts 0 0 7 1 p.data) = true ∧
      late (t.sharedWrite 0 0 7 p.data allWords (t.sourceId 0 p) false 0 []).1 = true := by decide +kernel

theorem witness_ForcedInterruptsSetTheirBits :
    ∀ page ∈ [0, diePage 9, ridgePage 0 0, sitePage 0 0 0],
      lands up page 0x18 false = some (page, 0x18) ∧ lands up page 0x18 true = some (page, 0x18) := by decide +kernel

theorem witness_LocalAccessesChangeTheirRowOnly :
    let x : Core := { Core.reset with accesses := [.store 4095 1, .load 0 31] }
    let s := core0.setCore 0 0 x
    (s.coreAt 0 0).accesses = .store 4095 1 :: [.load 0 31] ∧ ({ x with accesses := [.load 0 31] } : Core).accesses = .load 0 31 :: [] ∧
    s.badWords 0 0 0 = [] := by decide +kernel

/-! ## Witnesses: the queue and the register file -/

set_option Elab.async false in
theorem witness_EmptyQueueIdles : State.reset.pending = [] := by rfl

theorem witness_CommandsLeaveTheQueue :
    ((after (exec .debtAccrual { State.reset with pending := [.hbmRefresh 0] })).map (·.pending)) = some [.hbmRefresh 0] := by decide +kernel

theorem witness_WellFormedQueueRunsOn :
    ({ State.reset with pending := [.driftFit 0 0 0 (List.replicate 64 0), .debtAccrual] } : State).waitingWellFormed = true := by decide +kernel

set_option Elab.async false in
theorem witness_WrongListLengthsStop : Instr.wellFormed (.passLatch 0 0 0 []) = false := by decide +kernel

theorem witness_RegisterFileIsMemory : State.reset.regsCanonical = true ∧ RI_STEP 0 ≠ RI_STEP 1 := by decide +kernel

theorem witness_FieldsOfARegisterAreIndependent :
    let f := CORE_STAT.STATE 0 0
    f.lo + f.w ≤ 32 ∧ (f.lo + f.w) + (32 - (f.lo + f.w)) ≤ 32 ∧ f.lo + f.w ≤ f.lo + f.w := by decide +kernel

set_option Elab.async false in
theorem witness_AccessCodesDecideWhatAWriteStores : (31 : Nat) + 1 ≤ 32 ∧ (0 : Nat) < 1 := by decide

/-- A plain register, one with each command of the common header, a read of a single word, of the low word of a pair and of the
high word after it, and of an offset that holds no register. -/
theorem witness_RegisterAccessesTakeEffect :
    let t (page off : Nat) : Block := (up.reach 0 (dwOf page off).toNat true).1
    let reads (page off pair : Nat) : Bool := decide (lands up page off false = some (page, off)) &&
      ((t page off).protectedRead 0 page off).isNone && (match regRow (pageKind page) off with
        | some row => decide (row.pair = pair) && row.fields.all (fun f => decide (f.acc = .ro))
        | none => false)
    lands up (sitePage 0 0 1) 0x40 true = some (sitePage 0 0 1, 0x40) ∧ vfWindowAt 0 (dwOf (sitePage 0 0 1) 0x40).toNat ≠ some 0x48 ∧
    ownCommand (pageKind (sitePage 0 0 1)) 0x40 = false ∧ ((t (sitePage 0 0 1) 0x40).refusal 0 (sitePage 0 0 1) 0x40 1).isNone = true ∧
    pageKind (sitePage 0 0 1) ≠ .mgmt ∧ pageKind (sitePage 0 0 1) ≠ .imem ∧ sitePage 0 0 1 ≠ 13 ∧
    (∀ page ∈ [diePage 2, ridgePage 0 0], lands up page 0x08 true = some (page, 0x08) ∧ lands up page 0x10 true = some (page, 0x10) ∧
      lands up page 0x18 true = some (page, 0x18) ∧ (t page 0x08).bit (BLK_CTL.FREEZE page) = false) ∧ lands up 5 0x08 true = some (5, 0x08) ∧
    reads 0 0x00 0 = true ∧ reads (sitePage 0 0 0) 0x64 1 = true ∧ reads (sitePage 0 0 0) 0x68 2 = true ∧
    lands up 0 0xFFC false = some (0, 0xFFC) ∧ regRow (pageKind 0) 0xFFC = none := by decide +kernel

/-- A reserved page and one that a function's view denies; the first page of a ridge that is Off. -/
theorem witness_AccessesThatMissAreCounted :
    place 0 (dwOf 0x3FF 0).toNat = .unmapped ∧ vfWindowAt 0 (dwOf 0x3FF 0).toNat = none ∧
    place 1 (dwOf (0x400 + 1) 0).toNat = .denied ∧ vfWindowAt 1 (dwOf (0x400 + 1) 0).toNat = none ∧
    place 0 (dwOf (ridgePage 15 0) 0).toNat = .at (ridgePage 15 0) 0 ∧ State.reset.pageUp (ridgePage 15 0) = false ∧
    vfWindowAt 0 (dwOf (ridgePage 15 0) 0).toNat = none := by decide +kernel

set_option Elab.async false in
/-- R5: multi-byte quantities are little-endian. -/
theorem test_bytes_of_a_word_are_little_endian :
    bytesOf 4 0x01020304 = [4, 3, 2, 1] := by decide +kernel

/-- A refused write: a function's write to a die register beyond its view, and one to a window of a bound ridge by the physical
function. -/
theorem witness_RefusedWritesChangeNothingElse :
    let bound : State := fieldsAt (upFields ++ [(TR_RIDGE_STAT.STATE 16 0, 1), (TR_RIDGE_STAT.STATE 0 0, 1)])
    let refused (req : Fin 18) (dw : BitVec 26) (v : Word) (kind : PageKind) (off : Nat) : Bool :=
      match bound.reach req dw.toNat true with
      | (t, some (page, o)) => decide (pageKind page = kind ∧ o = off) && (t.refusal req page o v).isSome
      | _ => false
    refused 0 (dwOf (sitePage 0 0 0) 0x90) 1 .core 0x90 = true ∧ refused 0 (dwOf (sitePage 0 0 9) 0x78) 1 .spad 0x78 = true ∧
    refused 0 (dwOf (ridgePage 0 2) 0x48) 1 .ridgeSync 0x48 = true ∧ refused 1 (BitVec.ofNat 26 ((0x40E070) / 4)) 0x10 .walker 0x70 = true ∧
    refused 0 (dwOf (ridgePage 0 2) 0x44) 1 .ridgeSync 0x44 = true ∧ refused 0 (dwOf (sitePage 0 0 1) 0x80) 1 .engine 0x80 = true ∧
    refused 0 (dwOf (sitePage 0 0 0) 0x308) 1 .core 0x308 = true ∧ refused 0 (dwOf (sitePage 0 0 9) 0x60) 1 .spad 0x60 = true := by decide +kernel

/-- A plain register, and the low half of a written pair. -/
theorem witness_RegisterWritesChangeTheirRegisterOnly :
    let pair (page off n : Nat) : Bool := match regRow (pageKind page) off with
      | some row => decide (row.pair = n) && row.fields.any (fun f => decide (f.acc = .rw ∨ f.acc = .rwl))
      | none => false
    pair (sitePage 0 0 1) 0x40 0 = true ∧ pair 12 0x4C 1 = true ∧ RI_STEP 0 ≠ up.cellKey (sitePage 0 0 1) 0x40 ⟨0, 1, 0, 0, none, []⟩ := by
  decide +kernel

/-! ## Witnesses: core control, synchronization, remote access and migration -/

theorem witness_CoreControlWritesTakeEffect :
    let at_ (s : State) : Bool := decide (place 0 (dwOf (sitePage 0 0 0) 0x48).toNat = .at (sitePage 0 0 0) 0x48) && s.ridgeUp 0
    let won : State := fieldsAt (upFields ++ [(AW_CTL.VALID 0 0 0, 1), (AW_SIZE.SIZE 0 0 0, 1)])
    at_ up = true ∧ up.fld (CORE_STAT.STATE 0 0) = 0 ∧ up.bit (TR_RIDGE_STAT.SEAL_CODE 16 0) = false ∧ getBits (0x80000FFF : Word) 31 1 = 1 ∧
    at_ core0 = true ∧ core0.fld (CORE_STAT.STATE 0 0) = 1 ∧
    (fieldsAt [(PM_DIE_STAT.STATE, 2)]).ridgeUp 0 = false ∧ (fieldsAt [(PM_DIE_STAT.STATE, 2)]).dieActive = true ∧
    admitted core0 (sitePage 0 0 0) 0x40 1 .core [0x40] (fun t p _ _ =>
      decide (t.fld (CORE_STAT.STATE 0 0) = 1 ∧ (t.storeAt 0 p 0x40 1).fld (CORE_STAT.STATE 0 0) = 1)) = true ∧
    admitted up (sitePage 0 0 10) 0xFFC 0 .imem imemHi (fun t _ _ _ => t.imemOpen 0 0) = true ∧
    admitted up (sitePage 0 0 10) 0x804 0 .imem imemHi (fun t _ _ _ => t.imemOpen 0 0) = true ∧
    admitted won (sitePage 0 0 0) 0x90 0 .core [0x90] (fun _ _ _ _ => true) = true ∧
    admitted won (sitePage 0 0 0) 0x90 1 .core [0x90] (fun t _ _ n => t.bit (AW_CTL.VALID 0 0 n) && decide (t.fld (AW_CTL.KIND 0 0 n) = 0) &&
      !t.windowNeedsGrant 0 0 n false 0 && !t.bit (AW_CTL.REMOTE 0 0 n)) = true ∧
    (∀ off ∈ [0x308, 0x30C, 0x310], admitted up (sitePage 0 0 0) off 0 .core [0x308, 0x30C, 0x310] (fun _ _ _ _ => true) = true) := by
  decide +kernel

/-- An answer of each kind on its way to a core that waits; a hold that ends, one that goes on, and a wake. -/
theorem witness_SynchronizationTakesEffect :
    let w : Wait := ⟨false, .waitGe, 5, false, 0, 1, 0, false, false⟩
    let held (x : Wait) (pend : Nat) : State := ⟨(fieldsAt (runFields ++ [(CORE_STAT.STATE 0 0, 2), (CORE_STAT.HOLD_CAUSE 0 0, 3),
      (CORE_STAT.WAKE_PEND 0 0, pend), (CORE_SYNC_TMO.TMO 0 0, 1)])).modCore 0 0 (fun y => { y with wait := some x }), []⟩
    (∀ n ∈ [2, 3, 4, 6], let p : Packet := { Packet.blank with op := .syncAnswer, arg := n }
      ((⟨{ up.toBlock with int := { up.int with sent := [p] } }, []⟩ : State).arrive p).2 = true ∧ p.dst.unit < 16 ∧ p.dstCore < 32) ∧
    admitted up (ridgePage 0 2) 0x44 7 .ridgeSync [0x44] (fun _ _ _ _ => true) = true ∧
    admitted up (ridgePage 0 2) 0x48 7 .ridgeSync [0x48] (fun _ _ _ _ => true) = true ∧
    up.bit (SYNC_ATTR.IRQ 0 1023) = false ∧ (up.setCell 0 1023 5).bit (SYNC_ATTR.IRQ 0 1023) = false ∧
    (held w 0).fld (CORE_STAT.STATE 0 0) = 2 ∧ (held w 0).holdEnds 0 0 = false ∧ (held { w with answered := true } 0).holdEnds 0 0 = true ∧
    (held { w with wake := true } 1).holdEnds 0 0 = true ∧ ((held w 0).coreAt 0 0).haltReq = false ∧ ((held w 0).coreAt 0 0).excWait = [] ∧
    ((held w 0).coreAt 0 0).wait = some w ∧ (held w 0).fld (CORE_SYNC_TMO.TMO 0 0) ≠ 0 := by decide +kernel

/-- Requests to row 4,095 of the ridge's own scratchpad and to a unit of an owned cache region, served at once or behind others;
completions and data for a tag that is held and for one that is not. -/
theorem witness_RemoteRequestsTakeEffect :
    let owned : State := fieldsAt (upFields ++ [(CT_REG_CTL.VALID 0, 1), (CT_REG_CTL.OWNER 0, 0), (CT_REG_BASE.BASE_G 0, 0), (CT_REG_LIMIT.LIMIT_G 0, 0)])
    let p : Packet := { Packet.blank with op := .getReq, addr := 4095 }
    let q : Packet := { Packet.blank with op := .putReq, addr := 0, dst := ⟨0, 0, 17⟩ }
    let sends (x : Packet) : State := ⟨{ owned.toBlock with int := { owned.int with sent := [x] } }, []⟩
    let tagged (n : Nat) (op : PktOp) : State := ⟨(sends { Packet.blank with tag := n }).modCore 0 0 (fun x => { x with tags := [(63, ⟨op, 7, 3, 1, 0, 0, 0⟩)] }), []⟩
    ((sends p).arrive p).2 = true ∧ p.dst.unit < 16 ∧ owned.net.unreachable.contains (0, 0) = false ∧ p.addr < 4096 ∧
    ((sends p).arrive p).1.rowGranted p 4095 true = true ∧ (owned.spadAt 0 0).queue = [] ∧
    ((sends q).arrive q).2 = true ∧ 16 ≤ q.dst.unit ∧ ((sends q).arrive q).1.cacheRefusal 0 (tierRequester q.src) 0 true = none ∧
    owned.stackQueue (stackOf 0) = [] ∧
    (((tagged 63 .getReq).arrive { Packet.blank with tag := 63 }).1.tagOf 0 0 63).isSome = true ∧
    (((tagged 63 .emit).arrive { Packet.blank with tag := 63 }).1.tagOf 0 0 63).isSome = true ∧
    (((tagged 0 .getReq).arrive { Packet.blank with tag := 0 }).1.tagOf 0 0 0).isNone = true ∧
    (SMap.find 63 ((tagged 63 .getReq).coreAt 0 0).tags).isSome = true := by decide +kernel

theorem witness_MigrationTakesEffect :
    let can (s : State) (op : Nat) (when : Block → Bool) : Bool := admitted s (ridgePage 0 1) 0x6C (BitVec.ofNat 32 (op + 31 * 16)) .ridgeCore [0x6C]
      (fun t _ _ _ => decide ((SMap.find 0 t.mig).isSome = false ∧ t.fld (CORE_STAT.STATE 0 (t.siteOf 0 31)) ≠ 4 ∧
        t.fld (CORE_STAT.STATE 0 (t.siteOf 0 31)) ≠ 6) && when t)
    let tested : State := ⟨(up.modCore 0 33 (fun x => { x with testOf := some 31 })).setFld (CORE_STAT.STATE 0 33) 6, []⟩
    let migrating (phase : Nat) : State := ⟨{ (fieldsAt (upFields ++ [(CORE_STAT.STATE 0 3, 5)])) with mig := [(0, ⟨3, 3, 32, 1, [], phase, 1, 0⟩)] }, []⟩
    can up 1 (fun t => (t.freeScree 0).isSome) = true ∧ can up 2 (fun t => (t.freeScree 0).isSome) = true ∧
    can tested 3 (fun t => decide (t.testedSite 0 31 = some 33)) = true ∧
    (SMap.find 0 (migrating 2).mig).isSome = true ∧ (migrating 2).fld (CORE_STAT.STATE 0 3) = 5 ∧ (migrating 2).migDrained 0 3 = true ∧
    (SMap.find 0 (migrating 3).mig).isSome = true := by decide +kernel

set_option Elab.async false in
/-- R30: a tally code is a mean with ties to even. -/
theorem test_tally_code_ties_to_even :
    tallyCode 4 = 0 ∧ tallyCode 12 = 2 := by decide +kernel

/-! ## Witnesses: the store and the engines -/

/-- Slab 8 of the last engine of the last site of ridge 0, resident, and with the store's queue at a length. -/
def stored (n : Nat) : State := ⟨(up.modSlab 0 33 7 7 (fun b => { b with state := .resident })).setQueue 0
  (List.replicate n ⟨.scan, 0, 0, 0, 0, 5, false⟩), []⟩

/-- The SR_CMD word of an operation on slab 7 of engine 7 of site 33, with column 527. -/
def srCmd (op : Nat) : Word := BitVec.ofNat 32 (op + 33 * 2 ^ 4 + 7 * 2 ^ 10 + 7 * 2 ^ 13 + 527 * 2 ^ 17)

theorem witness_StoreWritesTakeEffect :
    let cmd (s : State) (op : Nat) (when : Block → Bool) : Bool := admitted s (ridgePage 0 0) 0x48 (srCmd op) .ridgeStore [0x48] (fun t _ _ _ => when t)
    let erase (l : List (Field × Nat)) (st : EraseState) : State := ⟨{ (fieldsAt (upFields ++ l)) with
      store := { up.store with erase := st } }, []⟩
    let lease : State := fieldsAt (upFields ++ [(SR_LEASE_REQ.VALID 0, 1)])
    (∀ op ∈ [1, 2, 3, 4, 5, 6], getBits (srCmd op) 0 4 = op ∧ getBits (srCmd op) 4 6 = 33 ∧ getBits (srCmd op) 13 4 = 7 ∧ getBits (srCmd op) 17 10 = 527 ∧
      cmd (stored 4095) op (fun t => decide ((t.slab 0 33 7 7).state = .resident ∧ (t.queue 0).length < 4096)) = true ∧
      cmd (stored 4096) op (fun t => decide (4096 ≤ (t.queue 0).length)) = true ∧
      cmd up op (fun t => decide ((t.slab 0 33 7 7).state = .empty)) = true) ∧
    admitted up 11 0x40 1 .dieStore [0x40] (fun _ _ _ _ => true) = true ∧
    admitted lease (ridgePage 0 0) 0x54 1 .ridgeStore [0x54] (fun t _ _ _ => t.bit (SR_LEASE_REQ.VALID 0) && !(t.slab 0 0 0 0).leased) = true ∧
    admitted up 11 0x6C 5 .dieStore [0x6C] (fun _ _ _ _ => true) = true ∧
    admitted (erase [(SD_ERASE_SCOPE.KIND, 5)] .idle) 11 0x70 0xA5A5 .dieStore [0x70] (fun t _ _ _ => decide (t.store.erase ≠ .running) && t.scopeSpan.isSome && t.eraseAllowed 0) = true ∧
    admitted (erase [(SD_ERASE_SCOPE.KIND, 4), (TR_RIDGE_STAT.STATE 16 0, 1)] .idle) 11 0x70 0xA5A5 .dieStore [0x70] (fun t _ _ _ => !t.eraseAllowed 0) = true ∧
    admitted (erase [(SD_ERASE_SCOPE.KIND, 1)] .armed) 11 0x70 0x5A5A .dieStore [0x70] (fun t _ _ _ => decide (t.store.erase = .armed) &&
      (match t.scopeSpan with | some x => !t.eraseInUse x | none => false)) = true ∧
    admitted ⟨{ (erase [(SD_ERASE_SCOPE.KIND, 1)] .armed).toBlock with res := { up.res with layer := [(0, { LayerEntry.none with state := 2, ver := 1 })] } }, []⟩
      11 0x70 0x5A5A .dieStore [0x70] (fun t _ _ _ => decide (t.store.erase = .armed) &&
      (match t.scopeSpan with | some x => t.eraseInUse x | none => false)) = true := by decide +kernel

/-- A store state with one running operation on slab 2 of engine 0 of site 0 of ridge 0, at its last row. -/
def storeRun (kind : StoreKind) (cls : Nat) (swept : Bool) : State :=
  ⟨up.setRun 0 0 0 (some ⟨⟨kind, 0, 0, 2, 0, cls, false⟩, 0, false, 511, 10, [], [], false, [], swept, false⟩), []⟩

theorem witness_StoreEventsTakeEffect :
    let op : StoreOp := ⟨.scan, 33, 7, 7, 0, 5, false⟩
    let parked : State := ⟨up.setRun 0 0 0 (some ⟨⟨.refreshSlab, 0, 0, 2, 0, 3, false⟩, 0, false, 5, 1, [], [], false, [], false, true⟩), []⟩
    let fit : List Nat := (List.range 64).map (fun n => 2000 * (n / 4 + 1))
    let counted : State := ⟨up.modSlab 0 0 0 2 (fun b => { b with readCount := 2 ^ 24, state := .resident }), []⟩
    let refreshes : State := ⟨up.setWaiting 0 [⟨.refresh, 0, 0, 2, 0, 5, false⟩], []⟩
    let erasing (kind : Nat) (st : EraseState) : State := ⟨{ (fieldsAt (upFields ++ [(SD_ERASE_SCOPE.KIND, kind)])) with store := { up.store with erase := st } }, []⟩
    up.ridgeUp 0 = true ∧ up.lvActive = false ∧ (stored 1).freeToken 0 = some 0 ∧
    (⟨up.setQueue 0 [op], []⟩ : State).nextGrant 0 = some (.inr op) ∧ parked.freeToken 0 = some 0 ∧ parked.nextGrant 0 = some (.inl (engKey 0 0 0)) ∧
    ((storeRun .erase 4 false).runOf 0 0 0).isSome = true ∧ ((storeRun .erase 4 true).runOf 0 0 0).any (·.swept) = true ∧
    ((storeRun .driftSample 5 false).runOf 0 0 0).any (fun o => decide (o.op.kind = .driftSample)) = true ∧ fit.length = 64 ∧ driftOk fit = true ∧
    driftOk (List.replicate 64 0) = false ∧ ((storeRun .refresh 3 false).runOf 0 0 0).isSome = true ∧ ((storeRun .scan 2 false).runOf 0 0 0).isSome = true ∧
    counted.bit SD_CTL.DRIFT_EN = true ∧ (counted.slab 0 0 0 2).state.sampled = true ∧ counted.queue 0 = [] ∧ counted.runOf 0 0 0 = none ∧
    2 ^ 24 ≤ (counted.slab 0 0 0 2).readCount ∧ up.waiting 0 = [] ∧ refreshes.waiting 0 = [⟨.refresh, 0, 0, 2, 0, 5, false⟩] ∧
    (up.eng.any (fun x => decide (x.1 / 272 = 0) && (x.2.pass.isSome || x.2.qmPass.isSome))) = false ∧
    (erasing 0 .armed).store.erase = .armed ∧ (erasing 5 .running).store.eraseLeft = [] ∧ (erasing 5 .running).fld SD_ERASE_SCOPE.KIND = 5 ∧
    (erasing 4 .running).fld SD_ERASE_SCOPE.KIND = 4 ∧ (erasing 0 .running).fld SD_ERASE_SCOPE.KIND ≠ 4 := by decide +kernel

/-- A state whose engine 0 of site 0 of ridge 0 is given, on a biased or an unbiased bank. -/
def engined (x : EngSt) (biased : Nat) : State := ⟨(fieldsAt (upFields ++ [(ENG_STAT.BIASED 0 0 0, biased)])).setEngine 0 0 0 x, []⟩

theorem witness_EnginePassesTakeEffect :
    let cmd (k : EngKind) : EngCmd := EngCmd.blank k
    let x (k : EngKind) : EngSt := { EngSt.reset with queue := [cmd k], qmQueue := [cmd k] }
    let s (k : EngKind) : State := engined (x k) 1
    (∀ k ∈ [EngKind.fire, .probe, .echo, .drain, .clear, .qmFire, .qload],
      ((s k).engine 0 0 0).queue = cmd k :: [] ∧ ((s k).engine 0 0 0).qmQueue = cmd k :: [] ∧ ((s k).engine 0 0 0).pass = none ∧
      ((s k).engine 0 0 0).discarded = [] ∧ (s k).queuesRun 0 0 = true ∧ (s k).lvActive = false ∧ (s k).bit (ENG_STAT.BIASED 0 0 0) = true ∧
      (engined (x k) 0).bit (ENG_STAT.BIASED 0 0 0) = false ∧ ((s k).engine 0 0 0).qmPass = none ∧ (cmd k).kind = k ∧
      ((s k).engine 0 0 0).latchedBefore (cmd k).order = true ∧ ((s k).engine 0 0 0).qmBefore (cmd k).order = false) ∧
    (engined { EngSt.reset with discarded := [.fire (cmd .fire) 2] } 1).lvActive = false ∧ (up.coreAt 0 0).frame = 0 ∧
    ((engined { EngSt.reset with pass := some (.fire (cmd .fire) 2), qmPass := some (cmd .qmFire), drains := [(31, 0, 0)] } 1).engine 0 0 0).pass
      = some (.fire (cmd .fire) 2) ∧ (List.replicate 544 (0 : Int)).length = 544 := by decide +kernel

theorem witness_FramesAndChecksTakeEffect :
    let frame (n m : Nat) : State := ⟨up.modCore 0 0 (fun x => { x with frame := n, frameNo := m, ranNo := m }), []⟩
    let gov (a m : Nat) : State := ⟨(fieldsAt (upFields ++ [(ENG_STAT.GOV_ALLOW 0 0 0, a), (PM_GOV_RSTAT.A 0, a)])).modCore 0 0 (fun x => { x with frameNo := m }), []⟩
    let en : HistEntry := ⟨EngCmd.blank .fire, 2, [0], List.replicate 528 0⟩
    let ready : EngSt := { EngSt.reset with history := [en], probes := [(probeIndex 2 0, ⟨1, 0, 1, 0, List.replicate 544 0⟩)] }
    let t : State := ⟨((engined ready 1).modSlab 0 0 0 2 (fun b => { b with state := .resident })).modCore 0 0 (fun x => { x with frame := 2 }), []⟩
    up.ridgeState 0 = 0 ∧ (up.coreAt 0 0).lvHold = false ∧ frameRuns (1 % 16) ((gov 0 1).fld (ENG_STAT.GOV_ALLOW 0 0 0)) = false ∧
    frameRuns (1 % 16) ((gov 16 1).fld (ENG_STAT.GOV_ALLOW 0 0 0)) = true ∧
    (frame 0 0).echoPeriod 0 0 ≠ 0 ∧ ((frame 0 0).coreAt 0 0).ranNo % (frame 0 0).echoPeriod 0 0 = 0 ∧
    ((frame 0 0).probePeriod 0 / 2 + 37 * (up.logicalAt 0 0)) % up.probePeriod 0 = up.probePeriod 0 / 2 ∧
    (t.coreAt 0 0).frame = 2 ∧ t.probeReady 0 0 0 2 = true ∧ ((engined EngSt.reset 1).probeReady 0 0 0 2) = false ∧
    echoEdge false 0 = some (0, false) ∧ echoEdge false 3 = some (1, true) ∧ echoEdge true 4 = some (0, true) ∧ ready.history[0]? = some en ∧
    (SMap.get ProbeEntry.none EngSt.reset.probes (probeIndex 8 1)).kind = 0 ∧ (t.slab 0 0 0 2).state.probed = true ∧
    admitted up (sitePage 0 0 1) 0x80 1 .engine [0x80, 0x88] (fun t _ _ _ => decide (SMap.find 0 t.mig = none)) = true ∧
    admitted up (sitePage 0 0 8) 0x88 1 .engine [0x80, 0x88] (fun t _ _ _ => decide (SMap.find 0 t.mig = none)) = true := by decide +kernel

set_option Elab.async false in
/-- R31, R814: a program window of ±0.25 µS about 2.25 µS. -/
theorem test_a_window_includes_its_ends :
    within 2000 2250 250 = true ∧ within 1999 2250 250 = false := by decide +kernel

/-! ## Witnesses: scratchpads, the cache tier, the network and the herd fabric -/

theorem witness_ScratchpadAndCacheTakeEffect :
    let on : State := fieldsAt (upFields ++ [(CR_CTL.EN 0 0 0, 1), (CR_CFG.SIZE 0 0 0, 4096), (POOL_CFG.BUF_ROWS 0 0 0, 18), (POOL_CFG.REGION 0 0 0, 0),
      (CT_CTL.SCRUB_EN 0, 1)])
    let row : Packet := { Packet.blank with op := .batchRow, addr := 0 }
    let disp : Packet := { Packet.blank with op := .mdisp, addr := 0 }
    let sends (p : Packet) : State := ⟨{ on.toBlock with int := { on.int with sent := [p] } }, []⟩
    let access (l : List LocalAccess) : State := ⟨on.modCore 0 0 (fun x => { x with accesses := l }), []⟩
    let asked : State := ⟨on.modSpad 0 0 (fun x => { x with queue := [⟨false, 4095, 0, allWords, 3, Packet.blank⟩] }), []⟩
    let unit (n : Nat) : CacheReq := ⟨n, 0, 0, false, 0, allBytes, Packet.blank⟩
    let stacked : State := ⟨on.setStackQueue 0 [unit 0, unit 1, unit 0], []⟩
    ((access [.store 4095 1]).coreAt 0 0).accesses = .store 4095 1 :: [] ∧ ((access [.load 0 31]).coreAt 0 0).accesses = .load 0 31 :: [] ∧
    (asked.spadAt 0 0).queue ≠ [] ∧
    (∀ p ∈ [row, disp], ((sends p).arrive p).2 = true ∧ p.dst.unit < 16 ∧ p.dstCore < 32 ∧ p.addr < 64 ∧
      ((sends p).arrive p).1.regionRefuses 0 0 0 = none ∧ ((sends p).arrive p).1.rowGranted p (((sends p).arrive p).1.fld (CR_STAT.TAIL 0 0 0)) true = true) ∧
    admitted up (sitePage 0 0 9) 0x60 1 .spad [0x60] (fun t p o g => decide (getBits (t.reg (regKey p o g)) 0 1 = 0)) = true ∧
    admitted on (sitePage 0 0 9) 0x60 0 .spad [0x60] (fun t p o g => decide (getBits (t.reg (regKey p o g)) 0 1 = 1)) = true ∧
    1 ≤ on.fld (CR_CFG.SIZE 0 0 0) ∧ on.fld (CR_CFG.BASE 0 0 0) + on.fld (CR_CFG.SIZE 0 0 0) ≤ 4096 ∧
    admitted on (sitePage 0 0 9) 0x78 1 .spad [0x78] (fun t _ _ n => decide (t.fld (POOL_CFG.BUF_ROWS 0 0 n) ≠ 0) &&
      t.bit (CR_CTL.EN 0 0 (t.fld (POOL_CFG.REGION 0 0 n)))) = true ∧
    admitted up (sitePage 0 0 9) 0x78 0 .spad [0x78] (fun _ _ _ _ => true) = true ∧
    (stacked.stackQueue 0)[1]? = some (unit 1) ∧ (∀ e ∈ (stacked.stackQueue 0).take 1, e.unit ≠ (unit 1).unit) ∧
    on.bit (CT_CTL.SCRUB_EN 0) = true ∧ on.stackQueue 0 = [] ∧ 0 < cacheUnits ∧ stackOf 0 = 0 ∧
    admitted up 15 0x4C 0x100 .cacheTier [0x4C] (fun t p _ i => decide (i ≠ 63) && !t.locked p) = true ∧
    admitted up 15 0x4C 0x1001 .cacheTier [0x4C] (fun t p _ i => let u := t.setFld (CT_REG_CTL.OWNER i) 16
      decide (i ≠ 63) && !t.locked p && !t.bit (CT_REG_CTL.VALID i) && decide (u.fld (CT_REG_BASE.BASE_G i) ≤ u.fld (CT_REG_LIMIT.LIMIT_G i)) &&
        !u.regionOverlaps i && decide (u.fld (CT_REG_CTL.OWNER i) ≤ 16)) = true := by decide +kernel

/-- A packet of each kind on its way: to this die, to another die, and a route change in progress. -/
theorem witness_NetworkTakesEffect :
    let sends (p : Packet) : State := ⟨{ up.toBlock with int := { up.int with sent := [p] } }, []⟩
    let change : RouteChange := ⟨true, true, [], [], []⟩
    (∀ op ∈ [PktOp.getReq, .putReq, .completion, .getData, .mdisp, .batchRow, .syncAnswer, .commitMsg, .retractMsg, .slotLoss, .emit, .drvBeat, .syncOp],
      let p : Packet := { Packet.blank with op := op }
      (sends p).isSent p = true ∧ p.dst.die = (sends p).fld FAB_SELF.COORD ∧ (sends p).bit (NET_STAT.SPLIT 0) = false ∧ p.dst.unit < 16) ∧
    (let p : Packet := { Packet.blank with dst := ⟨255, 0, 0⟩ }
     (sends p).isSent p = true ∧ p.dst.die ≠ (sends p).fld FAB_SELF.COORD) ∧
    up.net.change = none ∧ (⟨{ up.toBlock with net := { up.net with change := some change } }, []⟩ : State).net.change = some change ∧
    (fieldsAt [(SAD_LINK_STAT.STATE 31, 0)]).fld (SAD_LINK_STAT.STATE 31) = 0 := by decide +kernel

/-- Port 9 in a state, and port 0 in traverse mode. -/
def ported (st : Nat) : State := fieldsAt (upFields ++ [(FP_STAT.STATE 9, st), (FP_STAT.STATE 0, st), (FP_STAT.MODE 0, 1), (FP_STAT.LANES_GOOD 9, 0xFF),
  (FAB_PLAN_PEER.USE 9, 1), (FAB_STAT.MEMBER, 1)])

theorem witness_FabricTakesEffect :
    let open_ : Frame := ⟨1, 0, false, false, [], []⟩
    let s := ported 8
    let lost : Packet := { Packet.blank with op := .slotLoss }
    let sends : State := ⟨{ up.toBlock with int := { up.int with sent := [lost] } }, []⟩
    let missed : State := ⟨{ (fieldsAt (upFields ++ [(FAB_STAT.SYNC_LOST, 1)])) with fab := { s.fab with missing := 2, unsaved := some (13, 0) } }, []⟩
    let armed : State := ⟨s.modPort 9 (fun x => { x with armed := some (1, 5) }), []⟩
    s.portUp 9 = true ∧ s.portUp 0 = true ∧ open_.fseq = ((s.port 9).rxSeq + 1) % 65536 ∧ s.fld (FP_STAT.MODE 9) ≠ 1 ∧ s.bit FAB_STAT.MEMBER = true ∧
    (s.port 9).resend = [] ∧ ((⟨s.modPort 9 (fun x => { x with resend := [open_] }), []⟩ : State).port 9).resend = open_ :: [] ∧
    lost.dst.unit < 16 ∧ (sends.arrive lost).2 = true ∧ s.fab.missing < 2 ∧ 2 ≤ missed.fab.missing ∧ missed.bit FAB_STAT.SYNC_LOST = true ∧
    missed.fab.unsaved = some (13, 0) ∧ admitted up 25 0xA0 5 .fabric [0xA0] (fun _ _ _ _ => true) = true ∧
    admitted up 35 0x90 5 .port [0x90] (fun _ _ _ _ => true) = true ∧ (s.port 9).armed = none ∧ (armed.port 9).armed = some (1, 5) ∧
    admitted up 26 0x84 5 .port [0x84] (fun _ _ _ _ => true) = true ∧
    admitted up 25 0x90 0x7FFF .fabric [0x90] (fun t _ _ _ => genNewer 0x7FFF (t.fld FAB_GEN.GEN)) = true ∧
    3 ≤ s.portState 9 ∧ s.portState 9 ≠ 14 ∧ genNewer 1 (s.fld FAB_GEN.GEN) = true ∧ genNewer 0 (s.fld FAB_GEN.GEN) = false ∧ s.fld FAB_GEN.GEN = 0 ∧
    s.memberMask ≠ 5 := by decide +kernel

theorem witness_PortsTakeEffect :
    let unplanned : State := fieldsAt (upFields ++ [(FAB_PLAN_PEER.USE 9, 0)])
    let offered (st : Nat) : State := ⟨(ported st).modPort 9 (fun x => { x with offered := true }), []⟩
    let said : State := ⟨(ported 8).modPort 9 (fun x => { x with first := some (1, 2, 3), agreed := some (2, 0), asked := some (3, 0x0F) }), []⟩
    let foreign : State := ⟨{ (fieldsAt (upFields ++ [(FP_STAT.STATE 9, 7), (FP_PEER.COORD 9, 256)])) with tr := { up.tr with roots := [5] } }, []⟩
    up.dieActive = true ∧ unplanned.bit (FAB_PLAN_PEER.USE 9) = false ∧ (ported 1).bit (FAB_PLAN_PEER.USE 9) = true ∧
    (∀ st ∈ [0, 1, 2, 3, 5, 6, 7, 8, 9, 10, 12, 13], (ported st).portState 9 = st) ∧ linkLanes 0x03 ≠ 0 ∧ linkLanes 0x02 = 0 ∧
    admitted up 25 0x40 1 .fabric [0x40] (fun _ _ _ _ => true) = true ∧
    (∀ off ∈ [0xAC, 0xBC], admitted up 25 off 0 .fabric [0xAC, 0xB0, 0xB4, 0xB8, 0xBC] (fun _ _ _ _ => true) = true) ∧
    (said.port 9).first = some (1, 2, 3) ∧ ((ported 8).port 9).first = none ∧ (ported 7).fld (FP_PEER.COORD 9) < 256 ∧
    (ported 7).pair (FP_PEER_SN_LO 9) (FP_PEER_SN_HI 9) = 0 ∧ (ported 7).fld (TR_LINK_SVN.MIN 16) ≤ 255 ∧
    256 ≤ foreign.fld (FP_PEER.COORD 9) ∧ foreign.tr.roots.contains 5 = true ∧ ((offered 7).port 9).offered = true ∧
    ((ported 8).port 9).asked = none ∧ (said.port 9).agreed = some (2, 0) ∧ (said.port 9).asked = some (3, 0x0F) ∧
    ((ported 8).fld (FP_STAT.LANES_GOOD 9)).testBit 7 = true ∧
    (∀ op ∈ [1, 2, 3, 4], admitted (ported 14) 35 0x48 (BitVec.ofNat 32 op) .port [0x48] (fun t _ _ _ => decide (t.portState 9 = 14)) = true) := by
  decide +kernel

set_option Elab.async false in
/-- R34: reference column 528 + k of row r holds level (r + k) mod 16. -/
theorem test_reference_levels_wrap :
    refLevel 511 1 = 0 ∧ refLevel 0 15 = 15 := by decide +kernel

/-! ## Witnesses: drovers, residency, serving and the twin -/

/-- The die drover's channel 47 and ridge 0's channel 0 in a state, in a die of the herd. -/
def drove (x : Chan) : State := ⟨((fieldsAt (upFields ++ [(FAB_STAT.MEMBER, 1), (DRV_CTL.STARVE_US 16, 5), (CH_COAL.TIME 16 47, 5),
  (DRV_CTL.STARVE_US 0, 5), (CH_COAL.TIME 0 0, 5),
  (CT_REG_CTL.VALID 0, 1), (CT_REG_CTL.OWNER 0, 0)])).setChan 16 47 x).setChan 0 0 x, []⟩

/-- A transfer from the scratchpad row 3,840 of core 0 of ridge 0 to row 3,841, and one to host memory. -/
def descOf (src dst : Nat) : Desc := ⟨src, dst, 512, true, false, false, false, 0, 0⟩

def rowAddr (n : Nat) : Nat := 2 * 2 ^ 60 + n * 2 ^ 9

theorem witness_DroversTakeEffect :
    let full : Chan := { Chan.reset with queue := List.replicate 16 ⟨none, 0, 0, false, 0, 0⟩ }
    let go (s : State) (page off : Nat) (v : Word) (when : Block → Nat → Nat → Bool) : Bool :=
      admitted s page off v .drvCh ((List.range 16).map (fun k => 0x11C + 0x40 * k)) (fun t p o _ =>
        when (t.storeAt 0 p o v) (droverOf p o).1 (droverOf p o).2)
    let sub : Submission := ⟨some (descOf (rowAddr 3840) (rowAddr 3841)), 0, 0, false, 0, 0⟩
    let run (d : Desc) (out : List (Nat × Option Row)) : DescRun := ⟨d, 0, 0, out, [], 0, false⟩
    let at_ (d : Desc) (out : List (Nat × Option Row)) : State := drove { Chan.reset with current := some sub, descs := [run d out] }
    let chain (a : Nat) : State := drove { Chan.reset with fetch := some a, current := some sub }
    let far : Nat := rowAddr 3840 + 2 ^ 59
    let reply : Packet := { Packet.blank with op := .getData, dstCore := 32, tag := beatTag 0 0 0 }
    let beat (write : Nat) : Packet := { Packet.blank with op := .drvBeat, addr := 2 ^ 60, arg := write + 512 * 2 }
    let sends (s : State) (p : Packet) : State := ⟨{ s.toBlock with int := { s.int with sent := [p] } }, []⟩
    go (drove Chan.reset) (drvChPage 16 47) (drvChBase 47 + 0x1C) 1 (fun t k ch => decide (k = 16 ∧ ch = 47) && !t.chanFull k ch) = true ∧
    go (drove full) (drvChPage 0 0) (drvChBase 0 + 0x1C) 1 (fun t k ch => decide (k = 0 ∧ ch = 0) && t.chanFull k ch) = true ∧
    go (drove Chan.reset) (drvChPage 0 0) (drvChBase 0 + 0x1C) 0x20 (fun _ _ _ => true) = true ∧
    (((chain 1).startEntry 16 47).chan 16 47).fetch = some 1 ∧ chainPlace 16 1 = false ∧
    (((chain 64).startEntry 16 47).chan 16 47).fetch = some 64 ∧ chainPlace 16 64 = true ∧ ((chain 64).startEntry 16 47).beatBar 16 47 64 64 false = none ∧
    addrSpace 64 = 0 ∧ chainPlace 0 (2 ^ 60) = true ∧ addrSpace (2 ^ 60) ≠ 0 ∧ addrRemote (2 ^ 60) = false ∧ addrOnRidge (2 ^ 60) = false ∧
    (((at_ (descOf (rowAddr 3840) (rowAddr 3841)) []).startAll 0).grantChannel 0) = some 0 ∧
    (at_ (descOf (rowAddr 3840) (rowAddr 3841)) []).fld (DRV_CTL.STARVE_US 0) ≠ 0 ∧ channelExists 0 0 = true ∧
    (at_ (descOf (rowAddr 3840) (rowAddr 3841)) []).beatReady 0 0 = true ∧
    ((at_ (descOf 0 (rowAddr 3841)) [(0, none)]).chan 0 0).descs[0]? = some (run (descOf 0 (rowAddr 3841)) [(0, none)]) ∧
    addrSpace (addrAt 0 0) = 0 ∧ addrRemote (addrAt (rowAddr 3841) 0) = false ∧ addrSpace (addrAt far 0) ≠ 0 ∧ addrRemote (addrAt far 0) = true ∧
    ((sends (at_ (descOf far (rowAddr 3841)) [(0, none)]) reply).beatReply 0 (run (descOf far (rowAddr 3841)) []) 0 (some reply)).isSome = true ∧
    addrSpace (rowAddr 3841) ≠ 3 ∧ (drove { Chan.reset with coalesced := 1 }).fld (CH_COAL.TIME 0 0) ≠ 0 ∧
    (∀ w ∈ [0, 1], (beat w).op = .drvBeat ∧ addrSpace (beat w).addr = 1 ∧ ((sends (drove Chan.reset) (beat w)).arrive (beat w)).2 = true ∧
      ((sends (drove Chan.reset) (beat w)).arrive (beat w)).1.beatRefused (beat w) 512 (decide ((beat w).arg % 2 = 1)) = none) := by
  decide +kernel

/-- A parcel slot's state with a parcel, a key for ridge 0, and the store's rows empty. -/
def parcelled (p : Parcel) (l : List (Field × Nat)) : State := ⟨{ (fieldsAt (upFields ++ [(RZ_CTL.EN, 1), (RZ_P_STAT.STATE 3, 1), (RZ_P_STAT.STATE 0, 1),
  (⟨RZ_P_LEN 3, 0, 32⟩, 1000)] ++ l)) with
    res := { up.res with parcels := [(0, p), (3, p)] }, tr := { up.tr with keys := [(5, ⟨1, true, false, 0⟩)] } }, []⟩

theorem witness_ResidencyTakesEffect :
    let p : Parcel := { Parcel.start with accepted := true, records := 3, next := 1, keySlot := 5 }
    let s := parcelled p []
    let header : BitVec 1024 := BitVec.ofNat 1024 (0x4C504B47 + 2 ^ 32 + 3 * 2 ^ 96 + 5 * 2 ^ 128)
    let x (d : Nat) : BlockRecord := parseRecord (BitVec.ofNat 512 d) 0 0
    let slabRec : Nat := 2 ^ 56
    let q : Parcel := { p with next := 2, pos := p.pos + recordBytes 1 }
    let probing : State := ⟨{ s.toBlock with res := { s.res with records := [⟨0, 0, 0, 0, 2, false, .probing, { x 0 with width := 1 }⟩] } }, []⟩
    let freed : State := ⟨{ (fieldsAt (upFields ++ [(RZ_FLIP_STAT.STATE 0, 2)])) with res := { up.res with heldExit := [0], exporting := some 5 } }, []⟩
    admitted up 12 0x58 1 .residency [0x58] (fun t _ _ n => decide (t.fld (RZ_P_STAT.STATE n) ≠ 1)) = true ∧
    admitted s 12 0x58 2 .residency [0x58] (fun t _ _ n => decide (t.fld (RZ_P_STAT.STATE n) = 1) && (SMap.find n t.res.parcels).any (·.accepted)) = true ∧
    admitted (parcelled Parcel.start []) 12 0x58 2 .residency [0x58] (fun t _ _ n => decide (t.fld (RZ_P_STAT.STATE n) = 1) &&
      (SMap.find n t.res.parcels).any (fun y => !y.accepted)) = true ∧
    SMap.find 3 (parcelled Parcel.start []).res.parcels = some Parcel.start ∧ Parcel.start.accepted = false ∧ s.headerCode 0 = 1 ∧ s.headerCode header = 0 ∧
    addrSpace (s.pair (RZ_P_ADDR_LO 3) (RZ_P_ADDR_HI 3)) ≤ 1 ∧
    SMap.find 3 s.res.parcels = some p ∧ p.accepted = true ∧ p.stopped = false ∧ p.next < p.records ∧ s.bit RZ_CTL.EN = true ∧
    q.pos ≤ (s.reg (RZ_P_LEN 3)).toNat * 64 ∧ 0 < p.next ∧ q.pos > (s.reg (RZ_P_LEN 0)).toNat * 64 ∧ s.unpackWaits (x slabRec) = false ∧
    SMap.find 5 s.tr.keys = some ⟨1, true, false, 0⟩ ∧ s.placement 3 q (x 0) = 0 ∧ s.placement 3 q (x slabRec) = 0 ∧ (x slabRec).width ≠ 0 ∧ (x slabRec).src = 0 ∧
    s.placement 3 q (x (slabRec + 2 ^ 32)) = 3 ∧ (x (slabRec + 2 ^ 62)).src = 1 ∧
    ((probing.recordsOn 0 0 0 2).filter (fun y => decide (y.stage = .probing))) ≠ [] ∧
    admitted up 12 0xA0 1 .residency [0xA0] (fun t p o r => let u := t.storeAt 0 p o 1
      decide (u.fld (RZ_FLIP_STAT.STATE r) ≠ 1 ∧ u.fld (RZ_FLIP_STAT.STATE r) ≠ 2) && !u.rebuilding r) = true ∧
    freed.fld (RZ_FLIP_STAT.STATE 0) = 2 ∧ SMap.find 0 freed.res.freeing = none ∧ (freed.ri 0).openSteps = [] ∧
    admitted up 12 0xA8 1 .residency [0xA8] (fun _ _ _ _ => true) = true ∧ freed.res.heldExit.contains 0 = true ∧ freed.recordsLeft 0 = false ∧
    admitted s 12 0xC0 0x501 .residency [0xC0] (fun t _ _ _ => decide (t.res.exporting = none) && t.exportOk 5) = true ∧
    admitted s 12 0xC0 0x601 .residency [0xC0] (fun t _ _ _ => decide (t.res.exporting = none) && !t.exportOk 6) = true ∧
    admitted freed 12 0xC0 2 .residency [0xC0] (fun t _ _ _ => t.res.exporting.isSome) = true ∧ freed.res.exporting.isSome = true := by decide +kernel

theorem witness_ServingTakesEffect :
    let on : State := fieldsAt (upFields ++ [(SV_CTL.EN, 1), (SV_SQ_CFG.EN 0, 1), (SV_SQ_CFG.LOG2 0, 10), (⟨SV_SQ_TAIL 0, 0, 32⟩, 1),
      (SV_SCHED.MODE 0, 1), (⟨SYNC_VAL 0 0, 0, 32⟩, 1), (SV_RING_CFG.COAL_TIME 255, 5)])
    let seq : Seq := ⟨1, [], 0, 0, false, false, 0, 0, 0, 0, 1, 0, 0, 0, 0, 1, 2, 0, ⟨1, [], 0, 0, false⟩, ⟨1, [], 0, 0, false⟩, [], [], 0, 0, 0, [], 0, none, 0⟩
    let walks : State := ⟨(on.modServ (fun y => { y with
      seqs := [(32767, seq)], ringPend := [(255, 1)], batches := [⟨0, 7, 0, [], [], [], [], []⟩] })), []⟩
    let sends (op : PktOp) : Packet × State :=
      let p : Packet := { Packet.blank with op := op, dst := ⟨0, 0, 16⟩ }
      (p, ⟨{ on.toBlock with int := { on.int with sent := [p] } }, []⟩)
    admitted on 13 0x70 1024 .serving [0x70] (fun t _ _ r => decide ((1024 - t.reg (SV_SQ_HEAD r)).toNat ≤ 2 ^ t.fld (SV_SQ_CFG.LOG2 r))) = true ∧
    admitted on 13 0x70 1025 .serving [0x70] (fun t _ _ r => decide (2 ^ t.fld (SV_SQ_CFG.LOG2 r) < (1025 - t.reg (SV_SQ_HEAD r)).toNat)) = true ∧
    on.bit SV_CTL.EN = true ∧ on.bit (SV_SQ_CFG.EN 0) = true ∧ on.reg (SV_SQ_HEAD 0) ≠ on.reg (SV_SQ_TAIL 0) ∧ on.hostWaits 0 = false ∧
    (∀ op ∈ [1, 2, 3, 4, 5, 6], reqField (BitVec.ofNat 512 op) 0 1 = op) ∧
    walks.seq? 32767 = some seq ∧ seq.state = 1 ∧ walks.hostWaits seq.ridge = false ∧ on.composes 0 = true ∧
    (∀ op ∈ [PktOp.emit, .commitMsg, .retractMsg], ((sends op).2.arrive (sends op).1).2 = true ∧ (sends op).1.dst.unit = 16) ∧
    (walks.serv.batches.find? (fun b => decide (b.ridge = 0 ∧ b.step = 7))).isSome = true ∧ SMap.get 0 walks.serv.ringPend 255 ≠ 0 ∧
    walks.fld (SV_RING_CFG.COAL_TIME 255) ≠ 0 ∧
    admitted on 13 0x10C 0 .serving [0x10C] (fun t _ _ g => decide ((0 - t.reg (SV_RING_HEAD g)).toNat ≤ (t.reg (SV_RING_TAIL g) - t.reg (SV_RING_HEAD g)).toNat)) = true ∧
    admitted on 13 0x10C 1 .serving [0x10C] (fun t _ _ g => decide ((t.reg (SV_RING_TAIL g) - t.reg (SV_RING_HEAD g)).toNat < (1 - t.reg (SV_RING_HEAD g)).toNat)) = true ∧
    (∀ off ∈ [0x118, 0x11C, 0x124], admitted up 13 off 0 .serving [0x118, 0x11C, 0x124] (fun t _ _ _ => !t.bit SV_CTL.EN) = true) ∧
    (∀ off ∈ [0x11C, 0x124], admitted on 13 off 0 .serving [0x118, 0x11C, 0x124] (fun t _ o idx => t.bit SV_CTL.EN && decide (o ≠ 0x118) &&
      (List.range 16).any (fun r => decide (t.activeVer r = if o = 0x124 then idx / 256 else idx / 32768))) = true) ∧
    admitted on 14 0x70 0xF1 .walker [0x70] (fun _ _ _ _ => true) = true ∧ admitted on 13 0xF0 5 .serving [0xF0] (fun _ _ _ _ => true) = true := by decide +kernel

theorem witness_TwinTakesEffect :
    let epoch (n : Nat) : Machine.Epoch := ⟨n, [], [], 0, [], [], [], [], [], [], []⟩
    let role (n st : Nat) : State := ⟨(fieldsAt (upFields ++ [(TW_CTL.ROLE, n), (TW_STAT.STATE, st), (⟨TW_RESUME_EPOCH, 0, 32⟩, 5)])).modTw (fun y =>
      { y with held := [epoch 5], sent := [epoch 6] }), []⟩
    admitted up 10 0x44 1 .dieInt [0x44] (fun t _ _ _ => !t.bit MG_CFG.FS_OWNER) = true ∧ (role 2 0).fld TW_CTL.ROLE = 2 ∧
    (role 1 0).fld TW_CTL.ROLE = 1 ∧ stepBefore ((role 1 0).reg TW_ACKED).toNat 6 = true ∧ (role 1 0).tw.sent ≠ [] ∧
    admitted (role 0 0) 10 0x64 1 .dieInt [0x64] (fun t _ _ _ => (t.tw.held.find? (fun e => decide (e.num = (t.reg TW_RESUME_EPOCH).toNat))).isSome) = true ∧
    admitted up 10 0x64 1 .dieInt [0x64] (fun t _ _ _ => (t.tw.held.find? (fun e => decide (e.num = (t.reg TW_RESUME_EPOCH).toNat))).isNone) = true ∧
    admitted (role 1 0) 10 0x64 2 .dieInt [0x64] (fun t _ _ _ => decide (t.fld TW_CTL.ROLE = 1)) = true ∧ (role 1 2).fld TW_STAT.STATE = 2 := by decide +kernel

set_option Elab.async false in
/-- R14's example: band 3 at 89.0 °C, band 4 at 90.0 °C, still band 4 at 88.5 °C, band 3 again at 87.9 °C. -/
theorem test_bands_of_the_example :
    [nextBand 3 (some 1424), nextBand 3 (some 1440), nextBand 4 (some 1416), nextBand 4 (some 1406)] = [3, 4, 4, 3] := by decide +kernel

/-! ## Witnesses: integrity and trust -/

/-- The up state with the integrity unit of ridge 0 given. -/
def guarded (x : RidgeInt) : State := ⟨up.setRi 0 x, []⟩

/-- A classification of slab 2 of engine 7, or of the vector unit, at a site of ridge 0, at a stage. -/
def classOf (engine kind stage : Nat) : Classify := ⟨33, engine, 2, kind, 5, 0, 0, [511], 0, stage⟩

/-- A slab under test that serves nothing and whose column map leaves no physical column to a probe, while slab 8 stands in for
it. -/
def underTest : State :=
  ⟨((guarded { RidgeInt.reset with ift := some (0, 0) }).modSlab 0 0 0 0 (fun b => { b with
    state := .outForRefresh, colmap := (List.range 528).map (fun j => (16 + j, j)), defective := List.range 16 })).modSlab 0 0 0 8
      (fun b => { b with state := .standin, replaces := 0 }), []⟩

theorem underTest_skips : (List.range 544).all (underTest.probeSkips 0 0 0 0) = true := by decide +kernel

theorem underTest_passes (n : Nat) : underTest.testPass 0 0 0 0 n [] = [] := by
  unfold Block.testPass
  refine List.filter_eq_nil_iff.mpr fun col h => ?_
  simp only [List.all_eq_true.mp underTest_skips col h, Bool.not_true, Bool.false_and, Bool.false_eq_true, not_false_eq_true]

theorem underTest_targets : ∀ row < 512, ∀ col < 544,
    (underTest.cellTarget 0 0 0 0 row col).nominal = if col < 528 then 18000 else levelG (refLevel row (col - 528)) := by
  have hl : ∀ l < 512, rowLevel blankRow l = 8 := by decide +kernel
  have ht : ∀ k < 16, tallyG (tallyCode (((List.range 32).map (fun j => rowLevel blankRow (32 * k + j))).sum)) = 18000 := by decide +kernel
  have hi : ∀ row, underTest.imageRow 0 (underTest.imageCore 0 0) 0 (underTest.imageSlot 0 0 0 0) row = blankRow := by
    have h0 : underTest.store.image = [] := by decide +kernel
    intro row
    unfold Block.imageRow
    rw [h0]
    rfl
  have hm : ∀ k < 16, (SMap.find k (underTest.slab 0 0 0 0).colmap).orElse
      (fun _ => SMap.find k (underTest.slab 0 0 0 0).stagedMap) = none := by decide +kernel
  intro row _ col hc
  unfold Block.cellTarget
  split
  · rename_i h
    unfold Block.logicalTarget
    rw [hi]
    by_cases h5 : col < 512
    · simp [h5, hl col h5, levelG]
    · simpa [h5] using ht (col - 512) (by omega)
  · rename_i h
    simp only [hm (col - 528) (by omega)]

theorem factoryRow_getD (row col : Nat) (h : col < 544) :
    (factoryRow row).getD col 0 = if col < 528 then 18000 else levelG (refLevel row (col - 528)) := by
  unfold factoryRow
  simp [List.getD, h]

theorem underTest_scan : (underTest.scanSlab 0 0 0 0).1 = [] := by
  have hr : ∀ row < 512, underTest.outside 0 0 0 0 row (underTest.cellRow 0 0 0 0 row) = [] := by
    intro row hrow
    have : underTest.cellRow 0 0 0 0 row = factoryRow row := by
      have h0 : underTest.store.cells = [] := by decide +kernel
      unfold Block.cellRow
      rw [h0]
      simp only [SMap.find, Option.getD_none]
    rw [this]
    unfold Block.outside
    dsimp only
    rw [List.filter_eq_nil_iff]
    intro col h
    rw [List.mem_range] at h
    rw [underTest_targets row hrow col h, factoryRow_getD row col h]
    simp [within]
  unfold Block.scanSlab
  dsimp only
  rw [List.filter_eq_nil_iff]
  intro col _
  simp only [List.any_eq_true, List.mem_map, List.mem_range, not_exists, not_and]
  rintro l ⟨row, hrow, rfl⟩
  simp [hr row hrow]

theorem distinct_ne_nil {l : List Nat} {a : Nat} (h : a ∈ l) : distinct l ≠ [] := by
  cases l with
  | nil => cases h
  | cons x rest => simp [distinct, List.eraseDups_cons]

theorem canTake_of_full (s : Block) (r c e p : Nat) {cols : List Nat} (hc : cols ≠ []) (h : (s.slab r c e p).nextScree = none) :
    s.canTake r c e p cols = false := by
  have hn : ∀ l : List Nat, l.foldl (fun (x : Option Slab) col => x.bind (fun y => y.stageColumn (((s.slab r c e p).logicalOf col).getD col))) none = none := by
    intro l
    induction l with
    | nil => rfl
    | cons a l ih => simpa using ih
  have hs : ∀ l, (s.slab r c e p).stageColumn l = none := by simp [Slab.stageColumn, h]
  cases cols with
  | nil => exact absurd rfl hc
  | cons a l => simp [Block.canTake, hs, hn]

theorem countPass_nextScree (s : Block) (r c e p : Nat) : ((s.countPass r c e p).slab r c e p).nextScree = (s.slab r c e p).nextScree := by
  have h1 : ∀ (t : Block) (x : CairnSt), ({ t with cairn := x } : Block).slab r c e p = t.slab r c e p := fun _ _ => rfl
  have h2 : ∀ (t : Block) (f : Slab → Slab), (t.modSlab r c e p f).slab r c e p = f (t.slab r c e p) := by
    simp [Block.modSlab, Block.setSlab, Block.slab]
  have h3 : ∀ lo hi n, (s.setPair lo hi n).slab r c e p = s.slab r c e p := fun _ _ _ => rfl
  have h4 : ∀ (b : Slab) (n m : Nat), ({ b with passes := n, readCount := m } : Slab).nextScree = b.nextScree := fun _ _ _ => rfl
  unfold Block.countPass
  rw [h1, h2, h4, h3]

theorem countPasses_nextScree (n : List Nat) (s : Block) (r c e p : Nat) :
    ((n.foldl (fun t _ => t.countPass r c e p) s).slab r c e p).nextScree = (s.slab r c e p).nextScree := by
  induction n generalizing s with
  | nil => rfl
  | cons a n ih => rw [List.foldl_cons, ih, countPass_nextScree]

/-- One cell of the slab under test lies at 0. -/
def underTestMoved : List (Fin 512 × Fin 544 × Nat) := [(0, 0, 0)]

theorem underTestMoved_scan : 0 ∈ ((underTest.moveCells 0 0 0 0 underTestMoved).scanSlab 0 0 0 0).1 := by
  unfold Block.scanSlab
  dsimp only
  rw [List.mem_filter]
  refine ⟨by simp, ?_⟩
  rw [List.any_eq_true]
  exact ⟨_, List.mem_map.mpr ⟨0, by simp, rfl⟩, by decide +kernel⟩

theorem witness_IntegrityTakesEffect_engineTests :
    let t0 := underTest.moveCells 0 0 0 0 []
    let t1 := underTest.moveCells 0 0 0 0 underTestMoved
    let fails (t : Block) := distinct (((List.range 528).map (fun n => t.testPass 0 0 0 0 n [])).flatten ++ (t.scanSlab 0 0 0 0).1)
    let u1 := (List.range 528).foldl (fun t _ => t.countPass 0 0 0 0) t1
    let u1 := (u1.wrapReg (ENG_CHK_PASSES 0 0 0) 528).addSat (ENG_PROBE_CNT.PASSES 0 0 0) 528
    let u1 := u1.setRi 0 { u1.ri 0 with iftSlab := 1 }
    (underTest.ri 0).ift = some (0, 0) ∧ (underTest.ri 0).iftSlab = 0 ∧ underTest.standsFor 0 0 0 0 = true ∧
    (underTest.slab 0 0 0 0).state = .outForRefresh ∧ underTest.columnsLeft 0 0 0 0 = false ∧ underTest.acts 0 = [] ∧
    fails t0 = [] ∧ fails t1 ≠ [] ∧ u1.canTake 0 0 0 0 (fails t1) = false := by
  have h1 : distinct (((List.range 528).map (fun n => (underTest.moveCells 0 0 0 0 underTestMoved).testPass 0 0 0 0 n [])).flatten ++
      ((underTest.moveCells 0 0 0 0 underTestMoved).scanSlab 0 0 0 0).1) ≠ [] :=
    distinct_ne_nil (List.mem_append_right _ underTestMoved_scan)
  refine ⟨by decide +kernel, by decide +kernel, by decide +kernel, by decide +kernel, by decide +kernel, by decide +kernel, ?_, h1, ?_⟩
  · show distinct (((List.range 528).map (fun n => underTest.testPass 0 0 0 0 n [])).flatten ++ (underTest.scanSlab 0 0 0 0).1) = []
    rw [underTest_scan]
    simp only [underTest_passes, List.append_nil]
    decide +kernel
  · refine canTake_of_full _ _ _ _ _ h1 ?_
    have h2 : ((underTest.moveCells 0 0 0 0 underTestMoved).slab 0 0 0 0).nextScree = none := by decide +kernel
    rw [← countPasses_nextScree (List.range 528)] at h2
    have h3 : ∀ (u : Block) (k n m : Nat) (f : Field) (x : RidgeInt),
        (((u.wrapReg k n).addSat f m).setRi 0 x).slab 0 0 0 0 = u.slab 0 0 0 0 := fun _ _ _ _ _ _ => rfl
    rw [h3]
    exact h2

theorem witness_IntegrityTakesEffect :
    let stepping : State := ⟨(fieldsAt (upFields ++ [(RI_STEP_CFG.QUORUM 0, 2)])).setReg (SYNC_VAL 0 ((fieldsAt []).fld (RI_STEP_CFG.CELL 0))) 2, []⟩
    let committing : State := ⟨(guarded { RidgeInt.reset with openSteps := [(0, 0)] }).setReg (RI_STEP 0) 1, []⟩
    let msg (op : PktOp) : Packet := { Packet.blank with op := op, step := 4 }
    let sent (op : PktOp) : State := ⟨{ up.toBlock with int := { up.int with sent := [msg op] } }, []⟩
    let replaying (drained : Bool) (l : List Classify) : State :=
      guarded { RidgeInt.reset with replay := some ⟨5, 1, 7⟩, drained := drained, classes := l }
    let classed (e kind stage : Nat) : State := guarded { RidgeInt.reset with classes := [classOf e kind stage] }
    let err : List Int := List.replicate 544 0
    let mirrored (h : List HistEntry) : State :=
      ⟨((classed 7 1 2).modSlab 0 33 7 8 (fun b => { b with state := .mirror, replaces := 2 })).modEngine 0 33 7
        (fun x => { x with history := h }), []⟩
    let h : HistEntry := ⟨EngCmd.blank .fire, 2, [0], List.replicate 528 511⟩
    let waiting (st : Nat) : State := ⟨(guarded { RidgeInt.reset with ift := some (33, 8) }).setFld (RI_IFT_STAT.STATE 0) st, []⟩
    let testing (k : Option Nat) : State := ⟨(fieldsAt (upFields ++ [(CORE_STAT.STATE 0 33, 6)])).modCore 0 33 (fun x => { x with testOf := k }), []⟩
    stepping.advances 0 = true ∧ (committing.ri 0).openSteps = (0, 0) :: [] ∧ committing.commits 0 0 = true ∧
    (∀ op ∈ [PktOp.commitMsg, PktOp.retractMsg], ((sent op).arrive (msg op)).2 = true ∧ (msg op).dst.unit < 16 ∧ (msg op).op = op) ∧
    (∀ d ∈ [true, false], ((replaying d []).ri 0).replay = some ⟨5, 1, 7⟩ ∧ (replaying d []).bit (RI_STAT.STUCK 0) = false ∧
      (let u := if ((replaying d []).ri 0).drained then (replaying d []).toBlock else (replaying d []).replayDrain 0 5
       u.passesDone 0 = true ∧ u.classHolds 0 5 = false)) ∧
    (replaying true [classOf 7 1 0]).classHolds 0 5 = true ∧
    (∀ kind ∈ [0, 1, 2, 3, 4], (classed 7 kind 0).classAt 0 33 7 0 = some (classOf 7 kind 0) ∧ ((classed 7 kind 0).engine 0 33 7).pass = none) ∧
    (classed 8 4 0).classAt 0 33 8 0 = some (classOf 8 4 0) ∧ err.length = 544 ∧
    (∀ l ∈ [[], [h]], (mirrored l).classAt 0 33 7 2 = some (classOf 7 1 2) ∧ (mirrored l).mirrors 0 33 7 2 = true ∧
      ((mirrored l).engine 0 33 7).pass = none ∧ ((mirrored l).engine 0 33 7).history = l) ∧
    ((mirrored [h]).echoRun 0 33 7 8 h err).2 ≠ [] ∧
    (classed 7 1 1).classAt 0 33 7 1 = some (classOf 7 1 1) ∧ (mirrored []).classAt 0 33 7 1 = none ∧
    (fieldsAt [(RI_CTL.IFT_EN 0, 1), (RI_IFT_CTL.PERIOD_H 0, 24)]).bit (RI_CTL.IFT_EN 0) = true ∧
    (fieldsAt [(RI_CTL.IFT_EN 0, 1), (RI_IFT_CTL.PERIOD_H 0, 24)]).fld (RI_IFT_CTL.PERIOD_H 0) ≠ 0 ∧
    admitted up (ridgePage 0 3) 0x84 0x80000221 .ridgeInt [0x84] (fun _ _ _ _ => decide (getBits (0x80000221 : Word) 31 1 = 1)) = true ∧
    (∀ st ∈ [1, 2], ((waiting st).ri 0).ift = some (33, 8) ∧ (waiting st).fld (RI_IFT_STAT.STATE 0) = st ∧ SMap.find 0 (waiting st).mig = none) ∧
    (∀ k ∈ [none, some 31], (testing k).fld (CORE_STAT.STATE 0 33) = 6 ∧ ((testing k).coreAt 0 33).testOf = k) := by decide +kernel

/-- The page, the double word and a mailbox operation of the die's page. -/
def mboxOp (op len : Nat) : MailboxOp := ⟨16, 0, op, 1, 0, len, true, true, none⟩

theorem witness_TrustMailboxTakesEffect :
    let page (p : Nat) := if p = diePage 8 then 16 else ridgeOfPage p
    let bound : Block := up.setFld (TR_RIDGE_STAT.STATE 16 1) 1
    let begun (b : Block) (o : MailboxOp) : Except Nat Block :=
      (((b.setFld (TR_MBOX_STAT.STATE o.page) 1).setFld (TR_MBOX_STAT.RESULT o.page) 0).setFld (TR_MBOX_STAT.OP o.page) o.op).mboxRun o
    let ok (x : Except Nat Block) : Bool := match x with | .ok _ => true | .error _ => false
    (∀ op ∈ [1, 2, 3, 4, 5, 6, 7, 8, 9], admitted up (diePage 8) 0x44 (BitVec.ofNat 32 op) .trust [0x44]
      (fun t p _ _ => decide (getBits (BitVec.ofNat 32 op) 0 4 = op ∧ t.fld (TR_MBOX_STAT.STATE (page p)) ≠ 1)) = true ∧
      admitted up (ridgePage 0 4) 0x44 (BitVec.ofNat 32 op) .trust [0x44]
      (fun t p _ _ => decide (getBits (BitVec.ofNat 32 op) 0 4 = op ∧ t.fld (TR_MBOX_STAT.STATE (page p)) ≠ 1)) = true) ∧
    bound.tr.mbox = [] ∧ ok (begun bound (mboxOp 9 0)) = true ∧ ok (begun bound (mboxOp 2 0)) = true ∧ ok (begun bound (mboxOp 8 0)) = false ∧
    (bound.modTr (fun y => { y with mbox := [mboxOp 2 0, mboxOp 9 0] })).tr.mbox = mboxOp 2 0 :: [mboxOp 9 0] := by decide +kernel

theorem witness_SpdmAnswers :
    let at' (l : List Session) : State := ⟨up.setSessions l, []⟩
    up.measured 1 = some [] ∧ (up.measured 48).isSome = true ∧ up.measured 49 = none ∧ (0 : Fin 8).val ≤ 1 ∧ (1 : Fin 8).val ≤ 1 ∧ 1 < (7 : Fin 8).val ∧
    (at' (List.replicate 7 ⟨2, false, 0⟩)).tr.sessions.length < 8 ∧ 8 ≤ (at' (List.replicate 8 ⟨2, false, 0⟩)).tr.sessions.length ∧
    ((at' [⟨1, true, 0⟩]).session 1).isSome = true ∧ (at' [⟨1, true, 0⟩]).session 0 = none ∧
    ((at' [⟨1, true, 0⟩]).session 1).any (·.open') = true ∧ ((at' [⟨1, false, 0⟩]).session 1).any (·.open') = false := by decide +kernel

set_option Elab.async false in
/-- R119: an accumulator saturates at 48 bits. -/
theorem test_accumulators_saturate :
    sat48 (2 ^ 47) = 2 ^ 47 - 1 ∧ sat48 (-(2 ^ 47) - 1) = -(2 ^ 47) := by decide +kernel

/-! ## Witnesses: power -/

theorem witness_PowerTakesEffect :
    let die (st : Nat) (l : List (Field × Nat)) : State := fieldsAt ([(PM_DIE_STAT.STATE, st)] ++ l)
    let wr (s : State) (off op : Nat) (when : Block → Nat → Bool) : Bool :=
      admitted s (diePage 2) off (BitVec.ofNat 32 op) .power [off] (fun t _ _ r => when t r)
    let pow (s : State) (f : PowSt → PowSt) : State := ⟨{ s.toBlock with pow := f s.pow }, []⟩
    let ridge (st : Nat) (l : List (Field × Nat)) : State := die 2 ([(PM_RIDGE_STAT.STATE 15, st)] ++ l)
    let entry (step : Nat) : State := ridge 4 [(PM_RIDGE_STAT.ENTRY_STEP 15, step)]
    let all (f : Nat → Field) : List (Field × Nat) := (List.range 11).map (fun k => (f k, 1))
    let rails : State := die 2 (all (fun k => PM_RAIL_STAT.EN k) ++ all (fun k => PM_RAIL_STAT.PG k))
    (∀ op ∈ [1, 3], wr (die 1 []) 0x40 op (fun t _ => t.dieStandby) = true ∧ wr (die 2 []) 0x40 op (fun t _ => !t.dieStandby) = true) ∧
    wr (die 2 []) 0x40 2 (fun t _ => t.dieActive && (List.range 16).all (fun r => decide (t.ridgeState r = 3))) = true ∧
    wr up 0x40 2 (fun t _ => !(t.dieActive && (List.range 16).all (fun r => decide (t.ridgeState r = 3)))) = true ∧
    wr up 0x50 1 (fun _ _ => true) = true ∧
    (∀ op ∈ [2, 3], wr up 0x50 op (fun t r => t.entryAllowed r) = true ∧ wr (die 1 []) 0x50 op (fun t r => !t.entryAllowed r) = true) ∧
    wr (die 1 []) 0x60 1 (fun t _ => t.dieStandby) = true ∧ wr up 0x60 1 (fun t _ => !t.dieStandby) = true ∧
    (∀ st ∈ [2, 3], let s : State := ⟨(ridge st []).setReg (PM_RIDGE_TIMER 15) 1, []⟩
      s.reg (PM_RIDGE_TIMER 15) ≠ 0 ∧ s.ridgeState 15 = st) ∧
    (ridge 0 []).ridgeState 15 = 0 ∧ (ridge 0 []).idle 15 = true ∧ (ridge 0 []).pow.returnOff.contains 15 = false ∧
    (pow (ridge 0 []) (fun x => { x with returnOff := [15] })).pow.returnOff.contains 15 = true ∧
    (pow (ridge 0 []) (fun x => { x with returnOff := [15] })).idle 15 = true ∧
    (ridge 1 [(PM_RIDGE_CFG.AUTO_NAP 15, 1)]).ridgeState 15 = 1 ∧ (ridge 1 [(PM_RIDGE_CFG.AUTO_NAP 15, 1)]).bit (PM_RIDGE_CFG.AUTO_NAP 15) = true ∧
    (ridge 1 [(PM_RIDGE_CFG.AUTO_NAP 15, 1)]).coresHalted 15 = true ∧
    (∀ step ∈ [2, 4, 5], (entry step).entryAt 15 step = true ∧ (entry step).abandons 15 = false ∧
      (pow (entry step) (fun x => { x with wakePending := [15] })).entryAt 15 step = true ∧
      (pow (entry step) (fun x => { x with wakePending := [15] })).abandons 15 = true) ∧
    (let t (x : State) : Block := x.suspendRuns (fun x => decide (x = 15))
     let woken := pow (entry 4) (fun x => { x with wakePending := [15] })
     let reset := pow (entry 4) (fun x => { x with resetting := [15] })
     (t reset).pow.resetting.contains 15 = true ∧ (t woken).pow.resetting.contains 15 = false ∧ (t woken).abandons 15 = true ∧
     (t (entry 4)).pow.resetting.contains 15 = false ∧ (t (entry 4)).abandons 15 = false) ∧
    (ridge 5 []).ridgeState 15 = 5 ∧ (ridge 5 []).dieActive = true ∧ (die 0 []).dieHold = true ∧
    (∀ k ∈ [0, 1, 2], rails.bit (PM_RAIL_STAT.EN k) = true ∧ rails.bit (PM_RAIL_STAT.WARN k) = false) ∧
    (pow rails (fun x => { x with lvRails := [2, 0] })).pow.lvRails = 2 :: [0] ∧ rails.pow.off = false ∧
    (∀ k ∈ [0, 1, 2, 3, 6, 7, 10], rails.bit (PM_RAIL_STAT.EN k) = true ∧ rails.bit (PM_RAIL_STAT.PG k) = true) ∧
    rails.bit PM_PF_STAT.LATCHED = false ∧ rails.bit CAIRN_CTL.FREEZE = false ∧
    (let s := die 2 [(PM_PF_STAT.LATCHED, 1), (PM_PF_STAT.FLUSH_DONE, 1)]
     s.bit PM_PF_STAT.LATCHED = true ∧ s.bit PM_PF_STAT.FLUSH_DONE = true ∧ s.pow.railDown = none) ∧ up.dieActive = true := by decide +kernel

set_option Elab.async false in
/-- R4: the bits of a field. -/
theorem test_bits_of_a_word :
    getBits 0xF0 4 4 = 15 ∧ putBits 0 28 4 15 = 0xF0000000 := by decide +kernel

/-! ## Witnesses: the lookout, calibration and the cairn -/

theorem witness_LookoutTakesEffect :
    let work (k : LookKind) (first : Option Nat) : LookWork := ⟨k, first, false⟩
    let conv (n : Nat) (x : LookConv) : State := ⟨((up.setConv n x).setReg (LK_SCAN_DATA (n * 64 + 63)) 0x80000000).setBit (LK_CTL.EN n) true, []⟩
    let urgent (n : Nat) (f : Word → Bool) : Bool := admitted up 3 0x54 (BitVec.ofNat 32 n) .lookout [0x54] (fun _ _ _ _ => f (BitVec.ofNat 32 n))
    let sensors (l : List (Field × Nat)) : State := fieldsAt (upFields ++ l)
    (∀ n ∈ [0, 1, 2], (conv n LookConv.reset).convOn n = true ∧
      (∀ k ∈ fixedScan n, ((conv n LookConv.reset).conv n).fixed.contains k = false) ∧
      ((conv n { LookConv.reset with fixed := [.check] }).conv n).fixed.contains .check = true ∧ (fixedScan n).contains .check = true ∧
      ((conv n { LookConv.reset with running := some (work (.diode 3) none) }).conv n).running = some (work (.diode 3) none) ∧
      (conv n LookConv.reset).isPair n (.diode 3) = true ∧ (conv n LookConv.reset).isPair n (.tap 4) = false ∧
      getBits ((conv n LookConv.reset).reg (LK_SCAN_DATA (n * 64 + 63))) 31 1 = 1 ∧ getBits ((conv n LookConv.reset).reg (LK_SCAN_DATA (n * 64 + 63))) 9 2 < 2 ∧
      (conv n LookConv.reset).bit (LK_CTL.EN n) = true ∧ ((conv n LookConv.reset).conv n).scans.contains 63 = false ∧
      ((conv n { LookConv.reset with scans := [63] }).conv n).scans.contains 63 = true) ∧
    (∀ v ∈ [0x80000000, 0x80000200], urgent v (fun v => decide (getBits v 31 1 = 1 ∧ getBits v 9 2 < 2)) = true) ∧
    (∀ v ∈ [0x80000400, 0x80000600], urgent v (fun v => decide (getBits v 31 1 = 1 ∧ 2 ≤ getBits v 9 2)) = true) ∧
    admitted up 3 0x6C 0 .lookout [0x6C] (fun t _ _ i => decide ((0 + 4096 - t.fld (LK_BUF_HEAD.HEAD i)) % 4096 ≤
      (SMap.get [] (t.conv (i / 4)).buffers (i % 4)).length)) = true ∧
    admitted up 3 0x68 1 .lookout [0x68] (fun _ _ _ _ => true) = true ∧
    admitted (sensors []) 4 0x74 1 .thermal [0x74] (fun t _ _ _ => (t.validTemps 16).all (fun x => decide (x < 1440))) = true ∧
    admitted ⟨{ (sensors [(LT_SENS_DATA.VALID 64, 1), (LT_SENS_DATA.TEMP 64, 1440)]).toBlock with
      look := up.look }, []⟩ 4 0x74 1 .thermal [0x74] (fun t _ _ _ => (t.validTemps 16).any (fun x => decide (1440 ≤ x))) = true ∧
    admitted (sensors [(LT_SENS_DATA.BROKEN 67, 1)]) 4 0x4C 67 .thermal [0x4C] (fun t _ _ _ => t.bit (LT_SENS_DATA.BROKEN 67)) = true ∧
    up.convOn 0 = true := by decide +kernel

/-- The CAL_CMD word of a target over the units of a scope. -/
def calWord (group site engine slab unit : Nat) : Word :=
  BitVec.ofNat 32 (group + site * 2 ^ 8 + engine * 2 ^ 14 + slab * 2 ^ 18 + unit * 2 ^ 22 + 2 ^ 31)

/-- Calibration runs on one unit of a target. -/
def calibrating (target : Nat) (u : CalUnit) (l : List (Field × Nat)) : State :=
  ⟨{ (fieldsAt (upFields ++ [(CAL_STAT.STATE, 1), (CAL_STAT.TARGET, target)] ++ l)) with cal := { up.cal with units := [u] } }, []⟩

theorem witness_CalibrationTakesEffect :
    let begun (t : Block) (v : Word) := (t.setFld CAL_STAT.TARGET (getBits v 0 4)).setFld CAL_STAT.UNITS 0
    let cmd (s : State) (v : Word) (when : Block → Bool) : Bool := admitted s 7 0x40 v .calib [0x40] (fun t _ _ _ =>
      decide (getBits v 31 1 = 1 ∧ t.calRuns = false) && when (begun t v))
    let res : State := ⟨up.modSlab 0 0 7 8 (fun b => { b with state := .resident }), []⟩
    let off : State := fieldsAt [(PM_DIE_STAT.STATE, 2), (HP_LINK.UP, 1)]
    let settled : State := ⟨{ up.toBlock with cal := { up.cal with settled := 65535 } }, []⟩
    let here (t : Block) (ids : List Nat) : Bool := t.ridgeUp 0 && !ids.isEmpty
    let row (k : Nat) (t : Block) : Bool := (List.range 9).any (fun p => decide ((t.slab (k / 272) (k / 8 % 34) (k % 8) p).state = .resident))
    let sampled (t : Block) (v : Word) : Option (List Nat) := (t.calSlabs v).map (fun l => l.filter (fun k =>
      (t.slab (keyRidge k) (keySite k) (keyEngine k) (keySlab k)).state.sampled))
    let unit (id frames : Nat) : CalUnit := ⟨id, none, frames, none, false⟩
    let fit : List Nat := (List.range 64).map (fun n => 2000 * (n / 4 + 1))
    let ready (s : State) (target : Nat) (u : CalUnit) : Bool := decide (s.cal.units[0]? = some u ∧ s.calRuns = true ∧ u.ended = false ∧
      u.staged = none ∧ s.fld CAL_STAT.TARGET = target)
    let frame : State := ⟨(calibrating 1 (unit 7 0) [(CORE_STAT.STATE 0 0, 1), (ENG_STAT.GOV_ALLOW 0 0 0, 16)]).modCore 0 0 (fun x => { x with ranNo := 1 }), []⟩
    (∀ g ∈ [1, 2], cmd up (calWord g 34 0 0 0) (fun t => decide (getBits (calWord g 34 0 0 0) 0 4 = g) && (t.calEngines (calWord g 34 0 0 0)).isNone) = true) ∧
    cmd up (calWord 3 0 8 0 0) (fun t => (sampled t (calWord 3 0 8 0 0)).isNone) = true ∧
    cmd up (calWord 1 63 15 15 0) (fun t => match t.calEngines (calWord 1 63 15 15 0) with | some ids => here t ids | none => false) = true ∧
    cmd off (calWord 1 63 15 15 0) (fun t => (t.calEngines (calWord 1 63 15 15 0)).isSome && !t.ridgeUp 0) = true ∧
    cmd res (calWord 2 0 7 8 0) (fun t => match t.calEngines (calWord 2 0 7 8 0) with | some ids => here t ids && ids.all (fun k => row k t) | none => false) = true ∧
    cmd up (calWord 2 0 7 8 0) (fun t => match t.calEngines (calWord 2 0 7 8 0) with | some ids => !ids.all (fun k => row k t) | none => false) = true ∧
    cmd res (calWord 3 0 7 8 0) (fun t => match sampled t (calWord 3 0 7 8 0) with | some ids => here t ids | none => false) = true ∧
    cmd up (calWord 3 0 7 8 0) (fun t => decide (sampled t (calWord 3 0 7 8 0) = some [])) = true ∧
    (∀ p ∈ [0, 9], cmd up (calWord 4 0 0 0 p) (fun _ => decide (getBits (calWord 4 0 0 0 p) 22 7 < 10)) = true) ∧
    cmd up (calWord 4 0 0 0 10) (fun _ => decide (10 ≤ getBits (calWord 4 0 0 0 10) 22 7)) = true ∧
    cmd up (calWord 5 0 0 0 2) (fun _ => decide (getBits (calWord 5 0 0 0 2) 22 7 < 3)) = true ∧
    cmd up (calWord 5 0 0 0 3) (fun _ => decide (3 ≤ getBits (calWord 5 0 0 0 3) 22 7)) = true ∧
    (∀ k ∈ [0, 67, 127], cmd settled (calWord 6 0 0 0 k) (fun t => (calSensors (getBits (calWord 6 0 0 0 k) 22 7)).isSome &&
      decide (max 1 (t.fld CAL_SETTLE.S) ≤ t.cal.settled)) = true ∧
      cmd up (calWord 6 0 0 0 k) (fun t => (calSensors (getBits (calWord 6 0 0 0 k) 22 7)).isSome && decide (t.cal.settled < max 1 (t.fld CAL_SETTLE.S))) = true) ∧
    cmd up (calWord 6 0 0 0 68) (fun _ => (calSensors (getBits (calWord 6 0 0 0 68) 22 7)).isNone) = true ∧
    (∀ g ∈ [0, 8, 15], cmd up (calWord g 0 0 0 0) (fun _ => decide (getBits (calWord g 0 0 0 0) 0 4 ≠ 7)) = true) ∧
    cmd up (calWord 7 0 0 0 0) (fun t => match t.calEngines (calWord 7 0 0 0 0) with | some ids => here t ids | none => false) = true ∧
    admitted (calibrating 1 (unit 0 0) []) 7 0x40 (calWord 1 0 0 0 0) .calib [0x40] (fun t _ _ _ => t.calRuns) = true ∧
    (let s : State := ⟨{ (calibrating 4 (unit 0 0) []).toBlock with cal := { up.cal with port := some 9 } }, []⟩
     s.calRuns = true ∧ s.fld CAL_STAT.TARGET = 4 ∧ s.cal.port.isSome = true) ∧
    (∀ target ∈ [1, 2], let s := calibrating target (unit 7 0) []
      s.calRuns = true ∧ s.fld CAL_STAT.TARGET = target ∧ s.ridgeState 0 ≤ 1 ∧ s.lvActive = false ∧
      s.cal.units.any (fun u => !u.ended && u.staged.isNone && decide (u.id / 8 = siteKey 0 0)) = true ∧ s.fld (CORE_STAT.STATE 0 0) = 0) ∧
    (let x := frame.coreAt 0 0
     let k := x.ranNo + 37 * frame.logicalAt 0 0
     frame.fld (CORE_STAT.STATE 0 0) ≠ 0 ∧ frame.fld (CORE_STAT.STATE 0 0) ≠ 4 ∧ x.probeOwed = false ∧
     (frame.echoPeriod 0 0 = 0 ∨ k % frame.echoPeriod 0 0 ≠ 0) ∧ k % frame.probePeriod 0 ≠ frame.probePeriod 0 / 2 ∧
     frameRuns (x.frameNo % 16) (frame.fld (ENG_STAT.GOV_ALLOW 0 0 0)) = true) ∧
    (fieldsAt [(LK_STAT.MODE 2, 2)]).fld (LK_STAT.MODE 2) = 2 ∧
    (calibrating 5 (unit 2 0) [(LK_STAT.MODE 2, 0)]).cal.units.any (fun u => !u.ended && decide (u.id = 2)) = true ∧
    (calibrating 5 (unit 2 0) [(LK_STAT.MODE 2, 0)]).fld (LK_STAT.MODE 2) = 0 ∧
    ready (calibrating 1 (unit 7 29) []) 1 (unit 7 29) = true ∧ ready (calibrating 2 (unit 7 52) []) 2 (unit 7 52) = true ∧
    (∀ target ∈ [3, 4, 5, 6], ready (calibrating target (unit 2 0) []) target (unit 2 0) = true) ∧
    (calibrating 4 (unit 2 0) [(FP_STAT.STATE 0, 12)]).portState (2 / 8) = 12 ∧ fit.length = 64 ∧ driftOk fit = true ∧
    driftOk (List.replicate 64 0) = false := by decide +kernel

theorem witness_CairnTakesEffect :
    let cairn (f : CairnSt → CairnSt) (l : List (Field × Nat)) : State :=
      ⟨{ (fieldsAt (upFields ++ [(CAIRN_CFG.PERIOD_H, 1)] ++ l)) with cairn := f up.cairn }, []⟩
    let wr (off : Nat) (v : Word) (when : Word → Bool) : Bool := admitted up 5 off v .cairn [off] (fun _ _ _ _ => when v)
    up.pow.off = false ∧ wr 0x50 1 (fun _ => true) = true ∧ (cairn id []).fld CAIRN_CFG.PERIOD_H ≠ 0 ∧ (cairn id []).pow.off = false ∧
    (cairn id []).cairn.flush = none ∧ (cairn id []).bit CAIRN_CTL.FREEZE = false ∧
    (cairn (fun x => { x with flush := some 3 }) []).cairn.flush.isSome = true ∧ (cairn id [(CAIRN_CTL.FREEZE, 1)]).bit CAIRN_CTL.FREEZE = true ∧
    wr 0x40 2 (fun _ => true) = true ∧ wr 0x40 4 (fun v => v.getLsbD 2) = true ∧ wr 0x40 8 (fun v => v.getLsbD 3) = true ∧
    wr 0x64 0x5FFFFF (fun _ => true) = true ∧
    (∀ a ∈ [0, 0x5FF800, 0x7EF800], (cairn (fun x => { x with readAddr := some a }) []).cairn.readAddr = some a) := by decide +kernel

/-! ## Witnesses: start, reset and firmware -/

theorem witness_StartTakesEffect :
    let boot (l : List (Field × Nat)) (rails : List Nat) : State := ⟨(fieldsAt l).modBoot (fun x => { x with rails := rails }), []⟩
    let step (n st : Nat) : State := boot [(BC_STAT.STEP, n), (PM_DIE_STAT.STATE, st)] []
    let bands (b : Bool) : State := ⟨{ (step 7 3).toBlock with look := { up.look with bandsTaken := b } }, []⟩
    (⟨{ up.toBlock with pow := { up.pow with off := true } }, []⟩ : State).pow.off = true ∧ up.pow.off = false ∧ (step 1 3).fld BC_STAT.STEP = 1 ∧
    (∀ k ∈ [0, 1, 2, 3, 6, 7, 8, 9, 10], (step 4 3).bit (PM_RAIL_STAT.EN k) = false ∨ (boot [(PM_RAIL_STAT.EN k, 0)] []).bit (PM_RAIL_STAT.EN k) = false) ∧
    (∀ rest ∈ [[], [3, 10], [9]], (boot [(PM_RAIL_STAT.EN 8, 1)] (8 :: rest)).bit (PM_RAIL_STAT.EN 8) = true ∧
      (boot [(PM_RAIL_STAT.EN 8, 1)] (8 :: rest)).boot.rails = 8 :: rest) ∧
    (boot [(BC_STAT.STEP, 4)] [3]).fld BC_STAT.STEP = 4 ∧ (boot [(BC_STAT.STEP, 4)] [3]).boot.rails ≠ [] ∧
    (step 5 3).fld BC_STAT.STEP = 5 ∧ (step 5 3).fld PM_DIE_STAT.STATE = 3 ∧
    (∀ b ∈ [true, false], (bands b).settling = true ∧ (bands b).look.bandsTaken = b) ∧
    (step 9 2).fld BC_STAT.STEP = 9 ∧ (step 9 2).dieActive = true ∧ (step 10 2).fld BC_STAT.STEP = 10 ∧ (step 10 2).bit BC_STAT.SERVING = false ∧
    (step 10 2).dieActive = true ∧ up.ridgeUp 0 = true ∧
    (let s := boot [(PM_RAIL_STAT.PG 0, 1), (PM_RAIL_STAT.EN 0, 1), (PM_RAIL_STAT.EN 1, 1), (PM_RAIL_STAT.EN 2, 1), (PM_RAIL_STAT.SETPOINT 0, 700)] []
     s.bit (PM_RAIL_STAT.PG 0) = true ∧ s.bit (PM_RAIL_STAT.EN 0) = true ∧ s.fld (PM_RAIL_STAT.SETPOINT 0) ≠ s.boot.setpoint ∧
     s.bit (PM_RAIL_STAT.EN 1) = true ∧ s.bit (PM_RAIL_STAT.EN 2) = true) := by decide +kernel

theorem witness_ResetsAndUpdatesTakeEffect :
    let boot (f : BootSt → BootSt) (l : List (Field × Nat)) : State := ⟨(fieldsAt (upFields ++ l)).modBoot f, []⟩
    let upd (s : State) (v : Word) (when : Block → Bool) : Bool := admitted s 1 0x58 v .start [0x58] (fun t _ _ _ => when t)
    (∀ op ∈ [1, 2, 3], admitted up 1 0x48 (BitVec.ofNat 32 (op + 0xC300)) .start [0x48] (fun _ _ _ _ =>
      decide (getBits (BitVec.ofNat 32 (op + 0xC300)) 8 8 = 0xC3 ∧ getBits (BitVec.ofNat 32 (op + 0xC300)) 0 3 = op)) = true) ∧
    up.pow.off = false ∧ up.fld PM_DIE_STAT.STATE ≠ 0 ∧ up.pow.railDown = none ∧
    (∀ n ∈ [0, 1], (boot id [(BC_CFG.PERST_SCOPE, n)]).bit BC_CFG.PERST_SCOPE = decide (n = 1)) ∧ up.boot.recovery = false ∧
    (boot id ((List.range 11).map (fun k => (PM_RAIL_STAT.EN k, 0)))).railsUp = [] ∧ (boot id [(PM_RAIL_STAT.EN 10, 1)]).railsUp ≠ [] ∧
    (let s := boot id [(HP_VF.VF_EN, 1), (HP_VF.NUMVF, 16)]
     s.bit HP_VF.VF_EN = true ∧ (15 : RidgeId).val < s.fld HP_VF.NUMVF) ∧ up.bit HP_LINK.UP = true ∧
    lands up (sitePage 0 33 0) 0x08 true = some (sitePage 0 33 0, 0x08) ∧ pageKind (sitePage 0 33 0) = .core ∧
    lands up (diePage 36) 0x08 true = some (diePage 36, 0x08) ∧ noSoftReset (diePage 36) = false ∧ (2 : Word).getLsbD 1 = true ∧
    (∀ op ∈ [1, 2, 3, 4, 5], upd up (BitVec.ofNat 32 op) (fun _ => decide (getBits (BitVec.ofNat 32 op) 0 3 = op)) = true) ∧
    upd (boot id [(BC_UPDATE_STAT.STAGED, 1)]) 2 (fun t => t.bit BC_UPDATE_STAT.STAGED) = true ∧
    upd up 2 (fun t => !t.bit BC_UPDATE_STAT.STAGED) = true ∧
    (∀ b ∈ [true, false], ∀ op ∈ [3, 4], upd (boot (fun x => { x with trial := b }) []) (BitVec.ofNat 32 op) (fun t => decide (t.boot.trial = b)) = true) ∧
    (let s := boot (fun x => { x with trial := true }) [(BC_STAT.TRIAL, 1)]
     s.boot.trial = true ∧ s.bit BC_STAT.TRIAL = true) ∧
    (∀ p ∈ [0, 9], upd up (BitVec.ofNat 32 (6 + p * 8)) (fun _ => decide (getBits (BitVec.ofNat 32 (6 + p * 8)) 3 4 ≤ 9)) = true) ∧
    upd up 0x56 (fun _ => decide (9 < getBits (0x56 : Word) 3 4)) = true ∧
    (boot (fun x => { x with recovery := true }) []).boot.recovery = true ∧
    ((boot (fun x => { x with recovery := true }) []).stageInto 0 FwImage.first true).2 = 0 ∧
    ((boot (fun x => { x with recovery := true }) []).stageInto 0 FwImage.first false).2 ≠ 0 := by decide +kernel

set_option Elab.async false in
/-- R114: a code lies between 0 and 511. -/
theorem test_codes_are_clamped :
    clampCode (-1) = 0 ∧ clampCode 512 = 511 := by decide +kernel

/-! ## Witnesses: the host port and the management port -/

theorem witness_HostPortTakesEffect :
    let hp (f : HostSt → HostSt) (l : List (Field × Nat)) : State := ⟨{ (fieldsAt (upFields ++ l)) with hp := f up.hp }, []⟩
    let down : State := fieldsAt [(HP_LINK.UP, 0)]
    let open' (b : Bool) : State := ⟨up.setSessions [⟨1, b, 0⟩], []⟩
    let vfs : State := hp id [(HP_VF.VF_EN, 1), (HP_VF.NUMVF, 16)]
    let railed : State := hp id [(PM_RAIL_STAT.PG 6, 1), (PM_RAIL_STAT.PG 7, 1)]
    up.decodes 0 = true ∧ up.decodes 16 = false ∧ vfs.decodes 16 = true ∧ down.decodes 0 = false ∧
    vfWindowAt 0 (dwOf 9 0x4C).toNat = none ∧ admitted up 9 0x4C 5 .hostPort [0x4C] (fun _ _ _ _ => true) = true ∧
    vfWindowAt 16 (dwOf (0x400 + 9) 0x4C).toNat = some 0x4C ∧ vfWindowAt 1 (dwOf (0x400 + 9) 0x48).toNat = some 0x48 ∧
    up.bit HP_LINK.UP = true ∧ up.configured 0 = true ∧ up.hp.d3.contains 0 = false ∧ (hp (fun x => { x with d3 := [16] }) []).hp.d3.contains 16 = true ∧
    (hp (fun x => { x with d3 := [16] }) [(HP_VF.VF_EN, 1), (HP_VF.NUMVF, 16)]).configured 16 = true ∧ down.bit HP_LINK.UP = false ∧
    (fieldsAt [(HP_LINK.UP, 1), (PM_DIE_STAT.STATE, 3)]).configured 0 = false ∧ up.fnExists 16 = false ∧ vfs.fnExists 16 = true ∧
    (∀ x ∈ [(true, 6, 16), (false, 5, 1), (true, 1, 2)], linkForm x.1 x.2.1 x.2.2 = true) ∧ railed.bit (PM_RAIL_STAT.PG 6) = true ∧
    railed.bit (PM_RAIL_STAT.PG 7) = true ∧ (open' true).tr.sessions.any (fun x => decide (x.id = 1) && x.open') = true ∧
    (open' false).tr.sessions.any (fun x => decide (x.id = 1) && x.open') = false := by decide +kernel

theorem witness_ManagementTakesEffect :
    let mg (f : MgmtSt → MgmtSt) (l : List (Field × Nat)) : State := ⟨(fieldsAt (upFields ++ l)).modMg f, []⟩
    let part (n : Nat) : MctpPart := ⟨n, 7, []⟩
    let took (s : State) (body : List Byte) (f : Block → Bool) : Bool := match s.mgmtTakes body with | some t => f t | none => false
    let mine (p : MctpPart) : Bool := decide (p.src = 9 ∧ p.tag = 7)
    up.mgmtRuns = true ∧ (mg id [(MG_STAT.DYN_VALID, 0)]).bit MG_STAT.DYN_VALID = false ∧ (1 : Byte).getLsbD 0 = true ∧
    took (mg id [(MG_STAT.DYN_VALID, 0)]) [] (fun t => !t.bit MG_STAT.DYN_VALID && !t.boot.recovery) = true ∧
    took (fieldsAt [(PM_DIE_STAT.STATE, 0)]) [] (fun t => !t.boot.recovery) = true ∧
    (mg id [(MG_STAT.DYN_VALID, 1)]).bit MG_STAT.DYN_VALID = true ∧ took (mg id [(MG_STAT.DYN_VALID, 1)]) [] (fun t => t.bit MG_STAT.DYN_VALID) = true ∧
    (List.replicate 64 (0 : Byte)).length ≤ 64 ∧
    (∀ n ∈ [3, 4], took (mg (fun m => { m with parts := (List.range n).map part }) []) (List.replicate 64 0) (fun t =>
      decide ((t.mg.parts.filter (fun p => !mine p)).length = n) && !t.mg.parts.any mine) = true) ∧
    took (mg (fun m => { m with parts := [part 9] }) []) [] (fun t => t.mg.parts.any mine) = true := by decide +kernel

end Sys2Proof.Tests
end

section
/-! PROOF. The E slot of a core that is in its exception handler. One path serves the seven commands: each gives
`Block.engineSlot`, which answers any command of a core in its handler with sub-cause 4 of ILLEGAL_BUNDLE; the closing bundle takes
that exception, and in the handler it ends in DOUBLE_FAULT. -/
namespace Sys2Proof.Machine

/-! ## The exception of an illegal E slot -/

/-- One destination alone duplicates no other. -/
theorem duplicateSlot_of_length_le_one {l : List (Nat × Dest)} (h : l.length ≤ 1) : duplicateSlot l = none := by
  match l, h with
  | [], _ => rfl
  | [_], _ => rfl

/-- The only exception that a bundle raises is the one it takes. -/
theorem bundleExc_of_single {pc : Nat} {b : Bundle} {e : SlotExc} (hpc : pc < 4096) (hd : b.dests.length ≤ 1) (he : b.excs = [e]) :
    bundleExc pc b = some e := by
  simp [bundleExc, he, duplicateSlot_of_length_le_one hd, Nat.not_le.mpr hpc]

/-- An encoding check that fails makes the slot's output its destinations and ILLEGAL_BUNDLE. -/
theorem slotOut_illegal (x : Core) (k sub : Nat) (g : Bool) (dests : List Dest) (reads : List Nat) (run : Unit → List SlotExc × List Fx) :
    slotOut x k g [(true, sub)] dests reads run = ⟨dests, [illegal sub k], [], []⟩ := rfl

/-! ## A core in its handler -/

/-- A core that issues in its exception handler, between two bundles, with nothing to take before the next one. -/
structure Block.HandlerIssues (s : Block) (r c : Nat) : Prop where
  issues : s.issues r c = true
  handler : (s.coreAt r c).handler = true
  excWait : (s.coreAt r c).excWait = []
  haltReq : (s.coreAt r c).haltReq = false
  bundle : (s.coreAt r c).bundle = Bundle.none
  pc : (s.coreAt r c).pc < 4096

/-- The core has halted in HALT_EXC with DOUBLE_FAULT for an E-slot rule (code 1, sub-cause 4) of the bundle at its program counter in
`s`, and no engine has changed (R231, R235). -/
structure Block.EngineDoubleFault (s t : Block) (r c : Nat) : Prop where
  state : t.fld (CORE_STAT.STATE r c) = 4
  cause : t.fld (CORE_EXC_CAUSE.CAUSE r c) = 8
  info : t.reg (CORE_EXC_INFO r c) = BitVec.ofNat 32 (1 + 4 * 16)
  epc : t.fld (CORE_EXC_PC.EPC r c) = (s.coreAt r c).pc
  handler : (t.coreAt r c).handler = false
  eng : t.eng = s.eng

/-- A DOUBLE_FAULT raised in the E slot reads 8 in the cause field. -/
theorem getBits_doubleFaultCause : getBits (BitVec.ofNat 32 (8 + 0 * 2 ^ 4 + 3 * 2 ^ 12)) 0 4 = 8 := by decide

/-- In the handler, ILLEGAL_BUNDLE with sub-cause 4 in the E slot is DOUBLE_FAULT. -/
theorem Block.takeException_engineDoubleFault (s : Block) (r c : Nat) (hh : (s.coreAt r c).handler = true)
    (hpc : (s.coreAt r c).pc < 4096) : s.EngineDoubleFault (s.takeException r c 1 4 3 4) r c := by
  obtain ⟨hepc, -, -, -, -, -, -, -, -, heng, -, -, -, -, -, hdouble⟩ :=
    Block.takeException_spec s r c 1 4 3 4 (by decide) _ rfl _ rfl
  obtain ⟨hcause, hinfo, hstate, hhandler, -⟩ := hdouble hh
  exact {
    state := hstate
    cause := (congrArg (getBits · 0 4) hcause).trans getBits_doubleFaultCause
    info := hinfo
    epc := hepc.trans (Nat.mod_eq_of_lt hpc)
    handler := hhandler
    eng := heng }

/-- In the handler, an E-slot command that closes its bundle has the core take ILLEGAL_BUNDLE with sub-cause 4, whatever the command:
`u` is the hardware with that core's bundle emptied, so its core and its engines are those of `s`. -/
theorem Block.engineSlot_handler {s : Block} {r : RidgeId} {c : SiteId} (h : s.HandlerIssues r c) (e : EngineId) (bad : Bool)
    {dests : List Dest} (hd : dests.length ≤ 1) (slab : Nat) (causes : List (Bool × Nat)) (cmd : Core → EngCmd) :
    ∃ u : Block, u.coreAt r c = s.coreAt r c ∧ u.eng = s.eng ∧
      s.engineSlot r c e true bad dests slab causes cmd = u.takeException r c 1 4 3 4 := by
  obtain ⟨b, hb⟩ : ∃ b : Bundle,
      b = ⟨(dests.filter (fun d => decide (d ≠ .s 0 ∧ d ≠ .p 0))).map (fun d => (3, d)), [illegal 4 3], [], []⟩ := ⟨_, rfl⟩
  have hslot : s.engineSlot r c e true bad dests slab causes cmd = (s.modCore r c (fun x => { x with bundle := b })).closeBundle r c := by
    simp [Block.engineSlot, h.handler, slotOut_illegal, Block.slot, h.issues, Block.modCore, h.bundle, Bundle.none, hb]
  have hexc : bundleExc (s.coreAt r c).pc b = some (illegal 4 3) :=
    bundleExc_of_single h.pc (by rw [hb, List.length_map]; exact Nat.le_trans (List.length_filter_le _ _) hd) (by rw [hb])
  refine ⟨(s.modCore r c (fun x => { x with bundle := b })).modCore r c (fun x => { x with bundle := Bundle.none }), ?_, rfl, ?_⟩
  · rw [Block.coreAt_modCore, Block.coreAt_modCore, ← h.bundle]
  · rw [hslot, Block.closeBundle_exception _ r c _ (Block.coreAt_modCore s r c _).symm (illegal 4 3) h.excWait h.haltReq hexc (.inl rfl)]
    rfl

/-- So it ends in DOUBLE_FAULT (R235). -/
theorem Block.engineSlot_doubleFault {s : Block} {r : RidgeId} {c : SiteId} (h : s.HandlerIssues r c) (e : EngineId) (bad : Bool)
    {dests : List Dest} (hd : dests.length ≤ 1) (slab : Nat) (causes : List (Bool × Nat)) (cmd : Core → EngCmd) :
    s.EngineDoubleFault (s.engineSlot r c e true bad dests slab causes cmd) r c := by
  obtain ⟨u, hcore, heng, htake⟩ := Block.engineSlot_handler h e bad hd slab causes cmd
  have hu := u.takeException_engineDoubleFault r c (hcore ▸ h.handler) (hcore ▸ h.pc)
  rw [htake]
  exact { hu with epc := hu.epc.trans (by rw [hcore]), eng := hu.eng.trans heng }

/-! ## The seven commands -/

/-- A command that gives what the E slot makes of a closing command ends, in the handler, in DOUBLE_FAULT. -/
theorem Gives.doubleFaults {i : Instr} {s : State} {r : RidgeId} {c : SiteId} {e : EngineId} {bad : Bool} {dests : List Dest}
    {slab : Nat} {causes : List (Bool × Nat)} {cmd : Core → EngCmd} (h : s.HandlerIssues r c)
    (hi : Gives i s (s.engineSlot r c e true bad dests slab causes cmd)) (hd : dests.length ≤ 1) :
    ∃ t : State, exec i s = .next t ∧
      t.fld (CORE_STAT.STATE r c) = 4 ∧ t.fld (CORE_EXC_CAUSE.CAUSE r c) = 8 ∧
      t.reg (CORE_EXC_INFO r c) = BitVec.ofNat 32 (1 + 4 * 16) ∧ t.fld (CORE_EXC_PC.EPC r c) = (s.coreAt r c).pc ∧
      (t.coreAt r c).handler = false ∧ t.eng = s.eng :=
  have hf := Block.engineSlot_doubleFault h e bad hd slab causes cmd
  ⟨_, hi, hf.state, hf.cause, hf.info, hf.epc, hf.handler, hf.eng⟩

/-- A FIRE gives a command of the E slot without a destination, for SLAB = 15 (which is a QM_FIRE) as for a slab. -/
theorem fire_gives_engineSlot (r : RidgeId) (c : SiteId) (e : EngineId) (last : Bool) (slab : BitVec 4) (vreg : BitVec 5)
    (shape : BitVec 2) (group : BitVec 4) (slice : BitVec 3) (signed acc half : Bool) (rsv : BitVec 12) (s : State) :
    ∃ bad l causes cmd, Gives (.fire r c e last slab vreg shape group slice signed acc half rsv) s
      (s.engineSlot r c e last bad [] l causes cmd) := by
  by_cases hq : slab = 15
  · subst hq
    exact ⟨_, _, _, _, rfl⟩
  · simp only [Gives, exec_fire, execFire, State.runs, if_neg hq]
    exact ⟨_, _, _, _, rfl⟩

/-- Settles O16: each command gives `Block.engineSlot` with one destination at most, which in the handler is a DOUBLE_FAULT. -/
theorem engineCommandsInTheHandlerDoubleFault : Obligations.EngineCommandsInTheHandlerDoubleFault := by
  unfold Obligations.EngineCommandsInTheHandlerDoubleFault
  intro r c e slab vreg fmt qrow shape group slice first lastBlk signed acc half target hist clr tally r12 rDrain r29 r31 r26 r23 s
    x doubleFaults hissues hhandler hexc hhalt hbundle hpc
  have h : s.HandlerIssues r c := ⟨hissues, hhandler, hexc, hhalt, hbundle, hpc⟩
  obtain ⟨_, _, _, _, hfire⟩ := fire_gives_engineSlot r c e true slab vreg shape group slice signed acc half r12 s
  exact ⟨
    hfire.doubleFaults h (Nat.zero_le 1),
    Gives.doubleFaults (i := .qmFire ..) h rfl (Nat.zero_le 1),
    Gives.doubleFaults (i := .probe ..) h rfl (Nat.zero_le 1),
    Gives.doubleFaults (i := .echo ..) h rfl (Nat.zero_le 1),
    Gives.doubleFaults (i := .drain ..) h rfl (Nat.le_refl 1),
    Gives.doubleFaults (i := .clear ..) h rfl (Nat.zero_le 1),
    Gives.doubleFaults (i := .qload ..) h rfl (Nat.zero_le 1)⟩

end Sys2Proof.Machine
end

section
/-! PROOF. Replies to requests of an older revision (R558). A reply ends in `Block.failTag` or `Block.completeTag`, and for a request
of an older revision each of the two is `Block.freeTag`, which writes the core's tags and their count in CORE_STAT alone. -/
namespace Sys2Proof.Machine

/-! ## What freeing a tag changes -/

/-- No request is outstanding under a freed tag. -/
theorem Block.tagOf_freeTag_self (s : Block) (r c tag : Nat) : (s.freeTag r c tag).tagOf r c tag = none := by
  simp [Block.tagOf, Block.freeTag_coreAt]

/-- Freeing a tag raises no interrupt message. -/
theorem Block.freeTag_int (s : Block) (r c tag : Nat) : (s.freeTag r c tag).int = s.int := Block.setFld_int _ _ _

/-- Freeing a tag adds to no sync cell. -/
theorem Block.freeTag_sync (s : Block) (r c tag : Nat) : (s.freeTag r c tag).sync = s.sync := Block.setFld_sync _ _ _

/-- Freeing a tag posts no exception. -/
theorem Block.freeTag_excWait (s : Block) (r c tag : Nat) :
    ((s.freeTag r c tag).coreAt r c).excWait = (s.coreAt r c).excWait := by
  rw [Block.freeTag_coreAt]

/-- Of the register file, freeing a tag writes the core's CORE_STAT alone. -/
theorem Block.reg_freeTag_ne (s : Block) {r c j : Nat} (tag : Nat) (h : j ≠ CORE_STAT r c) :
    (s.freeTag r c tag).reg j = s.reg j :=
  Block.reg_setReg_ne _ _ h

/-- Freeing a tag frees it, and adds and raises nothing. -/
theorem Block.freeTag_frees_alone (s : Block) (r c tag : Nat) :
    (s.freeTag r c tag).tagOf r c tag = none ∧ (s.freeTag r c tag).int = s.int ∧ (s.freeTag r c tag).sync = s.sync ∧
    ((s.freeTag r c tag).coreAt r c).excWait = (s.coreAt r c).excWait ∧
    ∀ j, j ≠ CORE_STAT r c → (s.freeTag r c tag).reg j = s.reg j :=
  ⟨s.tagOf_freeTag_self r c tag, s.freeTag_int r c tag, s.freeTag_sync r c tag, s.freeTag_excWait r c tag,
    fun _ => s.reg_freeTag_ne tag⟩

/-! ## Completing a request of an older revision -/

section Older
variable {s : Block} {r c tag : Nat} {e : Tag} (htag : s.tagOf r c tag = some e) (hrev : revNewer (s.rev r) e.rev = true)
include htag hrev

/-- The successful completion of an older request frees its tag alone. -/
theorem Block.completeTag_older : s.completeTag r c tag = s.freeTag r c tag := by
  simp [Block.completeTag, htag, hrev]

/-- The error completion of an older request frees its tag alone. -/
theorem Block.failTag_older (status : Nat) : s.failTag r c tag status = s.freeTag r c tag := by
  simp [Block.failTag, htag, hrev]

end Older

/-! ## What an arriving reply does with an outstanding request -/

section Outstanding
variable {s : Block} {r : Nat} {p : Packet} {e : Tag} (htag : s.tagOf r (s.siteOf r p.dstCore) p.tag = some e)
include htag

/-- A completion with an error status fails its request. -/
theorem Block.completion_of_error (hst : p.status ≠ 0) :
    s.completion r p = s.failTag r (s.siteOf r p.dstCore) p.tag p.status := by
  simp [Block.completion, htag, hst]

/-- A successful completion of a request that is no EMIT completes it. -/
theorem Block.completion_of_not_emit (hst : p.status = 0) (hop : e.op ≠ .emit) :
    s.completion r p = s.completeTag r (s.siteOf r p.dstCore) p.tag := by
  simp [Block.completion, htag, hst, hop]

/-- A successful completion of an EMIT writes the verdicts, then completes it. -/
theorem Block.completion_of_emit (hst : p.status = 0) (hop : e.op = .emit) :
    s.completion r p =
      (s.writeVerdicts r (s.siteOf r p.dstCore) e.row e.count p.data).completeTag r (s.siteOf r p.dstCore) p.tag := by
  simp [Block.completion, htag, hst, hop]

/-- The data of a GET are written, then complete it. -/
theorem Block.getArrives_outstanding (withCore : Bool) (k : Nat) (words : List (Fin 64)) :
    s.getArrives r p withCore k words = (s.sharedWrite r (s.siteOf r p.dstCore) e.row p.data allWords (s.sourceId r p) withCore
      k words).1.completeTag r (s.siteOf r p.dstCore) p.tag := by
  simp [Block.getArrives, htag]

end Outstanding

/-! ## The two commands -/

section Arrives
variable {s : State} {p : Packet} {t : Block} (harr : s.toBlock.arrive p = (t, true)) (hunit : p.dst.unit < 16)
  (hcore : p.dstCore < 32)
include harr hunit hcore

/-- REMOTE_COMPLETION of a completion that arrives at a core. -/
theorem remoteCompletion_gives (hop : p.op = .completion) : Gives (.remoteCompletion p) s (t.completion p.dst.unit p) := by
  simp [Gives, execRemoteCompletion, State.runs, blkRemoteCompletion, hop, harr, Nat.not_le.mpr hunit, Nat.not_le.mpr hcore]

/-- GET_DATA of the data that arrive at a core. -/
theorem getData_gives (hop : p.op = .getData) (withCore : Bool) (k : Nat) (words : List (Fin 64)) :
    Gives (.getData p withCore k words) s (t.getArrives p.dst.unit p withCore k words) := by
  simp [Gives, execGetData, State.runs, blkGetData, hop, harr, Nat.not_le.mpr hunit, Nat.not_le.mpr hcore]

end Arrives

/-- Settles O17: an error, a success, an EMIT's verdicts and a GET's data each end in completing or failing the tag, which for a
request of an older revision is freeing it. -/
theorem olderCompletionsOnlyFreeTheirTag : Obligations.OlderCompletionsOnlyFreeTheirTag := by
  unfold Obligations.OlderCompletionsOnlyFreeTheirTag
  intro p withCore k words t e s r c freed harr hunit hcore htag hrev
  have hfreed (u : Block) : freed u := u.freeTag_frees_alone r c p.tag
  refine ⟨fun hop hcase => ⟨?_, hfreed t⟩, fun u hu hop hst hemit hutag hurev => ⟨?_, hfreed u⟩,
    fun u b hu hop hutag hurev => ⟨?_, hfreed u⟩⟩
  · have hfree : t.completion r p = t.freeTag r c p.tag := by
      by_cases hst : p.status = 0
      · have hne : e.op ≠ .emit := hcase.resolve_left (not_not_intro hst)
        rw [Block.completion_of_not_emit htag hst hne, Block.completeTag_older htag hrev]
      · rw [Block.completion_of_error htag hst, Block.failTag_older htag hrev]
    exact hfree ▸ remoteCompletion_gives harr hunit hcore hop
  · have hfree : t.completion r p = u.freeTag r c p.tag := by
      rw [Block.completion_of_emit htag hst hemit, ← hu, Block.completeTag_older hutag hurev]
    exact hfree ▸ remoteCompletion_gives harr hunit hcore hop
  · have hfree : t.getArrives r p withCore k words = u.freeTag r c p.tag := by
      rw [Block.getArrives_outstanding htag, hu, Block.completeTag_older hutag hurev]
    exact hfree ▸ getData_gives harr hunit hcore hop withCore k words

end Sys2Proof.Machine
end

section
/-! PROOF. The forced interrupts of the common header (R773). BLK_IRQ_FORCE is a row of the header whose one field is write-1-to-set,
so it reads 0. A write of it, like an event of the page, writes the page's BLK_IRQ_STAT and then signals, and signalling changes
counts of interrupt messages alone (R754). -/
namespace Sys2Proof.Machine

/-! ## A read of BLK_IRQ_FORCE -/

/-- The header's row stands at BLK_IRQ_FORCE's offset on every page that has rows. -/
theorem regRow_irqForce {kind : PageKind} {row : RegRow} (h : regRow kind 0x18 = some row) :
    row = ⟨0x18, 1, 0, 0, none, [⟨0, 32, .w1s⟩]⟩ := by
  cases kind
  case reserved => cases h
  all_goals exact (Option.some.inj h).symm

/-- The offsets that show a bound ridge's protected state (R617) all lie past the header. -/
theorem Block.protectedRead_irqForce (s : Block) (req : Requester) (page : Nat) : s.protectedRead req page 0x18 = none := by
  unfold Block.protectedRead
  cases pageKind page <;> simp

/-- A register whose one field is write-1-to-set reads 0 (R8). -/
theorem Block.readWord_irqForce (s : Block) (req : Requester) (page : Nat) : s.readWord req page 0x18 = 0 := by
  unfold Block.readWord
  cases hrow : regRow (pageKind page) 0x18 with
  | none => rfl
  | some row => simp [regRow_irqForce hrow]

/-- Neither a half of a pair (R781) nor a denied read (R617), so the answer is all that a read changes. -/
theorem Block.readRegister_irqForce (s : Block) (req : Requester) (page : Nat) :
    s.readRegister req page 0x18 = { s with answer := [0, 0, 0, 0] } := by
  have hzero : bytesOf 4 0 = [0, 0, 0, 0] := rfl
  unfold Block.readRegister
  rw [s.protectedRead_irqForce, s.readWord_irqForce]
  cases hrow : regRow (pageKind page) 0x18 with
  | none => simp [hzero]
  | some row => simp [regRow_irqForce hrow, hzero]

/-- A register read that reaches its page reads that register. -/
theorem roPairLoRead_gives {req : Fin 18} {dw : BitVec 26} {s : State} {t : Block} {page off : Nat}
    (h : s.reach req dw.toNat false = (t, some (page, off))) : Gives (.roPairLoRead req dw) s (t.readRegister req page off) :=
  Gives.of_runs _ (exec_roPairLoRead req dw s) (by rw [h])

/-! ## A write of BLK_IRQ_FORCE -/

/-- The frame of a register write that then signals what rises on a page (R754). -/
theorem Block.signalRises_setReg_frame (t old : Block) (page k : Nat) (w : Word) :
    let x := (t.setReg k w).signalRises page old
    x.regs = (t.setReg k w).regs ∧ x.int = t.int ∧ x.core = t.core ∧ ∀ j, j ≠ k → x.reg j = t.reg j := by
  obtain ⟨hregs, hint, hcore, -⟩ := Block.signalRises_frame (t.setReg k w) old page
  exact ⟨hregs, hint.trans (t.setReg_int k w), hcore.trans (t.setReg_core k w),
    fun j hj => (Block.reg_congr _ _ hregs j).trans (t.reg_setReg_ne w hj)⟩

/-- The write that reaches its page, outside R776: no virtual function writes a die page here. -/
theorem irqForce_gives {req : Fin 18} {dw : BitVec 26} {s : State} {t : Block} {page : Nat} (v : Word)
    (h : s.reach req dw.toNat true = (t, some (page, 0x18))) (hvf : 1 ≤ req.val ∧ req.val ≤ 16 → 4096 ≤ page) :
    Gives (.irqForce req dw v) s
      ((t.setReg (BLK_IRQ_STAT page) (t.reg (BLK_IRQ_STAT page) ||| (v &&& BitVec.ofNat 32 (irqMask (pageKind page))))).signalRises
        page t) :=
  have hphys : ¬ (1 ≤ req.val ∧ req.val ≤ 16 ∧ page < 4096) :=
    fun ⟨hlo, hhi, hdie⟩ => Nat.not_le.mpr hdie (hvf ⟨hlo, hhi⟩)
  Gives.of_runs _ (exec_irqForce req dw v s) (congrArg _ (Block.irqWrite_of_reach h hphys _))

/-! ## An event's bit -/

/-- An event sets its bit, with no condition on BLK_IRQ_EN. -/
theorem Block.bit_raise_self (t : Block) (page : Nat) {bit : Nat} (hbit : bit < 32) :
    (t.raise page bit).bit ⟨BLK_IRQ_STAT page, bit, 1⟩ = true := by
  have hfld : (t.raise page bit).fld ⟨BLK_IRQ_STAT page, bit, 1⟩ = 1 :=
    (Block.fld_congr _ _ (t.raise_frame page bit).1 _).trans (t.fld_setFld_self ⟨BLK_IRQ_STAT page, bit, 1⟩ 1 hbit)
  simp [Block.bit, hfld]

/-- An event leaves every other status bit of its page. -/
theorem Block.fld_raise_ne (t : Block) (page : Nat) {bit n : Nat} (hbit : bit < 32) (hne : n ≠ bit) :
    (t.raise page bit).fld ⟨BLK_IRQ_STAT page, n, 1⟩ = t.fld ⟨BLK_IRQ_STAT page, n, 1⟩ := by
  rw [Block.fld_congr _ _ (t.raise_frame page bit).1]
  simp only [Block.fld, Block.setFld, Block.reg_setReg_self]
  exact getBits_putBits_ne _ bit 1 1 n 1 hbit (by omega)

/-- Settles O18: a read answers the word of a write-1-to-set register, which is 0; a write ORs bits into BLK_IRQ_STAT and signals, which
leaves the rest; an event sets its own bit alone. -/
theorem forcedInterruptsSetTheirBits : Obligations.ForcedInterruptsSetTheirBits := by
  unfold Obligations.ForcedInterruptsSetTheirBits
  intro req dw v page t s stat
  refine ⟨fun hread => ?_, fun hwrite hvf => ?_, fun bit hbit => ?_⟩
  · exact t.readRegister_irqForce req page ▸ roPairLoRead_gives hread
  · exact ⟨irqForce_gives v hwrite hvf, t.signalRises_setReg_frame t page stat _⟩
  · exact ⟨t.bit_raise_self page hbit, fun n _ hne => t.fld_raise_ne page hbit hne⟩

end Sys2Proof.Machine
end

section
/-! PROOF. The queue of waiting commands. Every command's meaning is given over the hardware alone (`State.runs`), which keeps the
queue; and every branch of a well-formed command's meaning answers a next state. So a step of well-formed commands goes on, and the
queue runs to its end. -/
namespace Sys2Proof.Machine

/-! ## A command and the queue -/

/-- Every command's meaning is one over the hardware alone. -/
theorem exec_eq_runs (c : Instr) : ∃ f, ∀ s : State, exec c s = s.runs f := by
  unfold exec
  cases c <;> exact ⟨_, fun _ => rfl⟩

/-- What a meaning over the hardware answers on the whole state has the queue of before. -/
theorem State.pending_of_runs {s t : State} {f : Block → Host.Outcome Block Fault Refusal} (h : s.runs f = .next t) :
    t.pending = s.pending := by
  unfold State.runs at h
  split at h <;> cases h
  rfl

/-- Settles O22: every meaning is one over the hardware alone, which keeps the queue. -/
theorem commandsLeaveTheQueue : Obligations.CommandsLeaveTheQueue := by
  unfold Obligations.CommandsLeaveTheQueue
  intro c s t h
  obtain ⟨f, hf⟩ := exec_eq_runs c
  exact State.pending_of_runs ((hf s).symm.trans h)

/-! ## Well-formed commands go on -/

/-- A well-formed command answers a next state. The commands whose list operand has its object's length, and those that hand on what
arrives, are in `Laws/Runs`; of every other one each branch is a next state. -/
theorem exec_runsOn (c : Instr) (s : State) (hw : c.wellFormed = true) : RunsOn s (exec c s) := by
  cases c <;> unfold exec
  case pgmIteration r c e g ue repair => exact execPgmIteration_runsOn r c e g ue repair s hw
  case driftFit r c e g => exact execDriftFit_runsOn r c e g s hw
  case passLatch r c e err => exact execPassLatch_runsOn r c e err s hw
  case probeCompare r c e err => exact execProbeCompare_runsOn r c e err s hw
  case echoCompare r c e err => exact execEchoCompare_runsOn r c e err s hw
  case recordProbeDone r c e p rowErr sumErr => exact execRecordProbeDone_runsOn r c e p rowErr sumErr s hw
  case classifyStart r c e moved err err2 => exact execClassifyStart_runsOn r c e moved err err2 s hw
  case classifyMirrorReady r c e err err2 => exact execClassifyMirrorReady_runsOn r c e err err2 s hw
  case calUnitDone n m => exact execCalUnitDone_runsOn n m s hw
  case packetDelivery p busy withCore corrected words cws => exact execPacketDelivery_runsOn p busy withCore corrected words cws s
  case droverBeatArrival p corrected words cws withCore => exact execDroverBeatArrival_runsOn p corrected words cws withCore s
  case engineTestSlabDone r c e moved faults => exact execEngineTestSlabDone_runsOn r c e moved faults s
  case getMeasurements index => exact execGetMeasurements_runsOn index s
  case finish id ok => exact execFinish_runsOn id ok s
  all_goals refine State.runs_goesOn ?_
  -- The packets that arrive and the SPDM requests: a name of its own stands for what is one next state, under a guard or not.
  case wakeDelivery | syncAnswer | getData | remoteCompletion | slotLossNotice | emitArrival | finalCommit | servingRetract |
      commit | retract => exact GoesOn.ite (fun _ => GoesOn.mk _) (fun _ => GoesOn.mk _)
  case getRequest | putRequest | regionArrival | mdispArrival | getVersion | getCapabilities | negotiateAlgorithms | getDigests |
      getCertificate | challenge | keyExchange | heartbeat | keyUpdate | endSession | spdmUnsupported => exact GoesOn.mk _
  -- The others: every branch ends in a next state.
  all_goals repeat' (first
    | with_reducible exact GoesOn.mk _
    | with_reducible refine GoesOn.ite (fun _ => ?_) (fun _ => ?_)
    | split
    | dsimp only)

/-! ## A queue of well-formed commands -/

/-- With nothing waiting a step leaves the state as it is (log entry 1). -/
theorem step_of_empty {s : State} (h : s.pending = []) : step s = .next s := by
  simp [step, h]

/-- With a command in front a step is its meaning with the queue's rest. -/
theorem step_of_front {s : State} {c : Instr} {rest : List Instr} (h : s.pending = c :: rest) :
    step s = exec c { s with pending := rest } := by
  simp [step, h]

/-- Dropping from the front keeps a queue of well-formed commands one. -/
theorem State.waitingWellFormed_of_drop {s t : State} {n : Nat} (ht : t.pending = s.pending.drop n)
    (h : s.waitingWellFormed = true) : t.waitingWellFormed = true := by
  simp only [State.waitingWellFormed, List.all_eq_true, ht] at h ⊢
  exact fun c hc => h c (List.mem_of_mem_drop hc)

/-- A step of a queue of well-formed commands goes on, and takes the front command out of the queue. -/
theorem step_runsOn {s : State} (h : s.waitingWellFormed = true) : ∃ t, step s = .next t ∧ t.pending = s.pending.drop 1 := by
  cases hp : s.pending with
  | nil => exact ⟨s, step_of_empty hp, hp⟩
  | cons c rest =>
    have hc : c.wellFormed = true := by
      simp only [State.waitingWellFormed, hp, List.all_cons, Bool.and_eq_true] at h
      exact h.1
    obtain ⟨b, hb⟩ := exec_runsOn c { s with pending := rest } hc
    exact ⟨⟨b, rest⟩, (step_of_front hp).trans hb, rfl⟩

/-- Running on from a state whose step goes on is running from the step's state. -/
theorem run_succ_of_step {s t : State} (n : Nat) (h : step s = .next t) :
    Host.Core.run Sys2Proof.core (n + 1) s = Host.Core.run Sys2Proof.core n t := by
  have hcore : Sys2Proof.core.step s = .next t := h
  simp [Host.Core.run, hcore]

/-- After `n` steps the first `n` commands of a queue of well-formed commands have run. -/
theorem run_drops {n : Nat} : ∀ {s : State}, s.waitingWellFormed = true →
    ∃ t : State, Host.Core.run Sys2Proof.core n s = .next t ∧ t.pending = s.pending.drop n := by
  induction n with
  | zero => exact fun {s} _ => ⟨s, rfl, rfl⟩
  | succ n ih =>
    intro s h
    obtain ⟨t, hstep, ht⟩ := step_runsOn h
    obtain ⟨u, hrun, hu⟩ := ih (State.waitingWellFormed_of_drop ht h)
    refine ⟨u, (run_succ_of_step n hstep).trans hrun, ?_⟩
    rw [hu, ht, List.drop_drop, Nat.add_comm]

/-- Settles O23: a step takes the front command, which goes on, out of the queue; the run follows by induction on its length. -/
theorem wellFormedQueueRunsOn : Obligations.WellFormedQueueRunsOn := by
  unfold Obligations.WellFormedQueueRunsOn
  intro s h
  obtain ⟨t, hstep, ht⟩ := step_runsOn h
  exact ⟨⟨t, hstep, State.waitingWellFormed_of_drop ht h⟩, fun _ => run_drops h⟩

/-- Settles O20: the front command is taken out of the queue before it runs. -/
theorem stepRunsFrontCommand : Obligations.StepRunsFrontCommand := by
  unfold Obligations.StepRunsFrontCommand
  exact fun _ _ _ => step_of_front rfl

/-- Settles O21: with nothing in front there is nothing to run. -/
theorem emptyQueueIdles : Obligations.EmptyQueueIdles := by
  unfold Obligations.EmptyQueueIdles
  exact fun _ => step_of_empty

/-! ## Ill-formed commands stop -/

/-- A meaning that stops under a guard stops where the guard holds. -/
theorem State.runs_fault {s : State} {g : Prop} [Decidable g] {f : Block → Host.Outcome Block Fault Refusal} (h : g) :
    s.runs (fun b => if g then .fault .illFormed else f b) = .fault .illFormed := by
  simp [State.runs, h]

/-- Settles O24: the nine commands with a list operand check its length first; every other command is well-formed. -/
theorem wrongListLengthsStop : Obligations.WrongListLengthsStop := by
  unfold Obligations.WrongListLengthsStop
  intro c s h
  cases c <;> unfold exec
  case pgmIteration r c e g ue repair =>
    exact State.runs_fault (Decidable.not_and_iff_not_or_not.mp (of_decide_eq_false h))
  case driftFit r c e g => exact State.runs_fault (of_decide_eq_false h)
  case passLatch r c e err => exact State.runs_fault (of_decide_eq_false h)
  case probeCompare r c e err => exact State.runs_fault (of_decide_eq_false h)
  case echoCompare r c e err => exact State.runs_fault (of_decide_eq_false h)
  case recordProbeDone r c e p rowErr sumErr =>
    exact State.runs_fault (Decidable.not_and_iff_not_or_not.mp (of_decide_eq_false h))
  case classifyStart r c e moved err err2 =>
    exact State.runs_fault (Decidable.not_and_iff_not_or_not.mp (of_decide_eq_false h))
  case classifyMirrorReady r c e err err2 =>
    exact State.runs_fault (Decidable.not_and_iff_not_or_not.mp (of_decide_eq_false h))
  case calUnitDone n m =>
    refine State.runs_fault ?_
    cases m
    case conv l _ _ => exact decide_eq_true (of_decide_eq_false h)
    case rowdrv l => exact decide_eq_true (of_decide_eq_false h)
    case drift g => exact decide_eq_true (of_decide_eq_false h)
    all_goals cases h
  all_goals cases h

end Sys2Proof.Machine
end

section
/-! PROOF. The register file as memory, what reset leaves in it, and the frame of a software write. -/
namespace Sys2Proof.Machine

/-! ## Registers and fields -/

/-- A write keeps the register file in its canonical form: it is a write of a sparse table. -/
theorem Block.regsCanonical_setReg {s : Block} (k : Nat) (v : Word) (h : s.regsCanonical = true) :
    (s.setReg k v).regsCanonical = true := by
  simp only [Block.regsCanonical, Bool.and_eq_true, List.all_eq_true, decide_eq_true_eq] at h ⊢
  obtain ⟨hrising, hreset⟩ := h
  refine ⟨SMap.rising_set _ _ _ _ hrising, fun e he => ?_⟩
  simp only [Block.setReg, SMap.set] at he
  split at he
  case isTrue => exact hreset e (List.mem_filter.mp he).1
  case isFalse hne =>
    rcases SMap.mem_ins he with rfl | he
    · exact hne
    · exact hreset e he

/-- Settles O27: the laws of the register file, a sparse table. -/
theorem registerFileIsMemory : Obligations.RegisterFileIsMemory := by
  unfold Obligations.RegisterFileIsMemory
  exact fun s j k v =>
    ⟨s.reg_setReg_self k v, s.reg_setReg_ne v, Block.regsCanonical_setReg k v⟩

/-- Settles O28: a field's bits are replaced in its register's word. -/
theorem fieldsOfARegisterAreIndependent : Obligations.FieldsOfARegisterAreIndependent := by
  unfold Obligations.FieldsOfARegisterAreIndependent
  intro s f n lo w hf
  refine ⟨s.fld_setFld_self f n hf, fun hd _ => ?_⟩
  rw [Block.setFld, Block.reg_setReg_self]
  exact getBits_putBits_ne _ f.lo f.w n lo w hf hd

/-! ## Reset -/

/-- The site map of every ridge is the identity after reset (R258). -/
theorem siteOf_reset (r : RidgeId) (k : Fin 32) : State.reset.siteOf r k = k := by
  revert r k
  decide +kernel

/-- Settles O25: the register file lists nothing, and what the tables say of each ridge and site is evaluated. -/
theorem resetLeavesTheTableValues : Obligations.ResetLeavesTheTableValues := by
  unfold Obligations.ResetLeavesTheTableValues
  refine ⟨rfl, fun _ => rfl, ?_, ?_, ?_, siteOf_reset⟩ <;> decide +kernel

/-- Settles O26: the queue, the register file and the scratchpads are empty. -/
theorem resetMeetsTheInvariants : Obligations.ResetMeetsTheInvariants := by
  unfold Obligations.ResetMeetsTheInvariants
  exact ⟨rfl, rfl, rfl⟩

/-! ## A software write -/

/-- What no interrupt message changes, signalling what rises on a page leaves alone. -/
theorem Block.signalRises_keep {α : Type} (g : Block → α) (hg : ∀ t fn vec, g (t.signal fn vec) = g t) (s old : Block) (page : Nat) :
    g (s.signalRises page old) = g s := by
  refine List.foldlRecOn (motive := fun t => g t = g s) _ _ rfl fun t ht v _ => ?_
  split
  · exact (hg t _ _).trans ht
  · exact ht

/-- A write of a register with no pair writes that register and signals what rises. -/
theorem Block.storeAt_unpaired {s : Block} {req : Requester} {page off : Nat} {v : Word} {row : RegRow}
    (hrow : regRow (pageKind page) off = some row) (hpair : row.pair = 0) :
    ∃ w, s.storeAt req page off v = (s.setReg (s.cellKey page off row) w).signalRises page s := by
  simp only [Block.storeAt, hrow, hpair, false_and, if_false, Nat.reduceEqDiff]
  exact ⟨_, rfl⟩

/-- A write of the LO half of a pair that software writes is staged (R780). -/
theorem Block.storeAt_lo {s : Block} {req : Requester} {page off : Nat} {v : Word} {row : RegRow}
    (hrow : regRow (pageKind page) off = some row) (hpair : row.pair = 1)
    (hw : row.fields.any (fun f => decide (f.acc = .rw ∨ f.acc = .rwl)) = true) :
    s.storeAt req page off v =
      { s with staged := SMap.ins (stageKey (s.cellKey page off row) req.val) v s.staged } := by
  simp only [Block.storeAt, hrow, hpair, hw, and_self, if_true]

/-- Settles O33: a register with no pair is written and signalled, which leaves the other registers and the parts; a LO half is
staged, which is no register. -/
theorem registerWritesChangeTheirRegisterOnly : Obligations.RegisterWritesChangeTheirRegisterOnly := by
  unfold Obligations.RegisterWritesChangeTheirRegisterOnly
  intro req page off v row s hrow
  refine ⟨fun hpair => ?_, fun hpair hw => ?_⟩
  · obtain ⟨w, hstore⟩ := Block.storeAt_unpaired (s := s.toBlock) (req := req) (v := v) hrow hpair
    rw [hstore]
    have keeps {α : Type} (g : Block → α) (hg : ∀ t fn vec, g (t.signal fn vec) = g t) :=
      Block.signalRises_keep g hg (s.setReg (s.cellKey page off row) w) s.toBlock page
    exact ⟨fun k hk => (keeps (·.reg k) fun _ _ _ => rfl).trans (s.reg_setReg_ne w hk),
      keeps (·.core) fun _ _ _ => rfl, keeps (·.spad) fun _ _ _ => rfl, keeps (·.eng) fun _ _ _ => rfl,
      keeps (·.staged) fun _ _ _ => rfl⟩
  · rw [Block.storeAt_lo hrow hpair hw]
    exact ⟨fun _ => rfl, SMap.find_ins_self _ _ _⟩

end Sys2Proof.Machine
end

section
/-! PROOF. Slots that join their bundle. A slot with a legal encoding whose guard holds joins its effects (`Block.slot_effects`); one
lemma for each family of slots says so of the family's shared operation, and each opcode is a short use of its family's. -/
namespace Sys2Proof.Machine

/-- What a command gives, under another name. -/
theorem Gives.congr {i : Instr} {s : State} {b u : Block} (hi : Gives i s b) (h : b = u) : Gives i s u := h ▸ hi

/-! ## Scalar slots A and B -/

section Scalar
variable {s : State} {r : RidgeId} {c : SiteId} {o : SOp} (hissues : s.issues r c = true)
include hissues

/-- A NOP without other bits joins nothing (R262). -/
theorem Block.nopSlot_joins (k : Nat) (last : Bool) : s.nopSlot r c k last false = s.joins r c k last [] [] :=
  Block.slot_effects s.toBlock r c k last _ [] [] _ [] [] true _ hissues rfl rfl rfl rfl rfl

variable (hrsv : o.rsv = 0) (hguard : (s.coreAt r c).guard o.gp o.gneg = true)
include hrsv hguard

/-- A two-operand slot joins the s-register result of its operation (R269). -/
theorem Block.scalarOp_joins (hreads : (s.coreAt r c).unclaimed o.reads = true) (lat : Nat) (f : DWord → DWord → DWord) :
    s.scalarOp r c o lat f = s.joins r c o.k o.last [.s o.rd.toNat]
      [.result lat (.s o.rd.toNat) ((f ((s.coreAt r c).s o.rs1.toNat) (o.op2 (s.coreAt r c))).setWidth 4096) allBitsRow] :=
  Block.slot_effects s.toBlock r c _ _ _ _ _ _ [] _ _ _ hissues hguard hreads rfl rfl (by simp [hrsv])

/-- A compare joins a predicate of all ones or all zeros (R269). -/
theorem Block.compareOp_joins (hrd : o.rd.toNat < 8) (hreads : (s.coreAt r c).unclaimed o.reads = true) (f : DWord → DWord → Bool) :
    s.compareOp r c o f = s.joins r c o.k o.last [.p o.rd.toNat]
      [.result 1 (.p o.rd.toNat) (predOf (f ((s.coreAt r c).s o.rs1.toNat) (o.op2 (s.coreAt r c)))) allBitsRow] := by
  have hpd : o.rd.toNat % 8 = o.rd.toNat := Nat.mod_eq_of_lt hrd
  unfold Block.compareOp
  rw [hpd]
  exact Block.slot_effects s.toBlock r c _ _ _ _ _ _ [] _ _ _ hissues hguard hreads rfl rfl (by simp [hrsv, hrd])

/-- Predicate logic joins the predicate of its two predicates (R269). -/
theorem Block.predOp_joins (hrd : o.rd.toNat < 8) (hrs1 : o.rs1.toNat < 8) (hrs2 : o.rs2.toNat < 8) (himm : o.src2i = false)
    (f : BitVec 512 → BitVec 512 → BitVec 512) :
    s.predOp r c o f = s.joins r c o.k o.last [.p o.rd.toNat]
      [.result 1 (.p o.rd.toNat) ((f ((s.coreAt r c).p o.rs1.toNat) ((s.coreAt r c).p o.rs2.toNat)).setWidth 4096) allBitsRow] := by
  have hpd : o.rd.toNat % 8 = o.rd.toNat := Nat.mod_eq_of_lt hrd
  unfold Block.predOp
  rw [hpd]
  exact Block.slot_effects s.toBlock r c _ _ _ _ _ _ [] _ _ _ hissues hguard rfl rfl rfl
    (by simp [hrsv, himm, Nat.not_le.mpr hrd, Nat.not_le.mpr hrs1, Nat.not_le.mpr hrs2])

end Scalar

/-- The predicate of a decided proposition. -/
theorem predOf_decide (p : Prop) [Decidable p] : predOf (decide p) = if p then allBitsRow else 0 :=
  ite_congr decide_eq_true_eq (fun _ => rfl) (fun _ => rfl)

/-- Settles O1: every scalar opcode is `Block.scalarOp` of its operation, but li, which reads no first operand. -/
theorem scalarSlotsJoinTheirResult : Obligations.ScalarSlotsJoinTheirResult := by
  unfold Obligations.ScalarSlotsJoinTheirResult
  intro r c o s x a b joins hissues
  refine ⟨fun slotB last => Gives.congr (i := .scalarNop ..) rfl (Block.nopSlot_joins hissues _ last),
    fun hrsv hguard hreads => ?_, fun hrsv hguard hreads => ?_⟩
  · have scalar (i : Instr) (lat : Nat) (f : DWord → DWord → DWord) (hi : Gives i s (s.scalarOp r c o lat f)) : joins i lat (f a b) :=
      hi.congr (Block.scalarOp_joins hissues hrsv hguard hreads lat f)
    have slt : a.slt b = decide (a.toInt < b.toInt) := BitVec.slt_eq_decide
    have ult : a.ult b = decide (a.toNat < b.toNat) := rfl
    refine ⟨scalar _ 1 (· + ·) rfl, scalar _ 1 (· - ·) rfl, scalar _ 1 (· &&& ·) rfl, scalar _ 1 (· ||| ·) rfl, scalar _ 1 (· ^^^ ·) rfl,
      scalar _ 1 (fun a b => a <<< (b.toNat % 64)) rfl, scalar _ 1 (fun a b => a >>> (b.toNat % 64)) rfl,
      scalar _ 1 (fun a b => a.sshiftRight (b.toNat % 64)) rfl, scalar _ 3 (· * ·) rfl,
      scalar _ 3 (fun a b => BitVec.ofInt 64 (a.toInt * b.toInt / 2 ^ 64)) rfl,
      scalar _ 3 (fun a b => BitVec.ofNat 64 (a.toNat * b.toNat / 2 ^ 64)) rfl, ?_, ?_, ?_, ?_⟩
    · simpa [slt] using scalar (.min r c o) 1 (fun a b => if a.slt b then a else b) rfl
    · simpa [slt] using scalar (.max r c o) 1 (fun a b => if a.slt b then b else a) rfl
    · simpa [ult] using scalar (.minu r c o) 1 (fun a b => if a.ult b then a else b) rfl
    · simpa [ult] using scalar (.maxu r c o) 1 (fun a b => if a.ult b then b else a) rfl
  · exact Gives.congr (i := .li ..) rfl
      (Block.slot_effects s.toBlock r c _ _ _ _ _ _ [] _ _ _ hissues hguard hreads rfl rfl (by simp [hrsv]))

/-- Settles O2: a compare is `Block.compareOp` of its comparison, predicate logic `Block.predOp` of its operation. -/
theorem predicateSlotsJoinTheirResult : Obligations.PredicateSlotsJoinTheirResult := by
  unfold Obligations.PredicateSlotsJoinTheirResult
  intro r c o s x a b p q compares logic hissues hrsv hguard hrd
  refine ⟨fun hreads => ?_, fun hrs1 hrs2 himm => ?_⟩
  · have compare (i : Instr) (holds : Prop) [Decidable holds] (f : DWord → DWord → Bool) (hf : f a b = decide holds)
        (hi : Gives i s (s.compareOp r c o f)) : compares i holds := by
      refine hi.congr ((Block.compareOp_joins hissues hrsv hguard hrd hreads f).trans ?_)
      rw [← predOf_decide, ← hf]
    refine ⟨compare _ _ (fun a b => decide (a = b)) rfl rfl, compare _ _ (fun a b => decide (a ≠ b)) rfl rfl,
      compare _ _ (fun a b => a.slt b) BitVec.slt_eq_decide rfl, compare _ _ (fun a b => a.ult b) rfl rfl,
      compare _ _ (fun a b => !a.slt b) ?_ rfl, compare _ _ (fun a b => !a.ult b) ?_ rfl⟩
    · simp [BitVec.slt_eq_decide, ← decide_not]
    · simp [BitVec.ult, ← decide_not]
  · have logical (i : Instr) (f : BitVec 512 → BitVec 512 → BitVec 512) (hi : Gives i s (s.predOp r c o f)) : logic i (f p q) :=
      hi.congr (Block.predOp_joins hissues hrsv hguard hrd hrs1 hrs2 himm f)
    exact ⟨logical _ (· &&& ·) rfl, logical _ (· ||| ·) rfl, logical _ (· ^^^ ·) rfl, logical _ (fun p q => p &&& ~~~q) rfl⟩

/-! ## Vector slots -/

/-- A vector slot of a type that its opcode takes, unmasked where a mask is not allowed, joins its effects (R262, R272, R273). -/
theorem Block.vectorOp_joins {s : State} {r : RidgeId} {c : SiteId} {o : VOp} (hissues : s.issues r c = true) (hrsv : o.rsv = 0)
    {accepts : Nat → Bool} {maskable : Bool} {checks : List (Bool × Nat)} {reads : List Nat} (htype : o.type.toNat < 24)
    (haccepts : accepts o.type.toNat = true) (hmask : o.men = true → o.type.toNat ≤ 8 ∧ maskable = true)
    (hchecks : checks.filter (·.1) = []) (hreads : (s.coreAt r c).unclaimed reads = true) (dests : List Dest) (run : Core → List Fx) :
    s.vectorOp r c o accepts maskable checks dests reads run =
      s.joins r c 2 o.last dests (run (s.coreAt r c) ++ if o.residue then [Fx.residue] else []) := by
  have hmen : (o.men && (decide (o.type.toNat > 8) || !maskable)) = false := by
    cases hm : o.men
    · rfl
    · obtain ⟨h8, hmaskable⟩ := hmask hm
      simp [hmaskable, Nat.not_lt.mpr h8]
  exact Block.slot_effects s.toBlock r c _ _ _ _ _ _ [] _ _ _ hissues rfl hreads rfl rfl
    (by simp [hrsv, Nat.not_le.mpr htype, haccepts, hmen, hchecks])

/-- Settles O4: each opcode is the elementwise operation of its element types. -/
theorem elementwiseVectorSlotsJoinTheirRow : Obligations.ElementwiseVectorSlotsJoinTheirRow := by
  unfold Obligations.ElementwiseVectorSlotsJoinTheirRow
  intro r c o s x ty w f row wraps hissues
  refine ⟨fun last => Gives.congr (i := .vnop ..) rfl (Block.nopSlot_joins hissues _ last), fun hrsv => ?_⟩
  -- An elementwise slot joins the row of what its function makes of the elements of the type.
  have elementwise {i : Instr} {accepts : Nat → Bool} (lat : Nat) (fn : Nat → Nat → Nat → Nat → Nat × Nat) (hlow : ty ≤ 8)
      (haccepts : accepts ty = true)
      (hi : Gives i s (s.vectorOp r c o accepts true [] [.v o.vd.toNat] [] (o.elementwise lat fn))) : row i lat (fn ty) :=
    hi.congr (Block.vectorOp_joins hissues hrsv (Nat.lt_of_le_of_lt hlow (by decide)) haccepts (fun _ => ⟨hlow, rfl⟩) rfl rfl
      [.v o.vd.toNat] (o.elementwise lat fn))
  refine ⟨fun hint => ?_, fun hlo hhi => ?_⟩
  · have h8 : ty ≤ 8 := Nat.le_trans hint (by decide)
    have harith : arith ty = true := decide_eq_true (Nat.le_trans hint (by decide))
    have hints : ints ty = true := decide_eq_true hint
    have hlat : vlat ty 2 4 = 2 := if_pos hint
    have wrap (fi : Int → Int → Int) (ff : FVal → FVal → FVal) : arith2 fi ff ty = fun a b _ => wraps fi a b :=
      funext fun _ => funext fun _ => funext fun _ => if_pos hint
    have integer {i : Instr} (lat : Nat) (fi : Int → Int → Int) (ff : FVal → FVal → FVal)
        (hi : Gives i s (s.vectorOp r c o arith true [] [.v o.vd.toNat] [] (o.elementwise lat (arith2 fi ff)))) :
        row i lat (fun a b _ => wraps fi a b) :=
      wrap fi ff ▸ elementwise lat _ h8 harith hi
    have bitwise {i : Instr} (fn : Nat → Nat → Nat → Nat → Nat × Nat)
        (hi : Gives i s (s.vectorOp r c o ints true [] [.v o.vd.toNat] [] (o.elementwise 2 fn))) : row i 2 (fn ty) :=
      elementwise 2 fn h8 hints hi
    exact ⟨hlat ▸ integer (vlat ty 2 4) (· + ·) FVal.add rfl, hlat ▸ integer (vlat ty 2 4) (· - ·) (fun a b => a.add b.neg) rfl,
      integer 4 (· * ·) FVal.mul rfl, hlat ▸ integer (vlat ty 2 4) (fun m n => if n < m then n else m) (pickVal false) rfl,
      hlat ▸ integer (vlat ty 2 4) (fun m n => if m < n then n else m) (pickVal true) rfl,
      bitwise (fun _ a b _ => (a &&& b, 0)) rfl, bitwise (fun _ a b _ => (a ||| b, 0)) rfl, bitwise (fun _ a b _ => (a ^^^ b, 0)) rfl,
      bitwise (fun ty a b _ => ((a <<< (b % typeWidth ty)) % 2 ^ typeWidth ty, 0)) rfl,
      bitwise (fun ty a b _ => (wrapInt (typeWidth ty) (intElem ty a / (2 ^ (b % typeWidth ty) : Nat)), 0)) rfl⟩
  · have h8 : ty ≤ 8 := Nat.le_trans hhi (by decide)
    have hnot : ¬ ty ≤ 3 := Nat.not_le.mpr hlo
    have hlat : vlat ty 2 4 = 4 := if_neg hnot
    have round (fi : Int → Int → Int) (ff : FVal → FVal → FVal) :
        arith2 fi ff ty = fun a b _ => f.encode (ff (f.decode a) (f.decode b)) :=
      funext fun _ => funext fun _ => funext fun _ => if_neg hnot
    have floating {i : Instr} (lat : Nat) (fi : Int → Int → Int) (ff : FVal → FVal → FVal)
        (hi : Gives i s (s.vectorOp r c o arith true [] [.v o.vd.toNat] [] (o.elementwise lat (arith2 fi ff)))) :
        row i lat (fun a b _ => f.encode (ff (f.decode a) (f.decode b))) :=
      round fi ff ▸ elementwise lat _ h8 (decide_eq_true hhi) hi
    exact ⟨hlat ▸ floating (vlat ty 2 4) (· + ·) FVal.add rfl, hlat ▸ floating (vlat ty 2 4) (· - ·) (fun a b => a.add b.neg) rfl,
      floating 4 (· * ·) FVal.mul rfl,
      elementwise 4 (fun ty a b d => (typeFmt ty).encode ((((typeFmt ty).decode a).mul ((typeFmt ty).decode b)).add ((typeFmt ty).decode d)))
        h8 (decide_eq_true ⟨hlo, hhi⟩) rfl,
      hlat ▸ floating (vlat ty 2 4) (fun a b => if b < a then b else a) (pickVal false) rfl,
      hlat ▸ floating (vlat ty 2 4) (fun a b => if a < b then b else a) (pickVal true) rfl⟩

/-- Settles O5: each opcode is elementwise, of the code that the model's constant picks within 1 ulp. -/
theorem elementaryVectorSlotsJoinTheirRow : Obligations.ElementaryVectorSlotsJoinTheirRow := by
  unfold Obligations.ElementaryVectorSlotsJoinTheirRow
  intro r c o s x ty row hissues hrsv hlo hhi
  have elementary {i : Instr} (fn : Nat) (g : FFmt → Nat → FVal → Nat × Nat)
      (hi : Gives i s (s.vectorOp r c o floats true [] [.v o.vd.toNat] [] (o.elementary fn g))) : row i fn g :=
    hi.congr (Block.vectorOp_joins hissues hrsv (Nat.lt_of_le_of_lt hhi (by decide)) (decide_eq_true ⟨hlo, hhi⟩)
      (fun _ => ⟨Nat.le_trans hhi (by decide), rfl⟩) rfl rfl [.v o.vd.toNat] (o.elementary fn g))
  exact ⟨elementary 0 vexp rfl, elementary 1 vrsqrt rfl, elementary 2 vrcp rfl⟩

/-- Settles O6: each opcode's effects, by the element types and the immediates that it takes. -/
theorem otherVectorSlotsJoinTheirEffect : Obligations.OtherVectorSlotsJoinTheirEffect := by
  unfold Obligations.OtherVectorSlotsJoinTheirEffect
  intro r c o s x ty imm v1 v2 tail joins mask hissues hrsv
  have masked {i : Instr} {accepts : Nat → Bool} {checks : List (Bool × Nat)} {reads : List Nat} {dests : List Dest}
      {run : Core → List Fx} {fx : List Fx} (hi : Gives i s (s.vectorOp r c o accepts true checks dests reads run))
      (hty : ty ≤ 8) (haccepts : accepts ty = true) (hchecks : checks.filter (·.1) = [])
      (hreads : x.unclaimed reads = true) (hfx : run x = fx) : joins i dests fx :=
    hfx ▸ hi.congr (Block.vectorOp_joins hissues hrsv (Nat.lt_of_le_of_lt hty (by decide)) haccepts (fun _ => ⟨hty, rfl⟩) hchecks
      hreads dests run)
  have unmasked {i : Instr} {accepts : Nat → Bool} {checks : List (Bool × Nat)} {dests : List Dest} {run : Core → List Fx}
      {fx : List Fx} (hi : Gives i s (s.vectorOp r c o accepts false checks dests [] run))
      (hty : ty < 24) (haccepts : accepts ty = true) (hmen : o.men = false) (hchecks : checks.filter (·.1) = [])
      (hfx : run x = fx) : joins i dests fx :=
    hfx ▸ hi.congr (Block.vectorOp_joins hissues hrsv hty haccepts (fun h => absurd h (by simp [hmen])) hchecks rfl dests run)
  refine ⟨fun hty hmen => ?_, fun hty hcond => ?_, fun hty hreads => ?_, fun hlo hhi => ?_, fun hty hmen => ?_, fun hty hmen => ?_,
    fun hlo hhi hmen => ?_, fun hty hmen => ⟨fun n v hmax => ?_, fun hmax => ?_⟩, fun hlo hhi hmen => ?_,
    fun hty hmen hlo hhi => ?_, fun hty hmen => ?_, fun hty hmen => ?_⟩
  case refine_1 => exact unmasked rfl (by omega) (decide_eq_true hty) hmen rfl rfl
  case refine_2 => exact masked rfl (by omega) (decide_eq_true hty) (by simp [imm, hcond]) rfl rfl
  case refine_3 => exact masked rfl hty (decide_eq_true hty) rfl hreads rfl
  case refine_4 => exact masked rfl (by omega) (decide_eq_true ⟨hlo, hhi⟩) rfl rfl rfl
  case refine_5 => exact unmasked rfl (by omega) (decide_eq_true hty) hmen rfl rfl
  case refine_6 => exact unmasked rfl (by omega) (decide_eq_true (by omega)) hmen rfl (by simp [ty, v1, hty])
  case refine_7 =>
    exact unmasked rfl (by omega) (decide_eq_true hhi) hmen rfl (by simp [ty, v1, Nat.not_le.mpr hlo])
  case refine_8 => exact unmasked rfl (by omega) (decide_eq_true hty) hmen rfl (by simp [ty, v1, hmax])
  case refine_9 => exact unmasked rfl (by omega) (decide_eq_true hty) hmen rfl (by simp [ty, v1, hmax])
  case refine_10 => exact unmasked rfl (by omega) (decide_eq_true ⟨hlo, hhi⟩) hmen rfl rfl
  case refine_11 =>
    exact unmasked rfl (by omega) (decide_eq_true hty) hmen (by simp [imm] at hlo hhi ⊢; omega) rfl
  case refine_12 => exact unmasked rfl (by omega) (decide_eq_true hty) hmen rfl rfl
  case refine_13 => exact unmasked rfl hty rfl hmen rfl rfl

/-- Settles O7: the conversion takes its elements from the half, and places them in the half, that IMM names. -/
theorem conversionSlotsJoinTheirRow : Obligations.ConversionSlotsJoinTheirRow := by
  unfold Obligations.ConversionSlotsJoinTheirRow
  intro r c o s x td ts nd ns n start len vs q hissues hrsv htd hts hmask hstart hweight
  have hfits : ¬ (td < 24 ∧ ts < 24 ∧ start ≥ max nd ns) := fun h => Nat.not_le.mpr hstart h.2.2
  have hweights : ¬ (16 ≤ ts ∧ ts < 24 ∧ td ≥ 2 ∧ td ≤ 15) := fun h => Nat.not_le.mpr (hweight h.1) h.2.2.1
  have hchecks : ([(decide (ts ≥ 24), 1), (decide (td < 24 ∧ ts < 24 ∧ start ≥ max nd ns), 1),
      (decide (16 ≤ ts ∧ ts < 24 ∧ td ≥ 2 ∧ td ≤ 15), 3)] : List (Bool × Nat)).filter (·.1) = [] := by
    rw [decide_eq_false (Nat.not_le.mpr hts), decide_eq_false hfits, decide_eq_false hweights]
    rfl
  refine Gives.congr (i := .vcvt ..) rfl ((Block.vectorOp_joins hissues hrsv (Nat.lt_of_le_of_lt htd (by decide)) (decide_eq_true htd)
    (fun h => ⟨hmask h, rfl⟩) hchecks rfl _ _).trans ?_)
  simp only [apply_ite Prod.fst, apply_ite Prod.snd]
  rfl

/-- Settles O8: a top-k opcode joins its unit's new list, the others the row or record that they write. -/
theorem samplingSlotsJoinTheirEffect : Obligations.SamplingSlotsJoinTheirEffect := by
  unfold Obligations.SamplingSlotsJoinTheirEffect
  intro r c o s x ty imm unit a tail changes hissues hrsv hty hmen
  have slot {i : Instr} {accepts : Nat → Bool} {checks : List (Bool × Nat)} {dests : List Dest} {reads : List Nat}
      {run : Core → List Fx} {fx : List Fx} (hi : Gives i s (s.vectorOp r c o accepts false checks dests reads run))
      (haccepts : accepts ty = true) (hchecks : checks.filter (·.1) = []) (hreads : x.unclaimed reads = true) (hfx : run x = fx) :
      Gives i s (s.joins r c 2 o.last dests (fx ++ tail)) :=
    hfx ▸ hi.congr (Block.vectorOp_joins hissues hrsv hty haccepts (fun h => absurd h (by simp [hmen])) hchecks hreads dests run)
  refine ⟨fun hlo hhi => ?_, fun hlo hhi hreads => ?_, ?_, ?_, fun hreads => ⟨?_, ?_⟩, fun hreads => ⟨?_, ?_⟩⟩
  · exact slot (i := .tkInit ..) rfl rfl (by simp [imm] at hlo hhi ⊢; omega) rfl rfl
  · exact slot (i := .tkScan ..) rfl (decide_eq_true ⟨hlo, hhi⟩) rfl hreads rfl
  · exact slot (i := .tkMerge ..) rfl rfl rfl rfl rfl
  · exact slot (i := .tkOut ..) rfl rfl rfl rfl rfl
  · exact slot (i := .smpNorm ..) rfl rfl rfl hreads rfl
  · exact slot (i := .smpTopp ..) rfl rfl rfl hreads rfl
  · exact slot (i := .smpDraw ..) rfl rfl rfl hreads rfl
  · exact slot (i := .smpAccept ..) rfl rfl rfl hreads rfl

end Sys2Proof.Machine
end

section
/-! PROOF. The memory, control and engine slots that join their bundle, and what a slot that does not close its bundle leaves alone. -/
namespace Sys2Proof.Machine

/-! ## Memory slots -/

/-- Within the scratchpad an operation on a row runs. -/
theorem withRow_of_lt {row : Nat} (h : row < 4096) (f : Nat → List SlotExc × List Fx) : withRow row f = f row :=
  if_neg (Nat.not_le.mpr h)

/-- Outside it SP_BOUNDS is raised. -/
theorem withRow_of_le {row : Nat} (h : 4096 ≤ row) (f : Nat → List SlotExc × List Fx) :
    withRow row f = ([⟨2, 0, 4, min row 0xFFFFFFFF⟩], []) :=
  if_pos h

section Window
variable {s : Block} {r : RidgeId} {c : SiteId} {o : MOp} {x : Core}

/-- A window of a core or of the cache tier that admits the request lets it through (R217, R255). -/
theorem Block.remoteCheck_admits {write : Bool} (hrow : o.localRow x < 4096)
    (hok : s.windowOk r c o.win.toNat (o.offset x) 1 write = true) (hkind : s.fld (AW_CTL.KIND r c o.win.toNat) < 2) (op : PktOp) :
    s.remoteCheck r c o x write op = ([], [.remote op (o.localRow x) o.win.toNat (o.offset x) o.cell.toNat]) := by
  simp [Block.remoteCheck, withRow_of_lt hrow, hok, hkind]

/-- A local row outside the scratchpad is found before the window is looked at. -/
theorem Block.remoteCheck_bounds (hrow : 4096 ≤ o.localRow x) (write : Bool) (op : PktOp) :
    s.remoteCheck r c o x write op = ([⟨2, 0, 4, min (o.localRow x) 0xFFFFFFFF⟩], []) := by
  unfold Block.remoteCheck
  exact withRow_of_le hrow _

/-- A window through which the request may not go raises its exception (R818). -/
theorem Block.remoteCheck_denied {write : Bool} (hrow : o.localRow x < 4096)
    (hok : s.windowOk r c o.win.toNat (o.offset x) 1 write = false) (op : PktOp) :
    s.remoteCheck r c o x write op = ([⟨3, 0, 4, windowInfo o.win.toNat (o.offset x)⟩], []) := by
  simp [Block.remoteCheck, withRow_of_lt hrow, hok]

end Window

section Memory
variable {s : State} {r : RidgeId} {c : SiteId} {o : MOp} {i : Instr} {checks : List (Bool × Nat)} {dests : List Dest} {reads : List Nat}
  {run : Core → List SlotExc × List Fx} (hissues : s.issues r c = true) (hrsv : o.rsv = 0)
  (hguard : (s.coreAt r c).guard o.gp o.gneg = true)
include hissues hrsv hguard

/-- A memory slot with a legal encoding whose operands raise nothing joins its effects (R262, R264). -/
theorem Gives.memorySlot {fx : List Fx} (hi : Gives i s (s.memoryOp r c o checks dests reads run))
    (hreads : (s.coreAt r c).unclaimed reads = true) (hrun : run (s.coreAt r c) = ([], fx)) (hchecks : checks.filter (·.1) = []) :
    Gives i s (s.joins r c 4 o.last dests fx) :=
  hi.congr (Block.slot_effects s.toBlock r c _ _ _ _ _ _ [] _ _ _ hissues hguard hreads hrun rfl (by simp [hrsv, hchecks]))

/-- A memory slot with a legal encoding that does not close its bundle and whose operands raise an exception joins the exception and
no effect (R231, R266). -/
theorem Gives.memorySlot_raises {e : SlotExc} (hi : Gives i s (s.memoryOp r c o checks dests reads run)) (hlast : o.last = false)
    (hrun : run (s.coreAt r c) = ([e], [])) (hchecks : checks.filter (·.1) = []) :
    ∃ t, Gives i s t ∧ (t.coreAt r c).bundle.excs = (s.coreAt r c).bundle.excs ++ [e] ∧
      (t.coreAt r c).bundle.fx = (s.coreAt r c).bundle.fx := by
  refine ⟨_, hi, ?_⟩
  simp [Block.memoryOp, Block.slot, slotOut, hissues, hrsv, hguard, hlast, hrun, hchecks]

end Memory

/-- Settles O9: each opcode's effect, once its row, its window or its channel admits it. -/
theorem memorySlotsJoinTheirEffect : Obligations.MemorySlotsJoinTheirEffect := by
  unfold Obligations.MemorySlotsJoinTheirEffect
  intro r c o s x imm joins row code hissues
  refine ⟨fun last => Gives.congr (i := .memNop ..) rfl (Block.nopSlot_joins hissues _ last), fun hrsv hguard => ?_⟩
  have slot {i : Instr} {checks : List (Bool × Nat)} {dests : List Dest} {reads : List Nat} {run : Core → List SlotExc × List Fx}
      {fx : List Fx} (hi : Gives i s (s.memoryOp r c o checks dests reads run)) (hreads : x.unclaimed reads = true)
      (hrun : run x = ([], fx)) (hchecks : checks.filter (·.1) = []) : joins i dests fx :=
    Gives.memorySlot hissues hrsv hguard hi hreads hrun hchecks
  refine ⟨fun hreads hrow => ⟨?_, ?_⟩, ?_, fun hreads => ?_, fun v hv hcode => ?_, fun hreads hcode => ?_,
    fun hreads hrow => ?_, fun hreads hrow hlo hhi => ?_, fun hreads hch => ?_, ?_, ?_, fun hreads => ⟨?_, ?_⟩, ?_, ?_⟩
  · exact slot (i := .ld ..) rfl hreads (withRow_of_lt hrow _) rfl
  · exact slot (i := .st ..) rfl hreads (withRow_of_lt hrow _) rfl
  · exact slot (i := .movv2s ..) rfl rfl rfl rfl
  · exact slot (i := .movs2v ..) rfl hreads rfl rfl
  · exact slot (i := .movx2s ..) rfl rfl (by simp [code, imm] at hv ⊢; simp [hv]) (by simp [code, imm] at hcode ⊢; omega)
  · have hlow : code < 15 := by omega
    refine slot (i := .movs2x ..) rfl hreads rfl ?_
    simp [code, imm] at hlow hcode ⊢
    simp [hlow, hcode, specialWritable]
  · exact ⟨fun hok hkind => slot (i := .get ..) rfl hreads (Block.remoteCheck_admits hrow hok hkind _) rfl,
      fun hok hkind => slot (i := .put ..) rfl hreads (Block.remoteCheck_admits hrow hok hkind _) rfl,
      slot (i := .mdisp ..) rfl hreads (withRow_of_lt hrow _) rfl⟩
  · exact slot (i := .emit ..) rfl hreads (withRow_of_lt hrow _) (by simp [imm] at hlo hhi ⊢; omega)
  · exact slot (i := .drvPush ..) rfl hreads (if_pos hch) rfl
  · exact slot (i := .crPush ..) rfl rfl rfl rfl
  · exact slot (i := .crPop ..) rfl rfl rfl rfl
  · exact slot (i := .crPeek ..) rfl hreads rfl rfl
  · exact slot (i := .crFree ..) rfl hreads rfl rfl
  · exact slot (i := .crStat ..) rfl rfl rfl rfl
  · exact slot (i := .nwRds ..) rfl rfl rfl rfl

/-- Settles O10: a row outside the scratchpad, a window through which the request may not go, a channel that is not the core's. -/
theorem memorySlotsRaiseTheirExceptions : Obligations.MemorySlotsRaiseTheirExceptions := by
  unfold Obligations.MemorySlotsRaiseTheirExceptions
  intro r c o s x row raises hissues hlast hrsv hguard
  have slot {i : Instr} {checks : List (Bool × Nat)} {dests : List Dest} {reads : List Nat} {run : Core → List SlotExc × List Fx}
      {e : SlotExc} (hi : Gives i s (s.memoryOp r c o checks dests reads run)) (hrun : run x = ([e], []))
      (hchecks : checks.filter (·.1) = []) : raises i e :=
    Gives.memorySlot_raises hissues hrsv hguard hi hlast hrun hchecks
  refine ⟨fun hrow => ⟨?_, ?_, ?_, ?_⟩, fun hrow hwin => ?_, fun hrow hwin => ?_, fun hch => ?_⟩
  · exact slot (i := .ld ..) rfl (withRow_of_le hrow _) rfl
  · exact slot (i := .st ..) rfl (withRow_of_le hrow _) rfl
  · exact slot (i := .get ..) rfl (Block.remoteCheck_bounds hrow _ _) rfl
  · exact slot (i := .put ..) rfl (Block.remoteCheck_bounds hrow _ _) rfl
  · exact slot (i := .get ..) rfl (Block.remoteCheck_denied hrow hwin _) rfl
  · exact slot (i := .put ..) rfl (Block.remoteCheck_denied hrow hwin _) rfl
  · exact slot (i := .drvPush ..) rfl (if_neg (by simp [hch])) rfl

/-! ## The control slot -/

/-- A control slot of a bundle that was fetched without an error, with a good header and a legal encoding, whose guard holds, closes
the bundle with its effects (R262, R264, R303). -/
theorem Gives.controlSlot {i : Instr} {s : State} {r : RidgeId} {c : SiteId} {o : COp} {checks : List (Bool × Nat)} {dests : List Dest}
    {reads : List Nat} {run : Core → List SlotExc × List Fx} {fx : List Fx} (hissues : s.issues r c = true) (hrsv : o.rsv = 0)
    (hheader : o.badHeader = false) (hfetch : o.fetch = .clean) (himm : o.im = true → o.imm.isSome = true)
    (hguard : (s.coreAt r c).guard o.gp o.gneg = true) (hi : Gives i s (s.controlOp r c o checks dests reads run))
    (hreads : (s.coreAt r c).unclaimed reads = true) (hrun : run (s.coreAt r c) = ([], fx)) (hchecks : checks.filter (·.1) = []) :
    Gives i s ((s.joined r c 5 dests fx).closeBundle r c) := by
  have himm' : (o.im && o.imm.isNone) = false := by
    cases him : o.im
    · rfl
    · simpa using himm him
  refine hi.congr ?_
  have hslot := Block.slot_effects s.toBlock r c 5 true (s.coreAt r c) dests reads (fun _ => run (s.coreAt r c)) [] fx _
    ([(decide (o.rsv ≠ 0), 1), (o.im && o.imm.isNone, 1)] ++ checks) hissues hguard hreads hrun rfl (by simp [hrsv, himm', hchecks])
  simpa [Block.controlOp, Block.controlSlot, hheader, hfetch, headerExcs, Block.countFetch, Block.joins] using hslot

/-- A NOP control slot of a bundle without a header closes it as it is (R262). -/
theorem Gives.ctrlNop {s : State} {r : RidgeId} {c : SiteId} (hissues : s.issues r c = true) :
    Gives (.ctrlNop r c 0 false .clean) s ((s.joined r c 5 [] []).closeBundle r c) := by
  refine Gives.congr (i := .ctrlNop ..) rfl ?_
  have hslot := Block.slot_effects s.toBlock r c 5 true (s.coreAt r c) [] [] (fun _ => ([], [])) [] [] true [(false, 1)] hissues rfl rfl rfl
    rfl rfl
  simpa [Block.controlSlot, headerExcs, Block.countFetch, Block.joins, hissues] using hslot

/-- Settles O11: each opcode's effect, once its cell or its window admits it. -/
theorem controlSlotsCloseWithTheirEffect : Obligations.ControlSlotsCloseWithTheirEffect := by
  unfold Obligations.ControlSlotsCloseWithTheirEffect
  intro r c o s x closes word reaches hissues
  refine ⟨?_, fun hrsv hheader hfetch himm hguard => ?_⟩
  · exact Gives.ctrlNop hissues
  have slot {i : Instr} {checks : List (Bool × Nat)} {dests : List Dest} {reads : List Nat} {run : Core → List SlotExc × List Fx}
      {fx : List Fx} (hi : Gives i s (s.controlOp r c o checks dests reads run)) (hreads : x.unclaimed reads = true)
      (hrun : run x = ([], fx)) (hchecks : checks.filter (·.1) = []) : closes i dests fx :=
    Gives.controlSlot hissues hrsv hheader hfetch himm hguard hi hreads hrun hchecks
  have admits {write : Bool} (h : reaches write) (fx : List Fx) : s.syncCheck r c o write fx = ([], fx) := by
    refine if_pos ?_
    rcases h with hown | ⟨hok, hkind⟩
    · simp [hown]
    · simp [hok, hkind]
  refine ⟨?_, fun hreads => ?_, fun hreads hpc => ?_, ?_, fun hhandler => ?_, fun hreads hcell => ⟨?_, ?_⟩,
    fun hreads hcell => ⟨?_, fun hcond => ?_⟩, ?_⟩
  · exact slot (i := .br ..) rfl rfl rfl rfl
  · exact slot (i := .jr ..) rfl hreads rfl rfl
  · exact slot (i := .loop ..) rfl hreads rfl (by simpa using hpc)
  · exact slot (i := .halt ..) rfl rfl rfl rfl
  · exact slot (i := .eret ..) rfl rfl rfl (by simpa using hhandler)
  · exact slot (i := .syncAdd ..) rfl hreads (admits hcell _) rfl
  · exact slot (i := .syncNotify ..) rfl hreads (admits hcell _) rfl
  · exact slot (i := .syncClaim ..) rfl hreads (admits hcell _) rfl
  · refine slot (i := .syncWait ..) rfl hreads ((admits hcell _).trans ?_) (by simp; omega)
    obtain h | h | h : o.cond.toNat = 0 ∨ o.cond.toNat = 1 ∨ o.cond.toNat = 2 := by omega
    all_goals simp only [h]; rfl
  · exact slot (i := .syncWaitwake ..) rfl rfl rfl rfl

/-! ## The engine slot -/

/-- An E-slot command of a core outside its handler, with a legal encoding and none of the causes of R160, joins its command (R108). -/
theorem Gives.engineSlot {i : Instr} {s : State} {r : RidgeId} {c : SiteId} {e : EngineId} {last bad : Bool} {dests : List Dest}
    {slab : Nat} {causes : List (Bool × Nat)} {cmd : Core → EngCmd} {q : EngCmd} (hissues : s.issues r c = true)
    (hhandler : (s.coreAt r c).handler = false) (hi : Gives i s (s.engineSlot r c e last bad dests slab causes cmd))
    (hbad : bad = false) (hcauses : causes.filter (·.1) = []) (hcmd : cmd (s.coreAt r c) = q) :
    Gives i s (s.joins r c 3 last dests [.engine e.val q]) :=
  hi.congr (Block.slot_effects s.toBlock r c 3 last _ dests [] _ [] _ true _ hissues rfl rfl (by simp [hcauses, hcmd]) rfl
    (by simp [hbad, hhandler]))

/-- Settles O12: each command, with the registers that it captures. -/
theorem engineSlotsJoinTheirCommand : Obligations.EngineSlotsJoinTheirCommand := by
  unfold Obligations.EngineSlotsJoinTheirCommand
  intro r c e last vreg s x joins hissues
  refine ⟨Gives.congr (i := .engineNop ..) rfl (Block.nopSlot_joins hissues _ last),
    fun hhandler => ⟨fun hfull => ⟨?_, ?_, ?_, ?_, ?_⟩, fun hfull hqm => ⟨?_, ?_⟩⟩⟩
  · intro slab shape group slice signed acc hslab hlegal hallowed
    have h15 : slab ≠ 15 := fun h => absurd hslab (by rw [h]; decide)
    have hi := exec_fire r c e last slab vreg shape group slice signed acc false 0 s
    simp only [execFire, State.runs, if_neg h15] at hi
    refine Gives.engineSlot hissues hhandler hi ?_ ?_ rfl
    · simp [hlegal]
      omega
    · simp [hallowed, hfull]
      omega
  · intro slab hslab
    exact Gives.engineSlot (i := .probe ..) hissues hhandler rfl (by simpa using hslab) (by simp [hfull]) rfl
  · intro target hist
    exact Gives.engineSlot (i := .echo ..) hissues hhandler rfl rfl (by simp [hfull]) rfl
  · intro first lastBlk fmt slab clr tally hfirst hfmt hslab p hcount
    have hp : (if (if slab.toNat < 8 then s.mapSlab r c e slab.toNat else slab.toNat) = 15 then slab.toNat
        else if slab.toNat < 8 then s.mapSlab r c e slab.toNat else slab.toNat) = p := by
      simp only [p]
      split <;> simp
    have hi : Gives (.drain r c e last first lastBlk vreg fmt slab clr tally 0) s (s.engineSlot r c e last _ [.v vreg.toNat] _ _ _) := rfl
    refine hi.engineSlot hissues hhandler ?_ (by simp [hfull]) (by rw [hp])
    rw [hp]
    simp [hfirst, hfmt]
    exact ⟨by omega, hcount⟩
  · intro first lastBlk tally hfirst
    exact Gives.engineSlot (i := .clear ..) hissues hhandler rfl (by simpa using hfirst) (by simp [hfull]) rfl
  · intro group signed half hgroup
    exact ⟨Gives.engineSlot (i := .qmFire ..) hissues hhandler rfl (by simpa using hgroup) (by simp [hfull, hqm]) rfl,
      Gives.engineSlot (i := .fire ..) hissues hhandler rfl (by simpa using hgroup) (by simp [hfull, hqm]) rfl⟩
  · intro qrow
    exact Gives.engineSlot (i := .qload ..) hissues hhandler rfl rfl (by simp [hfull, hqm]) rfl

end Sys2Proof.Machine
end

section
/-! PROOF. What slots and bundles leave alone: a slot that does not close its bundle, a bundle of one scalar slot, a bundle that takes
an exception, and a local access. -/
namespace Sys2Proof.Machine

/-! ## Slots that do not close their bundle -/

/-- Command `i` is a slot of a core's bundle, and closes it where `last` says so. -/
def IsSlot (i : Instr) (s : State) (r : RidgeId) (c : SiteId) (last : Bool) : Prop :=
  ∃ k out, Gives i s (s.slot r c k last out)

/-- A core that does not issue leaves a slot unissued. -/
theorem Block.slot_idle {s : Block} {r c : Nat} (h : s.issues r c = false) (k : Nat) (last : Bool) (out : SlotOut) :
    s.slot r c k last out = s := by
  simp [Block.slot, h]

/-- In a core that issues, a slot that does not close its bundle changes the bundle alone (R206). -/
theorem Block.slot_open {s : Block} {r c : Nat} (h : s.issues r c = true) (k : Nat) (out : SlotOut) :
    ∃ bundle : Bundle, s.slot r c k false out = s.modCore r c (fun x => { x with bundle := bundle }) := by
  simp only [Block.slot, h]
  exact ⟨_, rfl⟩

/-- A slot that does not close its bundle changes nothing, or the bundle alone. -/
theorem IsSlot.open {i : Instr} {s : State} {r : RidgeId} {c : SiteId} (hi : IsSlot i s r c false) :
    (s.issues r c = false → exec i s = .next s) ∧
      (s.issues r c = true → ∃ bundle : Bundle, Gives i s (s.modCore r c (fun x => { x with bundle := bundle }))) := by
  obtain ⟨k, out, hi⟩ := hi
  refine ⟨fun hidle => hi.congr (Block.slot_idle hidle k false out), fun hissues => ?_⟩
  obtain ⟨bundle, hslot⟩ := Block.slot_open hissues k out
  exact ⟨bundle, hi.congr hslot⟩

/-- A FIRE is a slot, for SLAB = 15 as for a slab. -/
theorem IsSlot.fire (r : RidgeId) (c : SiteId) (e : EngineId) (last : Bool) (slab : BitVec 4) (vreg : BitVec 5)
    (shape : BitVec 2) (group : BitVec 4) (slice : BitVec 3) (signed acc half : Bool) (rsv : BitVec 12) (s : State) :
    IsSlot (.fire r c e last slab vreg shape group slice signed acc half rsv) s r c last := by
  obtain ⟨_, _, _, _, hfire⟩ := fire_gives_engineSlot r c e last slab vreg shape group slice signed acc half rsv s
  exact ⟨_, _, hfire⟩

/-- Settles O14: each command of the list is a slot whose LAST bit is its operand's, and that bit is 0. -/
theorem openSlotsChangeTheirBundleOnly : Obligations.OpenSlotsChangeTheirBundleOnly := by
  unfold Obligations.OpenSlotsChangeTheirBundleOnly
  intro r c e o v m slotB acc half rest rest36 rest86 slab vreg fmt qrow shape group slice first lastBlk signed target hist clr tally
    r12 r29 r31 r26 r23 rDrain i s ho hv hm hi
  suffices IsSlot i s r c false from this.open
  revert i
  obtain ⟨⟩ := o
  obtain ⟨⟩ := v
  obtain ⟨⟩ := m
  subst ho hv hm
  simp only [List.forall_mem_cons, List.not_mem_nil, false_imp_iff, implies_true, IsSlot.fire, true_and, and_true]
  and_intros
  all_goals exact ⟨_, _, rfl⟩

/-! ## A bundle of one scalar slot -/

/-- What `Block.plainCore` says, clause by clause. -/
structure Block.PlainCore (s : Block) (r c : Nat) : Prop where
  issues : s.issues r c = true
  bundle : (s.coreAt r c).bundle = Bundle.none
  excWait : (s.coreAt r c).excWait = []
  haltReq : (s.coreAt r c).haltReq = false
  results : (s.coreAt r c).results = []
  loops : (s.coreAt r c).loops = []
  wait : (s.coreAt r c).wait = none
  claims : (s.coreAt r c).claims = []
  handler : (s.coreAt r c).handler = false
  pc : (s.coreAt r c).pc < 4096

theorem Block.plainCore_iff {s : Block} {r c : Nat} : s.plainCore r c = true ↔ s.PlainCore r c := by
  simp only [Block.plainCore, Bool.and_eq_true, decide_eq_true_eq, List.isEmpty_iff, Option.isNone_iff_eq_none, Bool.not_eq_true']
  exact ⟨fun ⟨⟨⟨⟨⟨⟨⟨⟨⟨h1, h2⟩, h3⟩, h4⟩, h5⟩, h6⟩, h7⟩, h8⟩, h9⟩, h10⟩ => ⟨h1, h2, h3, h4, h5, h6, h7, h8, h9, h10⟩,
    fun ⟨h1, h2, h3, h4, h5, h6, h7, h8, h9, h10⟩ => ⟨⟨⟨⟨⟨⟨⟨⟨⟨h1, h2⟩, h3⟩, h4⟩, h5⟩, h6⟩, h7⟩, h8⟩, h9⟩, h10⟩⟩

/-- With no CLAIM pending, no register is claimed (R212). -/
theorem Core.unclaimed_of_claims {x : Core} (h : x.claims = []) (l : List Nat) : x.unclaimed l = true := by
  simp [Core.unclaimed, Core.claimed, h]

/-- A core one cycle after a bundle of one result: the result is in its register, or on its way (R206, R207, R210). -/
def Core.ran (x : Core) (lat rd : Nat) (v : Row) : Core :=
  { x with
    sreg := if lat ≤ 1 ∧ rd ≠ 0 then SMap.set 0 x.sreg rd (v.setWidth 64) else x.sreg
    pc := x.pc + 1
    clock := x.clock + 1
    results := if lat ≤ 1 then [] else [⟨x.clock + lat, .s rd, v, allBitsRow⟩] }

/-- The core at a site has run a bundle of one result, and nothing else has changed but CORE_PC and CYCLE. -/
structure Block.RanResult (s t : Block) (r c lat rd : Nat) (v : Row) : Prop where
  core : t.coreAt r c = (s.coreAt r c).ran lat rd v
  others : ∀ r' c', siteKey r' c' ≠ siteKey r c → t.coreAt r' c' = s.coreAt r' c'
  regs : t.regs = ((s.setFld (CORE_PC.PC r c) (s.coreAt r c).pc).addCycles r c 1).regs
  spad : t.spad = s.spad
  eng : t.eng = s.eng
  int : t.int = s.int

/-- A bundle of one destination and one result takes no exception, no tag and no place in a channel (R231). -/
theorem bundleExc_result {pc : Nat} (hpc : pc < 4096) {b : Bundle} (hd : b.dests.length ≤ 1) (he : b.excs = []) : bundleExc pc b = none := by
  simp [bundleExc, he, duplicateSlot_of_length_le_one hd, Nat.not_le.mpr hpc]

/-- The hardware when a bundle's one result is on its way, before the core takes its next bundle. -/
def Block.resultIssued (s : Block) (r c lat rd : Nat) (v : Row) : Block :=
  (((s.modCore r c (fun x => { x with bundle := Bundle.none })).addResult r c lat (.s rd) v allBitsRow).setFld (CORE_PC.PC r c)
    (s.coreAt r c).pc).addCycles r c 1

theorem Block.resultIssued_coreAt (s : Block) (r c lat rd : Nat) (v : Row) (h : (s.coreAt r c).results = []) :
    (s.resultIssued r c lat rd v).coreAt r c =
      { s.coreAt r c with bundle := Bundle.none, results := [⟨(s.coreAt r c).clock + lat, .s rd, v, allBitsRow⟩] } := by
  have hput : (s.resultIssued r c lat rd v).coreAt r c =
      ((s.modCore r c (fun x => { x with bundle := Bundle.none })).addResult r c lat (.s rd) v allBitsRow).coreAt r c :=
    Block.coreAt_congr _ _ (by rw [Block.resultIssued, Block.addCycles, Block.setPair_core, Block.setFld_core]) r c
  rw [hput, Block.addResult, Block.coreAt_modCore, Block.coreAt_modCore]
  simp [Core.addResult, h]

theorem Block.resultIssued_coreAt_ne (s : Block) (r c lat rd : Nat) (v : Row) {r' c' : Nat} (h : siteKey r' c' ≠ siteKey r c) :
    (s.resultIssued r c lat rd v).coreAt r' c' = s.coreAt r' c' := by
  have hput : (s.resultIssued r c lat rd v).coreAt r' c' =
      ((s.modCore r c (fun x => { x with bundle := Bundle.none })).addResult r c lat (.s rd) v allBitsRow).coreAt r' c' :=
    Block.coreAt_congr _ _ (by rw [Block.resultIssued, Block.addCycles, Block.setPair_core, Block.setFld_core]) r' c'
  rw [hput, Block.addResult, Block.coreAt_modCore_ne _ _ h, Block.coreAt_modCore_ne _ _ h]

/-- It changes the register file and the core alone. -/
theorem Block.resultIssued_frame (s : Block) (r c lat rd : Nat) (v : Row) :
    (s.resultIssued r c lat rd v).spad = s.spad ∧ (s.resultIssued r c lat rd v).eng = s.eng ∧ (s.resultIssued r c lat rd v).int = s.int := by
  unfold Block.resultIssued Block.addCycles Block.addResult
  refine ⟨?_, ?_, ?_⟩
  · rw [Block.setPair_spad, Block.setFld_spad, Block.modCore_spad, Block.modCore_spad]
  · rw [Block.setPair_eng, Block.setFld_eng, Block.modCore_eng, Block.modCore_eng]
  · rw [Block.setPair_int, Block.setFld_int, Block.modCore_int, Block.modCore_int]

theorem Block.resultIssued_regs (s : Block) (r c lat rd : Nat) (v : Row) :
    (s.resultIssued r c lat rd v).regs = ((s.setFld (CORE_PC.PC r c) (s.coreAt r c).pc).addCycles r c 1).regs :=
  Block.addCycles_regs_congr _ _ r c 1 (Block.setFld_regs_congr _ _ _ _ rfl)

/-- A bundle of one result in a plain core is its bundle's only content. -/
theorem Block.PlainCore.joined_eq {s : Block} {r c : Nat} (h : s.PlainCore r c) (k : Nat) (d : Dest) (fx : List Fx) :
    ∃ b : Bundle, s.joined r c k [d] fx = s.modCore r c (fun x => { x with bundle := b }) ∧
      b.dests.length ≤ 1 ∧ b.excs = [] ∧ b.reads = [] ∧ b.fx = fx := by
  refine ⟨⟨([d].filter (fun d => decide (d ≠ .s 0 ∧ d ≠ .p 0))).map (fun d => (k, d)), [], [], fx⟩, ?_, ?_, rfl, rfl, rfl⟩
  · simp [Block.joined, Block.modCore, h.bundle, Bundle.none]
  · rw [List.length_map]
    exact List.length_filter_le _ _

/-- A result that lands one cycle later, or that is on its way (R207). -/
theorem Core.issued_ran {x : Core} {lat rd : Nat} {v : Row} (hhandler : x.handler = false) (hloops : x.loops = [])
 :
    Core.issued { x with results := [⟨x.clock + lat, .s rd, v, allBitsRow⟩] } [.result lat (.s rd) v allBitsRow] = x.ran lat rd v := by
  rw [Core.issued_result { x with results := [⟨x.clock + lat, .s rd, v, allBitsRow⟩] } lat rd v hhandler hloops rfl]
  unfold Core.ran Core.put
  by_cases hlat : lat ≤ 1
  · by_cases hrd : rd = 0
    · simp [hlat, hrd]
    · simp [hlat, hrd]
  · simp [hlat]

/-- Setting one core leaves every other core as it was. -/
theorem Block.coreAt_setCore_ne (s : Block) {r r' c c' : Nat} (x : Core) (h : siteKey r' c' ≠ siteKey r c) :
    (s.setCore r c x).coreAt r' c' = s.coreAt r' c' :=
  SMap.get_set_ne _ _ _ h

/-- A bundle of one result, in a core that runs straight-line code alone. -/
theorem Block.PlainCore.ranResult {s : Block} {r c : Nat} (h : s.PlainCore r c) (k lat rd : Nat) (v : Row) :
    s.RanResult ((s.joined r c k [.s rd] [.result lat (.s rd) v allBitsRow]).closeBundle r c) r c lat rd v := by
  obtain ⟨b, hjoined, hdests, hexcs, hreads, hfx⟩ := h.joined_eq k (.s rd) [.result lat (.s rd) v allBitsRow]
  obtain ⟨u, hu⟩ : ∃ u : Block, u = s.modCore r c (fun x => { x with bundle := b }) := ⟨_, rfl⟩
  have hcore : u.coreAt r c = { s.coreAt r c with bundle := b } := by rw [hu, Block.coreAt_modCore]
  obtain ⟨m, hm⟩ : ∃ m : Block, m = u.resultIssued r c lat rd v := ⟨_, rfl⟩
  have hmcore : m.coreAt r c = { s.coreAt r c with results := [⟨(s.coreAt r c).clock + lat, .s rd, v, allBitsRow⟩] } := by
    rw [hm, Block.resultIssued_coreAt u r c lat rd v (by rw [hcore]; exact h.results), hcore, ← h.bundle]
  have hran : Core.issued (m.coreAt r c) b.fx = (s.coreAt r c).ran lat rd v := by
    rw [hmcore, hfx]
    exact Core.issued_ran h.handler h.loops
  have hclose : u.closeBundle r c = m.setCore r c ((s.coreAt r c).ran lat rd v) := by
    rw [Block.closeBundle_issues u r c (by rw [hcore]; exact h.excWait) (by rw [hcore]; exact h.haltReq)
      (by rw [hcore]; exact bundleExc_result h.pc hdests hexcs) (by rw [hcore]; exact hreads) (by rw [hcore, hfx]; rfl)
      (by rw [hcore, hfx]; rfl), hcore]
    rw [Block.issueBundle_straight u r c b (by rw [hfx]; rfl) (by rw [hcore]; exact h.handler) (by rw [hfx]; rfl) m
      (by rw [hm, hfx]; rfl) (by rw [hran]; exact h.wait) (by rw [hran]; exact h.excWait) (by rw [hran]; exact h.haltReq), hran]
  obtain ⟨hspad, heng, hint⟩ := Block.resultIssued_frame u r c lat rd v
  rw [hjoined, ← hu, hclose, hm]
  exact {
    core := Block.coreAt_setCore ..
    others := fun r' c' hne => by
      have hother : (s.modCore r c (fun x => { x with bundle := b })).coreAt r' c' = s.coreAt r' c' := Block.coreAt_modCore_ne s _ hne
      rw [Block.coreAt_setCore_ne _ _ hne, Block.resultIssued_coreAt_ne u r c lat rd v hne, hu, hother]
    regs := by
      refine (Block.resultIssued_regs u r c lat rd v).trans ?_
      rw [hcore, hu]
      exact Block.addCycles_regs_congr _ _ r c 1 (Block.setFld_regs_congr _ _ _ _ rfl)
    spad := by rw [Block.setCore_spad, hspad, hu, Block.modCore_spad]
    eng := by rw [Block.setCore_eng, heng, hu, Block.modCore_eng]
    int := by rw [Block.setCore_int, hint, hu, Block.modCore_int] }

/-- A scalar register after a bundle of one result. -/
theorem Core.ran_s (x : Core) (lat rd : Nat) (v : DWord) (n : Nat) :
    (x.ran lat rd (v.setWidth 4096)).s n = if lat ≤ 1 ∧ n = rd ∧ n ≠ 0 then v else x.s n := by
  have hwidth : (v.setWidth 4096).setWidth 64 = v := BitVec.setWidth_setWidth_of_le v (by decide)
  unfold Core.s Core.ran
  rw [hwidth]
  by_cases hn : n = 0
  · simp [hn]
  by_cases hwritten : lat ≤ 1 ∧ rd ≠ 0
  · by_cases heq : n = rd
    · subst heq
      simp [hn, hwritten]
    · simp [hn, hwritten, heq, SMap.get_set_ne]
  · have hother : ¬(lat ≤ 1 ∧ n = rd ∧ n ≠ 0) := fun ⟨hlat, heq, hne⟩ => hwritten ⟨hlat, heq ▸ hne⟩
    simp only [if_neg hn, if_neg hwritten, if_neg hother]

/-- CORE_PC and CYCLE after a bundle of one result, and every other register (R210, R214). -/
theorem Block.RanResult.reads {s t : Block} {r c lat rd : Nat} {v : Row} (h : s.RanResult t r c lat rd v) (hpc : (s.coreAt r c).pc < 4096) :
    t.fld (CORE_PC.PC r c) = (s.coreAt r c).pc ∧
      t.pair (CORE_CYCLES_LO r c) (CORE_CYCLES_HI r c) = (s.pair (CORE_CYCLES_LO r c) (CORE_CYCLES_HI r c) + 1) % 2 ^ 64 ∧
      s.sameRegsBut t [CORE_PC r c, CORE_CYCLES_LO r c, CORE_CYCLES_HI r c] := by
  have hlo := pcKey_ne_lo r c
  have hhi := pcKey_ne_hi r c
  obtain ⟨u, hu⟩ : ∃ u : Block, u = s.setFld (CORE_PC.PC r c) (s.coreAt r c).pc := ⟨_, rfl⟩
  have hother (k : Nat) (hk : k ≠ CORE_PC r c) : u.reg k = s.reg k := by
    rw [hu, Block.setFld]
    exact Block.reg_setReg_ne _ _ hk
  have hregs := h.regs
  rw [← hu, Block.addCycles] at hregs
  have hkeep (k : Nat) (hl : k ≠ CORE_CYCLES_LO r c) (hh : k ≠ CORE_CYCLES_HI r c) : t.reg k = u.reg k := by
    rw [Block.reg_congr _ _ hregs, Block.setPair, Block.reg_setReg_ne _ _ hh, Block.reg_setReg_ne _ _ hl]
  have hpair : u.pair (CORE_CYCLES_LO r c) (CORE_CYCLES_HI r c) = s.pair (CORE_CYCLES_LO r c) (CORE_CYCLES_HI r c) := by
    rw [Block.pair, hother _ hlo.symm, hother _ hhi.symm, Block.pair]
  refine ⟨?_, ?_, fun k hk => ?_⟩
  · have hfld : u.fld (CORE_PC.PC r c) = (s.coreAt r c).pc := by
      rw [hu, Block.fld_setFld_self _ _ _ (by decide : 0 + 12 ≤ 32)]
      exact Nat.mod_eq_of_lt hpc
    rw [← hfld, Block.fld, hkeep (CORE_PC.PC r c).key hlo hhi, Block.fld]
  · rw [Block.pair_congr _ _ hregs, Block.pair_setPair _ _ _ _ (cycleKeys_ne r c), hpair]
  · simp only [List.mem_cons, List.not_mem_nil, or_false, not_or] at hk
    obtain ⟨hpcKey, hloKey, hhiKey⟩ := hk
    rw [hkeep k hloKey hhiKey, hother k hpcKey]

/-- Settles O13: every scalar opcode joins one result in an empty bundle, and the bundle issues. -/
theorem loneScalarBundlesRun : Obligations.LoneScalarBundlesRun := by
  unfold Obligations.LoneScalarBundlesRun
  intro r c o s x a b rd runs writes owes hplain hlast hrsv hguard
  have h := Block.plainCore_iff.mp hplain
  have ran {i : Instr} (lat : Nat) (v : DWord) (now : Nat → DWord) (later : List Result)
      (hi : Gives i s (s.joins r c o.k o.last [.s rd] [.result lat (.s rd) (v.setWidth 4096) allBitsRow]))
      (hnow : ∀ n, (x.ran lat rd (v.setWidth 4096)).s n = now n) (hlater : (x.ran lat rd (v.setWidth 4096)).results = later) :
      runs i now later := by
    rw [Block.joins, if_pos hlast] at hi
    have hran := h.ranResult o.k lat rd (v.setWidth 4096)
    obtain ⟨hpc, hcycles, hothers⟩ := hran.reads h.pc
    refine ⟨_, hi, ?_⟩
    rw [hran.core]
    refine ⟨hnow, fun _ => rfl, fun _ => rfl, fun _ => rfl, rfl, rfl, rfl, rfl, rfl, rfl, rfl, h.bundle, hlater, hpc, hcycles, hothers,
      fun r' c' hne => hran.others r' c' fun hkey => ?_, fun r' c' row => Block.readRow_congr _ _ hran.spad r' c' row, hran.eng,
      hran.int, rfl⟩
    obtain ⟨hr, hc⟩ := siteKey_inj hkey
    exact hne (by rw [hr, hc])
  have scalar {i : Instr} {lat : Nat} (f : DWord → DWord → DWord) (hi : Gives i s (s.scalarOp r c o lat f)) :
      Gives i s (s.joins r c o.k o.last [.s rd] [.result lat (.s rd) ((f a b).setWidth 4096) allBitsRow]) :=
    hi.congr (Block.scalarOp_joins h.issues hrsv hguard (Core.unclaimed_of_claims h.claims _) lat f)
  have lands {i : Instr} (v : DWord) (hi : Gives i s (s.joins r c o.k o.last [.s rd] [.result 1 (.s rd) (v.setWidth 4096) allBitsRow])) :
      writes i v :=
    ran 1 v _ _ hi (fun n => by simp [Core.ran_s]) rfl
  have one {i : Instr} (f : DWord → DWord → DWord) (hi : Gives i s (s.scalarOp r c o 1 f)) : writes i (f a b) := lands _ (scalar f hi)
  have three {i : Instr} (f : DWord → DWord → DWord) (hi : Gives i s (s.scalarOp r c o 3 f)) : owes i (f a b) :=
    ran 3 (f a b) _ _ (scalar f hi) (fun n => by simp [Core.ran_s]) rfl
  have slt : a.slt b = decide (a.toInt < b.toInt) := BitVec.slt_eq_decide
  have ult : a.ult b = decide (a.toNat < b.toNat) := rfl
  refine ⟨one (i := .add ..) (· + ·) rfl, one (i := .sub ..) (· - ·) rfl, one (i := .and ..) (· &&& ·) rfl,
    one (i := .or ..) (· ||| ·) rfl, one (i := .xor ..) (· ^^^ ·) rfl, one (i := .shl ..) (fun a b => a <<< (b.toNat % 64)) rfl,
    one (i := .shr ..) (fun a b => a >>> (b.toNat % 64)) rfl, one (i := .sra ..) (fun a b => a.sshiftRight (b.toNat % 64)) rfl,
    ?_, ?_, ?_, three (i := .mul ..) (· * ·) rfl,
    three (i := .mulh ..) (fun a b => BitVec.ofInt 64 (a.toInt * b.toInt / 2 ^ 64)) rfl,
    three (i := .mulhu ..) (fun a b => BitVec.ofNat 64 (a.toNat * b.toNat / 2 ^ 64)) rfl⟩
  · exact lands b (Gives.congr (i := .li ..) rfl (Block.slot_effects s.toBlock r c _ _ _ _ _ _ [] _ _ _ h.issues hguard
      (Core.unclaimed_of_claims h.claims _) rfl rfl (by simp [hrsv])))
  · simpa [slt] using one (i := .min r c o) (fun a b => if a.slt b then a else b) rfl
  · simpa [ult] using one (i := .maxu r c o) (fun a b => if a.ult b then b else a) rfl

/-! ## A bundle that issues, or takes an exception -/

/-- A bundle that raises no exception, reads no claimed register and finds its tag and its channel issues (R209, R212, R231). -/
theorem Block.closeBundle_of_bundleIssues {u : Block} {r c : Nat} (h : u.bundleIssues r c = true) :
    u.closeBundle r c = u.issueBundle r c (u.coreAt r c).bundle := by
  simp only [Block.bundleIssues, Bool.and_eq_true, List.isEmpty_iff, Option.isNone_iff_eq_none, Bool.not_eq_true'] at h
  obtain ⟨⟨⟨⟨⟨hwaiting, hhalt⟩, hexc⟩, hreads⟩, htag⟩, hchan⟩ := h
  simp only [Block.closeBundle, hwaiting, hhalt, hexc, hreads, htag]
  cases hpush : pushChannel (u.coreAt r c).bundle.fx with
  | none => rfl
  | some ch =>
    simp only [hpush, Bool.not_eq_true'] at hchan
    simp [hchan]

/-- A slot without destinations or effects leaves its core as it was. -/
theorem Block.joined_nil_coreAt (s : Block) (r c k : Nat) : (s.joined r c k [] []).coreAt r c = s.coreAt r c := by
  simp [Block.joined]

/-- DOUBLE_FAULT reads 8 in the cause field, whatever the slot. -/
theorem getBits_cause_doubleFault (slot : Nat) : getBits (BitVec.ofNat 32 (8 + 0 * 2 ^ 4 + slot * 2 ^ 12)) 0 4 = 8 := by
  simp only [getBits, BitVec.toNat_ofNat]
  omega

/-- Settles O15: the closing slot adds nothing, so the bundle that closes is the one collected. -/
theorem bundlesIssueOrTakeTheirException : Obligations.BundlesIssueOrTakeTheirException := by
  unfold Obligations.BundlesIssueOrTakeTheirException
  intro r c e s x close hissues
  have hclose : Gives close s ((s.joined r c 5 [] []).closeBundle r c) := Gives.ctrlNop hissues
  obtain ⟨u, hu⟩ : ∃ u : Block, u = s.joined r c 5 [] [] := ⟨_, rfl⟩
  have hcore : u.coreAt r c = x := hu ▸ Block.joined_nil_coreAt s.toBlock r c 5
  rw [← hu] at hclose ⊢
  refine ⟨fun h => hclose.congr ?_, fun hwaiting hhalt hexc hcode => ?_⟩
  · have hchan : u.chanFull r = s.chanFull r := by rw [hu]; rfl
    have hbundle : u.bundleIssues r c = s.bundleIssues r c := by simp only [Block.bundleIssues, hcore, hchan, x]
    rw [Block.closeBundle_of_bundleIssues (hbundle.trans h), hcore]
  · have hcode5 : e.code ≠ 5 := by
      rcases hcode with h | ⟨-, h⟩
      · omega
      · exact h
    rw [Block.closeBundle_exception u r c x hcore.symm e hwaiting hhalt hexc (hcode.imp_right (·.1))] at hclose
    obtain ⟨m, hm⟩ : ∃ m : Block, m = u.modCore r c (fun y => { y with bundle := Bundle.none }) := ⟨_, rfl⟩
    have hmcore : m.coreAt r c = { x with bundle := Bundle.none } := by rw [hm, Block.coreAt_modCore, hcore]
    have hfile : Core.sameFile (m.coreAt r c).landAll x.landAll := by
      rw [hmcore]
      exact Core.land_Core.sameFile x.results { x with bundle := Bundle.none } x ⟨rfl, rfl, rfl⟩
    obtain ⟨hsreg, hvreg, hpreg⟩ := hfile
    rw [← hm] at hclose
    obtain ⟨hfepc, hepc, hbundle, hs, hv, hp, hresults, haccesses, htags, heng, hdrv, hint, hspad, hregs, hhandler, hdouble⟩ :=
      Block.takeException_spec m r c e.code e.sub e.slot e.info hcode5 _ rfl _ rfl
    have hmregs : m.regs = s.regs := by rw [hm, hu]; rfl
    have hmbit (f : Field) : m.bit f = s.bit f := by rw [Block.bit, Block.fld_congr _ _ hmregs, Block.bit]
    have hmspad : m.spad = s.spad := by rw [hm, hu]; rfl
    have hmparts : m.eng = s.eng ∧ m.drv = s.drv ∧ m.int = s.int := by rw [hm, hu]; exact ⟨rfl, rfl, rfl⟩
    obtain ⟨hmeng, hmdrv, hmint⟩ := hmparts
    refine ⟨_, hclose, ?_⟩
    rw [hsreg] at hs
    rw [hvreg] at hv
    rw [hpreg] at hp
    rw [hmcore] at hfepc hepc haccesses htags hhandler hdouble
    refine ⟨hfepc, hepc, hbundle, hs, hv, hp, hresults, haccesses, htags, heng.trans hmeng, hdrv.trans hmdrv, hint.trans hmint,
      fun r' c' row => Block.readRow_congr _ _ (hspad.trans hmspad) r' c' row,
      fun k hk => (hregs k hk).trans (Block.reg_congr _ _ hmregs k), fun h => ?_, fun h => ?_⟩
    · obtain ⟨hcause, hinfo, hhalts, henters⟩ := hhandler h
      refine ⟨hcause, hinfo, fun hmode => hhalts ((hmbit _).trans hmode), fun hmode => ?_⟩
      · obtain ⟨hstate, hin, hvec, hstat⟩ := henters ((hmbit _).trans hmode)
        exact ⟨hstate, hin, hvec.trans (Block.fld_congr _ _ hmregs _), hstat.trans (Block.reg_congr _ _ hmregs _)⟩
    · obtain ⟨hcause, -, hstate, hout, hirq⟩ := hdouble h
      exact ⟨(congrArg (getBits · 0 4) hcause).trans (getBits_cause_doubleFault e.slot), hstate, hout, hirq⟩

/-! ## Local accesses -/

/-- What a row reads as depends on its site's scratchpad alone. -/
theorem Block.readRow_of_spadAt {s t : Block} {r c r' c' : Nat} (h : t.spadAt r' c' = s.spadAt r c) (n : Nat) :
    t.readRow r' c' n = s.readRow r c n := by
  simp only [Block.readRow, Block.badWords, Block.row, h]

/-- A row without failing words reads as it is (R314). -/
theorem Block.readRow_of_good {s : Block} {r c n : Nat} (h : s.badWords r c n = []) : s.readRow r c n = s.row r c n := by
  simp only [Block.readRow, h]
  exact mergeWords_none _

/-- The scratchpad after a row is written whole. -/
theorem Block.spadAt_writeRow_all (s : Block) (r c n : Nat) (v : Row) :
    (s.writeRow r c n v allWords).spadAt r c =
      { s.spadAt r c with
        rows := SMap.set 0 (s.spadAt r c).rows n v
        bad := (s.spadAt r c).bad.filter (fun b => decide (b / 64 ≠ n)) } := by
  have hword (b : Nat) : allWords.getLsbD (b % 64) = true := by
    rw [allWords, BitVec.getLsbD_allOnes]
    exact decide_eq_true (Nat.mod_lt b (by decide))
  simp [Block.writeRow, Block.modSpad, mergeWords_all, hword]

/-- A row written whole reads as it was written. -/
theorem Block.readRow_writeRow_self (s : Block) (r c n : Nat) (v : Row) : (s.writeRow r c n v allWords).readRow r c n = v := by
  rw [Block.readRow_of_good]
  · rw [Block.row, Block.spadAt_writeRow_all]
    exact SMap.get_set_self ..
  · simp [Block.badWords, Block.spadAt_writeRow_all]

/-- A row written whole leaves the other rows of its scratchpad alone. -/
theorem Block.readRow_writeRow_ne (s : Block) (r c : Nat) {n m : Nat} (v : Row) (h : m ≠ n) :
    (s.writeRow r c n v allWords).readRow r c m = s.readRow r c m := by
  have hfilter : ((s.spadAt r c).bad.filter (fun b => decide (b / 64 ≠ n))).filter (fun b => decide (b / 64 = m)) =
      (s.spadAt r c).bad.filter (fun b => decide (b / 64 = m)) := by
    rw [List.filter_filter]
    refine List.filter_congr fun b _ => ?_
    by_cases hb : b / 64 = m
    · simp [hb, h]
    · simp [hb]
  have hbad : (s.writeRow r c n v allWords).badWords r c m = s.badWords r c m := by
    simp only [Block.badWords, Block.spadAt_writeRow_all, hfilter]
  have hrow : (s.writeRow r c n v allWords).row r c m = s.row r c m := by
    rw [Block.row, Block.spadAt_writeRow_all]
    exact SMap.get_set_ne _ _ _ h
  simp only [Block.readRow, hbad, hrow]

/-- A row written leaves the other scratchpads alone. -/
theorem Block.spadAt_writeRow_ne (s : Block) {r c r' c' : Nat} (n : Nat) (v : Row) (m : BitVec 64) (h : siteKey r' c' ≠ siteKey r c) :
    (s.writeRow r c n v m).spadAt r' c' = s.spadAt r' c' :=
  SMap.get_set_ne _ _ _ h

/-- A store at the front of a core's accesses writes its row. -/
theorem Block.localAccess_store {s : Block} {r c row : Nat} {data : Row} {rest : List LocalAccess}
    (h : (s.coreAt r c).accesses = .store row data :: rest) (k : Nat) (words : List (Fin 64)) :
    s.localAccess r c k words = (s.modCore r c (fun x => { x with accesses := rest })).writeRow r c row data allWords := by
  simp only [Block.localAccess, h]

/-- A load of a row without errors at the front of a core's accesses writes its register. -/
theorem Block.localAccess_load {s : Block} {r c row vr : Nat} {rest : List LocalAccess}
    (h : (s.coreAt r c).accesses = .load row vr :: rest) (hgood : s.badWords r c row = []) :
    s.localAccess r c 0 [] = (s.modCore r c (fun x => { x with accesses := rest })).modCore r c
      (fun x => x.put (.v vr) (s.readRow r c row) allBitsRow) := by
  have hue : ∀ t : Block, t.badWords r c row = [] → t.spadUe r c row = t := fun t ht => by simp [Block.spadUe, ht]
  simp only [Block.localAccess, h, Block.rowEcc, if_true, List.isEmpty_nil]
  exact hue _ hgood

/-- The core after such a load. -/
theorem Core.put_vector (x : Core) (vr : Nat) (v : Row) : x.put (.v vr) v allBitsRow = { x with vreg := SMap.set 0 x.vreg vr v } := by
  rw [Core.put, mergeBits_all]

/-- Settles O19: a store is `Block.writeRow`, a load without errors `Core.put`, of the one core. -/
theorem localAccessesChangeTheirRowOnly : Obligations.LocalAccessesChangeTheirRowOnly := by
  unfold Obligations.LocalAccessesChangeTheirRowOnly
  intro r c k row vr data words rest s x others
  have hkey {r' : RidgeId} {c' : SiteId} (hne : (r', c') ≠ (r, c)) : siteKey r' c' ≠ siteKey r c := fun h => by
    obtain ⟨hr, hc⟩ := siteKey_inj h
    exact hne (by rw [hr, hc])
  refine ⟨fun hstore => ⟨_, Gives.congr (i := .localRowAccess ..) rfl (Block.localAccess_store hstore k words), ?_, ?_, ?_, ?_⟩,
    fun hload hgood => ⟨_, Gives.congr (i := .localRowAccess ..) rfl (Block.localAccess_load hload hgood), ?_⟩⟩
  · exact Block.readRow_writeRow_self ..
  · intro r' c' n hne
    by_cases hsite : (r', c') = (r, c)
    · obtain ⟨rfl, rfl⟩ := Prod.mk.inj hsite
      exact Block.readRow_writeRow_ne _ r' c' data fun h => hne (by rw [h])
    · exact Block.readRow_of_spadAt (Block.spadAt_writeRow_ne _ row data allWords (hkey hsite)) n
  · exact (Block.coreAt_writeRow ..).trans (Block.coreAt_modCore ..)
  · exact ⟨fun _ => rfl, fun r' c' hne => (Block.coreAt_writeRow ..).trans (Block.coreAt_modCore_ne _ _ (hkey hne)), rfl, rfl, rfl⟩
  · rw [Block.coreAt_modCore, Block.coreAt_modCore, Core.put_vector]
    exact ⟨SMap.get_set_self .., fun n hne => SMap.get_set_ne _ _ _ hne, rfl, fun _ _ _ => rfl, fun _ => rfl,
      fun r' c' hne => (Block.coreAt_modCore_ne _ _ (hkey hne)).trans (Block.coreAt_modCore_ne _ _ (hkey hne)), rfl, rfl, rfl⟩

end Sys2Proof.Machine
end

section
/-! PROOF. Accesses of the register file: writes, the common header's commands, reads, and accesses that miss. -/
namespace Sys2Proof.Machine

/-! ## Writes -/

/-- REGISTER_WRITE of a register that no view of a window serves: it writes the page that it reaches, when every byte is enabled. -/
theorem registerWrite_gives {req : Fin 18} {dw : BitVec 26} {full : Bool} {s : State} {t : Block} {page off : Nat} (v : Word)
    (h : s.reach req dw.toNat true = (t, some (page, off))) (hview : vfWindowAt req dw.toNat ≠ some 0x48) :
    Gives (.registerWrite req dw full v) s (if full then t.regWrite req page off v else t) :=
  Gives.of_runs _ (exec_registerWrite req dw full v s) (by simp [h, hview])

/-- An admitted write of a register without a behaviour of its own stores the word (R8). -/
theorem Block.regWrite_stores {t : Block} {req : Requester} {page off : Nat} {v : Word} (hown : ownCommand (pageKind page) off = false)
    (h08 : off ≠ 0x08) (h10 : off ≠ 0x10) (h18 : off ≠ 0x18) (hmgmt : pageKind page ≠ .mgmt) (himem : pageKind page ≠ .imem)
    (h13 : page ≠ 13) (hadmitted : t.refusal req page off v = none) : t.regWrite req page off v = t.storeAt req page off v := by
  have hcfg : t.badQueueCfg page off v = false := by simp [Block.badQueueCfg, h13]
  simp [Block.regWrite, hcfg, Block.plainWrite, hown, h08, h10, h18, hmgmt, himem, Block.writeAt, hadmitted]

/-! ## Reads -/

section Reads
variable {t : Block} {req : Requester} {page off : Nat} (hread : t.protectedRead req page off = none)
include hread

/-- An offset that holds no register reads 0 (R778). -/
theorem Block.readRegister_none (hrow : regRow (pageKind page) off = none) :
    t.readRegister req page off = { t with answer := [0, 0, 0, 0] } := by
  have hzero : bytesOf 4 0 = [0, 0, 0, 0] := rfl
  simp [Block.readRegister, hread, hrow, hzero]

variable {row : RegRow} (hrow : regRow (pageKind page) off = some row)
include hrow

/-- A register with no pair answers its word. -/
theorem Block.readRegister_unpaired (hpair : row.pair = 0) :
    t.readRegister req page off = { t with answer := bytesOf 4 (t.readWord req page off).toNat } := by
  simp [Block.readRegister, hread, hrow, hpair]

variable (hro : row.fields.all (fun f => decide (f.acc = .ro)) = true)
include hro

/-- The LO half of a read-only pair answers its word and latches the HI half (R781). -/
theorem Block.readRegister_lo (hpair : row.pair = 1) :
    t.readRegister req page off = { t with
      answer := bytesOf 4 (t.readWord req page off).toNat
      hiLatch := SMap.ins (stageKey (t.cellKey page off row + 4 * regSpan) req.val) (t.readWord req page (off + 4)) t.hiLatch } := by
  simp only [Block.readRegister, hread, hrow, hpair, hro, and_self, if_true]

/-- The HI half of a read-only pair that the requester's read of the LO half latched answers the latched word (R781). -/
theorem Block.readRegister_hi {latched : Word} (hpair : row.pair = 2)
    (hlatch : SMap.find (stageKey (t.cellKey page off row) req.val) t.hiLatch = some latched) :
    t.readRegister req page off = { t with
      answer := bytesOf 4 latched.toNat
      hiLatch := SMap.del (stageKey (t.cellKey page off row) req.val) t.hiLatch } := by
  simp [Block.readRegister, hread, hrow, hpair, hro, hlatch]

end Reads

/-- Settles O30: each command of the register file at the page that its access reaches. -/
theorem registerAccessesTakeEffect : Obligations.RegisterAccessesTakeEffect := by
  unfold Obligations.RegisterAccessesTakeEffect
  intro req dw v page off t s
  refine ⟨fun hreach hvf => ?_, fun hreach hread => ⟨fun hrow => ?_, fun row hrow hpair => ?_, fun row hrow hpair hro => ?_,
    fun row latched hrow hpair hro hlatch => ?_⟩⟩
  · have hphys : ¬ (1 ≤ req.val ∧ req.val ≤ 16 ∧ page < 4096) := fun ⟨hlo, hhi, hdie⟩ => Nat.not_le.mpr hdie (hvf ⟨hlo, hhi⟩)
    refine ⟨fun hview => registerWrite_gives v hreach hview, fun hview hown h08 h10 h18 hmgmt himem h13 hadmitted => ?_, ?_, ?_, ?_⟩
    · exact (registerWrite_gives v hreach hview).congr (Block.regWrite_stores hown h08 h10 h18 hmgmt himem h13 hadmitted)
    · rintro rfl
      have control (i : Instr) (f : Nat → Block → Block) (hi : Gives i s (s.ctlWrite req dw.toNat f)) : Gives i s (f page t) :=
        hi.congr (Block.ctlWrite_of_reach hreach hphys f)
      refine ⟨control (.lockSet req dw) _ rfl, fun h5 hlive => ?_, fun h5 => ?_, fun h5 => ?_⟩
      · exact (control (.blkFreeze req dw true) _ rfl).congr ((if_neg h5).trans ((if_pos rfl).trans (if_neg (by simp [hlive]))))
      · exact (control (.blkFreeze req dw false) _ rfl).congr ((if_neg h5).trans (if_neg Bool.false_ne_true))
      · exact (control (.blkFreeze req dw true) _ rfl).congr (if_pos h5)
    · rintro rfl
      exact irqForce_gives v hreach hvf
    · rintro rfl
      exact Gives.congr (i := .irqStatusClear req dw v) rfl (Block.irqWrite_of_reach hreach hphys _)
  · exact (roPairLoRead_gives hreach).congr (Block.readRegister_none hread hrow)
  · exact (roPairLoRead_gives hreach).congr (Block.readRegister_unpaired hread hrow hpair)
  · exact (roPairLoRead_gives hreach).congr (Block.readRegister_lo hread hrow hro hpair)
  · exact (roPairLoRead_gives hreach).congr (Block.readRegister_hi hread hrow hro hpair hlatch)

/-! ## Write commands -/

/-- A write command with an effect of its own gives that effect of every write that is admitted. -/
theorem WriteGives.of_command {c : Instr} {s : State} {req : Fin 18} {dw : BitVec 26} {v : Word} {kind : PageKind} {offs : List Nat}
    {f : Nat → Nat → Nat → Block → Block} {when : Block → Nat → Nat → Nat → Prop} {effect : Block → Nat → Nat → Nat → Block}
    (hi : Gives c s (s.command req dw.toNat v kind offs f))
    (h : ∀ t page off idx, offs.contains off = true → when t page off idx → f page off idx t = effect t page off idx) :
    WriteGives c s req dw v kind offs when effect :=
  fun t page off idx hadmits hoff hwhen =>
    hi.congr ((Block.command_of_admits hadmits offs f hoff).trans (h t page off idx hoff hwhen))

/-- An offset of a list of one is that one. -/
theorem eq_of_contains_singleton {off k : Nat} (h : [k].contains off = true) : off = k := by simpa using h

end Sys2Proof.Machine
end

section
/-! PROOF. The commands of cores, of sync cells, of remote requests and of migration. -/
namespace Sys2Proof.Machine

/-! ## Core control -/

/-- A start of a stopped core that no seal forbids (R240, R603). -/
theorem Block.startCore_starts {s : Block} {req r c : Nat} {v : Word} (hstart : getBits v 31 1 = 1)
    (hstate : s.fld (CORE_STAT.STATE r c) = 0 ∨ s.fld (CORE_STAT.STATE r c) = 4)
    (hseal : s.bit (TR_RIDGE_STAT.SEAL_CODE 16 r) = true → (SMap.get [] s.tr.allow r).contains (s.codeDigest r c) = true) :
    s.startCore req r c v = (s.modCore r c (fun x => { x with
      pc := getBits v 0 12, bundle := Bundle.none, handler := false, wait := none, heldWait := none, heldOn := [],
      haltReq := false })).setFld (CORE_STAT.STATE r c) 1 := by
  have hstopped : ¬(s.fld (CORE_STAT.STATE r c) ≠ 0 ∧ s.fld (CORE_STAT.STATE r c) ≠ 4) := by omega
  have hallowed : ¬((s.bit (TR_RIDGE_STAT.SEAL_CODE 16 r) && !(SMap.get [] s.tr.allow r).contains (s.codeDigest r c)) = true) := by
    simpa using hseal
  simp only [Block.startCore]
  rw [if_neg (by omega), if_neg hstopped, if_neg hallowed]

/-- A start of a core that is not stopped is rejected (R240). -/
theorem Block.startCore_rejects {s : Block} {req r c : Nat} {v : Word} (hstart : getBits v 31 1 = 1)
    (h0 : s.fld (CORE_STAT.STATE r c) ≠ 0) (h4 : s.fld (CORE_STAT.STATE r c) ≠ 4) :
    s.startCore req r c v = s.raise (sitePage r c 0) Irq.core_START_REJECT := by
  simp only [Block.startCore]
  rw [if_neg (by omega), if_pos ⟨h0, h4⟩]

/-- A write of CORE_START to a core of a ridge that is up. -/
theorem coreStart_gives {req : Fin 18} {dw : BitVec 26} {v : Word} {s : State} {page : Nat} (hplace : place req dw.toNat = .at page 0x48)
    (hkind : pageKind page = .core) (hup : s.ridgeUp (ridgeOfPage page) = true) :
    Gives (.coreStart req dw v) s ((s.dozeWake (ridgeOfPage page)).startCore req.val (ridgeOfPage page) (siteOfPage page) v) :=
  Gives.of_runs _ (exec_coreStart req dw v s) (by simp [hplace, hkind, hup])

/-- A write of CORE_START to a core of a ridge that is not up, on an Active die, is held and wakes the ridge (R632, R784). -/
theorem coreStart_held {req : Fin 18} {dw : BitVec 26} {v : Word} {s : State} {page : Nat} (hplace : place req dw.toNat = .at page 0x48)
    (hkind : pageKind page = .core) (hdown : s.ridgeUp (ridgeOfPage page) = false) (hactive : s.dieActive = true) :
    Gives (.coreStart req dw v) s
      ({ s.toBlock with pow := { s.pow with heldStarts := s.pow.heldStarts ++ [(req.val, ridgeOfPage page, siteOfPage page, v)] } }.wakeAt
        (ridgeOfPage page) 4) :=
  Gives.of_runs _ (exec_coreStart req dw v s) (by simp [hplace, hkind, hdown, hactive])

/-- AW_CTL written with VALID 0 closes the window, and takes the other fields of one that was closed (R256). -/
theorem Block.openWindow_closes {s : Block} {r c i : Nat} {v : Word} (hv : getBits v 0 1 = 0) :
    s.openWindow r c i v = (if s.bit (AW_CTL.VALID r c i) then s
      else (((s.setFld (AW_CTL.KIND r c i) (getBits v 3 2)).setFld (AW_CTL.REMOTE r c i) (getBits v 5 1)).setFld (AW_CTL.WR r c i)
        (getBits v 2 1)).setFld (AW_CTL.RD r c i) (getBits v 1 1)).setBit (AW_CTL.VALID r c i) false := by
  simp only [Block.openWindow]
  rw [if_pos hv]

/-- AW_CTL written with VALID 1 at an open window that needs no grant or has one keeps it open (R218, R256). -/
theorem Block.openWindow_keeps {s : Block} {r c i : Nat} {v : Word} (hv : getBits v 0 1 = 1) (hvalid : s.bit (AW_CTL.VALID r c i) = true)
    (hkind : s.fld (AW_CTL.KIND r c i) ≠ 3)
    (hgrant : s.windowNeedsGrant r c i (s.bit (AW_CTL.REMOTE r c i)) (s.fld (AW_CTL.KIND r c i)) = true →
      s.windowGranted r c i (s.bit (AW_CTL.REMOTE r c i)) (s.fld (AW_CTL.KIND r c i)) (s.bit (AW_CTL.RD r c i))
        (s.bit (AW_CTL.WR r c i)) = true) :
    s.openWindow r c i v =
      ((s.setBit (AW_CTL.VALID r c i) true).setBit (AW_CTL.DENIED r c i) false).setFld (AW_CTL.GEN r c i) (s.fld FAB_GEN.GEN) := by
  simp only [Block.openWindow]
  rw [if_pos hvalid, if_neg (by omega), if_neg hkind, if_neg (by simpa using hgrant)]

/-- Settles O34: each write, once the core's state, its memory or its window admits it. -/
theorem coreControlWritesTakeEffect : Obligations.CoreControlWritesTakeEffect := by
  unfold Obligations.CoreControlWritesTakeEffect
  intro req dw v s writes
  refine ⟨fun page hplace hkind => ⟨fun hup hstart hstate hseal => ?_, fun hup hstart h0 h4 => ?_, fun hdown hactive => ?_⟩,
    ?_, ?_, ?_, ?_, ?_⟩
  · exact (coreStart_gives hplace hkind hup).congr (Block.startCore_starts hstart hstate hseal)
  · exact (coreStart_gives hplace hkind hup).congr (Block.startCore_rejects hstart h0 h4)
  · exact coreStart_held hplace hkind hdown hactive
  · refine WriteGives.of_command (c := .haltReq req dw v) rfl fun t page off idx hoff hwhen => ?_
    obtain ⟨hhalt, hruns, hstate⟩ := hwhen
    rw [eq_of_contains_singleton hoff]
    exact if_neg (by simp only [hstate]; omega)
  · refine WriteGives.of_command (c := .imemWordWrite req dw v) rfl fun t page off idx _ hopen => ?_
    exact if_pos hopen
  · refine WriteGives.of_command (c := .awCtlWrite req dw v) rfl fun t page off idx _ hv => ?_
    exact Block.openWindow_closes hv
  · refine WriteGives.of_command (c := .awCtlWrite req dw v) rfl fun t page off idx _ hwhen => ?_
    obtain ⟨hv, hvalid, hkind, hgrant⟩ := hwhen
    exact Block.openWindow_keeps hv hvalid hkind hgrant
  · exact WriteGives.of_command (c := .normWatchWrite req dw v) rfl fun _ _ _ _ _ _ => rfl

/-! ## Sync cells -/

/-- A cycle without operations changes nothing. -/
theorem Block.cellCycle_nil (u : Block) (r cell : Nat) : u.cellCycle r cell [] = u := rfl

/-- A cycle with one operation is that operation. -/
theorem Block.cellCycle_singleton (u : Block) (r cell id : Nat) (p : Packet) : u.cellCycle r cell [(id, p)] = u.cellOp r cell p := rfl

/-- A notify of a cell that raises no interrupt sets the cell (R225, R226). -/
theorem Block.cellOp_notify {s : Block} {r cell : Nat} {p : Packet} (hop : p.arg = 1)
    (hirq : (s.setCell r cell (p.data.setWidth 32)).bit (SYNC_ATTR.IRQ r cell) = false) :
    s.cellOp r cell p = s.setCell r cell (p.data.setWidth 32) := by
  simp [Block.cellOp, hop, hirq]

section Answers
variable {p : Packet} {s t : State} (harr : s.toBlock.arrive p = (t.toBlock, true)) (hunit : p.dst.unit < 16) (hcore : p.dstCore < 32)
  (hop : p.op = .syncAnswer)
include harr hunit hcore hop

/-- A wake that arrives marks its core (R227). -/
theorem wakeDelivery_gives (harg : p.arg = 6) :
    Gives (.wakeDelivery p) s (t.setBit (CORE_STAT.WAKE_PEND p.dst.unit (t.siteOf p.dst.unit p.dstCore)) true) :=
  Gives.of_runs _ (exec_wakeDelivery p s)
    (by simp [blkWakeDelivery, hop, harg, harr, Nat.not_le.mpr hunit, Nat.not_le.mpr hcore, Block.wakeCore])

/-- An answer that arrives reaches the CLAIM's register or the WAIT (R227, R228). -/
theorem syncAnswer_gives (harg : p.arg ≠ 6) :
    Gives (.syncAnswer p) s (if p.arg = 2 then t.claimReply p.dst.unit (t.siteOf p.dst.unit p.dstCore) p.tag (p.data.setWidth 64)
      else t.waitAnswer p.dst.unit (t.siteOf p.dst.unit p.dstCore) p) :=
  Gives.of_runs _ (exec_syncAnswer p s) (by simp [blkSyncAnswer, hop, harg, harr, Nat.not_le.mpr hunit, Nat.not_le.mpr hcore])

end Answers

/-- Settles O35: each command by the branch that its hypotheses name. -/
theorem synchronizationTakesEffect : Obligations.SynchronizationTakesEffect := by
  unfold Obligations.SynchronizationTakesEffect
  intro req dw v r c cell ops p n s t b arrives at_
  refine ⟨rfl, fun u id => ⟨u.cellCycle_nil r cell, u.cellCycle_singleton r cell id p⟩, fun hadd => ?_,
    fun hnotify _ hirq => Block.cellOp_notify hnotify hirq, ?_, ?_, fun ⟨harr, hunit, hcore⟩ hop => ⟨fun harg => ?_, fun harg => ?_,
    fun h2 h6 => ?_⟩, ?_⟩
  · simp only [Block.cellOp, hadd]
  · exact WriteGives.of_command (c := .syncValWrite req dw v ops) rfl fun _ _ _ _ _ _ => rfl
  · exact WriteGives.of_command (c := .syncAddReg req dw v ops) rfl fun _ _ _ _ _ _ => rfl
  · exact wakeDelivery_gives harr hunit hcore hop harg
  · exact (syncAnswer_gives harr hunit hcore hop (by omega)).congr (if_pos harg)
  · exact (syncAnswer_gives harr hunit hcore hop h6).congr (if_neg h2)
  · intro x lo hi counted hheld
    have hmeaning := exec_holdSpanEnd r c n s
    refine ⟨fun hends hwait => ?_, fun hends ⟨w, hwait, hwake⟩ => ?_, fun hends hhalt hexc hresend => ?_,
      fun w htmo hwait hwake hans hexc => ?_⟩
    · refine Gives.of_runs _ hmeaning ?_
      cases hw : x.wait with
      | none => simp [hheld, hends, hw, x, counted, b, lo, hi]
      | some w => simp [hheld, hends, hw, hwait w hw, x, counted, b, lo, hi]
    · exact Gives.of_runs _ hmeaning (by simp [hheld, hends, hwait, hwake, x, counted, b, lo, hi])
    · refine Gives.of_runs _ hmeaning ?_
      cases hw : x.wait with
      | none => simp [hheld, hends, hw, hhalt, hexc, x, counted, b, lo, hi]
      | some w => simp [hheld, hends, hw, hhalt, hexc, hresend w hw, x, counted, b, lo, hi]
    · exact Gives.of_runs _ (exec_syncTimeout r c s) (by simp [hheld, htmo, hwait, hwake, hans, hexc, x])

/-! ## Remote requests -/

/-- What a core is asked for by a packet that was delivered to its scratchpad (R310, R330). -/
def Block.rowRequest (t : Block) (p : Packet) (write : Bool) : SharedReq :=
  ⟨write, p.addr, p.data, allWords, t.sourceId p.dst.unit p, p⟩

/-- What a stack is asked for by a packet that was delivered to the cache tier (R335). -/
def unitRequest (p : Packet) (write : Bool) : CacheReq := ⟨p.addr, p.src.die, tierRequester p.src, write, p.data, allBytes, p⟩

/-- A request to a row that is there and granted is served where the shared phase is free, and waits where it is not (R310, R615). -/
theorem Block.askRow_admitted {t : Block} {p : Packet} {write : Bool} (busy : Bool) (k : Nat) (words : List (Fin 64))
    (hreach : t.net.unreachable.contains (p.dst.unit, t.siteOf p.dst.unit p.dstCore) = false) (hrow : p.addr < 4096)
    (hgrant : t.rowGranted p p.addr write = true) :
    t.askRow p write busy k words =
      if !busy && (t.spadAt p.dst.unit (t.siteOf p.dst.unit p.dstCore)).queue.isEmpty then
        t.serveShared p.dst.unit (t.siteOf p.dst.unit p.dstCore) (t.rowRequest p write) false k words
      else t.askShared p.dst.unit (t.siteOf p.dst.unit p.dstCore) (t.rowRequest p write) := by
  simp only [Block.askRow]
  rw [if_neg (by simp only [hreach]; decide), if_neg (by simp [hgrant, Nat.not_le.mpr hrow])]
  rfl

/-- A request to a unit that is not refused is served where its stack is free, and waits where it is not (R335, R341). -/
theorem Block.askUnit_admitted {t : Block} {p : Packet} {write : Bool} (busy : Bool) (k : Nat) (cws : List (Fin 8))
    (hgrant : t.cacheRefusal p.src.die (tierRequester p.src) p.addr write = none) :
    t.askUnit p write busy k cws =
      if !busy && (t.stackQueue (stackOf p.addr)).isEmpty then t.serveUnit (unitRequest p write) k cws
      else t.setStackQueue (stackOf p.addr) (t.stackQueue (stackOf p.addr) ++ [unitRequest p write]) := by
  simp only [Block.askUnit, hgrant]
  rfl

/-- A request of its kind that arrives asks its row or its unit. -/
theorem Block.request_arrives {s t : Block} {p : Packet} (op : PktOp) (busy : Bool) (k : Nat) (words : List (Fin 64)) (cws : List (Fin 8))
    (harr : s.arrive p = (t, true)) (hop : p.op = op) :
    s.request p op busy k words cws =
      if p.dst.unit < 16 then t.askRow p (decide (op = .putReq)) busy k words else t.askUnit p (decide (op = .putReq)) busy k cws := by
  simp [Block.request, hop, harr]

/-- A port that is busy, or that has a queue, does not serve at once. -/
theorem not_free_of_busy_or_queued {α : Type} {busy : Bool} {queue : List α} (h : busy = true ∨ queue ≠ []) :
    ¬(!busy && queue.isEmpty) = true := by
  intro hfree
  obtain ⟨hidle, hempty⟩ := (Bool.and_eq_true _ _).mp hfree
  exact h.elim (fun hbusy => by rw [hbusy] at hidle; cases hidle) fun hqueued => hqueued (List.isEmpty_iff.mp hempty)

/-- Settles O36: a request by its target's admission, a reply by its tag. -/
theorem remoteRequestsTakeEffect : Obligations.RemoteRequestsTakeEffect := by
  unfold Obligations.RemoteRequestsTakeEffect
  intro p busy withCore k words cws r c tag s t b asks
  refine ⟨fun harr => ?_, fun x htag => ?_⟩
  · have asks' {write : Bool} {i : Instr} {op : PktOp} (hi : Gives i s (s.request p op busy k words cws)) (hop : p.op = op)
        (hwrite : decide (op = .putReq) = write) : asks write i := by
      have hrequest := Block.request_arrives op busy k words cws harr hop
      rw [hwrite] at hrequest
      refine ⟨fun hunit hreach hrow hgrant => ?_, fun hunit hgrant => ?_⟩
      · have hask := Block.askRow_admitted busy k words hreach hrow hgrant
        rw [if_pos hunit, hask] at hrequest
        refine ⟨fun hfree hqueue => ?_, fun hwait => ?_⟩
        · exact hi.congr (hrequest.trans (if_pos (by simp [hfree, hqueue])))
        · exact hi.congr (hrequest.trans (if_neg (not_free_of_busy_or_queued hwait)))
      · have hask := Block.askUnit_admitted busy k cws hgrant
        rw [if_neg (Nat.not_lt.mpr hunit), hask] at hrequest
        refine ⟨fun hfree hqueue => ?_, fun hwait => ?_⟩
        · exact hi.congr (hrequest.trans (if_pos (by simp [hfree, hqueue])))
        · exact hi.congr (hrequest.trans (if_neg (not_free_of_busy_or_queued hwait)))
    refine ⟨fun hop => asks' (i := .getRequest ..) rfl hop rfl, fun hop => asks' (i := .putRequest ..) rfl hop rfl,
      fun hunit hcore => ?_⟩
    refine ⟨fun x htag => ⟨fun hop => ?_, fun hop hst => ?_, fun hop hst hkind => ?_, fun hop hst hkind => ?_⟩,
      fun htag => ⟨fun hop => ?_, fun hop => ?_⟩⟩
    · exact (getData_gives harr hunit hcore hop withCore k words).congr (Block.getArrives_outstanding htag withCore k words)
    · exact (remoteCompletion_gives harr hunit hcore hop).congr (Block.completion_of_error htag hst)
    · exact (remoteCompletion_gives harr hunit hcore hop).congr (Block.completion_of_not_emit htag hst hkind)
    · exact (remoteCompletion_gives harr hunit hcore hop).congr (Block.completion_of_emit htag hst hkind)
    · exact (getData_gives harr hunit hcore hop withCore k words).congr (by simp [Block.getArrives, htag])
    · exact (remoteCompletion_gives harr hunit hcore hop).congr (by simp [Block.completion, htag])
  · exact Gives.of_runs _ (exec_remoteTimeout r c tag s) (by simp [htag])

/-! ## Migration -/

/-- A request that finds no migration of its ridge and a core that is neither halted nor in test prepares on a free scree site. -/
theorem Block.migRequest_scree {s : Block} {r k op x : Nat} (hidle : (SMap.find r s.mig).isSome = false)
    (h4 : s.fld (CORE_STAT.STATE r (s.siteOf r k)) ≠ 4) (h6 : s.fld (CORE_STAT.STATE r (s.siteOf r k)) ≠ 6) (hop : op ≠ 3)
    (hfree : s.freeScree r = some x) : s.migRequest r k op = s.migPrepare r k (s.siteOf r k) x op := by
  simp [Block.migRequest, hidle, h4, h6, hop, hfree]

/-- A return prepares on the site in test that the core left (R251). -/
theorem Block.migRequest_return {s : Block} {r k x : Nat} (hidle : (SMap.find r s.mig).isSome = false)
    (h4 : s.fld (CORE_STAT.STATE r (s.siteOf r k)) ≠ 4) (h6 : s.fld (CORE_STAT.STATE r (s.siteOf r k)) ≠ 6)
    (htested : s.testedSite r k = some x) : s.migRequest r k 3 = s.migPrepare r k (s.siteOf r k) x 3 := by
  simp [Block.migRequest, hidle, h4, h6, htested]

/-- Settles O37: the requests that find a target, and each event in its phase. -/
theorem migrationTakesEffect : Obligations.MigrationTakesEffect := by
  unfold Obligations.MigrationTakesEffect
  intro req dw v r spans m s b writes
  refine ⟨fun x => ⟨?_, ?_, ?_⟩, fun hm => ⟨fun hphase hstate => ⟨fun hdrained => ?_, ?_⟩, fun hphase => ?_⟩⟩
  · refine WriteGives.of_command (c := .migTemporary req dw v) rfl fun t page off idx _ hwhen => ?_
    obtain ⟨hop, hidle, h4, h6, hfree⟩ := hwhen
    exact (if_pos hop).trans (Block.migRequest_scree hidle h4 h6 (by decide) hfree)
  · refine WriteGives.of_command (c := .migPermanent req dw v) rfl fun t page off idx _ hwhen => ?_
    obtain ⟨hop, hidle, h4, h6, hfree⟩ := hwhen
    exact (if_pos hop).trans (Block.migRequest_scree hidle h4 h6 (by decide) hfree)
  · refine WriteGives.of_command (c := .migReturn req dw v) rfl fun t page off idx _ hwhen => ?_
    obtain ⟨hop, hidle, h4, h6, htested⟩ := hwhen
    exact (if_pos hop).trans (Block.migRequest_return hidle h4 h6 htested)
  · exact Gives.of_runs _ (exec_migDrainDone r s) (by simp [hm, hphase, hstate, hdrained, b])
  · exact Gives.of_runs _ (exec_migDrainTimeout r s) (by simp [hm, hphase, hstate, b])
  · exact Gives.of_runs _ (exec_migFlip r spans s) (by simp only [hm, hphase, ne_eq, not_true_eq_false, if_false, b])

end Sys2Proof.Machine
end

section
/-! PROOF. The commands and events of the resistive store. -/
namespace Sys2Proof.Machine

/-! ## Store writes -/

section StoreCommand
variable {i : Instr} {s : State} {req : Fin 18} {dw : BitVec 26} {v : Word} {op cls operand : Nat} {kind : StoreKind} {ok : SlabState → Bool}
  (hi : Gives i s (s.storeCommand req dw.toNat v op kind cls ok)) (hop : 1 ≤ op ∧ op ≤ 6)
  (hoperand : (if kind = .replaceColumn then getBits v 17 10 else getBits v 13 4) = operand)
include hi hop hoperand

/-- The slab, column and state that an order needs (R99). -/
def Block.orderRight (t : Block) (v : Word) (r op : Nat) (kind : StoreKind) (operand : Nat) (ok : SlabState → Bool) : Prop :=
  getBits v 0 4 = op ∧ getBits v 4 6 ≤ 33 ∧ getBits v 13 4 ≤ 8 ∧ (kind = .replaceColumn → operand ≤ 527) ∧
    ok (t.slab r (getBits v 4 6) (getBits v 10 3) (getBits v 13 4)).state = true

/-- A store order in place is queued, or refused for a full queue; one out of place is rejected (R99). -/
theorem WriteGives.storeCommand :
    WriteGives i s req dw v .ridgeStore [0x48]
      (fun t page _ _ => t.orderRight v (ridgeOfPage page) op kind operand ok ∧ (t.queue (ridgeOfPage page)).length < 4096)
      (fun t page _ _ => (t.enqueue (ridgeOfPage page) ⟨kind, getBits v 4 6, getBits v 10 3, getBits v 13 4, operand, cls, true⟩).setFld
        (SR_CMD_STAT.RESULT (ridgeOfPage page)) 1) ∧
    WriteGives i s req dw v .ridgeStore [0x48]
      (fun t page _ _ => t.orderRight v (ridgeOfPage page) op kind operand ok ∧ 4096 ≤ (t.queue (ridgeOfPage page)).length)
      (fun t page _ _ => t.setFld (SR_CMD_STAT.RESULT (ridgeOfPage page)) 4) ∧
    WriteGives i s req dw v .ridgeStore [0x48]
      (fun t page _ _ => getBits v 0 4 = op ∧ ¬ t.orderRight v (ridgeOfPage page) op kind operand ok)
      (fun t page _ _ => t.setFld (SR_CMD_STAT.RESULT (ridgeOfPage page)) 3) := by
  have hnamed : getBits v 0 4 = op → ¬(getBits v 0 4 = 0 ∨ getBits v 0 4 > 6) := by omega
  have hplace (t : Block) (r : Nat) : t.orderRight v r op kind operand ok ↔ getBits v 0 4 = op ∧
      ¬(getBits v 4 6 > 33 ∨ getBits v 13 4 > 8 ∨ (kind = .replaceColumn ∧ getBits v 17 10 > 527) ∨
        (!ok (t.slab r (getBits v 4 6) (getBits v 10 3) (getBits v 13 4)).state) = true) := by
    by_cases hkind : kind = .replaceColumn
    · simp [Block.orderRight, hkind, ← hoperand]
    · simp [Block.orderRight, hkind]
  refine ⟨WriteGives.of_command hi fun t page off idx _ hwhen => ?_, WriteGives.of_command hi fun t page off idx _ hwhen => ?_,
    WriteGives.of_command hi fun t page off idx _ hwhen => ?_⟩
  · obtain ⟨hright, hroom⟩ := hwhen
    obtain ⟨hcode, hright⟩ := (hplace t _).mp hright
    refine (if_neg (hnamed hcode)).trans ((if_neg (not_not_intro hcode)).trans ((if_neg hright).trans ((if_neg (Nat.not_le.mpr hroom)).trans ?_)))
    rw [hoperand]
  · obtain ⟨hright, hfull⟩ := hwhen
    obtain ⟨hcode, hright⟩ := (hplace t _).mp hright
    exact (if_neg (hnamed hcode)).trans ((if_neg (not_not_intro hcode)).trans ((if_neg hright).trans (if_pos hfull)))
  · obtain ⟨hcode, hwrong⟩ := hwhen
    have hout := Classical.byContradiction fun h => hwrong ((hplace t _).mpr ⟨hcode, h⟩)
    exact (if_neg (hnamed hcode)).trans ((if_neg (not_not_intro hcode)).trans (if_pos hout))

end StoreCommand

/-- Settles O38: each order is a store order of its kind; the other writes branch on the state of the lease or of the erase. -/
theorem storeWritesTakeEffect : Obligations.StoreWritesTakeEffect := by
  unfold Obligations.StoreWritesTakeEffect
  intro req dw v s site engine slab orders held
  have hscanned : (fun st => held st || decide (st = .outForRefresh)) =
      fun st => decide (st = .resident ∨ st = .assigned ∨ st = .suspect ∨ st = .outForRefresh) := by
    funext st
    cases st <;> rfl
  refine ⟨?_, ?_, ?_, ?_, ?_, ?_, ?_, ?_, ?_, ?_, ?_, fun x => ?_, fun x => ?_⟩
  · rw [hscanned]
    exact WriteGives.storeCommand (i := .scan req dw v) rfl (by decide) rfl
  · exact WriteGives.storeCommand (i := .refresh req dw v) rfl (by decide) rfl
  · exact WriteGives.storeCommand (i := .driftSample req dw v) rfl (by decide) rfl
  · rw [hscanned]
    exact WriteGives.storeCommand (i := .replaceColumn req dw v) rfl (by decide) rfl
  · exact WriteGives.storeCommand (i := .replaceSlab req dw v) rfl (by decide) rfl
  · exact WriteGives.storeCommand (i := .reverify req dw v) rfl (by decide) rfl
  · refine WriteGives.of_command (c := .refreshEn req dw v) rfl fun t page off idx _ _ => ?_
    simp [Block.sdCtlWrite]
  · refine WriteGives.of_command (c := .leaseAck req dw v) rfl fun t page off idx _ hwhen => ?_
    obtain ⟨hack, hvalid, hleased⟩ := hwhen
    exact if_neg (by simp [hack, hvalid, hleased])
  · exact WriteGives.of_command (c := .eraseScopeWrite req dw v) rfl fun _ _ _ _ _ _ => rfl
  · refine WriteGives.of_command (c := .eraseArm req dw v) rfl fun t page off idx _ hwhen => ?_
    obtain ⟨hkey, hidle, hscope, hallowed⟩ := hwhen
    simp [hkey, hidle, hscope, hallowed]
  · refine WriteGives.of_command (c := .eraseArm req dw v) rfl fun t page off idx _ hwhen => ?_
    obtain ⟨hkey, hidle, hdenied⟩ := hwhen
    have hno : (t.scopeSpan.isSome && t.eraseAllowed req) = false := by
      rcases hdenied with h | h <;> simp [h]
    simp [hkey, hidle, hno]
  · refine WriteGives.of_command (c := .eraseStart req dw v) rfl fun t page off idx _ hwhen => ?_
    obtain ⟨hkey, harmed, hscope, hfree⟩ := hwhen
    simp [hkey, harmed, hscope, hfree]
  · refine WriteGives.of_command (c := .eraseStart req dw v) rfl fun t page off idx _ hwhen => ?_
    obtain ⟨hkey, harmed, hscope, huse⟩ := hwhen
    simp [hkey, harmed, hscope, huse]

/-! ## Store events -/

/-- Settles O39: each event by the branch that its hypotheses name. -/
theorem storeEventsTakeEffect : Obligations.StoreEventsTakeEffect := by
  unfold Obligations.StoreEventsTakeEffect
  intro r c e p g repair ue moved s b
  refine ⟨fun hup hrail => ⟨fun token key htoken hgrant => ?_, fun token o htoken hgrant => ?_⟩, fun o hrun => ?_, ?_, ?_, ?_, ?_, ?_, ?_,
    ?_, ?_, ?_, ?_, ?_⟩
  · exact Gives.of_runs _ (exec_tokenGrant r s) (by simp [hup, hrail, htoken, hgrant, b])
  · exact Gives.of_runs _ (exec_tokenGrant r s) (by simp [hup, hrail, htoken, hgrant, b])
  · intro q row out reads
    refine ⟨fun hg hrepair hswept hsuspended hkind hrail => ?_, fun hswept => ?_, fun hkind hg => ?_, ?_⟩
    · have hmeaning := exec_pgmIteration r c e g ue repair s
      have hshort : ¬(g.length ≠ 544 ∨ repair.length ≠ 544) := by simp [hg, hrepair]
      have hblocked : ¬(o.swept = true ∨ o.suspended = true ∨ (!o.op.kind.programs) = true ∨ s.lvActive = true) := by
        rw [hswept, hsuspended, hkind, hrail]
        decide
      refine ⟨fun hdone => Gives.of_runs _ hmeaning ?_, fun hout hreads hsecond => Gives.of_runs _ hmeaning ?_⟩
      · have hends : out.isEmpty = true ∨ reads = 12 := hdone.imp_left List.isEmpty_iff.mpr
        simp only [if_neg hshort, hrun, if_neg hblocked, if_pos hkind]
        exact (if_neg (by decide)).trans (if_pos hends)
      · have hgoes : ¬(out.isEmpty = true ∨ reads = 12) := fun h => h.elim (fun h => hout (List.isEmpty_iff.mp h)) hreads
        have hpulse : ¬(o.second = true ∧ o.it = 0) := fun h => hsecond h.1 h.2
        simp only [if_neg hshort, hrun, if_neg hblocked, if_pos hkind]
        exact (if_neg (by decide)).trans ((if_neg hgoes).trans (if_neg hpulse))
    · exact Gives.of_runs _ (exec_slabProgramDone r c e s) (by simp [hrun, hswept])
    · intro t
      have hmeaning := exec_driftFit r c e g s
      refine ⟨fun hfit => Gives.of_runs _ hmeaning ?_, fun hfit => Gives.of_runs _ hmeaning ?_⟩
      · simp [hg, hrun, hkind, hfit, t, q, b]
      · simp [hg, hrun, hkind, hfit, t, q, b]
    · intro t
      have hrefresh := exec_refreshScanDone r c e moved s
      have hscan := exec_scanDone r c e moved s
      refine ⟨fun hkind hclean => Gives.of_runs _ hrefresh ?_, fun hkind hfound => Gives.of_runs _ hrefresh ?_,
        fun hkind hcls => Gives.of_runs _ hscan ?_, fun hkind hcls => Gives.of_runs _ hscan ?_⟩
      · simp only [hrun, hkind, ne_eq, not_true_eq_false, if_false]
        exact congrArg _ (if_pos hclean)
      · simp only [hrun, hkind, ne_eq, not_true_eq_false, if_false]
        exact congrArg _ (if_neg hfound)
      · simp only [hrun, hkind, hcls, ne_eq, not_true_eq_false, if_false, if_true]
        rfl
      · simp only [hrun, hkind, hcls, ne_eq, not_true_eq_false, if_false]
        rfl
  · intro same hen hsampled hqueue hrun
    have hother : (s.runOf r c e).any (fun x => same x.op) = false := by
      cases h : s.runOf r c e with
      | none => rfl
      | some x => exact hrun x h
    refine Gives.of_runs _ (exec_driftSampleDue r c e p s) (if_neg ?_)
    rw [hen, hsampled, hqueue, hother]
    decide
  · exact Gives.of_runs _ (exec_debtAccrual s) rfl
  · intro x hcount
    exact Gives.of_runs _ (exec_readDebtCount r c e p s) (if_neg (Nat.not_lt.mpr hcount))
  · exact Gives.of_runs _ (exec_overdueCheck r s) rfl
  · intro hwaiting
    exact Gives.of_runs _ (exec_refreshResume r s) (by simp [hwaiting])
  · intro o hwaiting hkind
    exact Gives.of_runs _ (exec_refreshResume r s) (by simp [hwaiting, hkind])
  · intro hidle
    exact Gives.of_runs _ (exec_idleStepBoundary r s) (if_neg (by simp only [hidle]; decide))
  · intro harmed
    exact Gives.of_runs _ (exec_eraseArmExpiry s) (by rw [if_pos harmed])
  · intro hrunning hleft t
    have hmeaning := exec_eraseDone s
    refine ⟨fun h4 h5 => Gives.of_runs _ hmeaning ?_, fun h4 => Gives.of_runs _ hmeaning ?_, fun h5 => Gives.of_runs _ hmeaning ?_⟩
    · simp [hrunning, hleft, t, b]
    · simp [hrunning, hleft, h4, t, b]
    · simp [hrunning, hleft, h5, t, b]
  · exact Gives.of_runs _ (exec_debtCheckpoint s) rfl
  · exact Gives.of_runs _ (exec_cairnStoreRefresh s) rfl

end Sys2Proof.Machine
end

section
/-! PROOF. The engines' queues and passes, and the frames and checks of a core. -/
namespace Sys2Proof.Machine

/-! ## Passes -/

/-- Settles O40: each event by the branch that its hypotheses name. -/
theorem enginePassesTakeEffect : Obligations.EnginePassesTakeEffect := by
  unfold Obligations.EnginePassesTakeEffect
  intro r c e err mism s b x
  refine ⟨fun hidle hrail hdiscarded hruns cmd rest hqueue hdrain hclear => ?_, fun hidle hrail q rest hdiscarded => ?_,
    fun hidle hdiscarded hqueue hframe => ?_, fun herr cmd p hpass => ?_, fun cmd rest hqueue hruns hlatched => ?_,
    fun v row flags rest hdrains => ?_, fun cmd rest hqueue hidle hruns => ?_, fun cmd hpass hrail => ?_⟩
  · have hmeaning := exec_passStart r c e s
    refine ⟨fun hbias => Gives.of_runs _ hmeaning ?_, fun hbias => ⟨fun hkind => Gives.of_runs _ hmeaning ?_,
      fun hkind => Gives.of_runs _ hmeaning ?_, fun hkind hready => Gives.of_runs _ hmeaning ?_⟩⟩
    · simp [x, hidle, hrail, hdiscarded, hruns, hqueue, hdrain, hclear, hbias]
    · simp [x, hidle, hrail, hdiscarded, hruns, hqueue, hkind, hbias]
    · simp [x, hidle, hrail, hdiscarded, hruns, hqueue, hkind, hbias]
    · have hgo : ¬((!cmd.acc && x.qmBefore cmd.order) = true) := by
        rcases hready with h | h <;> simp [h]
      simp only [x] at hgo hidle hdiscarded hqueue
      simp [hidle, hrail, hdiscarded, hruns, hqueue, hkind, hbias, hgo, b]
  · exact Gives.of_runs _ (exec_passStart r c e s) (by simp [x, hidle, hrail, hdiscarded])
  · have hnone : ∀ q ∈ x.queue, ¬q.kind = .fire ∧ ¬q.kind = .probe ∧ ¬q.kind = .echo := by
      intro q hq
      rcases hqueue q hq with h | h | h | h <;> simp [h]
    exact Gives.of_runs _ (exec_biasHoldExpiry r c e s) (if_neg (by simpa [x, hidle, hdiscarded, hframe] using hnone))
  · exact Gives.of_runs _ (exec_passLatch r c e err s) (by simp [x, herr, hpass])
  · refine ⟨fun hkind => Gives.of_runs _ (exec_drainExecute r c e mism s) ?_,
      fun hkind => Gives.of_runs _ (exec_clearExecute r c e s) ?_⟩
    · simp only [x] at hqueue hlatched
      simp only [hqueue, hkind, hruns, hlatched]
      rfl
    · simp only [x] at hqueue hlatched
      simp only [hqueue, hkind, hruns, hlatched]
      rfl
  · exact Gives.of_runs _ (exec_drainResultWrite r c e s) (by simp [x, hdrains, b])
  · simp only [x] at hqueue hidle
    refine ⟨fun hkind hfirst => Gives.of_runs _ (exec_qmPassStart r c e s) ?_,
      fun hkind => Gives.of_runs _ (exec_qloadExecute r c e s) ?_⟩
    · have hnone : x.queue.any (fun q => decide ((q.kind = .drain ∨ q.kind = .clear) ∧ q.order < cmd.order)) = false := by
        rw [List.any_eq_false]
        intro q hq
        simpa using hfirst q hq
      have hgo : ¬(cmd.kind ≠ .qmFire ∨ (s.engine r c e).qmPass.isSome = true ∨ (!s.queuesRun r c) = true ∨
          x.queue.any (fun q => decide ((q.kind = .drain ∨ q.kind = .clear) ∧ q.order < cmd.order)) = true) := by
        rw [hkind, hidle, hruns, hnone]
        decide
      simp only [hqueue]
      exact if_neg hgo
    · have hgo : ¬(cmd.kind ≠ .qload ∨ (s.engine r c e).qmPass.isSome = true ∨ (!s.queuesRun r c) = true) := by
        rw [hkind, hidle, hruns]
        decide
      simp only [hqueue]
      exact if_neg hgo
  · simp only [x] at hpass
    refine Gives.of_runs _ (exec_qmPassLatch r c e s) ?_
    simp only [hpass, hrail]
    rfl

/-! ## Frames and checks -/

/-- Settles O41: a frame by its number, a check by what it compares. -/
theorem framesAndChecksTakeEffect : Obligations.FramesAndChecksTakeEffect := by
  unfold Obligations.FramesAndChecksTakeEffect
  intro req dw v r c e edge p sum err s b x
  refine ⟨?_, fun hidle hrail => ⟨fun hframe hedge => ?_, fun hframe h mirror en hecho hhistory hmirror => ?_⟩,
    fun herr => ⟨fun q step rev hpass => ?_, fun en q hpass => ?_⟩, ?_, ?_⟩
  · intro y f n t next ran k probe echo hstate hlv
    have hmeaning := exec_frameStart r c s
    have hrun : ¬(s.ridgeState r ≠ 0) := not_not_intro hstate
    have hlvrun (z : Bool) : (y.lvHold && z) = false := by rw [hlv, Bool.false_and]
    refine ⟨fun hstall => Gives.of_runs _ hmeaning ((if_neg hrun).trans ?_), fun hgo => ?_⟩
    · exact if_pos (by rw [Bool.or_eq_true]; exact .inr (by simpa using hstall))
    · have hruns (z : Bool) : ¬((y.lvHold && z || !frameRuns (f % 16) (t.fld (ENG_STAT.GOV_ALLOW r c 0))) = true) := by
        rw [hlvrun, hgo]
        decide
      refine ⟨fun hecho => Gives.of_runs _ hmeaning ((if_neg hrun).trans ((if_neg (hruns _)).trans (if_pos hecho))),
        fun hecho hprobe => Gives.of_runs _ hmeaning ((if_neg hrun).trans ((if_neg (hruns _)).trans ((if_neg ?_).trans (if_pos hprobe)))),
        fun hecho hprobe => Gives.of_runs _ hmeaning ((if_neg hrun).trans ((if_neg (hruns _)).trans ((if_neg ?_).trans (if_neg ?_))))⟩
      · exact Bool.not_eq_true _ ▸ hecho
      · exact Bool.not_eq_true _ ▸ hecho
      · exact Bool.not_eq_true _ ▸ hprobe
  · intro due
    have hmeaning := exec_probeFrame r c e edge s
    simp only [x] at hidle hedge
    have hgo : ¬((s.coreAt r c).frame ≠ 2 ∨ (s.engine r c e).pass.isSome = true ∨ s.lvActive = true ∨
        ((s.engine r c e).lateBias = true ∧ edge.val < 2)) := by
      rw [hframe, hidle, hrail]
      rcases hedge with h | h
      · simp [h]
      · simp [Nat.not_lt.mpr h]
    refine ⟨fun q hdue => Gives.of_runs _ hmeaning ((if_neg hgo).trans ?_), fun hdue => Gives.of_runs _ hmeaning ((if_neg hgo).trans ?_)⟩
    · simp only [due, x] at hdue
      simp only [hdue]
    · simp only [due, x] at hdue
      simp only [hdue]
  · simp only [x] at hidle hecho hhistory
    have hgo : ¬((s.coreAt r c).frame ≠ 3 ∨ (s.engine r c e).pass.isSome = true ∨ s.lvActive = true) := by
      rw [hframe, hidle, hrail]
      decide
    have hserves : ¬((mirror && !s.mirrors r c e en.pslab) = true) := by
      cases mirror
      · simp
      · simp [hmirror]
    refine Gives.of_runs _ (exec_echoFrame r c e edge s) ((if_neg hgo).trans ?_)
    simp only [hecho, hhistory]
    exact if_neg hserves
  · intro u
    simp only [x] at hpass
    refine ⟨fun hgood => Gives.of_runs _ (exec_probeCompare r c e err s) ?_,
      fun first rest hbad => Gives.of_runs _ (exec_probeCompare r c e err s) ?_⟩
    · simp only [u, b] at hgood
      simp only [herr, hpass, hgood]
      rfl
    · simp only [u, b] at hbad
      simp only [herr, hpass, hbad]
      rfl
  · intro u
    simp only [x] at hpass
    refine ⟨fun hgood => Gives.of_runs _ (exec_echoCompare r c e err s) ?_, fun hbad => Gives.of_runs _ (exec_echoCompare r c e err s) ?_⟩
    · simp only [herr, hpass]
      exact if_pos (List.isEmpty_iff.mpr hgood)
    · simp only [herr, hpass]
      exact if_neg fun h => hbad (List.isEmpty_iff.mp h)
  · intro i n row en hfree hprobed
    refine Gives.of_runs _ (exec_probeEntryRefill r c e p sum s) (if_neg ?_)
    simp only [i, x] at hfree
    rw [hfree, hprobed]
    decide
  · refine WriteGives.of_command (c := .blockTableWrite req dw v) rfl fun t page off idx _ hmig => ?_
    simp only [hmig]

end Sys2Proof.Machine
end

section
/-! PROOF. The scratchpads, the cache tier and the die's network. -/
namespace Sys2Proof.Machine

/-! ## Regions, pools and the cache tier -/

/-- A row that arrives at a region which takes it is produced there; an mdisp row is granted and answered (R324, R529). -/
theorem Block.regionArrival_arrives {s t : Block} {p : Packet} (harr : s.arrive p = (t, true)) (hunit : p.dst.unit < 16)
    (hcore : p.dstCore < 32) (haddr : p.addr < 64) (hop : p.op = .mdisp ∨ p.op = .batchRow)
    (htakes : t.regionRefuses p.dst.unit (t.siteOf p.dst.unit p.dstCore) p.addr = none) (withCore : Bool) :
    s.regionArrival p withCore =
      if p.op = .batchRow then
        t.produceRow p.dst.unit (t.siteOf p.dst.unit p.dstCore) p.addr p.data (t.sourceId p.dst.unit p) withCore
      else if !t.rowGranted p (t.fld (CR_STAT.TAIL p.dst.unit (t.siteOf p.dst.unit p.dstCore) p.addr)) true then
        t.reply p .completion 3 0
      else (t.produceRow p.dst.unit (t.siteOf p.dst.unit p.dstCore) p.addr p.data (t.sourceId p.dst.unit p) withCore).reply p
        .completion 0 0 := by
  have hhere : ¬((p.op ≠ .mdisp ∧ p.op ≠ .batchRow) ∨ p.dst.unit ≥ 16 ∨ p.dstCore ≥ 32 ∨ p.addr ≥ 64) := by
    rcases hop with h | h <;> simp [h] <;> omega
  simp only [Block.regionArrival, if_neg hhere, harr, htakes]
  rfl

/-- A region of at least one row that ends within the scratchpad is enabled with its pointers at BASE (R320, R321). -/
theorem Block.enableRegion_enables {s : Block} {r c g : Nat} (hsize : 1 ≤ s.fld (CR_CFG.SIZE r c g))
    (hfits : s.fld (CR_CFG.BASE r c g) + s.fld (CR_CFG.SIZE r c g) ≤ 4096) :
    s.enableRegion r c g =
      (((((s.modSpad r c (fun y => { y with reserved := SMap.del g y.reserved, headAhead := SMap.del g y.headAhead })).setFld
        (CR_STAT.HEAD r c g) (s.fld (CR_CFG.BASE r c g))).setFld (CR_STAT.TAIL r c g) (s.fld (CR_CFG.BASE r c g))).setFld
        (CR_COUNT.COUNT r c g) 0).setBit (CR_CTL.EN r c g) true).showRegion r c g := by
  have hok : ¬(s.fld (CR_CFG.SIZE r c g) = 0 ∨ s.fld (CR_CFG.BASE r c g) + s.fld (CR_CFG.SIZE r c g) > 4096) := by omega
  simp only [Block.enableRegion, if_neg hok]

/-- A cache-tier region whose range is in order, overlaps no other and has an owner is made valid (R342). -/
theorem Block.setRegion_validates {s : Block} {i : Nat} {v : Word} (hset : getBits v 0 1 = 1) (hinvalid : s.bit (CT_REG_CTL.VALID i) = false)
    (hrange : (s.setFld (CT_REG_CTL.OWNER i) (getBits v 8 5)).fld (CT_REG_BASE.BASE_G i) ≤
      (s.setFld (CT_REG_CTL.OWNER i) (getBits v 8 5)).fld (CT_REG_LIMIT.LIMIT_G i))
    (hoverlap : (s.setFld (CT_REG_CTL.OWNER i) (getBits v 8 5)).regionOverlaps i = false)
    (howner : (s.setFld (CT_REG_CTL.OWNER i) (getBits v 8 5)).fld (CT_REG_CTL.OWNER i) ≤ 16) :
    s.setRegion i v = ((s.setFld (CT_REG_CTL.OWNER i) (getBits v 8 5)).setBit (CT_REG_CTL.VALID i) true).setBit
      (CT_REG_CTL.OVERLAP i) false := by
  simp only [Block.setRegion, hinvalid, Bool.false_eq_true, if_false]
  rw [if_neg (by omega), if_neg (by simp [hoverlap, Nat.not_lt.mpr hrange]), if_neg (Nat.not_lt.mpr howner)]

/-- Settles O42: each command by the branch that its hypotheses name. -/
theorem scratchpadAndCacheTakeEffect : Obligations.ScratchpadAndCacheTakeEffect := by
  unfold Obligations.ScratchpadAndCacheTakeEffect
  intro req dw v r c h k p withCore last words cws s t b spadSite writes
  refine ⟨fun _ => Gives.of_runs _ (exec_localRowAccess r c k words s) rfl, fun rest row x hstore => ?_, fun rest row vr hload => ?_,
    fun q rest hqueue => ?_, fun harr hunit hcore haddr => ?_, ?_, ?_, fun u x hsize hfits => Block.enableRegion_enables hsize hfits,
    ?_, ?_, fun q hq hfirst => ?_, fun unit hen hqueue hunit hstack => ?_, Gives.of_runs _ (exec_hbmRefresh h s) rfl, ?_, ?_⟩
  · exact Gives.congr (i := .localRowAccess ..) rfl (Block.localAccess_store hstore k words)
  · exact Gives.congr (i := .localRowAccess ..) rfl (by simp only [Block.localAccess, hload, b])
  · exact Gives.of_runs _ (exec_sharedPhaseAccess r c withCore k words s) (by simp only [hqueue, b])
  · intro x y htakes
    refine ⟨fun hop => Gives.congr (i := .regionArrival ..) rfl ?_, fun hop hgrant => Gives.congr (i := .mdispArrival ..) rfl ?_⟩
    · exact (Block.regionArrival_arrives harr hunit hcore haddr (.inr hop) htakes withCore).trans (if_pos hop)
    · refine (Block.regionArrival_arrives harr hunit hcore haddr (.inl hop) htakes withCore).trans ((if_neg (by simp [hop])).trans ?_)
      exact if_neg (by simp only [x, y] at hgrant; simp [hgrant])
  · refine WriteGives.of_command (c := .crCtlWrite req dw v) rfl fun t page off g _ hwhen => ?_
    obtain ⟨hset, hwas⟩ := hwhen
    simp only [if_pos hset, hwas]
    exact if_neg (by decide)
  · refine WriteGives.of_command (c := .crCtlWrite req dw v) rfl fun t page off g _ hwhen => ?_
    obtain ⟨hclear, hwas⟩ := hwhen
    have hoff : ¬(getBits v 0 1 = 1) := by omega
    simp only [if_neg hoff, hwas]
    exact if_pos trivial
  · refine WriteGives.of_command (c := .poolEnable req dw v) rfl fun t page off p _ hwhen => ?_
    obtain ⟨hset, hbuf, hen⟩ := hwhen
    refine (if_pos hset).trans (if_neg ?_)
    simp only [spadSite] at hbuf hen
    simp [hbuf, hen]
  · exact WriteGives.of_command (c := .poolEnable req dw v) rfl fun t page off p _ hclear => if_neg (by simp [hclear])
  · refine Gives.of_runs _ (exec_cacheAccess h k k cws s) ?_
    simp only [hq]
    refine if_neg ?_
    simpa using hfirst
  · refine Gives.of_runs _ (exec_cacheScrub h unit k cws last s) (if_neg ?_)
    rw [hen, hqueue, hstack]
    simp [Nat.not_le.mpr hunit]
  · refine WriteGives.of_command (c := .cacheRegionWrite req dw v) rfl fun t page off i _ hwhen => ?_
    obtain ⟨hi, hlock, hclear⟩ := hwhen
    exact (if_neg (by simp [hi, hlock])).trans (if_pos hclear)
  · refine WriteGives.of_command (c := .cacheRegionWrite req dw v) rfl fun t page off i _ hwhen => ?_
    obtain ⟨hi, hlock, hset, hinvalid, hrange, hoverlap, howner⟩ := hwhen
    exact (if_neg (by simp [hi, hlock])).trans (Block.setRegion_validates hset hinvalid hrange hoverlap howner)

/-! ## The die's network -/

/-- What a meaning gives depends on the hardware it starts from. -/
theorem State.runs_congr {s : State} {f g : Block → Host.Outcome Block Fault Refusal} (h : f s.toBlock = g s.toBlock) :
    s.runs f = s.runs g := by
  simp only [State.runs, h]

section Delivery
variable {p : Packet} {busy withCore : Bool} {k : Nat} {words : List (Fin 64)} {cws : List (Fin 8)} {s : State} (hsent : s.isSent p = true)
include hsent

/-- A packet for another die leaves by the fabric (R411). -/
theorem packetDelivery_leaves (haway : p.dst.die ≠ s.fld FAB_SELF.COORD) :
    Gives (.packetDelivery p busy withCore k words cws) s (s.toFabric p) :=
  Gives.of_runs _ (exec_packetDelivery p busy withCore k words cws s)
    ((if_neg (by simp [hsent])).trans (if_pos (.inl haway)))

/-- A packet of this die, which is not split, is taken by its destination interface (R358, R360). -/
theorem packetDelivery_delivers (hhere : p.dst.die = s.fld FAB_SELF.COORD) (hwhole : s.bit (NET_STAT.SPLIT 0) = false) :
    exec (.packetDelivery p busy withCore k words cws) s = s.runs (fun b => b.deliver p busy withCore k words cws) := by
  refine (exec_packetDelivery p busy withCore k words cws s).trans (State.runs_congr ?_)
  refine (if_neg (by simp [hsent])).trans (if_neg ?_)
  simp [hhere, hwhole]

end Delivery

/-- Settles O43: the interface that takes a packet is its kind's. -/
theorem networkTakesEffect : Obligations.NetworkTakesEffect := by
  unfold Obligations.NetworkTakesEffect
  intro p busy withCore k us words cws west east holes seams unreachable link dir lanes again s b i
  refine ⟨fun hsent haway => packetDelivery_leaves hsent haway, fun hsent hhere hwhole => ?_, ?_, ?_, ?_, ?_⟩
  · have hdeliver := packetDelivery_delivers (busy := busy) (withCore := withCore) (k := k) (words := words) (cws := cws)
      hsent hhere hwhole
    intro takes
    have takes' (i : Instr) (f : Block → Host.Outcome Block Fault Refusal) (hi : exec i s = s.runs f)
        (hop : s.deliver p busy withCore k words cws = f s.toBlock) : takes i :=
      hdeliver.trans ((State.runs_congr hop).trans hi.symm)
    refine ⟨fun hop => ?_, fun hop => ?_, fun hop => ?_, fun hop => ?_, fun hop => ?_, fun hop => ?_, fun hop => ?_, fun hop => ?_,
      fun hop => ?_, fun hop => ?_, fun hop => ?_, fun hop => ?_, fun hop hunit => ?_⟩
    · exact takes' _ _ (exec_getRequest p busy k words cws s) (by simp only [Block.deliver, hop])
    · exact takes' _ _ (exec_putRequest p busy k words cws s) (by simp only [Block.deliver, hop])
    · exact takes' _ _ (exec_remoteCompletion p s) (by simp only [Block.deliver, hop])
    · exact takes' _ _ (exec_getData p withCore k words s) (by simp only [Block.deliver, hop])
    · exact takes' _ _ (exec_mdispArrival p withCore s) (by simp only [Block.deliver, hop])
    · exact takes' _ _ (exec_regionArrival p withCore s) (by simp only [Block.deliver, hop])
    · by_cases hwake : p.arg = 6
      · rw [if_pos hwake]
        exact takes' _ _ (exec_wakeDelivery p s) (by simp only [Block.deliver, hop, if_pos hwake])
      · rw [if_neg hwake]
        exact takes' _ _ (exec_syncAnswer p s) (by simp only [Block.deliver, hop, if_neg hwake])
    · by_cases hserving : p.dst.unit = 16
      · rw [if_pos hserving]
        exact takes' _ _ (exec_finalCommit p s) (by simp only [Block.deliver, hop, if_pos hserving])
      · rw [if_neg hserving]
        exact takes' _ _ (exec_commit p s) (by simp only [Block.deliver, hop, if_neg hserving])
    · by_cases hserving : p.dst.unit = 16
      · rw [if_pos hserving]
        exact takes' _ _ (exec_servingRetract p s) (by simp only [Block.deliver, hop, if_pos hserving])
      · rw [if_neg hserving]
        exact takes' _ _ (exec_retract p s) (by simp only [Block.deliver, hop, if_neg hserving])
    · exact takes' _ _ (exec_slotLossNotice p s) (by simp only [Block.deliver, hop])
    · exact takes' _ _ (exec_emitArrival p s) (by simp only [Block.deliver, hop])
    · exact takes' _ _ (exec_droverBeatArrival p k words cws withCore s) (by simp only [Block.deliver, hop])
    · exact Gives.of_runs _ hdeliver (by simp only [Block.deliver, hop, if_neg (Nat.not_le.mpr hunit)])
  · intro change hidle
    exact Gives.of_runs _ (exec_routeChange west east holes seams unreachable s) (if_neg (by rw [hidle]; decide))
  · intro c hchange t t1 t2
    exact Gives.of_runs _ (exec_routeDrained us s) (by simp only [hchange]; rfl)
  · intro hworks t
    have hmeaning (bad : Bool) := exec_saddleFlitReceive link dir lanes bad again s
    have hgo : ¬(s.fld (SAD_LINK_STAT.STATE i) ≠ 0) := not_not_intro hworks
    exact ⟨Gives.of_runs _ (hmeaning true) ((if_neg hgo).trans (if_pos rfl)),
      Gives.of_runs _ (hmeaning false) ((if_neg hgo).trans (if_neg Bool.false_ne_true))⟩
  · exact Gives.of_runs _ (exec_saddleResend link dir s) rfl

end Sys2Proof.Machine
end

section
/-! PROOF. The herd fabric: frames, the herd tick, schedules and membership. -/
namespace Sys2Proof.Machine

/-- Settles O44: a frame by its port's state and header, a tick by its pulses, a notice by its generation. -/
theorem fabricTakesEffect : Obligations.FabricTakesEffect := by
  unfold Obligations.FabricTakesEffect
  intro req dw v p f corrected slot markers bank tick g mask q s t b x writes
  refine ⟨?_, ?_, fun hop hunit harr => ?_, Gives.of_runs _ (exec_herdSyncPulse markers s) rfl, ?_,
    WriteGives.of_command (c := .tickSetWrite req dw v) rfl fun _ _ _ _ _ _ => rfl,
    WriteGives.of_command (c := .swapArm req dw v) rfl fun _ _ _ _ _ _ => rfl, ?_,
    WriteGives.of_command (c := .schedEntryWrite req dw v) rfl fun _ _ _ _ _ _ => rfl,
    WriteGives.of_command (c := .genCmd req dw v) rfl fun _ _ _ _ _ hnew => if_pos hnew, ?_,
    fun y hy => Gives.of_runs _ (exec_genPersist s) (by simp only [hy, b]), Gives.of_runs _ (exec_genGraceEnd s) rfl⟩
  · intro hup seen
    have hgo : ¬((!s.portUp p) = true) := by simp [hup]
    refine ⟨fun hopen hseq => ?_, ?_, fun n hn hmode => ?_⟩
    · refine Gives.of_runs _ (exec_frameReceive p f corrected 0 true slot s) ((if_neg hgo).trans ?_)
      simp only [seen, b] at hseq ⊢
      simp [hopen, hseq]
    · intro htraverse u
      refine Gives.of_runs _ (exec_frameReceive p f corrected 0 true slot s) ((if_neg hgo).trans
        ((if_neg fun h => Bool.noConfusion h.1).trans ((if_neg fun h => h.elim Bool.noConfusion fun h => h rfl).trans
          ((if_neg fun h => ?_).trans ?_))))
      · rw [htraverse] at h
        exact Bool.noConfusion h.1
      · exact congrArg (fun t : Block => Host.Outcome.next (f.cells.foldl (fun t c => t.takeCell p c) t)) (if_pos htraverse)
    · refine Gives.of_runs _ (exec_frameReceive p f corrected n true slot s) ((if_neg hgo).trans ?_)
      have : n ≠ 0 := by omega
      simp [this, hmode, seen, b]
  · intro hup hmember
    have hgo : ¬((!s.portUp p) = true ∨ (!s.bit FAB_STAT.MEMBER) = true) := by simp [hup, hmember]
    refine ⟨fun old rest hresend => ?_, fun hresend => ?_⟩
    · exact Gives.of_runs _ (exec_frameTransmit p slot s) ((if_neg hgo).trans (by simp only [x] at hresend; simp only [hresend]; rfl))
    · exact Gives.of_runs _ (exec_frameTransmit p slot s) ((if_neg hgo).trans (by simp only [x] at hresend; simp only [hresend]; rfl))
  · refine Gives.of_runs _ (exec_slotLossNotice q s) ((if_neg (by simp [hop]; omega)).trans ?_)
    simp only [b] at harr
    simp only [harr]; rfl
  · intro u
    refine ⟨fun hfew => Gives.of_runs _ (exec_herdSyncMissing markers s) (if_pos (by omega)), fun hmany hlost hlost' => ?_⟩
    refine Gives.of_runs _ (exec_herdSyncMissing markers s) ((if_neg (by omega)).trans ?_)
    exact congrArg (fun t : Block => Host.Outcome.next (t.newTick (t.tickNo + 1) markers)) (if_pos hlost')
  · intro u
    refine ⟨fun hnone => ?_, fun bank' mine harmed => ?_⟩
    · exact Gives.of_runs _ (exec_swapNotice p bank tick s) (by simp only [x] at hnone; simp only [hnone]; rfl)
    · exact Gives.of_runs _ (exec_swapNotice p bank tick s) (by simp only [x] at harmed; simp only [harmed]; rfl)
  · intro hstate hdown
    have hgo : ¬(s.portState p < 3 ∨ s.portState p = 14) := by omega
    refine ⟨fun hnew => ⟨?_, ?_⟩, fun hold heq hmask => ?_⟩
    · exact Gives.of_runs _ (exec_genNotice p g mask s) ((if_neg hgo).trans (if_pos hnew))
    · exact Gives.of_runs _ (exec_strayNotice p g mask s) (if_neg (by simp [hnew]; omega))
    · exact Gives.of_runs _ (exec_genNotice p g mask s)
        ((if_neg hgo).trans ((if_neg (by simp [hold])).trans (if_pos ⟨heq, hmask⟩)))

/-! ## The links of the ports -/

/-- A peer's request that no own request meets is agreed and acknowledged (R406). -/
theorem Block.peerAsks_agrees {s : Block} {p coord type lanes : Nat} (hup : s.portUp p = true) (hnone : (s.port p).asked = none) :
    s.peerAsks p coord type lanes = (s.modPort p (fun x => { x with agreed := some (type, lanes) })).linkMsg p 4 type 0 := by
  simp [Block.peerAsks, hup, hnone]

/-- Settles O45: each event by its port's state. -/
theorem portsTakeEffect : Obligations.PortsTakeEffect := by
  unfold Obligations.PortsTakeEffect
  intro req dw v p lanes type lane hello serial moduleOk sn svn tick coord root s b x st fails good commands
  refine ⟨fun hactive => ⟨fun hunused => ?_, fun hused hst => ?_⟩, fun h2 => Gives.of_runs _ (exec_eqDone p s) (if_pos h2),
    fun h3 => ⟨?_, fun hlanes => ?_⟩, fun hst => Gives.of_runs _ (exec_trainTimeout p s) (if_pos hst),
    WriteGives.of_command (c := .planLoaded req dw v) rfl fun _ _ _ _ _ _ => rfl,
    WriteGives.of_command (c := .planEntryWrite req dw v) rfl fun _ _ _ _ _ _ => rfl, fun h5 => ?_, fun hst => ?_,
    fun h8 hsame => ?_, fun h8 hother => ?_, fun hst => ?_, fun hup => ?_, fun n hasked => ?_,
    Gives.of_runs _ (exec_errorWindow p s) rfl, fun hgood => ?_, fun hlanes => ⟨fun h12 => ?_, fun h13 => ?_⟩,
    fun hlanes => ⟨fun h12 => ?_, fun h13 => ?_⟩,
    WriteGives.of_command (c := .portRetrain req dw v) rfl fun _ _ _ _ _ ⟨hop, _⟩ => if_pos hop,
    WriteGives.of_command (c := .portRestore req dw v) rfl fun _ _ _ _ _ ⟨hop, _⟩ => if_pos hop,
    WriteGives.of_command (c := .portDown req dw v) rfl fun _ _ _ _ _ ⟨hop, hst⟩ => (if_pos hop).trans (if_neg hst),
    WriteGives.of_command (c := .portUp req dw v) rfl fun _ _ _ _ _ ⟨hop, hst⟩ => (if_pos hop).trans (if_pos hst)⟩
  · have hgo : ¬((!s.dieActive) = true) := by simp [hactive]
    have hno : (!s.bit (FAB_PLAN_PEER.USE p)) = true := by simp [hunused]
    exact ⟨Gives.of_runs _ (exec_signalDetect p lanes s) ((if_neg hgo).trans (if_pos hno)),
      Gives.of_runs _ (exec_portDetectRetry p false s) ((if_neg hgo).trans (if_pos hno))⟩
  · have hgo : ¬((!s.dieActive) = true) := by simp [hactive]
    have hyes : ¬((!s.bit (FAB_PLAN_PEER.USE p)) = true) := by simp [hused]
    have hlow : ¬(s.portState p > 1) := Nat.not_lt.mpr hst
    exact ⟨Gives.of_runs _ (exec_signalDetect p lanes s) ((if_neg hgo).trans ((if_neg hyes).trans (if_neg hlow))),
      Gives.of_runs _ (exec_portDetectRetry p false s)
        ((if_neg hgo).trans ((if_neg hyes).trans ((if_neg hlow).trans (congrArg Host.Outcome.next (if_neg Bool.false_ne_true))))),
      Gives.of_runs _ (exec_portDetectRetry p true s)
        ((if_neg hgo).trans ((if_neg hyes).trans ((if_neg hlow).trans (congrArg Host.Outcome.next (if_pos rfl)))))⟩
  · exact Gives.of_runs _ (exec_alignDone p lanes true s) ((if_neg (not_not_intro h3)).trans (if_pos rfl))
  · exact Gives.of_runs _ (exec_alignDone p lanes false s)
      ((if_neg (not_not_intro h3)).trans ((if_neg Bool.false_ne_true).trans (if_neg hlanes)))
  · exact Gives.of_runs _ (exec_hello p hello serial moduleOk s) (by simp only [st] at h5; simp only [h5, b])
  · refine Gives.of_runs _ (exec_hello p hello serial moduleOk s) ?_
    simp only [st] at hst
    rcases hst with h | h | h <;> simp only [h, b]
  · refine Gives.of_runs _ (exec_hello p hello serial moduleOk s) ?_
    simp only [st] at h8
    simp only [h8]
    exact if_neg (not_not_intro hsame)
  · refine Gives.of_runs _ (exec_hello p hello serial moduleOk s) ?_
    simp only [st] at h8
    simp only [h8]
    exact if_pos hother
  · have hgo : ¬(s.portState p ≠ 7 ∧ s.portState p ≠ 8) := by omega
    refine ⟨fun hdie hsn hsvn => ?_, fun d hswitch hroot hsvn => ?_, ?_, fun hoffered => ?_, fun hoffered => ?_⟩
    · exact Gives.of_runs _ (exec_keyOffer p true none sn svn s) ((if_neg hgo).trans (if_pos (by simp [hdie, hsn, hsvn])))
    · exact Gives.of_runs _ (exec_keyOffer p true (some d) sn svn s)
        ((if_neg hgo).trans (if_pos (by simp only [hroot]; simp [Nat.not_lt.mpr hswitch, hsvn])))
    · exact Gives.of_runs _ (exec_keyOffer p false root sn svn s) ((if_neg hgo).trans (if_neg (by simp)))
    · refine Gives.of_runs _ (exec_keyConfirm p tick false s) ((if_neg ?_).trans (if_pos rfl))
      simp only [x] at hoffered
      simp [hoffered, hgo]
    · refine Gives.of_runs _ (exec_keyConfirm p tick true s) ((if_neg ?_).trans (if_neg (by simp)))
      simp only [x] at hoffered
      simp [hoffered, hgo]
  · refine ⟨Gives.of_runs _ (exec_linkRekey p s) (if_pos hup), fun hnone => 
      ⟨Gives.of_runs _ (exec_retrainReq p coord s) (congrArg Host.Outcome.next (Block.peerAsks_agrees hup hnone)),
        Gives.of_runs _ (exec_widthReq p coord lanes s) (congrArg Host.Outcome.next (Block.peerAsks_agrees hup hnone))⟩, fun n hagreed => ?_⟩
    · refine Gives.of_runs _ (exec_reqWithdraw p type s) ?_
      simp only [x] at hagreed
      simp only [hagreed]
      exact if_pos ⟨trivial, hup⟩
  · refine Gives.of_runs _ (exec_reqAck p type s) ?_
    simp only [x] at hasked
    simp only [hasked]
    exact if_neg (not_not_intro rfl)
  · exact Gives.of_runs _ (exec_laneSignalLoss p lane s) (if_neg (by simpa [good] using hgood))
  · exact Gives.of_runs _ (exec_retrainDone p lanes s) ((if_neg (not_not_intro h12)).trans (if_neg hlanes))
  · exact Gives.of_runs _ (exec_widthChangeDone p lanes s) ((if_neg (not_not_intro h13)).trans (if_neg hlanes))
  · exact Gives.of_runs _ (exec_retrainDone p lanes s) ((if_neg (not_not_intro h12)).trans (if_pos hlanes))
  · exact Gives.of_runs _ (exec_widthChangeDone p lanes s) ((if_neg (not_not_intro h13)).trans (if_pos hlanes))

end Sys2Proof.Machine
end

section
/-! PROOF. The drovers: submissions, descriptors, beats and their completion. -/
namespace Sys2Proof.Machine

/-- Settles O46: each command by the branch that its hypotheses name. -/
theorem droversTakeEffect : Obligations.DroversTakeEffect := by
  unfold Obligations.DroversTakeEffect
  intro req dw v k ch i off n status data outside p reply withCore words cws s t b x writes
  refine ⟨?_, ?_, ?_, ?_, ?_, fun hstarve hexists hready => ?_, fun d e beat hd he hbeat => ?_,
    fun d hd hout hspace => ?_, ?_, fun htime hcount hexists => ?_, ?_⟩
  · refine WriteGives.of_command (c := .droverGo req dw v) rfl fun t page off _ _ hwhen => ?_
    obtain ⟨hgo, hserving, hroom⟩ := hwhen
    refine (if_neg (by simp [hgo])).trans (if_neg ?_)
    simp only [hroom]
    rintro (⟨hk, hch⟩ | h)
    · exact absurd (hserving hk) (by omega)
    · exact Bool.false_ne_true h
  · refine WriteGives.of_command (c := .droverGo req dw v) rfl fun t page off _ _ hwhen => ?_
    obtain ⟨hgo, hrejects⟩ := hwhen
    exact (if_neg (by simp [hgo])).trans (if_pos hrejects)
  · exact WriteGives.of_command (c := .droverStop req dw v) rfl fun t page off _ _ hstop => if_neg (by simp [hstop])
  · intro u a hfetch
    have hmeaning (o : Option (BitVec 512)) := exec_descriptorFetch k ch o n words cws s
    simp only [u, b] at hfetch
    refine ⟨fun hplace => ?_, fun hplace hbar => ⟨fun haway => ⟨?_, ?_⟩, fun hspace hremote hridge => ?_⟩⟩
    · exact Gives.of_runs _ (hmeaning _) (by simp [hfetch, hplace, u, b])
    · exact Gives.of_runs _ (hmeaning _) (by simp [hfetch, hplace, hbar, haway, u, b])
    · exact Gives.of_runs _ (hmeaning _) (by simp [hfetch, hplace, hbar, haway, u, b])
    · have haway : ¬(addrSpace a = 0 ∨ addrRemote a = true) := by simp [hspace, hremote]
      intro read
      refine ⟨fun hok => ?_, fun hbad => ?_⟩
      · exact Gives.of_runs _ (hmeaning _) (by simp [hfetch, hplace, hbar, haway, hridge, hok, u, b, read])
      · exact Gives.of_runs _ (hmeaning _) (by simp [hfetch, hplace, hbar, haway, hridge, hbad, u, b, read])
  · intro u c hgrant
    exact Gives.of_runs _ (exec_beatGrant k n words cws s) (by simp only [u, b] at hgrant; simp only [hgrant]; rfl)
  · refine Gives.of_runs _ (exec_starveGrant k ch n words cws s) (if_neg ?_)
    simp [hstarve, hexists, hready]
  · simp only [x] at hd he
    have hmeaning := exec_beatComplete k ch i off status data reply withCore s
    refine ⟨fun hnone hhost hstatus => ?_, fun hnone hhost hstatus hhere => ?_, fun u a hnone haway hreply hdata hhere => ?_,
      fun y hy hhere => ?_, fun y u a hy hremote hreply => ?_⟩
    · exact Gives.of_runs _ hmeaning (by simp [hd, he, hbeat, hnone, hhost, hstatus])
    · exact Gives.of_runs _ hmeaning (by simp [hd, he, hbeat, hnone, hhost, hstatus, hhere])
    · exact Gives.of_runs _ hmeaning (by simp [hd, he, hbeat, hnone, haway, hreply, hdata, hhere])
    · exact Gives.of_runs _ hmeaning (by simp [hd, he, hbeat, hy, hhere])
    · exact Gives.of_runs _ hmeaning (by simp [hd, he, hbeat, hy, hremote, hreply])
  · refine Gives.of_runs _ (exec_beatTimeout k ch i off s) ?_
    simp only [x] at hd
    simp only [hd]
    exact if_neg (by simp only [hout, hspace]; simp)
  · intro d rest hdescs hissued hout y
    refine Gives.of_runs _ (exec_descriptorComplete k ch s) ?_
    simp only [x] at hdescs
    simp only [hdescs]
    exact if_neg (by simp [hissued, hout])
  · exact Gives.of_runs _ (exec_coalesceTimer k ch s) (if_neg (by simp only [x] at hcount; simp [htime, hcount, hexists]))
  · intro hop hlow hhigh harr write len a hok
    have hmeaning := exec_droverBeatArrival p n words cws withCore s
    have hserved := blkDroverBeatArrival_served n words cws withCore (by simp [hop]; omega) harr
    refine ⟨fun u w lost hwrite heq => ?_, fun u w y hread heq => ?_⟩
    · exact Gives.of_runs _ hmeaning
        (hserved.trans (congrArg _ (Block.beatServed_write _ u p n words cws withCore w lost a rfl hok (of_decide_eq_true hwrite) heq)))
    · exact Gives.of_runs _ hmeaning
        (hserved.trans (congrArg _ (Block.beatServed_read _ u p n words cws withCore w y a rfl hok (of_decide_eq_false hread) heq)))

end Sys2Proof.Machine
end

section
/-! PROOF. Model residency: parcels, records, versions, rebuilds and exports. -/
namespace Sys2Proof.Machine

/-! ## A record whose tag verifies -/

/-- What a decrypted record becomes: its end with the code of R480, a block of a slab, or a block in valley mode. -/
def Block.placeRecord (t : Block) (n i ver : Nat) (q : Parcel) (b : BlockRecord) : Block :=
  if t.placement n q b ≠ 0 then t.endRecord n i (t.placement n q b)
  else if b.width = 0 ∧ t.pslabOf b.ridge b.core b.engine b.slab ver = 15 then t.unpackValley n i q b
  else if b.src = 0 ∨ b.width = 0 then t.unpackSlab n i q b
  else t.unpackValley n i q b

section Placement
variable {t : Block} {n : Nat} {q : Parcel} {b : BlockRecord}

theorem Block.placeRecord_ends (hcode : t.placement n q b ≠ 0) (i ver : Nat) :
    t.placeRecord n i ver q b = t.endRecord n i (t.placement n q b) := if_pos hcode

variable (hcode : t.placement n q b = 0) (hwidth : b.width ≠ 0)
include hcode hwidth

theorem Block.placeRecord_slab (hsrc : b.src = 0) (i ver : Nat) : t.placeRecord n i ver q b = t.unpackSlab n i q b := by
  simp [Block.placeRecord, hcode, hwidth, hsrc]

theorem Block.placeRecord_valley (hsrc : b.src ≠ 0) (i ver : Nat) : t.placeRecord n i ver q b = t.unpackValley n i q b := by
  simp [Block.placeRecord, hcode, hwidth, hsrc]

end Placement

/-! ## Residency -/

/-- Settles O47: each command by the branch that its hypotheses name; what RZ_X_STAT.STATE shows after STOP is the model's choice. -/
theorem residencyTakesEffect : Obligations.ResidencyTakesEffect := by
  unfold Obligations.ResidencyTakesEffect
  intro req dw v n code h tagOk d params data r c e p rowErr sumErr s b writes
  refine ⟨?_, fun q => ⟨?_, ?_⟩, ?_, ?_, ?_, ?_, ?_,
    WriteGives.of_command (c := .rebuildEnter req dw v) rfl fun _ _ _ _ _ _ => rfl, fun hheld hleft => ?_, ?_, ?_, ?_, fun hsome => ?_,
    Gives.of_runs _ (exec_layerMapJournal s) rfl⟩
  · refine WriteGives.of_command (c := .parcelGo req dw v) rfl fun t page off n _ hwhen => ?_
    obtain ⟨hgo, hidle⟩ := hwhen
    exact if_neg (by simp [hgo, hidle])
  · refine WriteGives.of_command (c := .parcelStop req dw v) rfl fun t page off n _ hwhen => ?_
    obtain ⟨hstop, hrunning, hparcel, haccepted⟩ := hwhen
    simp only [hparcel]
    exact (if_neg (by simp [hstop, hrunning])).trans (if_pos haccepted)
  · refine WriteGives.of_command (c := .parcelStop req dw v) rfl fun t page off n _ hwhen => ?_
    obtain ⟨hstop, hrunning, hparcel, haccepted⟩ := hwhen
    simp only [hparcel]
    exact (if_neg (by simp [hstop, hrunning])).trans (if_neg (by simp [haccepted]))
  · intro q hparcel hnew f space
    have hmeaning := exec_parcelHeader n code h s
    have hgo : ¬(q.accepted = true) := by simp [hnew]
    refine ⟨fun hfetch => ?_, fun hcode hspace hheader => ?_, fun hcode hspace hheader => ?_⟩
    · exact Gives.of_runs _ hmeaning (by simp only [hparcel]; exact (if_neg hgo).trans (if_pos hfetch))
    · refine Gives.of_runs _ hmeaning ?_
      simp only [hparcel]
      exact (if_neg hgo).trans ((if_neg (not_or.mpr ⟨not_not_intro hcode, Nat.not_lt.mpr hspace⟩)).trans (if_pos hheader))
    · refine Gives.of_runs _ hmeaning ?_
      simp only [hparcel]
      exact (if_neg hgo).trans ((if_neg (not_or.mpr ⟨not_not_intro hcode, Nat.not_lt.mpr hspace⟩)).trans
        (if_neg (not_not_intro hheader)))
  · intro q hparcel haccepted hrunning hnext hen x i q' close
    have hmeaning := exec_recordDecrypt n tagOk d params data s
    have hgo : ¬((!q.accepted) = true ∨ q.stopped = true ∨ q.next ≥ q.records ∨ (!s.bit RZ_CTL.EN) = true) := by
      simp [haccepted, hrunning, hen, Nat.not_le.mpr hnext]
    refine ⟨fun hlong => ?_, fun hfits => ?_⟩
    · refine Gives.of_runs _ hmeaning ?_
      simp only [hparcel]
      exact (if_neg hgo).trans (if_pos hlong)
    · have hshort : ¬(q.pos + recordBytes (min 8 (parseRecord d params data).width) > (s.reg (RZ_P_LEN n)).toNat * 64) :=
        Nat.not_lt.mpr hfits
      refine ⟨fun htag hi => ?_, fun key htag hwaits hkey hkey' => ?_⟩
      · have hfirst : ¬(q.next = 0) := Nat.ne_of_gt hi
        refine Gives.of_runs _ hmeaning ?_
        simp only [hparcel, if_neg hgo, if_neg hshort, htag, hfirst, close, b, i, q', x]
        simp
      · intro t t1
        have hplace : Gives (.recordDecrypt n tagOk d params data) s (close (t1.placeRecord n i q.ver q' x)) := by
          refine Gives.of_runs _ hmeaning ?_
          simp only [x] at hwaits
          simp only [q', x, b, i] at hkey'
          simp only [hparcel, if_neg hgo, if_neg hshort, htag, close, b, i, q', x, t1, t]
          simp only [hwaits, hkey', Block.placeRecord]
          simp
        exact ⟨fun hcode => Block.placeRecord_ends hcode i q.ver ▸ hplace,
          fun hcode hwidth hsrc => Block.placeRecord_slab hcode hwidth hsrc i q.ver ▸ hplace,
          fun hcode hwidth hsrc => Block.placeRecord_valley hcode hwidth hsrc i q.ver ▸ hplace⟩
  · intro k l x a z good t t1 t2 hrow hsum hl
    refine Gives.of_runs _ (exec_recordProbeDone r c e p rowErr sumErr s) ((if_neg (by simp [hrow, hsum])).trans ((if_neg ?_).trans rfl))
    simpa [l] using hl
  · refine WriteGives.of_command (c := .flipArm req dw v) rfl fun t page off r _ hwhen => ?_
    obtain ⟨harm, h1, h2, hserving⟩ := hwhen
    exact if_neg (by simp [harm, h1, h2, hserving])
  · intro hstate hfree hsteps
    have hgo : ¬(s.fld (RZ_FLIP_STAT.STATE r) ≠ 2 ∨ (SMap.find r.val s.res.freeing).isSome = true ∨
        (s.ri r).openSteps.any (fun x => stepBefore x.1 (s.fld (RZ_FLIP_STEP.STEP r))) = true) := by
      rintro (h | h | h)
      · exact h hstate
      · simp [hfree] at h
      · obtain ⟨x, hx, hbefore⟩ := List.any_eq_true.mp h
        exact absurd hbefore (by simp [hsteps x hx])
    refine Gives.of_runs _ (exec_oldVersionFree r s) ?_
    simp only [if_neg hgo, b]
  · exact Gives.of_runs _ (exec_rebuildExit r s) (congrArg Host.Outcome.next (if_pos (by rw [hheld, hleft]; rfl)))
  · refine WriteGives.of_command (c := .exportGo req dw v) rfl fun t page off _ _ hwhen => ?_
    obtain ⟨hgo, hidle, hok⟩ := hwhen
    exact (if_neg (by simp [hgo, hidle])).trans (if_neg (by simp [hok]))
  · refine WriteGives.of_command (c := .exportGo req dw v) rfl fun t page off _ _ hwhen => ?_
    obtain ⟨hgo, hidle, hok⟩ := hwhen
    exact (if_neg (by simp [hgo, hidle])).trans (if_pos (by simp [hok]))
  · refine WriteGives.of_command (c := .exportStop req dw v) rfl fun t page off _ _ hwhen => ?_
    obtain ⟨hstop, hsome⟩ := hwhen
    exact if_neg (by simp [hstop, Option.isSome_iff_ne_none.mp hsome])
  · exact Gives.of_runs _ (exec_exportDone s) (if_neg (by simp [Option.isSome_iff_ne_none.mp hsome]))

end Sys2Proof.Machine
end

section
/-! PROOF. The serving unit and the twin. -/
namespace Sys2Proof.Machine

/-! ## Serving -/

/-- The entry of a queue that is on, holds one and does not wait for its function is taken (R506). -/
theorem Block.fetchRequest_takes {s : Block} {r : Nat} (hen : s.bit SV_CTL.EN = true) (hqueue : s.bit (SV_SQ_CFG.EN r) = true)
    (hentry : s.reg (SV_SQ_HEAD r) ≠ s.reg (SV_SQ_TAIL r)) (hawake : s.hostWaits r = false) (entry : Option (BitVec 512))
    (data : Option (BitVec 32768)) :
    s.fetchRequest r entry data = match entry with
      | none => (((s.wrapReg (SV_SQ_HEAD r) 1).addReg SV_REQ_ERR 1).raise (diePage 13) Irq.serving_REQ_REFUSED).servEnd
      | some v => ((s.wrapReg (SV_SQ_HEAD r) 1).request' r (s.reg (SV_SQ_HEAD r)).toNat v data).servEnd := by
  have hgo : ¬((!s.bit SV_CTL.EN) = true ∨ (!s.bit (SV_SQ_CFG.EN r)) = true ∨ s.reg (SV_SQ_HEAD r) = s.reg (SV_SQ_TAIL r) ∨
      s.hostWaits r = true) := by simp [hen, hqueue, hentry, hawake]
  cases entry <;> exact if_neg hgo

/-- Settles O48: each command by the branch that its hypotheses name. -/
theorem servingTakesEffect : Obligations.ServingTakesEffect := by
  unfold Obligations.ServingTakesEffect
  intro req dw v r entry data q given g step p s t b writes
  refine ⟨WriteGives.of_command (c := .sqTailWrite req dw v) rfl fun _ _ _ _ _ hfits => if_neg (Nat.not_lt.mpr hfits),
    WriteGives.of_command (c := .sqTailWrite req dw v) rfl fun _ _ _ _ _ hlong => if_pos hlong, ?_, fun x hx hstate hawake => ?_,
    fun hcomposes => Gives.of_runs _ (exec_batchCompose r given s) (congrArg Host.Outcome.next (if_pos hcomposes)),
    Gives.of_runs _ (exec_budgetRefill s) rfl, fun harr hunit => ⟨fun hop => ?_, fun hop => ?_, fun hop => ?_⟩, fun x hx => ?_,
    fun hpend htime => Gives.of_runs _ (exec_ringCoalTimer g s) (congrArg Host.Outcome.next (if_pos ⟨hpend, htime⟩)),
    WriteGives.of_command (c := .ringHeadWrite req dw v) rfl fun _ _ _ _ _ hfits => if_neg (Nat.not_lt.mpr hfits),
    WriteGives.of_command (c := .ringHeadWrite req dw v) rfl fun _ _ _ _ _ hlong => if_pos hlong, ?_,
    WriteGives.of_command (c := .spoorFlush req dw v) rfl fun _ _ _ _ _ hop => if_pos hop,
    WriteGives.of_command (c := .svAccBalWrite req dw v) rfl fun _ _ _ _ _ _ => rfl⟩
  · intro hen hqueue hentry hawake n u takes
    have hfetch := Block.fetchRequest_takes hen hqueue hentry hawake
    have hop (op : Nat) (d : Option (BitVec 32768)) (h : reqField entry 0 1 = op) :
        s.fetchOp r op entry d = (u.request' r n entry d).servEnd := (if_pos h).trans (hfetch (some entry) d)
    exact ⟨Gives.of_runs _ (exec_submissionFetch r _ data s) (congrArg Host.Outcome.next (hfetch (some entry) data)),
      Gives.of_runs _ (exec_submissionFetch r none data s) (congrArg Host.Outcome.next (hfetch none data)),
      fun h => Gives.of_runs _ (exec_openSeq r entry s) (congrArg Host.Outcome.next (hop 1 none h)),
      fun h => Gives.of_runs _ (exec_cancel r entry s) (congrArg Host.Outcome.next (hop 2 none h)),
      fun h => Gives.of_runs _ (exec_release r entry s) (congrArg Host.Outcome.next (hop 3 none h)),
      fun h => Gives.of_runs _ (exec_park r entry s) (congrArg Host.Outcome.next (hop 4 none h)),
      fun h => Gives.of_runs _ (exec_resume r entry s) (congrArg Host.Outcome.next (hop 5 none h)),
      fun h => Gives.of_runs _ (exec_setStop r entry data s) (congrArg Host.Outcome.next (hop 6 data h))⟩
  · have hgo : ¬(x.state ≠ 1 ∨ s.hostWaits x.ridge = true) := by simp [hstate, hawake]
    exact ⟨Gives.of_runs _ (exec_walkDone q none s) (by simp only [hx]; exact if_neg hgo),
      fun l => Gives.of_runs _ (exec_walkDone q (some l) s) (by simp only [hx]; exact if_neg hgo)⟩
  · refine Gives.of_runs _ (exec_emitArrival p s) ((if_neg (by simp [hop, hunit])).trans ?_)
    simp only [b] at harr
    simp only [harr]; rfl
  · refine Gives.of_runs _ (exec_finalCommit p s) ((if_neg (by simp [hop, hunit])).trans ?_)
    simp only [b] at harr
    simp only [harr]; rfl
  · refine Gives.of_runs _ (exec_servingRetract p s) ((if_neg (by simp [hop, hunit])).trans ?_)
    simp only [b] at harr
    simp only [harr]; rfl
  · exact Gives.of_runs _ (exec_amendedBatch r step s) (by simp only [hx])
  · intro live
    exact ⟨WriteGives.of_command (c := .expertMapWrite req dw v) rfl fun _ _ _ _ _ hfree => if_neg hfree,
      WriteGives.of_command (c := .expertMapWrite req dw v) rfl fun _ _ _ _ _ hlive => if_pos hlive⟩

/-! ## The twin -/

/-- Settles O49: each command by the branch that its hypotheses name. -/
theorem twinTakesEffect : Obligations.TwinTakesEffect := by
  unfold Obligations.TwinTakesEffect
  intro req dw v src e n s b writes
  refine ⟨WriteGives.of_command (c := .fsPop req dw v) rfl fun _ _ _ _ _ howner => if_neg (by simp [howner]), ?_, ?_,
    fun hactive hsent => ?_, fun x => ?_, ?_,
    WriteGives.of_command (c := .twinResync req dw v) rfl fun _ _ _ _ _ ⟨hop, hactive⟩ => (if_pos hop).trans (if_pos hactive),
    fun hstate => Gives.of_runs _ (exec_resyncDone s) (congrArg Host.Outcome.next (if_pos hstate))⟩
  · intro htwin t t1 held u u1
    have hgo : ¬(s.fld TW_CTL.ROLE ≠ 2) := not_not_intro htwin
    exact ⟨Gives.of_runs _ (exec_epochArrival src e false s) ((if_neg hgo).trans (if_pos rfl)),
      Gives.of_runs _ (exec_epochArrival src e true s) ((if_neg hgo).trans (if_neg (by simp)))⟩
  · intro hactive hnew held t t1
    exact Gives.of_runs _ (exec_epochAck n s) (if_neg (by simp [hactive, hnew]))
  · exact Gives.of_runs _ (exec_twAckLate s) (congrArg Host.Outcome.next (if_pos ⟨hactive, by simpa using hsent⟩))
  · refine WriteGives.of_command (c := .twinResume req dw v) rfl fun t _ _ _ _ hwhen => ?_
    obtain ⟨hop, hheld⟩ := hwhen
    refine (if_pos hop).trans ?_
    simp only [hheld]
  · refine WriteGives.of_command (c := .twinResume req dw v) rfl fun t _ _ _ _ hwhen => ?_
    obtain ⟨hop, hnone⟩ := hwhen
    refine (if_pos hop).trans ?_
    simp only [hnone]

end Sys2Proof.Machine
end

section
/-! PROOF. The integrity unit: steps, commit, retract and replay, classifications and in-field tests. -/
namespace Sys2Proof.Machine

/-- Settles O50: each command by the branch that its hypotheses name. -/
theorem integrityTakesEffect : Obligations.IntegrityTakesEffect := by
  unfold Obligations.IntegrityTakesEffect
  intro req dw v r c e core bad p moved err err2 late faults s t b
  refine ⟨?_, fun S n rest hopen hcommits => ?_, fun harr hunit => ⟨fun hop => ?_, fun hop => ?_⟩, fun x hreplay hstuck => ?_,
    fun x herr herr2 hx hfree => ?_, fun x herr herr2 hx hmirrors hfree => ?_, fun x hx => ?_, fun x hnone hx => ?_, fun hen hperiod => ?_,
    ?_, fun k hift => ?_, fun hstate => ?_, ?_⟩
  · intro hadvances cell go n t t1
    exact Gives.of_runs _ (exec_stepAdvance r bad s) (if_neg (by simp [hadvances]))
  · intro x dsts t t1
    refine Gives.of_runs _ (exec_stepCommit r s) ?_
    simp only [hopen]
    exact if_neg (by simp [hcommits])
  · refine Gives.of_runs _ (exec_commit p s) ((if_neg (by simp [hop, hunit])).trans ?_)
    simp only [b] at harr
    simp only [harr]
    exact congrArg Host.Outcome.next (if_pos trivial)
  · refine Gives.of_runs _ (exec_retract p s) ((if_neg (by simp [hop, hunit])).trans ?_)
    simp only [b] at harr
    simp only [harr]
    exact congrArg Host.Outcome.next (if_pos trivial)
  · intro u
    have hgo : ¬(s.bit (RI_STAT.STUCK r) = true) := by simp [hstuck]
    refine ⟨fun hdone hfree => ?_, fun hwaits => ?_⟩
    · refine Gives.of_runs _ (exec_replayEnter r bad s) ?_
      simp only [hreplay]
      exact (if_neg hgo).trans (congrArg Host.Outcome.next (if_pos (by simp only [u, b] at hdone hfree; simp [hdone, hfree])))
    · refine Gives.of_runs _ (exec_replayEnter r bad s) ?_
      simp only [hreplay]
      refine (if_neg hgo).trans (congrArg Host.Outcome.next (if_neg ?_))
      simp only [u, b] at hwaits
      rcases hwaits with h | h <;> simp [h]
  · have hmeaning := exec_classifyStart r c core moved err err2 s
    have hlen : ¬(err.length ≠ 544 ∨ err2.length ≠ 544) := by simp [herr, herr2]
    have hgo : ¬(core.val < 8 ∧ (s.engine r c core).pass.isSome = true) := by
      rintro ⟨hlt, hsome⟩
      rcases hfree with h | h
      · omega
      · simp [h] at hsome
    refine ⟨fun hkind => ?_, fun hkind => ?_, fun hkind => ?_, fun hkind => ?_⟩
    · exact Gives.of_runs _ hmeaning ((if_neg hlen).trans (by simp only [hx, if_neg hgo, hkind]))
    · exact Gives.of_runs _ hmeaning ((if_neg hlen).trans (by simp only [hx, if_neg hgo, hkind]))
    · intro f
      exact Gives.of_runs _ hmeaning ((if_neg hlen).trans (by simp only [hx, if_neg hgo, hkind, f]))
    · intro f
      refine Gives.of_runs _ hmeaning ((if_neg hlen).trans ?_)
      simp only [hx, if_neg hgo]
      split
      · omega
      · omega
      · omega
      · rfl
  · have hmeaning := exec_classifyMirrorReady r c e err err2 s
    have hlen : ¬(err.length ≠ 544 ∨ err2.length ≠ 544) := by simp [herr, herr2]
    have hgo : ¬((!s.mirrors r c e x.slab) = true ∨ (s.engine r c e).pass.isSome = true) := by simp [hmirrors, hfree]
    refine ⟨fun hnone => ?_, fun h rest u far hhist hecho hfar => ?_⟩
    · exact Gives.of_runs _ hmeaning ((if_neg hlen).trans (by simp only [hx, if_neg hgo, hnone]))
    · intro cols few
      refine Gives.of_runs _ hmeaning ((if_neg hlen).trans ?_)
      simp only [hx, if_neg hgo, hhist, hecho]
      exact if_neg (by simpa using hfar)
  · exact Gives.of_runs _ (exec_classifyTimeout r c e s) (by simp [hx])
  · exact Gives.of_runs _ (exec_classifyTimeout r c e s) (by simp [hnone, hx])
  · exact Gives.of_runs _ (exec_iftDue r c core s) (if_neg (by simp [hen, hperiod]))
  · exact WriteGives.of_command (c := .iftCmd req dw v) rfl fun t page _ _ _ hgo => if_neg (by omega)
  · refine ⟨fun hwaits => ?_, fun hstate hfree => ?_⟩
    · exact Gives.of_runs _ (exec_iftWaitTimeout r s) (by simp only [hift]; exact congrArg Host.Outcome.next (if_pos hwaits))
    · refine Gives.of_runs _ (exec_iftRetry r late s) ?_
      simp only [hift]
      exact if_pos ⟨hstate, by simp [hfree]⟩
  · intro mine done
    have hgo : ¬(s.fld (CORE_STAT.STATE r c) ≠ 6) := not_not_intro hstate
    refine ⟨fun k hk => ?_, fun hnone => ?_, ?_⟩
    · exact Gives.of_runs _ (exec_coreTestDone r c true s) ((if_neg hgo).trans (by simp only [hk]; rfl))
    · exact Gives.of_runs _ (exec_coreTestDone r c true s) ((if_neg hgo).trans (by simp only [hnone]; rfl))
    · intro o t t1
      exact Gives.of_runs _ (exec_coreTestDone r c false s) ((if_neg hgo).trans rfl)
  · intro q hift hstands hout hcolumns hacts t fails t1 t2 t3
    have hgo : ¬((s.ri r).ift ≠ some (c.val, e.val) ∨ (!s.standsFor r c e (s.ri r).iftSlab) = true ∨
        (s.slab r c e (s.ri r).iftSlab).state ≠ .outForRefresh ∨ s.columnsLeft r c e (s.ri r).iftSlab = true ∨
        (s.acts r).any (fun a => decide (a = .standBack c e (s.ri r).iftSlab ∨ a = .assign c e (s.ri r).iftSlab)) = true) := by
      rintro (h | h | h | h | h)
      · exact h hift
      · simp [show s.standsFor r c e (s.ri r).iftSlab = true from hstands] at h
      · exact h hout
      · simp [show s.columnsLeft r c e (s.ri r).iftSlab = false from hcolumns] at h
      · obtain ⟨a, ha, hact⟩ := List.any_eq_true.mp h
        obtain ⟨hback, hassign⟩ := hacts a ha
        exact (of_decide_eq_true hact).elim hback hassign
    refine ⟨fun hfails => ?_, ?_⟩
    · refine Gives.of_runs _ (exec_engineTestSlabDone r c e moved faults s) ((if_neg hgo).trans (if_pos ?_))
      exact List.isEmpty_iff.mpr hfails
    · intro few u hfails hmany
      refine Gives.of_runs _ (exec_engineTestSlabDone r c e moved faults s) ((if_neg hgo).trans ((if_neg ?_).trans (if_neg ?_)))
      · exact fun h => hfails (List.isEmpty_iff.mp h)
      · exact fun h => Bool.false_ne_true (hmany.symm.trans h)

end Sys2Proof.Machine
end

section
/-! PROOF. The trust mailbox and the SPDM responder. -/
namespace Sys2Proof.Machine

/-! ## The mailbox -/

/-- A mailbox command whose operation is named and whose mailbox is not busy is submitted (R622). -/
theorem WriteGives.of_mbox {c : Instr} {s : State} {req : Fin 18} {dw : BitVec 26} {v : Word} {op : Nat} {signed unwraps : Bool}
    {revoke : Option (Nat × Nat)} (hi : Gives c s (s.mbox req dw.toNat v op signed unwraps revoke)) :
    WriteGives c s req dw v .trust [0x44]
      (fun t p _ _ => getBits v 0 4 = op ∧ t.fld (TR_MBOX_STAT.STATE (if p = diePage 8 then 16 else ridgeOfPage p)) ≠ 1)
      (fun t p _ _ => t.mboxSubmit ⟨if p = diePage 8 then 16 else ridgeOfPage p, req.val, op, getBits v 4 4, getBits v 8 6,
        getBits v 16 11, signed, unwraps, revoke⟩) :=
  WriteGives.of_command hi fun _ _ _ _ _ hwhen => if_neg (by rw [not_or]; exact ⟨not_not_intro hwhen.1, hwhen.2⟩)

/-- A command that finds no other waiting runs at once (R622). -/
theorem Block.mboxSubmit_of_nil {b : Block} {o : MailboxOp} (h : b.tr.mbox = []) :
    b.mboxSubmit o = (((b.setFld (TR_MBOX_STAT.STATE o.page) 1).setFld (TR_MBOX_STAT.RESULT o.page) 0).setFld
      (TR_MBOX_STAT.OP o.page) o.op).mboxNext [o] := if_pos (by simp [h])

/-- Settles O51: the operations by the mailbox's one path, and a command that finds no other by what its run answers. -/
theorem trustMailboxTakesEffect : Obligations.TrustMailboxTakesEffect := by
  unfold Obligations.TrustMailboxTakesEffect
  intro req dw v signed unwraps blob s page runs
  refine ⟨WriteGives.of_mbox (c := .bind req dw v signed) rfl, WriteGives.of_mbox (c := .unbind req dw v) rfl,
    WriteGives.of_mbox (c := .keyLoad req dw v signed unwraps) rfl, WriteGives.of_mbox (c := .keyClear req dw v) rfl,
    WriteGives.of_mbox (c := .grant req dw v signed) rfl, WriteGives.of_mbox (c := .revoke req dw v signed blob) rfl,
    WriteGives.of_mbox (c := .allow req dw v signed) rfl, WriteGives.of_mbox (c := .rootAdd req dw v) rfl,
    WriteGives.of_mbox (c := .svnRaise req dw v) rfl, fun b o hidle => ?_, fun o rest hmbox => ?_⟩
  · intro t
    have hnext : b.mboxSubmit o = t.mboxNext [o] := Block.mboxSubmit_of_nil hidle
    refine ⟨fun u hrun hop => ?_, fun u hrun hop => ?_, fun n hrun => ?_⟩
    · rw [hnext]; simp only [Block.mboxNext, hrun, if_neg hop]
    · rw [hnext]; simp only [Block.mboxNext, hrun, if_pos hop]
    · rw [hnext]; simp only [Block.mboxNext, hrun]
  · exact Gives.of_runs _ (exec_unbindScrubDone s) (by simp only [hmbox])

/-! ## The SPDM responder -/

/-- Settles O52: each request by its argument and its session. -/
theorem spdmAnswers : Obligations.SpdmAnswers := by
  unfold Obligations.SpdmAnswers
  intro ok slot index id s b mine
  have hothers : (fun x : Session => decide (x.id ≠ id.toNat)) = fun x => !mine x := funext fun x => decide_not
  refine ⟨Gives.of_runs _ (exec_getVersion s) rfl, Gives.of_runs _ (exec_getCapabilities s) rfl,
    Gives.of_runs _ (exec_negotiateAlgorithms true s) rfl, Gives.of_runs _ (exec_negotiateAlgorithms false s) rfl,
    Gives.of_runs _ (exec_getDigests s) rfl, fun hslot => ⟨?_, ?_⟩, fun hslot => ⟨?_, ?_⟩, fun l hl => ?_, fun hnone => ?_, fun hroom => ?_,
    fun hfull => ?_, fun hsome => ⟨?_, ?_⟩, fun hnone => ?_, fun hopen => ⟨?_, ?_, ?_⟩, fun hclosed => ⟨?_, ?_, ?_⟩,
    Gives.of_runs _ (exec_spdmUnsupported s) rfl⟩
  · exact Gives.of_runs _ (exec_getCertificate slot s) (congrArg Host.Outcome.next (if_pos hslot))
  · exact Gives.of_runs _ (exec_challenge slot s) (congrArg Host.Outcome.next (if_pos hslot))
  · exact Gives.of_runs _ (exec_getCertificate slot s) (congrArg Host.Outcome.next (if_neg (Nat.not_le.mpr hslot)))
  · exact Gives.of_runs _ (exec_challenge slot s) (congrArg Host.Outcome.next (if_neg (Nat.not_le.mpr hslot)))
  · exact Gives.of_runs _ (exec_getMeasurements index s) (by simp only [blkGetMeasurements, hl])
  · exact Gives.of_runs _ (exec_getMeasurements index s) (by simp only [blkGetMeasurements, hnone])
  · refine Gives.of_runs _ (exec_keyExchange id s) (congrArg Host.Outcome.next ((if_neg (Nat.not_le.mpr hroom)).trans ?_))
    rw [hothers]
  · exact Gives.of_runs _ (exec_keyExchange id s) (congrArg Host.Outcome.next (if_pos hfull))
  · obtain ⟨x, hx⟩ := Option.isSome_iff_exists.mp hsome
    exact Gives.of_runs _ (exec_finish id true s) (by simp only [blkFinish, hx]; rfl)
  · obtain ⟨x, hx⟩ := Option.isSome_iff_exists.mp hsome
    exact Gives.of_runs _ (exec_finish id false s) (by simp only [blkFinish, hx, hothers]; rfl)
  · exact Gives.of_runs _ (exec_finish id ok s) (by simp only [blkFinish, hnone])
  · exact Gives.of_runs _ (exec_heartbeat id s) (congrArg Host.Outcome.next (if_pos hopen))
  · exact Gives.of_runs _ (exec_keyUpdate id s) (congrArg Host.Outcome.next (if_pos hopen))
  · refine Gives.of_runs _ (exec_endSession id s) (congrArg Host.Outcome.next ((if_pos hopen).trans ?_))
    rw [hothers]
  · exact Gives.of_runs _ (exec_heartbeat id s) (congrArg Host.Outcome.next (if_neg (by simp [hclosed])))
  · exact Gives.of_runs _ (exec_keyUpdate id s) (congrArg Host.Outcome.next (if_neg (by simp [hclosed])))
  · exact Gives.of_runs _ (exec_endSession id s) (congrArg Host.Outcome.next (if_neg (by simp [hclosed])))

end Sys2Proof.Machine
end

section
/-! PROOF. Power: die and ridge states, entry and wake, supply events and the governor. -/
namespace Sys2Proof.Machine

/-- A command of the die's power state is carried out where it is allowed (R627). -/
theorem WriteGives.of_dieCommand {c : Instr} {s : State} {req : Fin 18} {dw : BitVec 26} {v : Word} {op : Nat} {ok : Block → Bool}
    {effect : Block → Block} (hi : Gives c s (s.dieCommand req dw.toNat v op ok effect)) :
    WriteGives c s req dw v .power [0x40] (fun t _ _ _ => getBits v 0 3 = op ∧ ok t = true) (fun t _ _ _ => effect t) ∧
    WriteGives c s req dw v .power [0x40] (fun t _ _ _ => getBits v 0 3 = op ∧ ok t = false) (fun t _ _ _ => t.rejectPower) :=
  ⟨WriteGives.of_command hi fun _ _ _ _ _ ⟨hop, hok⟩ => (if_neg (not_not_intro hop)).trans (if_pos hok),
    WriteGives.of_command hi fun _ _ _ _ _ ⟨hop, hok⟩ => (if_neg (not_not_intro hop)).trans (if_neg (by simp [hok]))⟩

/-- Settles O53: each command and event by the branch that its hypotheses name. -/
theorem powerTakesEffect : Obligations.PowerTakesEffect := by
  unfold Obligations.PowerTakesEffect
  intro req dw v r data rail3 rail4 rail8 rail11 level us uncontrolled energy stuck s b writes onDie onRidge
  refine ⟨WriteGives.of_dieCommand (c := .dieActive req dw v) rfl, WriteGives.of_dieCommand (c := .dieStandby req dw v) rfl,
    WriteGives.of_dieCommand (c := .dieHold req dw v) rfl,
    WriteGives.of_command (c := .ridgeRun req dw v) rfl fun _ _ _ _ _ ⟨hop, _⟩ => if_pos hop,
    WriteGives.of_command (c := .ridgeNap req dw v) rfl fun _ _ _ _ _ ⟨hop, hok⟩ => (if_pos hop).trans (if_pos hok),
    WriteGives.of_command (c := .ridgeNap req dw v) rfl fun _ _ _ _ _ ⟨hop, hok⟩ => (if_pos hop).trans (if_neg (by simp [hok])),
    WriteGives.of_command (c := .ridgeOff req dw v) rfl fun _ _ _ _ _ ⟨hop, hok⟩ => (if_pos hop).trans (if_pos hok),
    WriteGives.of_command (c := .ridgeOff req dw v) rfl fun _ _ _ _ _ ⟨hop, hok⟩ => (if_pos hop).trans (if_neg (by simp [hok])),
    WriteGives.of_command (c := .doorbell req dw v) rfl fun _ _ _ _ _ _ => rfl, fun htimer hstate => ?_,
    fun hrun hidle => ⟨fun hoff => ?_, fun hoff => ?_⟩,
    fun hdoze hauto hhalted => ?_, fun habandons => ⟨fun hat => ?_, fun hat => ?_⟩, fun habandons => ⟨fun hat => ?_, fun hat => ?_⟩,
    fun hat => ?_, fun hstate hactive => ?_, fun hhold => ⟨?_, ?_⟩, fun hen hwarn => ?_, fun first rest hlv => ?_, fun hoff => ?_,
    fun hen => ?_, fun hen hpg h4 h5 => ?_, Gives.of_runs _ (exec_railDownStep stuck s) rfl, fun hoff hlatched hfreeze => ?_,
    fun hlatched hdone hdown => ?_, fun hoff => ?_, fun hactive => ?_⟩
  · exact Gives.of_runs _ (exec_ridgeTimerExpiry r s) (if_neg (by simp only [htimer, false_or]; omega))
  · exact Gives.of_runs _ (exec_dozeEntry r s) ((if_neg (by simp [hrun, hidle])).trans (if_pos hoff))
  · exact Gives.of_runs _ (exec_dozeEntry r s) ((if_neg (by simp [hrun, hidle])).trans
      (if_neg (fun h => Bool.false_ne_true (hoff.symm.trans h))))
  · exact Gives.of_runs _ (exec_autoNap r s) (if_neg (by simp [hdoze, hauto, hhalted]))
  · exact Gives.of_runs _ (exec_drainWindowEnd r s) ((if_neg (by simp [hat])).trans (if_pos habandons))
  · exact Gives.of_runs _ (exec_entryFrameGate r s) ((if_neg (by simp [hat])).trans (if_pos habandons))
  · exact Gives.of_runs _ (exec_drainWindowEnd r s) ((if_neg (by simp [hat])).trans (if_neg (by simp [habandons])))
  · exact Gives.of_runs _ (exec_entryFrameGate r s) ((if_neg (by simp [hat])).trans (if_neg (by simp [habandons])))
  · intro t
    have hmeaning := exec_entrySuspendDone r s
    have hgo : ¬((!s.entryAt r 4) = true) := by simp [hat]
    refine ⟨fun hreset => ?_, fun hreset habandons => ?_, fun hreset habandons => ?_⟩
    · exact Gives.of_runs _ hmeaning ((if_neg hgo).trans (if_pos hreset))
    · exact Gives.of_runs _ hmeaning ((if_neg hgo).trans
        ((if_neg (fun h => Bool.false_ne_true (hreset.symm.trans h))).trans (if_pos habandons)))
    · exact Gives.of_runs _ hmeaning ((if_neg hgo).trans
        ((if_neg (fun h => Bool.false_ne_true (hreset.symm.trans h))).trans
          (if_neg (fun h => Bool.false_ne_true (habandons.symm.trans h)))))
  · exact Gives.of_runs _ (exec_ridgeWakeDone r s) (if_neg (by simp [hstate, hactive]))
  · exact Gives.of_runs _ (exec_i3cAddressMatch data s) (congrArg Host.Outcome.next (if_neg (by simp [hhold])))
  · exact Gives.of_runs _ (exec_holdWakeTimer s) (if_neg (by simp [hhold]))
  · intro t t1
    exact Gives.of_runs _ (exec_railWarning rail3 s) (if_neg (by simp [hen, hwarn]))
  · intro t t1 t2
    exact Gives.of_runs _ (exec_lvHoldEnd us s) (by simp only [hlv]; rfl)
  · intro t u
    have hmeaning := exec_otherRailDip rail8 level s
    have hgo (hrail : rail8.val = 3 ∨ rail8.val = 4 ∨ rail8.val = 6 ∨ rail8.val = 7)
        (hen : rail8.val ≠ 4 → s.bit (PM_RAIL_STAT.EN rail8) = true) :
        ¬((rail8.val ≠ 3 ∧ rail8.val ≠ 4 ∧ rail8.val ≠ 6 ∧ rail8.val ≠ 7) ∨ s.pow.off = true ∨
          (rail8.val ≠ 4 ∧ (!s.bit (PM_RAIL_STAT.EN rail8)) = true)) := by
      rintro (h | h | ⟨h, h'⟩)
      · omega
      · exact Bool.false_ne_true (hoff.symm.trans h)
      · simp [hen h] at h'
    refine ⟨fun h4 => ?_, fun h3 hen => ?_, fun h67 hen => ?_⟩
    · refine Gives.of_runs _ hmeaning ((if_neg (hgo (.inr (.inl h4)) (fun h => absurd h4 h))).trans ?_)
      have h3 : ¬(rail8.val = 3) := by omega
      by_cases hl : level.val = 0
      · simp only [if_pos hl, t, b]
      · simp only [if_neg hl, if_neg h3, if_pos h4, u, t, b]
    · refine Gives.of_runs _ hmeaning ((if_neg (hgo (.inl h3) (fun _ => hen))).trans ?_)
      by_cases hl : level.val = 0
      · simp only [if_pos hl, t, b]
      · simp only [if_neg hl, if_pos h3, u, t, b]
    · refine Gives.of_runs _ hmeaning ((if_neg (hgo (.inr (.inr h67)) (fun _ => hen))).trans ?_)
      have h3 : ¬(rail8.val = 3) := by omega
      have h4 : ¬(rail8.val = 4) := by omega
      by_cases hl : level.val = 0
      · simp only [if_pos hl, t, b]
      · simp only [if_neg hl, if_neg h3, if_neg h4, u, t, b]
        exact (apply_ite Host.Outcome.next _ _ _).symm
  · exact Gives.of_runs _ (exec_railResetLevel rail4 s) (if_neg (by simp [hen]))
  · exact Gives.of_runs _ (exec_powerGoodFall rail11 s) (if_neg (by simp [hen, hpg, h4, h5]))
  · intro t t1 t2
    refine Gives.of_runs _ (exec_pwrFail s) ((if_neg (by simp [hoff, hlatched])).trans ?_)
    simp only [hfreeze, t2, t1, t, b]
    rfl
  · exact Gives.of_runs _ (exec_pfRailDown s) (if_neg (by simp [hlatched, hdone, hdown]))
  · intro t
    exact Gives.of_runs _ (exec_vddBaseLoss s) (if_neg (by simp [hoff]))
  · exact Gives.of_runs _ (exec_governorInterval uncontrolled energy s) (if_neg (by simp [hactive]))

end Sys2Proof.Machine
end

section
/-! PROOF. The lookout's converters, thermal control and calibration. -/
namespace Sys2Proof.Machine

/-! ## The lookout -/

/-- Settles O54: each command by the branch that its hypotheses name. -/
theorem lookoutTakesEffect : Obligations.LookoutTakesEffect := by
  unfold Obligations.LookoutTakesEffect
  intro req dw v n code value us k e h s b writes
  refine ⟨?_, WriteGives.of_command (c := .urgentRequest req dw v) rfl fun _ _ _ _ _ hwhen => ?_,
    WriteGives.of_command (c := .urgentRequest req dw v) rfl fun _ _ _ _ _ hwhen => ?_,
    WriteGives.of_command (c := .lkBufHeadWrite req dw v) rfl fun _ _ _ _ _ hheld => if_neg (Nat.not_lt.mpr hheld),
    WriteGives.of_command (c := .lkBufEnable req dw v) rfl fun _ _ _ _ _ hen => if_neg (by omega), fun hon => ?_,
    WriteGives.of_command (c := .tripClear req dw v) rfl fun t _ _ _ _ hwhen => ?_,
    WriteGives.of_command (c := .tripClear req dw v) rfl fun t _ _ _ _ hwhen => ?_,
    WriteGives.of_command (c := .sensorClear req dw v) rfl fun t _ _ _ _ hwhen => ?_, fun hon => ?_⟩
  · intro hon x
    have hgo : ¬((!s.convOn n) = true) := by simp [hon]
    refine ⟨fun w hw => ⟨fun hpair hfirst => ?_, fun hlast => ?_⟩, fun hfixed => ⟨fun hnew => ?_, fun hdue => ?_⟩, ?_⟩
    · refine Gives.of_runs _ (exec_conversionDone n code value us s) ((if_neg hgo).trans ?_)
      simp only [x] at hw
      simp only [hw]
      exact if_pos (by simp [hpair, hfirst])
    · refine Gives.of_runs _ (exec_conversionDone n code value us s) ((if_neg hgo).trans ?_)
      simp only [x] at hw
      simp only [hw]
      refine if_neg ?_
      rcases hlast with hp | hf
      · simp [hp]
      · simp [hf]
    · refine Gives.of_runs _ (exec_fixedScanDue n k s) ((if_neg (by rw [hon, hfixed]; decide)).trans (if_neg ?_))
      exact fun hc => Bool.false_ne_true (hnew.symm.trans hc)
    · exact Gives.of_runs _ (exec_fixedScanDue n k s) ((if_neg (by rw [hon, hfixed]; decide)).trans (if_pos hdue))
    · intro d hen hvalid hkind
      have hopen : ¬((!s.convOn n) = true ∨ (!s.bit (LK_CTL.EN n)) = true ∨ getBits d 31 1 = 0 ∨ getBits d 9 2 ≥ 2) := by
        simp only [hon, hen, Bool.not_true, Bool.false_eq_true, false_or]
        omega
      refine ⟨fun hnew => ?_, fun hdue => ?_⟩
      · refine Gives.of_runs _ (exec_scanEntryDue n e s) ((if_neg hopen).trans (if_neg ?_))
        exact fun hc => Bool.false_ne_true (hnew.symm.trans hc)
      · exact Gives.of_runs _ (exec_scanEntryDue n e s) ((if_neg hopen).trans (if_pos hdue))
  · exact (if_neg (by omega)).trans (if_neg (by omega))
  · exact (if_neg (by omega)).trans (if_pos hwhen.2)
  · exact Gives.of_runs _ (exec_thermalTick s) (if_neg (by simp [hon]))
  · obtain ⟨hclear, hcool⟩ := hwhen
    refine (if_neg (by omega)).trans (if_neg ?_)
    simpa using hcool
  · obtain ⟨hclear, x, hx, hhot⟩ := hwhen
    refine (if_neg (by omega)).trans (if_pos ?_)
    exact List.any_eq_true.mpr ⟨x, hx, decide_eq_true hhot⟩
  · obtain ⟨hk, hbroken⟩ := hwhen
    exact if_neg (by simp [hbroken, hk])
  · intro direct band t t1 t2
    exact Gives.of_runs _ (exec_stackTempReport h value s) (if_neg (by simp [hon]))

/-! ## Calibration -/

section Command
variable {c : Instr} {s : State} {req : Fin 18} {dw : BitVec 26} {v : Word} {mine : Nat → Bool} {f effect : Block → Block}
  {when : Block → Prop}

/-- The state from which a command of calibration that finds it idle takes its effect (R684, R696). -/
def Block.calBegun (t : Block) (group : Nat) : Block := (t.setFld CAL_STAT.TARGET group).setFld CAL_STAT.UNITS 0

/-- A command for the target that it names, which finds calibration idle, takes its effect (R684). -/
theorem WriteGives.of_calCommand (hi : Gives c s (s.calCommand req dw.toNat v mine f)) {target : Prop}
    (hmine : target → mine (getBits v 0 4) = true) (h : target → ∀ t, when t → f t = effect t) :
    WriteGives c s req dw v .calib [0x40]
      (fun t _ _ _ => getBits v 31 1 = 1 ∧ target ∧ t.calRuns = false ∧ when (t.calBegun (getBits v 0 4)))
      (fun t _ _ _ => effect (t.calBegun (getBits v 0 4))) := by
  refine WriteGives.of_command hi fun t _ _ _ _ hwhen => ?_
  obtain ⟨hgo, htarget, hidle, hw⟩ := hwhen
  refine (if_neg ?_).trans ((if_neg (by simp [hidle])).trans (h htarget _ hw))
  rintro (h0 | hother)
  · omega
  · simp [hmine htarget] at hother

end Command

/-- A scope out of range ends with SCOPE (R686). -/
theorem Block.calEngineCommand_none {t : Block} {v : Word} {scope : Option (List Nat)} (ok : Nat → Bool) (go : Block → Block)
    (h : scope = none) : t.calEngineCommand v scope ok go = t.calEnd 2 := by subst h; rfl

section Scope
variable {t : Block} {v : Word} {scope : Option (List Nat)} {ids : List Nat} {ok : Nat → Bool} (hscope : scope = some ids)
include hscope

/-- A scope whose ridge is up and whose units can be calibrated begins with them (R686). -/
theorem Block.calEngineCommand_begins (hup : t.ridgeUp (getBits v 4 4) = true) (hne : ids ≠ []) (hall : ids.all ok = true)
    (go : Block → Block) : t.calEngineCommand v scope ok go = go (t.calBegin ids) := by
  subst hscope
  refine if_neg ?_
  rw [hup, hall]
  simpa using hne

/-- A scope whose ridge is down, or with a unit that cannot be calibrated, ends with STATE (R686). -/
theorem Block.calEngineCommand_state (h : t.ridgeUp (getBits v 4 4) = false ∨ ids = [] ∨ ids.all ok = false) (go : Block → Block) :
    t.calEngineCommand v scope ok go = t.calEnd 3 := by
  subst hscope
  refine if_pos ?_
  rcases h with h | h | h
  · exact .inl (by rw [h]; rfl)
  · exact .inr (.inl (by rw [h]; rfl))
  · exact .inr (.inr (by rw [h]; rfl))

end Scope

/-- Settles O55: each command by the branch that its hypotheses name. -/
theorem calibrationTakesEffect : Obligations.CalibrationTakesEffect := by
  unfold Obligations.CalibrationTakesEffect
  intro req dw v n i l conv trims g r c width height gnd ref residual sum s b group begun starts engines
  have hstart {f effect : Block → Block} {mine : Nat → Bool} {when : Block → Prop} {target : Prop} {c : Instr}
      (hi : Gives c s (s.calCommand req dw.toNat v mine f)) (hmine : target → mine (getBits v 0 4) = true)
      (h : target → ∀ t, when t → f t = effect t) : starts c target when effect := WriteGives.of_calCommand hi hmine h
  clear_value starts
  have hengines {c : Instr} {k : Nat} {scope : Block → Option (List Nat)} {ok : Block → Nat → Bool} {go : Block → Block}
      (hi : Gives c s (s.calCommand req dw.toNat v (· = k) (fun t => t.calEngineCommand v (scope t) (ok t) go))) :
      engines c (group = k) scope ok go := by
    have hmine : group = k → decide (getBits v 0 4 = k) = true := fun h => decide_eq_true h
    refine ⟨hstart hi hmine fun _ _ hnone => Block.calEngineCommand_none _ _ hnone, fun ids => ⟨hstart hi hmine fun _ t hwhen => ?_,
      hstart hi hmine fun _ t hwhen => ?_⟩⟩
    · obtain ⟨hscope, hup, hne, hall⟩ := hwhen
      exact Block.calEngineCommand_begins hscope hup hne hall go
    · obtain ⟨hscope, hbad⟩ := hwhen
      exact Block.calEngineCommand_state hscope hbad go
  refine ⟨hengines (c := .calConv req dw v) rfl, hengines (c := .calRowdrv req dw v) rfl, hengines (c := .calDrift req dw v) rfl,
    hstart (c := .calSerdes req dw v) rfl (fun h => decide_eq_true h) fun _ _ hport => if_pos hport,
    hstart (c := .calSerdes req dw v) rfl (fun h => decide_eq_true h) fun _ _ hport => if_neg (Nat.not_le.mpr hport),
    hstart (c := .calLookout req dw v) rfl (fun h => decide_eq_true h) fun _ _ hconv => if_neg (Nat.not_le.mpr hconv),
    hstart (c := .calLookout req dw v) rfl (fun h => decide_eq_true h) fun _ _ hconv => if_pos hconv,
    fun ids => hstart (c := .calSensor req dw v) rfl (fun h => decide_eq_true h) fun _ t hwhen => ?_,
    hstart (c := .calSensor req dw v) rfl (fun h => decide_eq_true h) fun _ t hwhen => ?_,
    fun ids => hstart (c := .calSensor req dw v) rfl (fun h => decide_eq_true h) fun _ t hwhen => ?_,
    hstart (c := .calRestore req dw v) rfl (fun h => decide_eq_true h) fun _ _ hother => if_pos hother,
    fun ids => hstart (c := .calRestore req dw v) rfl (fun h => decide_eq_true h) fun _ t hwhen => ?_, ?_, fun hruns htarget hport => ?_,
    ?_, fun hmode => ?_, fun hruns htarget hunit hmode => ?_, fun u hu hruns hended hstaged => ?_,
    Gives.of_runs _ (exec_calRecordWrite s) rfl⟩
  · obtain ⟨hids, hsettled⟩ := hwhen
    simp only [hids]
    exact if_neg (Nat.not_lt.mpr hsettled)
  · simp only [hwhen]
  · obtain ⟨hids, hsettled⟩ := hwhen
    simp only [hids]
    exact if_pos hsettled
  · obtain ⟨hrestore, hids, hup, hne⟩ := hwhen
    exact (if_neg (not_not_intro hrestore)).trans (Block.calEngineCommand_begins hids hup hne (by simp) _)
  · refine WriteGives.of_command (c := .calConv req dw v) rfl fun t _ _ _ _ hwhen => ?_
    obtain ⟨hgo, htarget, hbusy⟩ := hwhen
    refine (if_neg ?_).trans (if_pos hbusy)
    simp only [group] at htarget
    simp [hgo, htarget]
  · refine Gives.of_runs _ (exec_calSerdesTimeout s) (if_neg ?_)
    simp [hruns, htarget, Option.isSome_iff_ne_none.mp hport]
  · intro mine band counted x k hruns htarget hstate hlv hmine
    have hmeaning := exec_calibrationFrame r c s
    have hgo : ¬((!s.calRuns) = true ∨ (s.fld CAL_STAT.TARGET ≠ 1 ∧ s.fld CAL_STAT.TARGET ≠ 2) ∨ s.ridgeState r > 1 ∨
        s.lvActive = true ∨ (!s.cal.units.any mine) = true) := by
      rw [hruns, hlv, hmine]
      simp only [Bool.not_true, Bool.false_eq_true, false_or, or_false]
      omega
    refine ⟨fun hhalted => ?_, fun h0 h4 howed hecho hprobe hframe => ?_⟩
    · have hhalted' : decide (s.fld (CORE_STAT.STATE r c) = 0 ∨ s.fld (CORE_STAT.STATE r c) = 4) = true := decide_eq_true hhalted
      refine Gives.of_runs _ hmeaning ((if_neg hgo).trans ((if_neg ?_).trans ?_))
      · rw [hhalted']; simp
      · simp only [hhalted', if_true, counted, band, mine, b]
    · have hruns' : decide (s.fld (CORE_STAT.STATE r c) = 0 ∨ s.fld (CORE_STAT.STATE r c) = 4) = false :=
        decide_eq_false (not_or.mpr ⟨h0, h4⟩)
      refine Gives.of_runs _ hmeaning ((if_neg hgo).trans ((if_neg ?_).trans ?_))
      · rintro ⟨-, hcheck | hstall⟩
        · simp only [Bool.or_eq_true, decide_eq_true_eq] at hcheck
          obtain (⟨hperiod, hdue⟩ | hdue) | hdue := hcheck
          · exact hecho.elim hperiod (fun h => h hdue)
          · exact hprobe hdue
          · exact Bool.false_ne_true (howed.symm.trans hdue)
        · rw [show frameRuns _ _ = true from hframe] at hstall
          exact Bool.false_ne_true hstall
      · simp only [hruns', Bool.false_eq_true, if_false, counted, band, mine, b, x]
  · exact Gives.of_runs _ (exec_lookoutTestWindow n false s) ((if_neg (by simp)).trans (if_pos hmode))
  · refine Gives.of_runs _ (exec_lookoutTestWindow n true s) ((if_pos rfl).trans (if_pos ?_))
    simp only [hruns, htarget, hunit, hmode]
    rfl
  · have hgo : ¬((!s.calRuns) = true ∨ u.ended = true ∨ u.staged.isSome = true) := by simp [hruns, hended, hstaged]
    have hmeaning (m : CalMeas) := exec_calUnitDone i m s
    refine ⟨fun htarget hframes hlen => ?_, fun htarget hframes hlen => ?_, fun htarget hlen hok => ?_, fun htarget hlen hok => ?_,
      fun htarget => ?_, fun htarget hport => ?_, fun htarget => ?_⟩
    · intro x
      refine Gives.of_runs _ (hmeaning _) ((if_neg (by simp [hlen])).trans ?_)
      simp only [hu, if_neg hgo, htarget, x]
      exact if_neg (Nat.not_lt.mpr hframes)
    · intro x
      refine Gives.of_runs _ (hmeaning _) ((if_neg (by simp [hlen])).trans ?_)
      simp only [hu, if_neg hgo, htarget, x]
      exact if_neg (Nat.not_lt.mpr hframes)
    · refine Gives.of_runs _ (hmeaning _) ((if_neg (by simp [hlen])).trans ?_)
      simp only [hu, if_neg hgo, htarget, hok, if_true, b]
    · refine Gives.of_runs _ (hmeaning _) ((if_neg (by simp [hlen])).trans ?_)
      simp only [hu, if_neg hgo, htarget, hok, Bool.false_eq_true, if_false, b]
    · intro span ok
      refine Gives.of_runs _ (hmeaning _) ((if_neg (by simp)).trans ?_)
      simp only [hu, if_neg hgo, htarget, ok, span, b]
    · refine Gives.of_runs _ (hmeaning _) ((if_neg (by simp)).trans ?_)
      simp only [hu, if_neg hgo, htarget]
      exact if_neg (not_not_intro hport)
    · intro offset ok
      refine Gives.of_runs _ (hmeaning _) ((if_neg (by simp)).trans ?_)
      simp only [hu, if_neg hgo, htarget, ok, offset, b]

end Sys2Proof.Machine
end

section
/-! PROOF. The cairn, and the start of the die. -/
namespace Sys2Proof.Machine

/-! ## The cairn -/

/-- Settles O56: each command by the branch that its hypotheses name. -/
theorem cairnTakesEffect : Obligations.CairnTakesEffect := by
  unfold Obligations.CairnTakesEffect
  intro req dw v s b writes
  refine ⟨fun hoff => ?_, ?_, WriteGives.of_command (c := .cairnTimeSet req dw v) rfl fun _ _ _ _ _ _ => rfl,
    fun hperiod hoff => ⟨fun hidle hfreeze => ?_, fun hbusy => ?_⟩, Gives.of_runs _ (exec_faultFlushSpacing s) rfl,
    fun hflush => ⟨?_, ?_⟩, WriteGives.of_command (c := .cairnFreeze req dw v) rfl fun _ _ _ _ _ _ => rfl,
    WriteGives.of_command (c := .cairnClear req dw v) rfl fun _ _ _ _ _ hclear => if_pos hclear,
    WriteGives.of_command (c := .cairnFlushRequest req dw v) rfl fun _ _ _ _ _ hflush => if_pos hflush, fun hfreeze => ?_,
    WriteGives.of_command (c := .cairnReadAddr req dw v) rfl fun _ _ _ _ _ _ => rfl, fun a l denied haddr hread => ?_⟩
  · exact Gives.of_runs _ (exec_cairnSecond s) (if_neg (by simp [hoff]))
  · intro body t
    exact Gives.of_runs _ (exec_railHour s) (apply_ite Host.Outcome.next _ _ _).symm
  · exact Gives.of_runs _ (exec_cairnPeriodicFlush s)
      ((if_neg (by simp [hperiod, hoff])).trans (if_neg (by simp [hidle, hfreeze])))
  · exact Gives.of_runs _ (exec_cairnPeriodicFlush s) ((if_neg (by simp [hperiod, hoff])).trans (if_pos hbusy))
  · refine Gives.of_runs _ (exec_cairnFlushDone false s) ((if_neg ?_).trans (congrArg Host.Outcome.next (if_neg Bool.false_ne_true)))
    simp [Option.isSome_iff_ne_none.mp hflush]
  · refine Gives.of_runs _ (exec_cairnFlushDone true s) ((if_neg ?_).trans (congrArg Host.Outcome.next (if_pos rfl)))
    simp [Option.isSome_iff_ne_none.mp hflush]
  · exact Gives.of_runs _ (exec_freezeTimeout s) (if_neg (by simp [hfreeze]))
  · exact Gives.of_runs _ (exec_cairnReadReady s) (by simp only [haddr, hread, b])

/-! ## The start -/

/-- Settles O57: each step of the start by its conditions. -/
theorem startTakesEffect : Obligations.StartTakesEffect := by
  unfold Obligations.StartTakesEffect
  intro rail vin fru pmod hbm trained moved failures r c e cut s b
  refine ⟨fun hoff => Gives.of_runs _ (exec_vddBaseRise s) (if_pos hoff), fun hon hstep => ?_, fun h4 h5 hon => ?_, fun hstep hrails => ?_,
    fun hstep hstate => ?_, fun hsettling hbands => ?_, fun hsettling hbands => ?_, fun hstep hactive => ?_, fun hstep hserving hactive => ?_,
    fun hup => ?_, ?_, fun h0 h1 h2 => ?_, fun hon => ?_, Gives.of_runs _ (exec_crystalRestart s) rfl⟩
  · exact Gives.of_runs _ (exec_vddBaseRise s) ((if_neg (by simp [hon])).trans (if_pos hstep))
  · have hmeaning := exec_railPowerGood rail vin s
    have hgo : ¬(rail.val = 4 ∨ rail.val = 5 ∨ s.pow.off = true) := by simp [h4, h5, hon]
    refine ⟨fun hoff => Gives.of_runs _ hmeaning ((if_neg hgo).trans (if_pos (by simp [hoff]))), fun rest hen hrails => ?_⟩
    intro t
    have hup : ¬((!s.bit (PM_RAIL_STAT.EN rail)) = true) := by simp [hen]
    refine ⟨fun hlast => ?_, fun next more hnext h3 hvin => ?_, fun next more hnext hok => ?_⟩
    · refine Gives.of_runs _ hmeaning ((if_neg hgo).trans ((if_neg hup).trans ?_))
      simp only [hrails, hlast, t, b]
      exact if_neg (not_not_intro rfl)
    · refine Gives.of_runs _ hmeaning ((if_neg hgo).trans ((if_neg hup).trans ?_))
      simp only [hrails, hnext, t, b]
      exact (if_neg (not_not_intro rfl)).trans (congrArg Host.Outcome.next (if_pos ⟨h3, hvin⟩))
    · refine Gives.of_runs _ hmeaning ((if_neg hgo).trans ((if_neg hup).trans ?_))
      simp only [hrails, hnext, t, b]
      exact (if_neg (not_not_intro rfl)).trans (congrArg Host.Outcome.next (if_neg (by omega)))
  · exact Gives.of_runs _ (exec_powerGoodTimeout s) (if_neg (by simp [hstep, hrails]))
  · intro t
    have hmeaning := exec_hbmTrainingDone fru pmod hbm trained s
    have hgo : ¬(s.fld BC_STAT.STEP ≠ 5 ∨ s.fld PM_DIE_STAT.STATE ≠ 3) := by simp [hstep, hstate]
    exact ⟨fun hbad => Gives.of_runs _ hmeaning ((if_neg hgo).trans (if_pos hbad)),
      fun hgood hbad => Gives.of_runs _ hmeaning ((if_neg hgo).trans ((if_neg (not_not_intro hgood)).trans (if_pos hbad))),
      fun hgood hall => Gives.of_runs _ hmeaning
        ((if_neg hgo).trans ((if_neg (not_not_intro hgood)).trans (if_neg (not_not_intro hall))))⟩
  · exact Gives.of_runs _ (exec_bandInit moved s) (if_neg (by simp [hsettling, hbands]))
  · intro t
    exact Gives.of_runs _ (exec_storeSettlementDone s) (if_neg (by simp [hsettling, hbands]))
  · exact Gives.of_runs _ (exec_probeSweepDone failures s) (if_neg (by simp [hstep, hactive]))
  · exact Gives.of_runs _ (exec_startDone s) (if_neg (by simp [hstep, hserving, hactive]))
  · exact Gives.of_runs _ (exec_paramCellProgram r c e cut s) (if_neg (by simp [hup]))
  · intro now hpg hen hne
    exact Gives.of_runs _ (exec_setpointStep s) (if_neg (by rw [hpg, hen]; simpa using hne))
  · exact Gives.of_runs _ (exec_fabrefLoss s) (if_pos (by simp [h0, h1, h2]))
  · exact Gives.of_runs _ (exec_crystalStop s) (if_neg (by simp [hon]))

end Sys2Proof.Machine
end

section
/-! PROOF. Resets and live updates. -/
namespace Sys2Proof.Machine

/-- A reset command with the key and its operation takes its effect (R740). -/
theorem WriteGives.of_resetCommand {c : Instr} {s : State} {req : Fin 18} {dw : BitVec 26} {v : Word} {op : Nat} {effect : Block → Block}
    (hi : Gives c s (s.resetCommand req dw.toNat v op effect)) :
    WriteGives c s req dw v .start [0x48] (fun _ _ _ _ => getBits v 8 8 = 0xC3 ∧ getBits v 0 3 = op) (fun t _ _ _ => effect t) :=
  WriteGives.of_command hi fun _ _ _ _ _ ⟨hkey, hop⟩ => if_neg (by simp [hkey, hop])

/-- A write of BLK_CTL with SOFT_RESET = 1 that reached its page runs the reset that the command names (R732). -/
theorem Block.softReset_of_reach {s t : Block} {req : Fin 18} {dw page : Nat} {v : Word} (f : Nat → Block → Block)
    (hreach : s.reach req dw true = (t, some (page, 0x08))) (hfn : 1 ≤ req.val ∧ req.val ≤ 16 → 4096 ≤ page)
    (hv : v.getLsbD 1 = true) : s.softReset req dw v f = f page t :=
  (Block.ctlWrite_of_reach hreach (fun ⟨h1, h2, h⟩ => absurd (hfn ⟨h1, h2⟩) (Nat.not_le.mpr h)) _).trans (if_pos hv)

/-- Settles O58: each command by the branch that its hypotheses name. -/
theorem resetsAndUpdatesTakeEffect : Obligations.ResetsAndUpdatesTakeEffect := by
  unfold Obligations.ResetsAndUpdatesTakeEffect
  intro req dw v img flashOk r s b resets updates
  refine ⟨WriteGives.of_resetCommand (c := .resetCold req dw v) rfl, WriteGives.of_resetCommand (c := .resetWarm req dw v) rfl,
    WriteGives.of_resetCommand (c := .resetRidge req dw v) rfl, fun hon hstate hdown => ⟨fun hscope => ?_, fun hscope => ?_⟩,
    fun hon hrecovery => ⟨fun hrails => ?_, fun hrails => ?_⟩, fun hen hvf => ?_, fun hup => ?_,
    fun t page hreach hfn hv => ⟨fun hcore => ?_, fun hsoft => ?_⟩,
    WriteGives.of_command (c := .fwStage req dw v img flashOk) rfl fun _ _ _ _ _ ⟨hop, _⟩ => if_pos hop,
    WriteGives.of_command (c := .fwSwitch req dw v) rfl fun _ _ _ _ _ ⟨hop, hstaged⟩ => (if_pos hop).trans (if_neg (by simp [hstaged])),
    WriteGives.of_command (c := .fwSwitch req dw v) rfl fun _ _ _ _ _ ⟨hop, hstaged⟩ => (if_pos hop).trans (if_pos (by simp [hstaged])),
    WriteGives.of_command (c := .fwConfirm req dw v) rfl fun _ _ _ _ _ ⟨hop, htrial⟩ => (if_pos hop).trans (if_neg (by simp [htrial])),
    WriteGives.of_command (c := .fwConfirm req dw v) rfl fun _ _ _ _ _ ⟨hop, htrial⟩ => (if_pos hop).trans (if_pos (by simp [htrial])),
    WriteGives.of_command (c := .fwRevert req dw v) rfl fun _ _ _ _ _ ⟨hop, htrial⟩ => (if_pos hop).trans (if_neg (by simp [htrial])),
    WriteGives.of_command (c := .fwRevert req dw v) rfl fun _ _ _ _ _ ⟨hop, htrial⟩ => (if_pos hop).trans (if_pos (by simp [htrial])),
    fun htrial hbit hon => ?_,
    WriteGives.of_command (c := .ucLoad req dw v) rfl fun _ _ _ _ _ ⟨hop, _⟩ => if_pos hop,
    WriteGives.of_command (c := .serdesLoad req dw v) rfl fun _ _ _ _ _ ⟨hop, hport⟩ => (if_pos hop).trans (if_pos hport),
    WriteGives.of_command (c := .serdesLoad req dw v) rfl fun t _ _ _ _ ⟨hop, hport⟩ => ?_, fun hon hrecovery => ⟨?_, ?_⟩,
    fun t n hon hrecovery hstage => ⟨fun hbad => ?_, fun hok => ?_⟩⟩
  · exact Gives.of_runs _ (exec_perst s) ((if_neg (by simp [hon, hstate, hdown])).trans (if_pos (by simp [hscope])))
  · exact Gives.of_runs _ (exec_perst s) ((if_neg (by simp [hon, hstate, hdown])).trans (if_neg (by simp [hscope])))
  · exact Gives.of_runs _ (exec_watchdogExpiry s) ((if_neg (by simp [hon, hrecovery])).trans (if_pos (by simp [hrails])))
  · exact Gives.of_runs _ (exec_watchdogExpiry s) ((if_neg (by simp [hon, hrecovery])).trans (if_neg (by simpa using hrails)))
  · intro fn t t1 held
    exact Gives.of_runs _ (exec_flrVf r s) (if_neg (by simp [hen, Nat.not_le.mpr hvf]))
  · intro t
    exact Gives.of_runs _ (exec_flrPf s) (if_neg (by simp [hup]))
  · exact Gives.of_runs _ (exec_coreSoftReset req dw v s)
      (congrArg Host.Outcome.next ((Block.softReset_of_reach _ hreach hfn hv).trans (if_pos hcore)))
  · exact Gives.of_runs _ (exec_blockSoftReset req dw v s)
      (congrArg Host.Outcome.next ((Block.softReset_of_reach _ hreach hfn hv).trans (if_neg (by simp [hsoft]))))
  · exact Gives.of_runs _ (exec_trialTimeout s) (if_neg (by simp [htrial, hbit, hon]))
  · refine (if_pos hop).trans ((if_neg (Nat.not_lt.mpr hport)).trans ?_)
    exact (apply_ite (Block.updateEnd · 0) _ _ _).symm
  · exact Gives.of_runs _ (exec_pldmFwUpdate img flashOk s) ((if_neg (by simp [hon])).trans (if_neg (by simp [hrecovery])))
  · exact Gives.of_runs _ (exec_activateFirmware s) (if_neg (by simp [hon, hrecovery]))
  · refine Gives.of_runs _ (exec_pldmFwUpdate img flashOk s) ((if_neg (by simp [hon])).trans ((if_pos hrecovery).trans ?_))
    simp only [hstage]
    exact if_pos hbad
  · intro u
    refine Gives.of_runs _ (exec_pldmFwUpdate img flashOk s) ((if_neg (by simp [hon])).trans ((if_pos hrecovery).trans ?_))
    simp only [hstage]
    exact if_neg (not_not_intro hok)

end Sys2Proof.Machine
end

section
/-! PROOF. The host port and the management port. -/
namespace Sys2Proof.Machine

/-! ## The host port -/

/-- Settles O59: each request by the branch that its hypotheses name. -/
theorem hostPortTakesEffect : Obligations.HostPortTakesEffect := by
  unfold Obligations.HostPortTakesEffect
  intro req dw v fn offset len busy n words cws data enables access flit speed width session stream s b a
  refine ⟨fun hdecodes => ⟨?_, ?_⟩, fun hdecodes => ⟨?_, ?_⟩, fun hphys => ?_, fun off hview hup => ?_,
    fun hconf => ⟨fun hd0 => ?_, fun hd3 => ?_⟩, fun hdown => ?_, fun hup => ⟨fun hwait => ?_, fun hconf hnone => ?_,
    fun t l hconf hexists hcfg => ?_⟩, ?_, fun hopen => ?_, fun hclosed op => ?_⟩
  · exact Gives.of_runs _ (exec_apertureRead fn offset len busy n words cws s) (congrArg Host.Outcome.next (if_pos hdecodes))
  · exact Gives.of_runs _ (exec_apertureWrite fn offset data enables busy n words cws s) (congrArg Host.Outcome.next (if_pos hdecodes))
  · exact Gives.of_runs _ (exec_apertureRead fn offset len busy n words cws s) (congrArg Host.Outcome.next (if_neg (by simp [hdecodes])))
  · exact Gives.of_runs _ (exec_apertureWrite fn offset data enables busy n words cws s)
      (congrArg Host.Outcome.next (if_neg (by simp [hdecodes])))
  · refine WriteGives.of_command (f := fun _ _ _ t => t.storeWindow v) ?_ fun _ _ _ _ _ _ => rfl
    exact Gives.of_runs _ (exec_apertureCfgWrite req dw v s) (by simp only [hphys])
  · exact Gives.of_runs _ (exec_apertureCfgWrite req dw v s) (by simp only [hview]; exact congrArg Host.Outcome.next (if_pos hup))
  · exact Gives.of_runs _ (exec_d3hotEntry fn s) (if_pos (by rw [hconf, hd0]; decide))
  · exact Gives.of_runs _ (exec_d0Return fn s) (if_pos ⟨hconf, hd3⟩)
  · exact Gives.of_runs _ (exec_configRequest fn access s) (if_pos (by simp [hdown]))
  · exact Gives.of_runs _ (exec_configRequest fn access s) ((if_neg (by simp [hup])).trans (if_pos (by simp [hwait])))
  · exact Gives.of_runs _ (exec_configRequest fn access s)
      ((if_neg (by simp [hup])).trans ((if_neg (by simp [hconf])).trans (if_pos (by simp [hnone]))))
  · refine Gives.of_runs _ (exec_configRequest fn access s)
      ((if_neg (by simp [hup])).trans ((if_neg (by simp [hconf])).trans ((if_neg (by simp [hexists])).trans ?_)))
    simp only [hcfg]
  · intro changed
    refine ⟨fun hform h6 h7 => ?_, ?_⟩
    · refine Gives.of_runs _ (exec_linkChange true flit speed width s) ((if_neg (by simp [hform, h6, h7])).trans ?_)
      simp [changed, b]
    · refine Gives.of_runs _ (exec_linkChange false flit speed width s) ((if_neg (by simp)).trans ?_)
      simp [changed, b]
  · intro old gives
    have hmeaning (op : IdeOp) := exec_ideKm session stream op s
    have hgo : ¬((!s.tr.sessions.any (fun x => decide (x.id = session.toNat) && x.open')) = true) := by rw [hopen]; decide
    exact ⟨Gives.of_runs _ (hmeaning .keyProg) ((if_neg hgo).trans rfl), Gives.of_runs _ (hmeaning .setGo) ((if_neg hgo).trans rfl),
      Gives.of_runs _ (hmeaning .setStop) ((if_neg hgo).trans rfl)⟩
  · exact Gives.of_runs _ (exec_ideKm session stream op s) (if_pos (by rw [hclosed]; rfl))

/-! ## The management port -/

section Taken
variable {s t : Block} (htakes : s.mgmtTakes [] = some t)
include htakes

/-- A direct CCC that the port takes acts on what it takes (R756). -/
theorem Block.directCcc_takes (f : Block → Block) : s.directCcc f = f t := by simp only [Block.directCcc, htakes]

/-- A direct CCC to the dynamic address acts where one is assigned (R757). -/
theorem Block.dynamicCcc_takes (hvalid : s.bit MG_STAT.DYN_VALID = true) (f : Block → Block) : s.dynamicCcc f = f t :=
  (if_pos hvalid).trans (Block.directCcc_takes htakes f)

/-- A message that the port takes outside ROM recovery is acted on (R720). -/
theorem Block.message_takes (hrecovery : t.boot.recovery = false) (f : Block → Block) : s.message f = f t := by
  simp [Block.message, htakes, hrecovery]

end Taken

/-- Settles O60: each request by the branch that its hypotheses name. -/
theorem managementTakesEffect : Obligations.ManagementTakesEffect := by
  unfold Obligations.ManagementTakesEffect
  intro addr events action eid src flash tag som eom body session verdict s t b
  refine ⟨fun hruns => ⟨fun hfree => ?_, ?_, fun hev => ⟨?_, ?_⟩, ?_⟩,
    fun htakes => ⟨fun hfree => ?_, ?_, fun hvalid => ?_, fun hrecovery => ?_⟩, ?_⟩
  · exact Gives.of_runs _ (exec_entdaa addr s) (congrArg Host.Outcome.next (if_pos (by simp [hruns, hfree])))
  · exact Gives.of_runs _ (exec_rstdaa s) (congrArg Host.Outcome.next (if_pos hruns))
  · exact Gives.of_runs _ (exec_enec false events s) (by simp [Block.eitherCcc, hruns, hev])
  · exact Gives.of_runs _ (exec_disec false events s) (by simp [Block.eitherCcc, hruns, hev])
  · exact Gives.of_runs _ (exec_rstact false action s) (by simp [Block.eitherCcc, hruns])
  · exact Gives.of_runs _ (exec_setdasa addr s)
      (congrArg Host.Outcome.next ((Block.directCcc_takes htakes _).trans (if_neg (by simp [hfree]))))
  · exact Gives.of_runs _ (exec_cccUnsupported s) (congrArg Host.Outcome.next (Block.directCcc_takes htakes _))
  · have hgives {c : Instr} (f : Block → Block) (hc : exec c s = s.runs fun s => .next (s.dynamicCcc f)) : Gives c s (f t.toBlock) :=
      Gives.of_runs _ hc (congrArg Host.Outcome.next (Block.dynamicCcc_takes htakes hvalid f))
    refine ⟨hgives _ (exec_setnewda addr s), fun hev => ⟨?_, ?_⟩, hgives _ (exec_rstact true action s), hgives _ (exec_getpid s),
      hgives _ (exec_getbcr s), hgives _ (exec_getdcr s), hgives _ (exec_getstatus s), hgives _ (exec_getmwl s), hgives _ (exec_getmrl s)⟩
    · exact Gives.congr (hgives _ (exec_enec true events s)) (if_pos hev)
    · exact Gives.congr (hgives _ (exec_disec true events s)) (if_pos hev)
  · have hgives {c : Instr} (f : Block → Block) (hc : exec c s = s.runs fun s => .next (s.message f)) : Gives c s (f t.toBlock) :=
      Gives.of_runs _ hc (congrArg Host.Outcome.next (Block.message_takes htakes hrecovery f))
    exact ⟨hgives _ (exec_setEndpointId eid s), hgives _ (exec_pollForPlatformEventMessage s), hgives _ (exec_fsFetch s),
      hgives _ (exec_mgFsPop s), hgives _ (exec_cairnRead flash s), hgives _ (exec_identity s), hgives _ (exec_mgState s)⟩
  · intro htakes hlen mine others before
    have hmeaning := exec_mctpMessage src tag som eom body session verdict s
    simp only [b] at htakes
    have hgo (h : som = true ∨ t.mg.parts.any mine = true) :
        ¬(body.length > 64 ∨ ((!som) = true ∧ (!t.mg.parts.any mine) = true)) := by
      rintro (hlong | ⟨hcont, hnone⟩)
      · omega
      · rcases h with h | h
        · simp [h] at hcont
        · simp [h] at hnone
    refine ⟨fun hs he => ?_, fun hs he hroom => ?_, fun hs he hfull => ?_, fun hs hpart he => ?_, fun hs hpart he => ?_⟩
    · refine Gives.of_runs _ hmeaning ?_
      simp only [htakes]
      exact congrArg Host.Outcome.next ((if_neg (hgo (.inl hs))).trans (if_pos ⟨hs, he⟩))
    · refine Gives.of_runs _ hmeaning ?_
      simp only [htakes]
      exact congrArg Host.Outcome.next ((if_neg (hgo (.inl hs))).trans
        ((if_neg (by simp [he])).trans ((if_pos hs).trans (if_neg (Nat.not_le.mpr hroom)))))
    · refine Gives.of_runs _ hmeaning ?_
      simp only [htakes]
      exact congrArg Host.Outcome.next ((if_neg (hgo (.inl hs))).trans
        ((if_neg (by simp [he])).trans ((if_pos hs).trans (if_pos hfull))))
    · refine Gives.of_runs _ hmeaning ?_
      simp only [htakes]
      exact congrArg Host.Outcome.next ((if_neg (hgo (.inr hpart))).trans
        ((if_neg (by simp [hs])).trans ((if_neg (by simp [hs])).trans (if_pos he))))
    · refine Gives.of_runs _ hmeaning ?_
      simp only [htakes]
      exact congrArg Host.Outcome.next ((if_neg (hgo (.inr hpart))).trans
        ((if_neg (by simp [hs])).trans ((if_neg (by simp [hs])).trans (if_neg (by simp [he])))))

end Sys2Proof.Machine
end
